-- ==== Sys2Proof/Word.lean ====
section
/-! DEFINITION. The words of the machine and the plainest vocabulary over them: a page register is 32 bits, a memory byte 8 bits,
a register field a bit span at an offset of a page, and a register definition the access, reset value and admitted values of its
fields (R7, R54, R57, R73). -/

namespace Sys2Proof

/-- A page register, a core register, an entry word: 32 bits. -/
abbrev Word := BitVec 32

/-- One byte of the Strand memory map (R89). -/
abbrev Byte := BitVec 8

/-- A field of a page register: the byte offset of the register and the span [hi:lo] of its bits. -/
structure Fld where
  off : Nat
  hi : Nat
  lo : Nat
  deriving DecidableEq, Repr

/-- The access codes of R7. -/
inductive Acc where
  | rw | ro | wo | w1c | rw1s | rws
  deriving DecidableEq, Repr

/-- What a defined field admits: anything; codes up to a maximum (others are reserved, REASON 1); a range, with or without zero
beside it (others are out of range, REASON 3); or a core number, where 6 is reserved. -/
inductive Chk where
  | any
  | max (k : Nat)
  | rng (a b : Nat)
  | zrng (a b : Nat)
  | core
  deriving DecidableEq, Repr

/-- One defined field of a register table: span, access, reset value, admitted values. -/
structure FldDef where
  hi : Nat
  lo : Nat
  acc : Acc
  reset : Nat
  chk : Chk
  deriving DecidableEq, Repr

/-- One row of a register table: first offset, how many instances and their stride, whether it stays writable while LOCKED
is 1 (a selector or a staged register, R75), and its defined fields. -/
structure RegDef where
  off : Nat
  count : Nat
  stride : Nat
  free : Bool
  flds : List FldDef
  deriving DecidableEq, Repr

/-- Where a page write comes from (R68): a Strand core, Hitch routing, Fid, a Capstan Mark or the Splice link. -/
inductive Src where
  | core (k : Fin 6)
  | hitch
  | fid
  | mark
  | splice
  deriving DecidableEq, Repr

end Sys2Proof
end

