-- ==== Sys2Proof/Syntax.lean ====
section
/-! DEFINITION. The commands of the block: one constructor for each row of spec/opcode_table.json, with the operands the step
needs. The table gives its rows no operand bits, so the operands are the model's (notes/assumptions/1.md): the page, channel, port or
core the step acts on, the words a writer or a sender supplies, and what was measured where the step follows from a measurement. -/

namespace Sys2Proof

/-- A node's reply on a Messenger chain (R249): h, whether unsolicited, STATUS, OPEN and CLOSED of each position in 10 mV, and its CRC. -/
structure NodeReply where
  h : Nat
  unsol : Bool
  status : BitVec 8
  drops : List (BitVec 16 × BitVec 16)
  crc : BitVec 16
  deriving DecidableEq, Repr

/-- A node's reply to a discovery frame (R253): UID, INFO, STATUS, drops and CRC. -/
structure NodeFound where
  uid : BitVec 32
  info : BitVec 8
  status : BitVec 8
  drops : List (BitVec 16 × BitVec 16)
  crc : BitVec 16
  deriving DecidableEq, Repr


/-- A CAN frame as a controller receives it (R414): extended identifier, FD format, remote, identifier, length code, data. -/
structure CanFrame where
  ide : Bool
  fdf : Bool
  rtr : Bool
  id : Nat
  dlc : Nat
  data : List Byte
  deriving DecidableEq, Repr

/-- An Ethernet frame as a port receives it (R430, R431, R433): port in the order of ETH.PORTS, VLAN, PCP, whether it is a PTP frame,
length in bytes, source and destination address, and the PRP sequence number of its trailer. -/
structure EthFrame where
  port : Nat
  vid : Nat
  pcp : Nat
  ptp : Bool
  bytes : Nat
  src : Nat
  dst : Nat
  prpSeq : Option Nat
  deriving DecidableEq, Repr

/-- A Fid message as it arrives (R443): its frame, MAGIC, VER, DST_DEV, whether TAG is right, EPOCH and SEQ. -/
structure FidHead where
  eth : EthFrame
  magic : Nat
  ver : Nat
  dst : Nat
  tagOk : Bool
  epoch : Word
  seq : Word
  deriving DecidableEq, Repr

/-- A TRDP process-data frame as it arrives (R433, R434): its Ethernet frame, header check, ComID, topography counters, sequence counter
and dataset. -/
structure PdFrame where
  eth : EthFrame
  fcsOk : Bool
  comid : BitVec 32
  etb : BitVec 32
  optrn : BitVec 32
  seq : Nat
  data : List Byte
  deriving DecidableEq, Repr

/-- An item of a Fid message (R443). -/
inductive FItem where
  | read (unit off : Nat)
  | write (unit off : Nat) (value mask : Word)
  | cmd (unit : Nat) (word origin : Word)
  | subscribe (unit : Nat)
  deriving DecidableEq, Repr

/-- An item of a RESP (R443): status, unit and value. -/
structure FResp where
  status : Nat
  unit : Nat
  value : Word
  deriving DecidableEq, Repr

/-- What an EDGE frame changes (R458, R462): an APPLY with its new live words, a command, a Snub or a trip with its sources, a request
of a CAN object (kind 1) or telegram (kind 2) with its content and the source address or sequence counter it goes out with, or the retry of
a trip (R460). -/
inductive EdgeAct where
  | apply (words : List Word)
  | cmd (word : Word)
  | snub
  | trip (srcs : Word)
  | request (kind tag : Nat) (content : List Byte)
  | retry
  deriving DecidableEq, Repr

/-- An EDGE frame (R456, R458): unit or object, change, T_APPLY in ns of link time, and cause (0 write, 1 Snub, 2 trip, 3 request). -/
structure Edge where
  unit : Nat
  act : EdgeAct
  at_ : Nat
  cause : Nat
  deriving DecidableEq, Repr

/-- What INTENT says of a held unit (R456): enable flag, live RWS words, SAFE, STATE and LAST_SEQ. -/
structure IntentUnit where
  unit : Nat
  enabled : Bool
  words : List Word
  safe : Word
  state : Nat
  seq : Nat
  deriving DecidableEq, Repr

/-- Register files beside g (R393: MVTX, MVFX). -/
inductive RFile where
  | a | m | l | am
  deriving DecidableEq, Repr

/-- Special registers (R396). -/
inductive SReg where
  | rpt | dsp | status | trapInfo
  deriving DecidableEq, Repr

/-- Access sizes. -/
inductive Size where
  | byte | half | word
  deriving DecidableEq, Repr

/-- A message of the Reeve ring (R482): sender node, DEST, WAKE, CONFIRM, ROUNDS, and the CONSENT bits of the 48 nodes. -/
structure NmMsg where
  src : Nat
  dest : Nat
  wake : Bool
  confirm : Bool
  rounds : Nat
  consent : Nat
  deriving DecidableEq, Repr

/-- A checkpoint as CKPT frames carry it (R463): the registers of a core at a quiet boundary, its return stack as (address, status, kind),
the bytes that are not 0 of its local data memory, by offset, and of the shared range, by address, the pending vectors, and how many items
of the core's input log precede it. -/
structure CkptImg where
  g : List Word
  a : List Word
  mm : List Word
  l : List Word
  am : List Word
  acc : List (BitVec 72)
  p : BitVec 8
  rpt : Word
  dsp : Word
  status : Word
  trapInfo : Word
  pc : Nat
  frames : List (Nat × Word × Nat)
  data : List (Nat × Byte)
  shared : List (Nat × Byte)
  pend : Word
  logged : Nat
  deriving DecidableEq, Repr

/-- What the fuses hold (R530 step 2): order code (1 F, 2 L), hardware revision and factory variant, PROVISIONED, the words of the UID, and the channels whose
BOOT_ON is blown. -/
structure Fuses where
  order : Nat
  hwrev : Nat
  patch : Nat
  provisioned : Bool
  uid0 : BitVec 32
  uid1 : BitVec 32
  bootOn : List Nat
  lidOpen : Bool
  meshBad : Bool
  deriving DecidableEq, Repr

/-- What shows that two channels A and B are wired together (R143): A's on edge, with B's voltage before it, both voltages after it in 10 mV
and the time in µs; or B's off edge, with B's current and voltage after it, its current before, the rise of A's current in mA, and the
time. -/
inductive WireEdge where
  | on (before vA vB : Int) (us : Nat)
  | off (iB vB : Int) (before rise us : Nat)
  deriving DecidableEq, Repr

/-- A command of the block: a write or read of a register, an operation, or an event at a pin, a bus or a timer. -/
inductive Instr where
  /-- CMD_NOP (R63). CMD code 0 processes SEQ and takes no other action. `src` writes CMD of page `n` with SEQ `seq`. -/
  | cmdNop (src : Src) (n : Fin 32768) (seq : BitVec 16)
  /-- ENABLE (R69). CMD code 1 sets the unit's enable flag and takes an OFF unit to IDLE through class start-up. -/
  | enable (src : Src) (n : Fin 32768) (seq : BitVec 16)
  /-- DISABLE (R69). CMD code 2 clears the enable flag and takes an IDLE or ACTIVE unit to OFF through class turn-off. -/
  | disable (src : Src) (n : Fin 32768) (seq : BitVec 16)
  /-- APPLY (R71). CMD code 3 copies every shadow register of the unit to its live register at one page-clock edge. -/
  | apply (src : Src) (n : Fin 32768) (seq : BitVec 16)
  /-- CLEAR_FAULTS (R69). CMD code 4 clears FAULT_SET, FAULT_FIRST, REJECT and REJECT_INFO and leaves SAFE or FAULTED when the cause has ended. `persist` names the sources whose conditions outside the registers persist at the command (R62). -/
  | clearFaults (src : Src) (n : Fin 32768) (seq : BitVec 16) (persist : Word)
  /-- SELFTEST (R69). CMD code 5 sets BUSY and starts the unit's self-test, or is refused in ACTIVE, SAFE or FAULTED for the listed classes. -/
  | selftest (src : Src) (n : Fin 32768) (seq : BitVec 16)
  /-- FREEZE (R65). CMD code 6 holds every adaptive quantity of the unit and sets ADAPT_FROZEN. -/
  | freeze (src : Src) (n : Fin 32768) (seq : BitVec 16)
  /-- THAW (R65). CMD code 7 releases FREEZE and resumes adaptation from the held values unless the global freeze holds. -/
  | thaw (src : Src) (n : Fin 32768) (seq : BitVec 16)
  /-- HELD_COMMAND_EXECUTE (R67). A command held while BUSY was 1 executes when BUSY clears. -/
  | heldCommandExecute (n : Fin 32768)
  /-- TEST_COMPLETE (R69). A unit's self-test completes, HEALTH is set from the result, BUSY clears and the unit returns to its prior or flagged state. `fail` is the Locker test that failed (R501). -/
  | testComplete (n : Fin 32768) (pass : Bool) (fail : Fin 16)
  /-- REGISTER_WRITE (R73). A write to a register that has no behaviour of its own updates it or is refused under the order of R74. The register is the `r`-th word of page `n`, at offset 4 `r` (R54). -/
  | registerWrite (src : Src) (n : Fin 32768) (r : Fin 1024) (v : Word)
  /-- SHADOW_WRITE (R70). A write to an RWS field updates its shadow and sets SHADOW_DIRTY. -/
  | shadowWrite (src : Src) (n : Fin 32768) (r : Fin 1024) (v : Word)
  /-- FAULT_SET_CLEAR (R62). A W1C write to FAULT_SET clears the written source bits. `persist` as for CLEAR_FAULTS. -/
  | faultSetClear (src : Src) (n : Fin 32768) (v persist : Word)
  /-- FAULT_SOURCE_SET (R62). A class fault condition sets its FAULT_SET bit, may latch FAULT_FIRST and may take the unit to FAULTED. `holds` says whether the condition persists from now on. -/
  | faultSourceSet (n : Fin 32768) (b : Fin 32) (holds : Bool)
  /-- PARENT_WRITE (R79). A write to PARENT.INDEX moves the unit into or out of a Bight, or is refused for range or cycle. -/
  | parentWrite (src : Src) (n : Fin 32768) (v : Word)
  /-- LOCK_WRITE (R75). A write of 1 to LOCK.LOCKED locks the unit's configuration until reset. -/
  | lockWrite (src : Src) (n : Fin 32768) (v : Word)
  /-- STRAY_WRITE (R55). A write to a reserved page has no effect and is recorded in DEV.STRAY. -/
  | strayWrite (src : Src) (n : Fin 32768) (r : Fin 1024) (v : Word)
  /-- NARROW_ACCESS (R58). A narrow or unaligned access to a unit page has no effect and raises a bus error on a Strand core. Core `c` accesses byte offset `off` of page `n` other than by an aligned word. -/
  | narrowAccess (c : Fin 6) (n : Fin 32768) (off : Fin 4096)
  /-- BIGHT_WINDOW_WRITE (R84). A write to a Bight's class window is fanned out to every leaf or refused when leaves differ in class. Bight `b` has page 0x2000 + `b`. -/
  | bightWindowWrite (src : Src) (b : Fin 8192) (r : Fin 1024) (v : Word)
  /-- MARK_FIRE (R110). A base reaches an armed Mark's position and the Mark's action starts, re-arming a periodic Mark. Base `k` reaches the position of its next Mark. -/
  | markFire (k : Fin 8)
  /-- MARK_READ (R112). MARK_OP 1 copies entry MARK_SEL into the staging registers. -/
  | markRead (src : Src) (k : Fin 8)
  /-- MARK_ARM (R107). MARK_OP 2 arms the staged Mark, handling a late position under R108 or refusing it. -/
  | markArm (src : Src) (k : Fin 8)
  /-- MARK_DISARM (R107). MARK_OP 3 disarms the entry with status CANCELLED, or is refused from another base's window. -/
  | markDisarm (src : Src) (k : Fin 8)
  /-- BASE_CAP_WRITE (R107). A write that changes a unit's BASE.CAP disarms every Mark targeting it with status CANCELLED. -/
  | baseCapWrite (src : Src) (n : Fin 32768) (v : Word)
  /-- ADVANCE (R104). A write to ADVANCE moves a FREE base continuously, firing crossed Marks in order. -/
  | advance (src : Src) (k : Fin 8) (v : Word)
  /-- SETPOS (R102). A write to SETPOS sets the position of a FREE or TICK base as a jump. -/
  | setpos (src : Src) (k : Fin 8) (v : Word)
  /-- AXLE_EDGE (R94). A quadrature edge moves an AXLE base by one count or counts a quadrature error. `fwd` is the direction, `both` says that both tracks changed, and `ns` is the time since the last edge. -/
  | axleEdge (k : Fin 8) (fwd both : Bool) (ns : Nat)
  /-- STANDSTILL (R99). No AXLE edge for STILL ms sets STANDSTILL and zeroes RATE and SPEED. `ms` without an edge. -/
  | standstill (k : Fin 8) (ms : Nat)
  /-- FRAME_PULSE (R94). A CSYNC frame pulse starts a turn of a LINE base and may set LOCKED. `ns` since the pulse before. -/
  | framePulse (k : Fin 8) (ns : Nat)
  /-- MAINS_ZERO_CROSSING (R94). A positive-going zero crossing of the sensed voltage advances the MAINS loop towards lock. `ns` since the crossing before, amplitude `amp` × 10 mV rms, and whether the loop has locked. -/
  | mainsZeroCrossing (k : Fin 8) (ns amp : Nat) (locked : Bool)
  /-- LOS (R97). Loss of a base's signal holds, coasts or falls back according to CFG.LOS. The signal has been absent for `t`: ms of a bad generator supply on AXLE, half-cycles on MAINS, ns on CSYNC. -/
  | los (k : Fin 8) (t : Nat)
  /-- HOLDOVER_EXPIRY (R97). After HOLDOVER turns of coasting without signal the base reacts as under HOLD. `turns` of coasting. -/
  | holdoverExpiry (k : Fin 8) (turns : Nat)
  /-- RELOCK (R98). A returning signal relocks the base, slewing small differences or jumping large ones. The signal's fraction of a turn. -/
  | relock (k : Fin 8) (phase : Fin 65536)
  /-- POW_GO (R117). A GO write schedules a point-on-wave close by arming the slot's Mark. -/
  | powGo (src : Src) (k : Fin 8) (slot : Fin 8) (v : Word)
  /-- POW_CLOSE_DETECT (R118). Contact closing is detected, LAST_ERR is computed and DELAY is learned. Closing `us` after the firing. -/
  | powCloseDetect (k : Fin 8) (slot : Fin 8) (us : Nat)
  /-- POW_TIMEOUT (R118). No closing within MAX + 20 ms sets PHASE TIMEOUT and the POW source. `us` since the firing. -/
  | powTimeout (k : Fin 8) (slot : Fin 8) (us : Nat)
  /-- START_SUCCESS (R130). The output reaches rail minus 1.5 V and the start phase ends with the channel fully on. Output voltage in 10 mV. -/
  | startSuccess (c : Fin 128) (vOut : Int)
  /-- START_TIMEOUT (R130). TSTART elapses in the start phase; the channel turns off with START_FAIL as a trip. `ms` in the start phase. -/
  | startTimeout (c : Fin 128) (ms : Nat)
  /-- START_ENERGY_CAP (R130). The start-phase energy reaches the class start energy; the channel turns off as a trip. Energy of the phase, mJ. -/
  | startEnergyCap (c : Fin 128) (mj : Nat)
  /-- INRUSH_END (R131). The TINRUSH window ends and the over-current threshold returns to ILIM. `ms` since full on. -/
  | inrushEnd (c : Fin 128) (ms : Nat)
  /-- SHORT_CIRCUIT (R132). Instantaneous current above twice the class rating turns the channel off with SHORT. Page `n`, instantaneous current in mA. -/
  | shortCircuit (n : Fin 32768) (ma : Int)
  /-- OVERCURRENT (R132). The over-current average stays above the threshold for TRIP time and the channel turns off. Averages of the channel and of its group in mA, above their thresholds for `t` × 0.1 ms. -/
  | overcurrent (c : Fin 128) (avg sum : Int) (t : Nat)
  /-- THERMAL (R133). Junction estimate reaches 170 °C and the channel turns off. Page `n`, junction estimate in 0.1 °C. -/
  | thermal (n : Fin 32768) (tj : Int)
  /-- TJ_WARN (R133). Junction estimate passes TJ_WARN and sets the warning with hysteresis. Page `n`, junction estimate in 0.1 °C. -/
  | tjWarn (n : Fin 32768) (tj : Int)
  /-- RETRY (R134). The retry wait expires and the channel turns on again. `ms` since the trip, junction estimate in 0.1 °C. -/
  | retry (c : Fin 128) (ms : Nat) (tj : Int)
  /-- RETRY_SERIES_RESET (R134). After 10 s of demand without a trip RETRIES returns to 0. `ms` of demand without a trip. -/
  | retrySeriesReset (c : Fin 128) (ms : Nat)
  /-- CLAMP (R135). An inductive turn-off clamp event is measured and sets CLAMP when above the class energy. Page `n`, clamp energy in mJ. -/
  | clamp (n : Fin 32768) (mj : Nat)
  /-- SWITCH_OPEN (R137). Gate on with output below rail − 3 V for 1 ms sets SWITCH_OPEN. Current in mA and output voltage in 10 mV, held for `us`. -/
  | switchOpen (c : Fin 128) (cur vOut : Int) (us : Nat)
  /-- SWITCH_STUCK (R137). Gate off with current above 50 mA for 1 ms sets SWITCH_STUCK. -/
  | switchStuck (c : Fin 128) (cur : Int) (us : Nat)
  /-- OPEN_ON (R138). On-time current below OPEN_ON for 100 ms sets OPEN_ON. -/
  | openOn (c : Fin 128) (cur : Int) (ms : Nat)
  /-- OFFDIAG_PULSE (R139). An off channel injects its 2 ms test current every OFFDIAG_T ms and sets OPEN_OFF on a high reading. Output voltage at the end of the pulse, 10 mV. -/
  | offdiagPulse (c : Fin 128) (vOut : Int)
  /-- BF_ARM (R140). The BACKFEED check arms once the output is below 2 V or BF_BLANK has elapsed. `ms` since the off edge. -/
  | bfArm (c : Fin 128) (vOut : Int) (ms : Nat)
  /-- BACKFEED (R140). Outside voltage on an off or on channel beyond its limit sets BACKFEED and keeps the channel off. `vOut` held for `us`; in a test pulse; the partner leg known to be off. -/
  | backfeed (c : Fin 128) (vOut : Int) (us : Nat) (pulse partnerOff : Bool)
  /-- PARALLEL_UNDECLARED (R143). Two channels found wired together without a declared group apply their safe states. Channels A and B, and the edge that shows it. -/
  | parallelUndeclared (c d : Fin 128) (e : WireEdge)
  /-- SHARE (R145). A group member deviating from the mean beyond IMB for 1 s sets SHARE in every member. Current of the member and sum of its group, mA, for `ms`. -/
  | share (c : Fin 128) (cur sum ms : Nat)
  /-- SYNC_LOST (R129). Synchronised PWM without a locked base free-runs and sets SYNC_LOST. -/
  | syncLost (n : Fin 32768)
  /-- PWM_PERIOD_START (R128). A new PWM period starts and takes up pending DUTY, PERIOD, DIV or PHASE. -/
  | pwmPeriodStart (n : Fin 32768)
  /-- IDEAL_DIODE_OFF (R17). Reverse current in a feed's ideal diode turns it off within 2 µs. Bank `k`, feed B where `b`, feed current in 10 mA. -/
  | idealDiodeOff (k : Fin 4) (b : Bool) (cur : Int)
  /-- A_LOST (R153). A declared feed below LOSS_V for LOSS_T sets its lost source. Bank `k`, feed B where `b`, voltage in 10 mV for `ms`. -/
  | aLost (k : Fin 4) (b : Bool) (v ms : Nat)
  /-- RAIL_LOST (R153). The bank rail below LOSS_V for LOSS_T sets RAIL_LOST. Rail voltage in 10 mV for `ms`. -/
  | railLost (k : Fin 4) (v ms : Nat)
  /-- SAG (R153). The bank rail below SAG_V for SAG_T sets SAG. Rail voltage in 10 mV for `ms`. -/
  | sag (k : Fin 4) (v ms : Nat)
  /-- OVERVOLT (R153). A feed above OV_V for OV_T sets OVERVOLT. -/
  | overvolt (k : Fin 4) (b : Bool) (v ms : Nat)
  /-- BANK_OC (R153). The 1 s mean bank current above LIM sets BANK_OC. 1 s mean of the bank current in 100 mA, and its last 1 ms mean in 10 mA. -/
  | bankOc (k : Fin 4) (mean now : Int)
  /-- BANK_TRIP (R154). Bank current above 150 A for 10 ms trips every OUT, bridge, port and valve unit of the bank. Bank current, 1 ms mean, in 10 mA, for `ms`. -/
  | bankTrip (k : Fin 4) (cur : Int) (ms : Nat)
  /-- BP_WARN (R153). Baseplate above BP_WARN sets the warning source. Baseplate in 0.1 °C. -/
  | bpWarn (k : Fin 4) (tb : Int)
  /-- BP_TRIP (R154). Baseplate at or above 100 °C for 1 s trips the bank. Baseplate in 0.1 °C for `ms`. -/
  | bpTrip (k : Fin 4) (tb : Int) (ms : Nat)
  /-- DIODE (R153). A feed above the rail while its ideal diode reads off for 10 ms sets DIODE. -/
  | diode (k : Fin 4) (b : Bool) (v ms : Nat)
  /-- UNUSED_LIVE (R153). A feed declared unused reading above 5 V sets UNUSED_LIVE. -/
  | unusedLive (k : Fin 4) (b : Bool) (v : Nat)
  /-- BANK_CLASS_WRITE (R156). A CFG write changing a bank's CLASS is checked and loads the class default thresholds. -/
  | bankClassWrite (src : Src) (k : Fin 4) (v : Word)
  /-- OFFSET_RECALIBRATION (R159). Every 10 s while off the channel recalibrates its digitiser offset. -/
  | offsetRecalibration (c : Fin 128) (offset : Int)
  /-- DIGI_FAULT (R160). The 10 ms digitiser check fails twice and DIGI_FAULT turns the channel off. One 10 ms check: whether the modulator toggles, and its reference in 0.1 % of nominal. -/
  | digiFault (c : Fin 128) (toggles : Bool) (ref : Nat)
  /-- ARC_SCORE_UPDATE (R164). At the end of each valid window the firmware updates the series and parallel arc scores. Unblanked time of the window in µs, its Fray bands, its 10 samples in class LSB, and the 1 s mean in mA. -/
  | arcScoreUpdate (c : Fin 128) (us f0 f1 f2 f3 : Nat) (raw : List Int) (iSlow : Int)
  /-- ARC_BASELINE_UPDATE (R168). Once per second the firmware updates each Fray baseline under the stated conditions. -/
  | arcBaselineUpdate (c : Fin 128)
  /-- SNAP_GO (R170). A write of 1 to SNAP_CTL.GO starts a snapshot or is refused while the engine is busy. -/
  | snapGo (src : Src) (c : Fin 128)
  /-- SNAPSHOT_COMPLETE (R170). The last snapshot sample is written, DONE sets and the completion interrupt is raised. The samples of the record. -/
  | snapshotComplete (samples : List (BitVec 16))
  /-- LOAD_CLASSIFICATION (R172). After 200 ms from turn-on the firmware classifies the load and may set CLASS_MISMATCH. Final mean and 20 ms peak in mA, settling time in ms, Fray means. -/
  | loadClassification (c : Fin 128) (final peak20 settle b0 b1 b2 b3 : Nat)
  /-- PLUG (R174). A persistent current step records a plug or unplug event and resets REF. 50 ms mean and I_SLOW in mA; `ms` off REF. -/
  | plug (c : Fin 128) (mean iSlow : Int) (ms : Nat)
  /-- LEDGER_SAMPLE (R176). Every 10 ms the firmware samples TJ and counts rainflow cycles into the damage sum. Junction estimate in 0.1 °C. -/
  | ledgerSample (c : Fin 128) (tj : Int)
  /-- DERATING_RECOMPUTE (R179). The derating factor and ledger limit are recomputed every 3,600 s of t_op, at wake and at LEDGER_CFG writes. -/
  | deratingRecompute (c : Fin 128)
  /-- LEDGER_STORE (R181). Every 600 s of t_op the ledger and residue are written to MRAM. -/
  | ledgerStore (c : Fin 128)
  /-- RIPPLE (R190). A commutation ripple is detected and counted into POS, or rejected as too early. `ns` since the last accepted ripple, terminal voltage A−B in mV, motor current in mA. -/
  | ripple (b : Fin 8) (ns : Nat) (v cur : Int)
  /-- RIPPLE_INSERT (R191). No ripple within 1.6 τ while turning inserts one and raises UNCERT. `ns` since the last ripple. -/
  | rippleInsert (b : Fin 8) (ns : Nat)
  /-- POS_WRITE (R192). A write to POS while OFF or IDLE sets HOMED and clears UNCERT. -/
  | posWrite (src : Src) (b : Fin 8) (v : Word)
  /-- STOP_RECOGNITION (R193). No ripple for STALL_T with current at ILIM/2 classifies a homing, end, pinch or stall stop. `ms` without a ripple, motor current in mA. -/
  | stopRecognition (b : Fin 8) (ms : Nat) (cur : Int)
  /-- PINCH_CHECK (R195). At the end of each 1 ms closing window the excess current is checked against MARGIN. Mean motor current of the window, mA. -/
  | pinchCheck (b : Fin 8) (cur : Int)
  /-- REVERSE_DRIVE_START (R196). After DEAD_REV ms of braking the pinch reversal drives open. `ms` since the brake. -/
  | reverseDriveStart (b : Fin 8) (ms : Nat)
  /-- REVERSAL_END (R196). POS reaches PPOS + REV or the open end and the bridge brakes. `ms` without a ripple, motor current in mA. -/
  | reversalEnd (b : Fin 8) (ms : Nat) (cur : Int)
  /-- BRAKE_END (R193). After a 100 ms brake the bridge coasts and demand ends. `ms` of braking, terminal voltage A−B in mV, motor current in mA. -/
  | brakeEnd (b : Fin 8) (ms : Nat) (v cur : Int)
  /-- REVERSE_BRAKE_END (R187). The DEAD_REV brake before a direction change ends and the ramp starts in the new direction. -/
  | reverseBrakeEnd (b : Fin 8) (ms : Nat)
  /-- LIMITING (R188). Motor current reaching ILIM ends the PWM on-time for that period. Motor current in mA. -/
  | limiting (b : Fin 8) (cur : Int)
  /-- LIMIT_LONG (R188). Current held at ILIM for 2 s brakes for 100 ms then coasts. `ms` at the limit. -/
  | limitLong (b : Fin 8) (ms : Nat)
  /-- OPEN_LOAD (R189). Motor current below 50 mA for 100 ms at |DUTY| ≥ 25 % sets OPEN_LOAD. -/
  | openLoad (b : Fin 8) (cur : Int) (ms : Nat)
  /-- POSITION_TARGET_REACHED (R186). In POSITION mode the bridge brakes LEAD ripples before TARGET and demand ends. -/
  | positionTargetReached (b : Fin 8)
  /-- PARK_INPUT_EDGE (R198). A debounced edge of the park input sets the wiper's POS to 0. -/
  | parkInputEdge (b : Fin 8) (rising : Bool)
  /-- PARKED (R198). The wiper reaches its park position, brakes and sets PARKED. -/
  | parked (b : Fin 8)
  /-- PARK_FAIL (R198). No park position within twice a cycle sets PARK_FAIL and stops the wiper. `ns` since the park request. -/
  | parkFail (b : Fin 8) (ns : Nat)
  /-- INTERVAL_WAIT_END (R199). The INTERVAL pause T ends and the next wipe starts. `tenths` × 0.1 s since PARKED. -/
  | intervalWaitEnd (b : Fin 8) (tenths : Nat)
  /-- RUNG_TURN_START (R216). A Heave opens a rung turn; level, DIV, Ease step and row changes take effect. `ticks` of 62.5 ns since the turn before. -/
  | rungTurnStart (p : Fin 24) (ticks : Nat)
  /-- RUNG_EDGE (R217). A rung edge with its feed-forward step, compared against the expected step. `ns` since the turn start; the measured voltage step, 10 mV. -/
  | rungEdge (p : Fin 24) (ns step : Nat)
  /-- EASE_STEP (R220). Without rung dimming the level in force is re-evaluated every 1 ms of an Ease. -/
  | easeStep (p : Fin 24)
  /-- P_LIMIT (R207). The port's power or voltage limit acts and lowers its current. String voltage in 10 mV and current in 0.1 mA without a limit, and as the port lowers its current. -/
  | pLimit (p : Fin 24) (v cur vLow curLow : Nat)
  /-- OPEN_STRING (R208). VMAX with current below half setpoint for 2 ms turns the regulator off. String voltage in 10 mV and current in 0.1 mA, for `ms`. -/
  | openString (p : Fin 24) (v cur ms : Nat)
  /-- SHORT_STRING (R208). String voltage below V_EXP/4 for 1 ms turns the regulator off. String voltage in 10 mV and current in 0.1 mA, for `ms`. -/
  | shortString (p : Fin 24) (v cur ms : Nat)
  /-- REGULATOR_RESUME (R209). After a thermal turn-off the regulator resumes once TJ falls below 150 °C. Page `n`, junction estimate in 0.1 °C. -/
  | regulatorResume (n : Fin 32768) (tj : Int)
  /-- REG_FAULT (R230). Current more than 20 % from setpoint for 10 ms with no limit acting sets REG_FAULT. Page `n`, current in mA, off its setpoint for `ms`. -/
  | regFault (n : Fin 32768) (cur ms : Nat)
  /-- LED_CLAMP (R222). An LED failing open is clamped by its node's rung and the port regulates again. Rung `r`; the string's voltage in 10 mV and current in 0.1 mA after it. -/
  | ledClamp (p : Fin 24) (r : Fin 256) (v cur : Nat)
  /-- RUNG_RETEST (R223). RETEST_T s after a clamp the port reopens the rung once and records a permanent bypass if it clamps again. `sec` since the clamp; of a rung open in this turn, whether its node clamps it again. -/
  | rungRetest (p : Fin 24) (r : Fin 256) (sec : Nat) (again : Bool)
  /-- BYPASS_RELEASE (R225). A write of 1 to a BYPASS bit releases the permanent bypass at the next turn start. -/
  | bypassRelease (src : Src) (p : Fin 24) (ix : Fin 8) (v : Word)
  /-- DIV_CHOICE (R219). The firmware chooses a unit's DIV when RATE, SCALE, FMIN or FMAX has changed. -/
  | divChoice (n : Fin 32768)
  /-- DIM_LOST (R212). Loss of rung dimming below 10 % sets DIM_LOST and dims analogue. -/
  | dimLost (p : Fin 24)
  /-- SINK_OPEN (R234). A sink pin below 0.25 V for 1 ms of on-time sets OPEN. Pin voltage in 10 mV for `us` of on-time. -/
  | sinkOpen (k : Fin 16) (v us : Nat)
  /-- HIGH_V (R234). A sink pin above VHIGH for 10 ms of on-time sets HIGH_V. -/
  | highV (k : Fin 16) (v ms : Nat)
  /-- FOLDBACK (R232). Sink dissipation above 0.6 W reduces its current and sets FOLDBACK. -/
  | foldback (k : Fin 16) (v : Nat)
  /-- JB4410_IMAGE_WRITE (R237). A write to the JB4410 image updates the SINK shadows at once. JB4410 byte address `a`. -/
  | jb4410ImageWrite (src : Src) (a : Fin 48) (v : Word)
  /-- LATCH (R237). A write of 0x01 to LATCH applies SINKCOMPAT and all 16 sinks. -/
  | latch (src : Src) (v : Word)
  /-- MODE_WRITE (R237). A write to the JB4410 MODE register fans ENABLE or DISABLE out to all sinks. -/
  | modeWrite (src : Src) (v : Word)
  /-- MESSENGER_FRAME (R244). The MSG unit sends a frame of shares, trailer and END after an APPLY or refresh. -/
  | messengerFrame (c : Fin 4)
  /-- REFRESH (R259). REFRESH ms without a frame starts a new frame. `ms` without a frame. -/
  | refresh (c : Fin 4) (ms : Nat)
  /-- SYNC_HEAVE (R248). A frame with a share for a SYNC node and no armed Heave Mark is followed by a Heave 10 µs after END. -/
  | syncHeave (c : Fin 4)
  /-- ECHO (R256). The returned echo is checked for TAG, HOP and reply CRCs. TAG and HOP of the trailer, and the replies. -/
  | echo (c : Fin 4) (ofHeave : Bool) (tag hop : Nat) (replies : List NodeReply)
  /-- NO_ECHO (R256). The trailer not returning in time sets NO_ECHO. Whether the trailer has begun on contact 14 and the `ns` since it was sent; the `lowNs` that contact 14 has been low before END. -/
  | noEcho (c : Fin 4) (begun : Bool) (ns lowNs : Nat)
  /-- NODE_INSERTION (R251). A port regulated for 5 ms has its nodes added to the awake set by JOIN shares. `ms` of regulation. -/
  | nodeInsertion (p : Fin 24) (ms : Nat)
  /-- NODE_REMOVAL (R252). The MSG unit removes the nodes of a stopped port from the awake set. -/
  | nodeRemoval (p : Fin 24)
  /-- DISCOVER (R253). ENUM OP 1 resets the chain, enumerates nodes and compares UIDs with the stored map. -/
  | discover (src : Src) (c : Fin 4)
  /-- MAP (R254). ENUM OP 2 assigns nodes to RAT ports and numbers rungs. -/
  | mapChain (src : Src) (c : Fin 4)
  /-- ACCEPT (R255). ENUM OP 3 stores the new map, runs MAP and clears stale BYPASS bits. -/
  | accept (src : Src) (c : Fin 4)
  /-- LOCATE (R258). ENUM OP 4 finds the first unreachable node by binary search and sets BREAK_AT. -/
  | locate (src : Src) (c : Fin 4)
  /-- ENUM_COMPLETE (R259). A running ENUM operation completes and ENUM_BUSY clears. DISCOVER: the replies in order. MAP and ACCEPT: the nodes heard with each enabled port stopped in turn. LOCATE: the fall of the tested node's port voltage, 10 mV, test by test. -/
  | enumComplete (c : Fin 4) (nodes : List NodeFound) (heard : List (List Nat)) (falls : List Nat)
  /-- LINE_SHORT (R259). The chain driver in current limit for 1 ms stops the chain. `ms` in current limit. -/
  | lineShort (c : Fin 4) (ms : Nat)
  /-- POLL (R259). POLL_T ms elapse and a node is asked for a reply. Node `k`; `ms` since it was asked. -/
  | poll (c : Fin 4) (k : Fin 1024) (ms : Nat)
  /-- SATELLITE_SYNC_WRITE (R260). A write to a satellite's SYNC becomes a CFG item in the next frame. -/
  | satelliteSyncWrite (src : Src) (c : Fin 4) (k : Fin 1024) (v : Word)
  /-- PEAK_END (R265). A valve's PEAK ends at T_PEAK or after pull-in and the valve moves to HOLD, PROP or DECAY. `ms` since its start or since pull-in as R265 counts, and the energy of the PEAK. -/
  | peakEnd (v : Fin 8) (ms mj : Nat)
  /-- PULL_IN (R265). A current dip during PEAK is taken as pull-in and schedules the PEAK end. `tens` × 10 µs into PEAK; the running maximum of the coil current and the current, mA. -/
  | pullIn (v : Fin 8) (tens top cur : Nat)
  /-- VALVE_TURN_OFF (R268). A valve's low-side opens and the coil decays along the chosen path. -/
  | valveTurnOff (v : Fin 8)
  /-- DECAY_END (R267). Coil current below 10 mA ends DECAY and the valve goes OFF or restarts. Coil current in mA. -/
  | decayEnd (v : Fin 8) (cur : Nat)
  /-- RAIL_UP (R263). A valve below setpoint at full duty for 10 ms moves its switch to the boost rail. The regulator's duty in 0.1 %, the coil current in mA, and how long both have stood. -/
  | railUp (v : Fin 8) (duty cur ms : Nat)
  /-- RECOVERING (R270). V_C above V_SET + 2 V starts returning energy to the bank rail. V_C in 10 mV, the converter current in 10 mA, and the mJ returned since the last reading. -/
  | recovering (vc : Nat) (cur : Int) (mj : Nat)
  /-- BOOST_OV (R270). V_C above 65 V is clamped and sets BOOST_OV. V_C in 10 mV. -/
  | boostOv (vc : Nat)
  /-- BOOST_UV (R270). V_C below V_SET − 6 V for 10 ms during a PEAK sets BOOST_UV. -/
  | boostUv (vc ms : Nat)
  /-- BOOST_FAULT (R282). V_C not READY within 20 ms of ENABLE sets BOOST_FAULT. `ms` since ENABLE. -/
  | boostFault (vc ms : Nat)
  /-- COIL_RESISTANCE_UPDATE (R271). Every 100 ms a valve measures R_m and updates R_EST and T_COIL. The mean voltage, 10 mV, and current, mA, of the 100 ms that end. -/
  | coilResistanceUpdate (v : Fin 8) (vm : Int) (im : Nat)
  /-- OPEN_COIL (R272). Full duty with low current for 10 ms, or R_m above 4 × R_MAX for 1 s, sets OPEN_COIL. The duty in 0.1 % and the current, and how long both have stood; the mean voltage and current of the resistance measured, and how long it has stood. -/
  | openCoil (v : Fin 8) (duty cur ms vm im rmMs : Nat)
  /-- DUTY_BIN (R274). At each 10 ms bin boundary the duty windows advance and duty limits act or release. µs the two valves of switch `k` spent driving in the bin, and mJ of their PEAKs in it. -/
  | dutyBin (k : Fin 4) (a b ea eb : Nat)
  /-- VHS_STUCK (R281). A shared switch conducting while commanded off for 1 ms sets STUCK. `ms` conducting while off. -/
  | vhsStuck (k : Fin 4) (ms : Nat)
  /-- IN_WINDOW (R283). A 100 µs measuring window classifies the input into a band and advances debounce and chatter counting. Sink current in the units of I_MEAS, in limit where `lim`, pin voltage in the units of V_PIN. -/
  | inWindow (ix : Fin 96) (cur : Nat) (lim : Bool) (v : Nat)
  /-- LONG (R301). The logical state active for LONG_T ms posts a LONG event. -/
  | long (ix : Fin 96) (ms : Nat)
  /-- BAND_ERR (R286). INDET windows for 50 ms set BAND_ERR. -/
  | bandErr (ix : Fin 96) (ms : Nat)
  /-- BROKEN (R286). A BROKEN or SHORT band held for 20 ms sets the faulting source and applies FAIL_STATE. -/
  | broken (ix : Fin 96) (ms : Nat)
  /-- CLEANING_PULSE (R288). A due cleaning pulse sinks CLEAN_I for CT_NOW. `ms` since the train's first pulse. -/
  | cleaningPulse (ix : Fin 96) (ms : Nat)
  /-- TOUCH_SCAN (R294). A scan measures all touch channels in both modes and decides touch, release and water. D and G of the channels in ascending index. -/
  | touchScan (readings : List (BitVec 16 × BitVec 16))
  /-- STUCK (R297). A touch lasting STUCK_T s ends with a STUCK event. -/
  | stuck (tc : Fin 16) (sec : Nat)
  /-- WATER (R296). Water held for 10 s sets the WATER source. -/
  | water (tc : Fin 16) (sec : Nat)
  /-- SHIELD (R300). A shield drive in current limit for 10 ms stops touch decisions. -/
  | shield (tc : Fin 16) (ms : Nat)
  /-- SHED_TRIGGER_BEGIN (R311). A bank trigger begins and raises its shed stage to at least 1. -/
  | shedTriggerBegin (k : Fin 4)
  /-- SHED_STAGE_RAISE (R311). Every STEP_T while triggered the stage rises by one up to CEIL. `ms` since the last rise. -/
  | shedStageRaise (k : Fin 4) (ms : Nat)
  /-- SHED_STAGE_LOWER (R311). After RESTORE_T calm, and every STEP_T after, the stage falls by one. `ms` of calm, or since the last fall. -/
  | shedStageLower (k : Fin 4) (ms : Nat)
  /-- SHED_EN_WRITE (R311). A write of SHED_EN from 0 to 1 while triggered counts as the trigger's beginning. -/
  | shedEnWrite (src : Src) (v : Word)
  /-- CEIL_WRITE (R311). A write of CEIL below the present stage sets the stage to CEIL. -/
  | ceilWrite (src : Src) (k : Fin 4) (v : Word)
  /-- ALIVE (R315). A write to ALIVE_Sc with the next count restarts the core's Slack window, or is refused. Core S2 + `c`. -/
  | alive (src : Src) (c : Fin 4) (v : Word)
  /-- SLACK_EXPIRY (R317). A core's Slack window expires; SILENT sets and every unit naming the core enters SAFE. Core S2 + `c`, `ms` of its window. -/
  | slackExpiry (c : Fin 4) (ms : Nat)
  /-- AUTOMATIC_RESUMPTION (R318). A core alive for RESUME_T makes the firmware send CLEAR_FAULTS to eligible units. Core S2 + `c`, alive for `ms`. -/
  | automaticResumption (c : Fin 4) (ms : Nat)
  /-- POLICY_READ (R323). Policy OP 1 copies live entry SEL into the window. -/
  | policyRead (src : Src) (sel : BitVec 8)
  /-- POLICY_WRITE (R323). Policy OP 2 writes the window words into staged entry SEL. -/
  | policyWrite (src : Src) (sel : BitVec 8)
  /-- STORE (R324). Policy OP 3 stores the live table to MRAM with BUSY set. -/
  | store (src : Src)
  /-- STORE_COMPLETE (R324). A policy STORE completes and BUSY clears. -/
  | storeComplete
  /-- GFREEZE_WRITE (R322). A write to GFREEZE freezes or releases adaptation on every local page. -/
  | gfreezeWrite (src : Src) (v : Word)
  /-- BOUND_WRITE_CLAMP (R320). A bound field write that excludes the present quantity clamps it into the new bounds. -/
  | boundWriteClamp (src : Src) (n : Fin 32768) (r : Fin 1024) (v : Word)
  /-- LAY_ASSERT (R329). A source starts asserting at the collector and its reaction is applied. The sources, by page and bit, that start in one collector clock. -/
  | layAssert (l : List (Fin 32768 × Fin 32))
  /-- LAYBREAK (R327). A disagreeing pair for more than 2 collector clocks asserts its source and latches a break. The pair of the source disagrees for `clocks`, or agrees again. -/
  | laybreak (n : Fin 32768) (b : Fin 32) (clocks : Nat) (agree : Bool)
  /-- FAULTN_ERR (R336). FAULT_N pin level differing from its command for 1 ms sets FAULTN_ERR. The pin conducts or not, against its command for `ms`. -/
  | faultnErr (conducts : Bool) (ms : Nat)
  /-- SOFT_WRITE (R335). A write to LAY.SOFT forces or releases Snub groups from software. -/
  | softWrite (src : Src) (v : Word)
  /-- ENTRY_READ (R341). ENTRY_OP 1 copies reaction entry SEL into the window. -/
  | entryRead (src : Src)
  /-- ENTRY_WRITE (R331). ENTRY_OP 2 commits the window into reaction entry SEL with immediate effect. -/
  | entryWrite (src : Src)
  /-- HALT_N_INPUT (R30). The HALT_N comparator crosses a threshold and changes its reading. Pin voltage in mV. -/
  | haltNInput (mv : Nat)
  /-- HALT (R338). HALT_N low for HALT_FLT sets the HALT source. `us` of HALT_N low. -/
  | halt (us : Nat)
  /-- FAULT_ENTRY (R349). The firmware writes a FAULT Trouble-log entry for a reporting source. -/
  | faultEntry
  /-- TLOG_READ (R352). TLOG OP 1 copies entry SEL into RD0–RD7 or reports it overtaken. -/
  | tlogRead (src : Src)
  /-- APPEND (R354). TLOG OP 2 appends an application entry or is refused. -/
  | append (src : Src)
  /-- LOGLINE_RECORD_WRITE (R358). A queued record is written to MRAM with its SEQ and CRC. Whether the record reads back as written. -/
  | loglineRecordWrite (good : Bool)
  /-- TOP_STORE (R346). Every 10 s t_op is written to MRAM. -/
  | topStore
  /-- CLK_DEGRADED (R343). No crystal edge for 4 LF-RC cycles moves the Reckoner to the LF-RC. LF-RC cycles without a crystal edge. -/
  | clkDegraded (cycles : Nat)
  /-- CRYSTAL_RETURN (R343). After 1 s of steady crystal the Reckoner returns to it without a step. `ms` of steady crystal. -/
  | crystalReturn (ms : Nat)
  /-- RECKON_CALIBRATION (R343). Every second the Reckoner measures the LF-RC and updates CAL. The measured LF-RC calibration, in the units of CAL. -/
  | reckonCalibration (units : Word)
  /-- UTC_SET (R344). A write of SET sets UTC from SET_S and SET_NS as a step, or is refused. -/
  | utcSet (src : Src)
  /-- SRC_WRITE (R362). A write of RECKON.SRC from 1 to 0 while synchronised brings UTC to PTP time. -/
  | srcWrite (src : Src) (v : Word)
  /-- ISSUE_GROUP (R374). A core issues one issue group, or raises ILLEGAL before changing any state. What the error correction found in fetch and local data, as R385 counts it. -/
  | issueGroup (c : Fin 6) (ecc : Fin 4)
  /-- ADD (R393). X/Y ADD adds two registers, writing C and V in the F form. Core `c`, on Y where `y`, guard `pr`. -/
  | add (c : Fin 6) (y : Bool) (pr : Fin 8) (f : Bool) (rd rs1 rs2 : Fin 32)
  /-- SUB (R393). X/Y SUB subtracts two registers. -/
  | sub (c : Fin 6) (y : Bool) (pr : Fin 8) (f : Bool) (rd rs1 rs2 : Fin 32)
  /-- ADC (R393). X/Y ADC adds with carry. -/
  | adc (c : Fin 6) (y : Bool) (pr : Fin 8) (f : Bool) (rd rs1 rs2 : Fin 32)
  /-- SBC (R393). X/Y SBC subtracts with borrow. -/
  | sbc (c : Fin 6) (y : Bool) (pr : Fin 8) (f : Bool) (rd rs1 rs2 : Fin 32)
  /-- ADDS (R393). X/Y ADDS adds with signed saturation. -/
  | adds (c : Fin 6) (y : Bool) (pr : Fin 8) (rd rs1 rs2 : Fin 32)
  /-- SUBS (R393). X/Y SUBS subtracts with signed saturation. -/
  | subs (c : Fin 6) (y : Bool) (pr : Fin 8) (rd rs1 rs2 : Fin 32)
  /-- AND (R393). X/Y AND of two registers. -/
  | andOp (c : Fin 6) (y : Bool) (pr : Fin 8) (rd rs1 rs2 : Fin 32)
  /-- OR (R393). X/Y OR of two registers. -/
  | orOp (c : Fin 6) (y : Bool) (pr : Fin 8) (rd rs1 rs2 : Fin 32)
  /-- XOR (R393). X/Y XOR of two registers. -/
  | xorOp (c : Fin 6) (y : Bool) (pr : Fin 8) (rd rs1 rs2 : Fin 32)
  /-- ANDN (R393). X/Y rs1 AND NOT rs2. -/
  | andn (c : Fin 6) (y : Bool) (pr : Fin 8) (rd rs1 rs2 : Fin 32)
  /-- SHL (R393). X/Y shift left by register. -/
  | shl (c : Fin 6) (y : Bool) (pr : Fin 8) (rd rs1 rs2 : Fin 32)
  /-- SHR (R393). X/Y logical shift right by register. -/
  | shr (c : Fin 6) (y : Bool) (pr : Fin 8) (rd rs1 rs2 : Fin 32)
  /-- SAR (R393). X/Y arithmetic shift right by register. -/
  | sar (c : Fin 6) (y : Bool) (pr : Fin 8) (rd rs1 rs2 : Fin 32)
  /-- ROR (R393). X/Y rotate right by register. -/
  | ror (c : Fin 6) (y : Bool) (pr : Fin 8) (rd rs1 rs2 : Fin 32)
  /-- MIN (R393). X/Y signed minimum. -/
  | minOp (c : Fin 6) (y : Bool) (pr : Fin 8) (rd rs1 rs2 : Fin 32)
  /-- MAX (R393). X/Y signed maximum. -/
  | maxOp (c : Fin 6) (y : Bool) (pr : Fin 8) (rd rs1 rs2 : Fin 32)
  /-- MINU (R393). X/Y unsigned minimum. -/
  | minu (c : Fin 6) (y : Bool) (pr : Fin 8) (rd rs1 rs2 : Fin 32)
  /-- MAXU (R393). X/Y unsigned maximum. -/
  | maxu (c : Fin 6) (y : Bool) (pr : Fin 8) (rd rs1 rs2 : Fin 32)
  /-- CLZ (R393). X/Y count of leading zero bits, 32 for zero. -/
  | clz (c : Fin 6) (y : Bool) (pr : Fin 8) (rd rs1 : Fin 32)
  /-- PERM (R394). X/Y byte permute from rs1, old rd and constants. -/
  | perm (c : Fin 6) (y : Bool) (pr : Fin 8) (rd rs1 rs2 : Fin 32)
  /-- BFX (R395). X/Y zero-extended bit-field extract with register control word. -/
  | bfx (c : Fin 6) (y : Bool) (pr : Fin 8) (rd rs1 rs2 : Fin 32)
  /-- BFXS (R395). X/Y sign-extended bit-field extract. -/
  | bfxs (c : Fin 6) (y : Bool) (pr : Fin 8) (rd rs1 rs2 : Fin 32)
  /-- BFI (R395). X/Y bit-field insert into rd. -/
  | bfi (c : Fin 6) (y : Bool) (pr : Fin 8) (rd rs1 rs2 : Fin 32)
  /-- SEL (R393). X/Y select rs1 or rs2 by a predicate. -/
  | sel (c : Fin 6) (y : Bool) (pr : Fin 8) (p : Fin 8) (rd rs1 rs2 : Fin 32)
  /-- CMPEQ (R393). X/Y compare equal into a predicate. -/
  | cmpeq (c : Fin 6) (y : Bool) (pr : Fin 8) (pd : Fin 8) (rs1 rs2 : Fin 32)
  /-- CMPNE (R393). X/Y compare not equal into a predicate. -/
  | cmpne (c : Fin 6) (y : Bool) (pr : Fin 8) (pd : Fin 8) (rs1 rs2 : Fin 32)
  /-- CMPLT (R393). X/Y signed compare less than into a predicate. -/
  | cmplt (c : Fin 6) (y : Bool) (pr : Fin 8) (pd : Fin 8) (rs1 rs2 : Fin 32)
  /-- CMPLTU (R393). X/Y unsigned compare less than into a predicate. -/
  | cmpltu (c : Fin 6) (y : Bool) (pr : Fin 8) (pd : Fin 8) (rs1 rs2 : Fin 32)
  /-- CMPLE (R393). X/Y signed compare less or equal into a predicate. -/
  | cmple (c : Fin 6) (y : Bool) (pr : Fin 8) (pd : Fin 8) (rs1 rs2 : Fin 32)
  /-- CMPLEU (R393). X/Y unsigned compare less or equal into a predicate. -/
  | cmpleu (c : Fin 6) (y : Bool) (pr : Fin 8) (pd : Fin 8) (rs1 rs2 : Fin 32)
  /-- PLOG (R393). X/Y predicate logic by a 4-bit truth table. -/
  | plog (c : Fin 6) (y : Bool) (pr : Fin 8) (pd ps1 ps2 : Fin 8) (tbl : Fin 16)
  /-- MVTX (R397). X/Y move a g register to an a, m, l or am register. -/
  | mvtx (c : Fin 6) (y : Bool) (pr : Fin 8) (f : RFile) (idx : Fin 8) (rs1 : Fin 32)
  /-- MVFX (R397). X/Y move an a, m, l or am register to a g register. -/
  | mvfx (c : Fin 6) (y : Bool) (pr : Fin 8) (rd : Fin 32) (f : RFile) (idx : Fin 8)
  /-- MVTS (R396). X/Y move to rpt, dsp or status. -/
  | mvts (c : Fin 6) (y : Bool) (pr : Fin 8) (r : SReg) (rs1 : Fin 32)
  /-- MVFS (R396). X/Y move from a special register. -/
  | mvfs (c : Fin 6) (y : Bool) (pr : Fin 8) (rd : Fin 32) (r : SReg)
  /-- ADDI (R393). X/Y add a signed 9-bit immediate. -/
  | addi (c : Fin 6) (y : Bool) (pr : Fin 8) (rd rs1 : Fin 32) (imm : BitVec 9)
  /-- ANDI (R393). X/Y AND with a sign-extended immediate. -/
  | andi (c : Fin 6) (y : Bool) (pr : Fin 8) (rd rs1 : Fin 32) (imm : BitVec 9)
  /-- ORI (R393). X/Y OR with a sign-extended immediate. -/
  | ori (c : Fin 6) (y : Bool) (pr : Fin 8) (rd rs1 : Fin 32) (imm : BitVec 9)
  /-- XORI (R393). X/Y XOR with a sign-extended immediate. -/
  | xori (c : Fin 6) (y : Bool) (pr : Fin 8) (rd rs1 : Fin 32) (imm : BitVec 9)
  /-- SHLI (R393). X/Y shift left by immediate. -/
  | shli (c : Fin 6) (y : Bool) (pr : Fin 8) (rd rs1 : Fin 32) (sh : Fin 32)
  /-- SHRI (R393). X/Y logical shift right by immediate. -/
  | shri (c : Fin 6) (y : Bool) (pr : Fin 8) (rd rs1 : Fin 32) (sh : Fin 32)
  /-- SARI (R393). X/Y arithmetic shift right by immediate. -/
  | sari (c : Fin 6) (y : Bool) (pr : Fin 8) (rd rs1 : Fin 32) (sh : Fin 32)
  /-- BFXI (R393). X/Y bit-field extract with immediate position and width. -/
  | bfxi (c : Fin 6) (y : Bool) (pr : Fin 8) (rd rs1 : Fin 32) (pos : Fin 32) (width : Fin 16)
  /-- BFII (R393). X/Y bit-field insert with immediate position and width. -/
  | bfii (c : Fin 6) (y : Bool) (pr : Fin 8) (rd rs1 : Fin 32) (pos : Fin 32) (width : Fin 16)
  /-- CMPEQI (R393). X/Y compare equal with immediate into a predicate. -/
  | cmpeqi (c : Fin 6) (y : Bool) (pr : Fin 8) (pd : Fin 8) (rs1 : Fin 32) (imm : BitVec 9)
  /-- CMPLTI (R393). X/Y signed compare less than immediate. -/
  | cmplti (c : Fin 6) (y : Bool) (pr : Fin 8) (pd : Fin 8) (rs1 : Fin 32) (imm : BitVec 9)
  /-- CMPLTUI (R393). X/Y unsigned compare less than immediate. -/
  | cmpltui (c : Fin 6) (y : Bool) (pr : Fin 8) (pd : Fin 8) (rs1 : Fin 32) (imm : BitVec 9)
  /-- MOVI (R393). X/Y load a sign-extended 14-bit immediate. -/
  | movi (c : Fin 6) (y : Bool) (pr : Fin 8) (rd : Fin 32) (imm : BitVec 14)
  /-- MOVH (R393). X/Y shift rd left 14 and OR in a 14-bit immediate. -/
  | movh (c : Fin 6) (y : Bool) (pr : Fin 8) (rd : Fin 32) (imm : BitVec 14)
  /-- MUL (R398). M low 32 bits of a product. -/
  | mul (c : Fin 6) (pr : Fin 8) (rd rs1 rs2 : Fin 32)
  /-- MULH (R398). M high 32 bits of a signed product. -/
  | mulh (c : Fin 6) (pr : Fin 8) (rd rs1 rs2 : Fin 32)
  /-- MULHU (R398). M high 32 bits of an unsigned product. -/
  | mulhu (c : Fin 6) (pr : Fin 8) (rd rs1 rs2 : Fin 32)
  /-- MULQ (R398). M rounded saturating Q31 multiply. -/
  | mulq (c : Fin 6) (pr : Fin 8) (rd rs1 rs2 : Fin 32)
  /-- MAC (R398). M multiply-accumulate into an accumulator. -/
  | mac (c : Fin 6) (pr : Fin 8) (acc : Fin 2) (neg uns : Bool) (rs1 rs2 : Fin 32)
  /-- MACH (R398). M dual 16-bit multiply-accumulate. -/
  | mach (c : Fin 6) (pr : Fin 8) (acc : Fin 2) (neg cross : Bool) (rs1 rs2 : Fin 32)
  /-- MACZ (R398). M multiply into a cleared accumulator. -/
  | macz (c : Fin 6) (pr : Fin 8) (acc : Fin 2) (neg uns : Bool) (rs1 rs2 : Fin 32)
  /-- MACD (R399). M multiply-accumulate of two memory operands with address post-update. -/
  | macd (c : Fin 6) (pr : Fin 8) (acc : Fin 2) (neg word : Bool) (ix j : Fin 8)
  /-- MVFACC (R398). M read shifted, rounded or saturated bits of an accumulator. -/
  | mvfacc (c : Fin 6) (pr : Fin 8) (rd : Fin 32) (acc : Fin 2) (sh : Fin 41) (rnd sat : Bool)
  /-- MVTACC (R398). M load an accumulator from a shifted register. -/
  | mvtacc (c : Fin 6) (pr : Fin 8) (acc : Fin 2) (rs1 : Fin 32) (sh : Fin 41)
  /-- LDO_B (R400). L load byte at a_i + offset, sign-extended. -/
  | ldoB (c : Fin 6) (pr : Fin 8) (rd : Fin 32) (ix : Fin 8) (imm : BitVec 9)
  /-- LDO_BU (R400). L load byte at a_i + offset, zero-extended. -/
  | ldoBu (c : Fin 6) (pr : Fin 8) (rd : Fin 32) (ix : Fin 8) (imm : BitVec 9)
  /-- LDO_H (R400). L load halfword at a_i + offset, sign-extended. -/
  | ldoH (c : Fin 6) (pr : Fin 8) (rd : Fin 32) (ix : Fin 8) (imm : BitVec 9)
  /-- LDO_HU (R400). L load halfword at a_i + offset, zero-extended. -/
  | ldoHu (c : Fin 6) (pr : Fin 8) (rd : Fin 32) (ix : Fin 8) (imm : BitVec 9)
  /-- LDO_W (R400). L load word at a_i + offset. -/
  | ldoW (c : Fin 6) (pr : Fin 8) (rd : Fin 32) (ix : Fin 8) (imm : BitVec 9)
  /-- STO_B (R400). L store byte at a_i + offset. -/
  | stoB (c : Fin 6) (pr : Fin 8) (rd : Fin 32) (ix : Fin 8) (imm : BitVec 9)
  /-- STO_H (R400). L store halfword at a_i + offset. -/
  | stoH (c : Fin 6) (pr : Fin 8) (rd : Fin 32) (ix : Fin 8) (imm : BitVec 9)
  /-- STO_W (R400). L store word at a_i + offset. -/
  | stoW (c : Fin 6) (pr : Fin 8) (rd : Fin 32) (ix : Fin 8) (imm : BitVec 9)
  /-- LDP (R400). L load at a_i with post-update under the address mode. -/
  | ldp (c : Fin 6) (pr : Fin 8) (z : Size) (uns : Bool) (rd : Fin 32) (ix : Fin 8)
  /-- STP (R400). L store at a_i with post-update under the address mode. -/
  | stp (c : Fin 6) (pr : Fin 8) (z : Size) (rd : Fin 32) (ix : Fin 8)
  /-- LDX (R400). L load at a_i + register. -/
  | ldx (c : Fin 6) (pr : Fin 8) (z : Size) (uns : Bool) (rd : Fin 32) (ix : Fin 8) (rs2 : Fin 32)
  /-- STX (R400). L store at a_i + register. -/
  | stx (c : Fin 6) (pr : Fin 8) (z : Size) (rd : Fin 32) (ix : Fin 8) (rs2 : Fin 32)
  /-- PUSH (R378). L push a word on the data stack, or trap DSTACK. -/
  | push (c : Fin 6) (pr : Fin 8) (rd : Fin 32)
  /-- POP (R378). L pop a word from the data stack, or trap DSTACK. -/
  | pop (c : Fin 6) (pr : Fin 8) (rd : Fin 32)
  /-- SWAP (R402). L atomically exchange a register with the word at a_i after draining the write buffer. -/
  | swap (c : Fin 6) (pr : Fin 8) (rd : Fin 32) (ix : Fin 8)
  /-- SYNC (R402). L stall until the core's write buffer is empty. -/
  | sync (c : Fin 6) (pr : Fin 8)
  /-- ACCESS_COMPLETE (R376). An access outside local memory completes and the stalled core resumes. -/
  | accessComplete (c : Fin 6)
  /-- WRITE_BUFFER_DRAIN (R374). A buffered store leaves the write buffer for its region, freeing room. -/
  | writeBufferDrain (c : Fin 6)
  /-- NOP (R403). C-unit operation with no effect. -/
  | nop (c : Fin 6) (pr : Fin 8)
  /-- BR (R403). C transfer to a J-format target after two delay groups. -/
  | br (c : Fin 6) (pr : Fin 8) (off : BitVec 19)
  /-- CALL (R377). C push a call frame and transfer, or raise RSTACK overflow. -/
  | call (c : Fin 6) (pr : Fin 8) (off : BitVec 19)
  /-- BRDEC (R403). C decrement rpt and transfer while it is non-zero. -/
  | brdec (c : Fin 6) (pr : Fin 8) (off : BitVec 19)
  /-- BRR (R403). C transfer to a register target. -/
  | brr (c : Fin 6) (pr : Fin 8) (rs1 : Fin 32)
  /-- CALLR (R404). C push a call frame and transfer to a register target. -/
  | callr (c : Fin 6) (pr : Fin 8) (rs1 : Fin 32)
  /-- RET (R377). C pop a frame and transfer to its address. -/
  | ret (c : Fin 6) (pr : Fin 8)
  /-- RETI (R380). C pop a frame, restore status and resume, repeating an interrupted REP body. -/
  | reti (c : Fin 6) (pr : Fin 8)
  /-- REP (R379). C prefix issuing the next group an immediate count of times. -/
  | rep (c : Fin 6) (pr : Fin 8) (k : BitVec 14)
  /-- REPR (R379). C prefix issuing the next group a register count of times. -/
  | repr (c : Fin 6) (pr : Fin 8) (rs1 : Fin 32)
  /-- WAIT (R381). C stop issue until an enabled vector is pending. -/
  | wait (c : Fin 6) (pr : Fin 8)
  /-- TRAP (R403). C raise trap CAUSE 5 with the instruction's code. -/
  | trap (c : Fin 6) (pr : Fin 8) (code : Fin 16)
  /-- BREAK (R403). C raise trap CAUSE 6. -/
  | breakOp (c : Fin 6) (pr : Fin 8)
  /-- INTERRUPT_ACCEPT (R381). At a quiet boundary the core accepts the lowest enabled pending vector and enters its handler. -/
  | interruptAccept (c : Fin 6)
  /-- IRQ_SET (R381). A write to STRANDCTL IRQ_SET raises a vector on a core. -/
  | irqSet (src : Src) (core : Fin 8) (vec : Fin 32)
  /-- CORE_START (R388). Core OP 1 begins issue at ENTRY on a STOPPED application core. -/
  | coreStart (src : Src) (c : Fin 6)
  /-- CORE_STOP (R388). Core OP 2 stops an application core. -/
  | coreStop (src : Src) (c : Fin 6)
  /-- LOAD (R387). Core OP 3 has the firmware check, verify and load an application image. -/
  | load (src : Src) (c : Fin 6)
  /-- LOAD_COMPLETE (R387). An image load ends in STOPPED or LOAD_FAILED. -/
  | loadComplete (c : Fin 6)
  /-- CORE_RESET (R546). Core OP 4 drains the buffer, resets registers and stops the core keeping its memories. -/
  | coreReset (src : Src) (c : Fin 6)
  /-- DOZE_REQ (R473). A write to DOZE_REQ places application cores in DOZE at their next quiet boundary. Bit 0 S2 to bit 3 S5. -/
  | dozeReq (src : Src) (mask : BitVec 4)
  /-- DOZE_EXIT (R473). An enabled pending vector takes a dozing core out of DOZE within 1 µs. -/
  | dozeExit (c : Fin 6)
  /-- TX_REQ (R412). OBJ_OP 3 makes a send object PENDING or is refused. -/
  | txReq (src : Src) (c : Fin 6)
  /-- CAN_OBJ_READ (R416). OBJ_OP 1 copies the object into the window and clears NEW. -/
  | canObjRead (src : Src) (c : Fin 6)
  /-- CAN_OBJ_WRITE (R416). OBJ_OP 2 replaces an object's configuration and data atomically. -/
  | canObjWrite (src : Src) (c : Fin 6)
  /-- ABORT (R416). OBJ_OP 4 makes a PENDING object ABORTED. -/
  | abort (src : Src) (c : Fin 6)
  /-- RECOVER (R417). A write of RECOVER starts bus-off recovery. -/
  | recover (src : Src) (c : Fin 6)
  /-- CAN_FRAME_SENT (R413). A frame completes on the bus and its object becomes SENT. -/
  | canFrameSent (c : Fin 6)
  /-- CAN_FRAME_RECEIVED (R414). A valid received frame is stored in the accepting object or discarded. -/
  | canFrameReceived (c : Fin 6) (f : CanFrame)
  /-- CAN_ERROR (R417). A bus error updates the error counters and may make the controller error-passive or bus-off. As transmitter; the LEC code; a receiver error that counts 8. -/
  | canError (c : Fin 6) (tx : Bool) (kind : Fin 8) (major : Bool)
  /-- BUS_OFF_RECOVERY (R417). 128 sequences of 11 recessive bits complete recovery and clear BUS_OFF. Sequences of 11 recessive bits. -/
  | busOffRecovery (c : Fin 6) (sequences : Nat)
  /-- TXD_DOM (R424). TXD dominant for 4 ms releases the transmitter and turns the controller off. -/
  | txdDom (c : Fin 6) (ms : Nat)
  /-- CAN_WUP (R422). A wake-up pattern on a sleeping bus wakes the module. -/
  | canWup (c : Fin 6)
  /-- CAN_PN (R422). A matching selective-wake frame wakes the module. -/
  | canPn (c : Fin 6) (f : CanFrame)
  /-- CAN_FEC (R422). The selective-wake frame error counter reaching 32 wakes the module. A frame error under selective wake. -/
  | canFec (c : Fin 6)
  /-- LIN_START (R427). LIN OP 1 starts the commander schedule. -/
  | linStart (src : Src) (c : Fin 4)
  /-- LIN_STOP (R427). LIN OP 2 stops the schedule. -/
  | linStop (src : Src) (c : Fin 4)
  /-- GO_TO_SLEEP (R426). LIN OP 3 sends the go-to-sleep command and stops the schedule. -/
  | goToSleep (src : Src) (c : Fin 4)
  /-- LIN_WAKE (R426). LIN OP 4 sends a 250 µs wake-up pulse. -/
  | linWake (src : Src) (c : Fin 4)
  /-- LIN_FRAME_READ (R427). FRM_OP 1 copies frame entry FRM_SEL into the window. -/
  | linFrameRead (src : Src) (c : Fin 4)
  /-- LIN_FRAME_WRITE (R427). FRM_OP 2 writes the window into frame entry FRM_SEL. -/
  | linFrameWrite (src : Src) (c : Fin 4)
  /-- LIN_SLOT (R425). A schedule slot elapses and the next entry's frame runs. `ms` since the slot began; FRM_STAT of the next frame as the bus shows it and, where it is received, its data and checksum byte. -/
  | linSlot (c : Fin 4) (ms : Nat) (result : Fin 8) (data : List Byte) (sum : Byte)
  /-- LIN_HEADER (R425). As responder the channel answers or stores a frame for a received header. Identifier; FRM_STAT as the bus shows it, and the data and checksum byte that follow. -/
  | linHeader (c : Fin 4) (ident : Fin 64) (result : Fin 8) (data : List Byte) (sum : Byte)
  /-- LIN_WAKE_PULSE (R426). A wake-up pulse of 150 µs on the bus wakes the module. Length of the pulse. -/
  | linWakePulse (c : Fin 4) (us : Nat)
  /-- BUS_SHORT (R428). A LIN bus dominant for 20 ms stops the schedule. -/
  | busShort (c : Fin 4) (ms : Nat)
  /-- PTP_SYNC (R432). A Sync is accepted; synchronisation may be gained and UTC corrected. Port and domain of the best master, its time in ns, stepsRemoved, UTC offset in s, and whether the grandmaster changed. -/
  | ptpSync (port domain : Nat) (masterNs hops : Nat) (utcOff : Int) (gmChange : Bool)
  /-- PTP_LOST (R432). No Sync for 3 intervals, or an offset above 10 µs, ends synchronisation. Sync intervals without a Sync, or the offset in ns. -/
  | ptpLost (intervals : Nat) (offset : Int)
  /-- PD_FRAME_RECEIVED (R434). A TRDP PD frame is accepted and handed to Hitch, its PRP twin discarded. The other frames that the switch took in before it, in order. -/
  | pdFrameReceived (passing : List EthFrame) (f : PdFrame)
  /-- TRDP_PUBLISH (R434). At each grid point of CYCLE a publish entry sends its telegram. -/
  | trdpPublish (ix : Fin 256)
  /-- PR_RECEIVED (R434). A Pr for a publish entry is answered by a Pp. -/
  | prReceived (comid : Word)
  /-- PD_TMO (R435). A subscribed ComID without accepted frame for TMO ms times out and acts by TMO_ACT. `ms` without an accepted frame. -/
  | pdTmo (ix : Fin 256) (ms : Nat)
  /-- PRP_SUPERVISION (R433). Every 2 s the module sends a supervision frame on both LANs. Since the last. -/
  | prpSupervision (ms : Nat)
  /-- LINK_CHANGE (R449). An Ethernet port gains or loses link. -/
  | linkChange (port : Fin 6) (up : Bool)
  /-- TEL_READ (R449). TEL_OP 1 copies telegram entry TEL_SEL into the window. -/
  | telRead (src : Src)
  /-- TEL_WRITE (R449). TEL_OP 2 writes the window into telegram entry TEL_SEL. -/
  | telWrite (src : Src)
  /-- HITCH_LOOKUP (R440). A queued lookup walks the hash table and evaluates each matching entry. -/
  | hitchLookup
  /-- GAP_EXPIRE (R440). A TRIG request held for GAP is released to its object. -/
  | gapExpire (ix : Fin 16384)
  /-- HITCH_READ (R450). HITCH OP 1 copies entry SEL into the window. -/
  | hitchRead (src : Src)
  /-- HITCH_WRITE (R450). HITCH OP 2 writes the window into entry SEL at one page-clock edge. -/
  | hitchWrite (src : Src)
  /-- FID_READ (R446). A received Fid READ request is answered with RESP items. Peer `k`, the header, and unit and offset of each item. -/
  | fidRead (k : Fin 256) (h : FidHead) (items : List (BitVec 16 × BitVec 16))
  /-- FID_WRITE (R446). A received Fid WRITE executes its items in order and answers. Unit, offset, value and mask of each item. -/
  | fidWrite (k : Fin 256) (h : FidHead) (items : List (BitVec 16 × BitVec 16 × Word × Word))
  /-- FID_CMD (R446). A received Fid CMD executes its commands in order and answers. Unit, CMD word and origin of each item. -/
  | fidCmd (k : Fin 256) (h : FidHead) (items : List (BitVec 16 × Word × Word))
  /-- RESP (R446). A received RESP completes the outstanding request's items. SEQ of the request it answers, and its items. -/
  | resp (k : Fin 256) (h : FidHead) (ack : Word) (items : List FResp)
  /-- REPORT (R448). A received REPORT updates the proxy pages of the reported unit. Remote unit with its CAPS, STATE, FAULT_SET and FAULT_FIRST. -/
  | report (k : Fin 256) (h : FidHead) (unit : BitVec 16) (caps state fset ffirst : Word)
  /-- HELLO (R445). A received Fid HELLO advances a peer through tentative to joined. `echo` is the epoch the HELLO echoes. -/
  | hello (k : Fin 256) (h : FidHead) (echo : Word)
  /-- SUBSCRIBE (R447). A received SUBSCRIBE records a subscription or is refused beyond the limit. Unit of each item. -/
  | subscribe (k : Fin 256) (h : FidHead) (items : List (BitVec 16))
  /-- FID_RESEND (R446). An unanswered request is sent again after TMO, or its items fail after RETRY. The request of SEQ `seq`, `ms` without an answer. -/
  | fidResend (k : Fin 256) (seq : Word) (ms : Nat)
  /-- HELLO_TIMER (R445). Every HELLO_T ms the module sends HELLO to each enabled peer. Since the last. -/
  | helloTimer (ms : Nat)
  /-- PEER_LOST (R445). No authenticated message for 3 × HELLO_T marks the peer LOST. -/
  | peerLost (k : Fin 256) (ms : Nat)
  /-- EPOCH_END (R445). SEQ near the limit with requests settled draws a new EPOCH and sends HELLO. -/
  | epochEnd
  /-- REPORT_SEND (R447). A REPORT is sent on a subscribed unit's change and every REPORT_T ms. Since the last of that unit. -/
  | reportSend (k : Fin 256) (n : Fin 32768) (ms : Nat)
  /-- PROXY_GATHER_FLUSH (R448). Proxy items gathered for 200 µs or 64 items are sent as WRITE or CMD. Since the first item was gathered. -/
  | proxyGatherFlush (k : Fin 256) (us : Nat)
  /-- PROXY_CACHE_REFRESH (R448). Every REPORT_T ms a proxy's cache range is refreshed by READ. Since the last. -/
  | proxyCacheRefresh (p : Fin 8192) (ms : Nat)
  /-- FID_PEER_READ (R451). FID OP 1 copies peer entry PEER_SEL into the window. -/
  | fidPeerRead (src : Src)
  /-- FID_PEER_WRITE (R451). FID OP 2 writes the window into the peer entry. -/
  | fidPeerWrite (src : Src)
  /-- FID_PROXY_READ (R451). FID OP 3 copies the proxy binding PROXY_SEL into the window. -/
  | fidProxyRead (src : Src)
  /-- FID_PROXY_WRITE (R448). FID OP 4 writes a proxy binding; binding subscribes and reads the remote unit. -/
  | fidProxyWrite (src : Src)
  /-- SPLICE_HELLO (R454). A Splice HELLO in FORMING, SOLO or SPLIT forms the pair or sets CFG_MISMATCH. The link frame's tag, FSEQ, device, preference, role and configuration digest. -/
  | spliceHello (ok : Bool) (fseq dev pref role : Nat) (digest : List Byte)
  /-- INTENT (R459). A received INTENT frame is compared with the Second's live registers and differences applied. The units' intent, the input log as (core, interrupt, value, groups), and the Lead's delay figures. -/
  | intent (ok : Bool) (fseq : Nat) (units : List IntentUnit) (log : List (Nat × Bool × Word × Nat)) (dly off : BitVec 16)
  /-- INTENT_SEND (R456). Every 1 ms the Lead sends an INTENT frame. Since the last. -/
  | intentSend (us : Nat)
  /-- EDGE (R458). A received EDGE frame is scheduled for its T_APPLY or applied at once if late. -/
  | edge (ok : Bool) (fseq : Nat) (e : Edge)
  /-- EDGE_APPLY (R458). At T_APPLY the held change is applied in the leg. -/
  | edgeApply
  /-- ACK (R456). A received ACK updates the Lead's view of the Second's legs. -/
  | ack (ok : Bool) (fseq acked : Nat) (legs : List (Nat × Nat × Bool)) (dly : BitVec 16)
  /-- ACK_SEND (R456). Every 1 ms the Second sends an ACK frame. Since the last. -/
  | ackSend (us : Nat)
  /-- CKPT (R463). Every CKPT_T ms the Lead takes and sends a checkpoint of each started core, or skips it. Since the last, and whether that has been sent. -/
  | ckpt (ms : Nat) (sent : Bool)
  /-- CKPT_RECEIVED (R465). A received checkpoint is trial-restored and verified, or restored in Step mode. -/
  | ckptReceived (ok : Bool) (fseq : Nat) (crcOk : Bool) (c : Fin 6) (img : CkptImg)
  /-- SPLICE_HEALTH (R467). A HEALTH frame is sent every 1 s and a received one updates PARTNER_FIT. Results of the Cold cores' tests where a HEALTH frame is sent; else the one received with its tag, FSEQ, bits and bank feed states. -/
  | spliceHealth (coreOk memOk : Bool) (rx : Option (Bool × Nat × BitVec 4 × List Nat))
  /-- PARTNER_UNFIT (R467). No HEALTH for 3 s clears PARTNER_FIT. -/
  | partnerUnfit (ms : Nat)
  /-- LEAD_LOST (R454). No valid INTENT for 3 ms moves the Second to CONFIRM and starts probes. -/
  | leadLost (ms : Nat)
  /-- SPLICE_PROBE (R454). A probe sent every 2 ms, and its answer moving CONFIRM to SPLIT. -/
  | spliceProbe (answered : Bool)
  /-- CONFIRM_END (R454). 20 ms after the last INTENT without answer the Second takes over or splits. -/
  | confirmEnd (ms : Nat)
  /-- RESTORE_COMPLETE (R466). Cold cores are restored from the last good checkpoint at take-over. -/
  | restoreComplete
  /-- REPLAY_COMPLETE (R466). Log replay completes and the pair state becomes SOLO. -/
  | replayComplete (us : Nat)
  /-- PARTNER_LOST (R454). No valid ACK for 3 ms moves the Lead to SOLO. -/
  | partnerLost (ms : Nat)
  /-- LEG_MISMATCH (R459). Leg readback differing from intent for 2 ms sets LEG_MISMATCH. The leg's readback, and how long it has stood. -/
  | legMismatch (n : Fin 32768) (on : Bool) (us : Nat)
  /-- PAIR_TRIP (R460). A trip in either duplex leg turns the partner leg off by EDGE. 1 ms mean current of the Lead's leg in mA, and how long the sum with the partner's has been above ILIM. -/
  | pairTrip (c : Fin 128) (cur tenths : Nat)
  /-- GUARD_READ (R468). GOP 1 copies guard entry GSEL into the window. -/
  | guardRead (src : Src)
  /-- GUARD_WRITE (R452). GOP 2 writes the window into guard entry GSEL, or is refused. -/
  | guardWrite (src : Src)
  /-- SLEEP (R476). PWR OP 1 starts sleep entry by sending PREPARE to every unit, or is refused. -/
  | sleep (src : Src)
  /-- ROLLBACK (R474). A refusal or wake event rolls the entry back and resumes every stopped unit. -/
  | rollback
  /-- PREPARE_TIMEOUT (R474). 200 µs without every answer rolls the entry back with TIMEOUT. `n` is the lowest-index unit that did not answer. -/
  | prepareTimeout (us : Nat) (n : Fin 32768)
  /-- COMMIT (R475). Every unit having agreed, the commit saves and ordered block actions run. -/
  | commit
  /-- COMMIT_COMPLETE (R471). Saves complete and the main domain switches off into Watch or Stasis. -/
  | commitComplete
  /-- WAKE (R477). A wake decision starts S0 on HF-RC, restores units and sets READY. The PLL's lock time, and the Hitch entries the firmware reloads. -/
  | wake (us : Nat) (table : List (Fin 16384 × List Word))
  /-- WAKE_N (R32). A falling edge and 1 ms low on WAKE_N is a wake request. Pin voltage after the edge, held for `us`. -/
  | wakeN (mv us : Nat)
  /-- FALSE_WAKE (R478). A bus wake with no valid frame within FW_T of READY counts as false. `ms` since READY. -/
  | falseWake (ms : Nat)
  /-- PLL_EN_WRITE (R479). A write of PLL_EN enables or disables the PLL, clearing CORE_SRC when cleared. -/
  | pllEnWrite (src : Src) (v : Word)
  /-- CORE_SRC_WRITE (R479). A write of CORE_SRC moves cores and page clock to the PLL, or is refused unlocked. -/
  | coreSrcWrite (src : Src) (v : Word)
  /-- PLL_LOCK (R477). The PLL achieves lock and LOCKED sets. -/
  | pllLock (us : Nat)
  /-- PLL_UNLOCK (R479). The PLL loses lock and the clocks return to HF-RC. -/
  | pllUnlock
  /-- HF_RC_TRIM (R479). Every 1 s the HF-RC is trimmed against the crystal, or TRIM_FAIL sets. -/
  | hfRcTrim (trim err : Int)
  /-- WATCH_STEP (R480). The Watch sequencer runs one programme step of its pass. Current and limit of the inputs the step scans, and D and G of its channels, in their order. -/
  | watchStep (ins : List (BitVec 16 × Bool)) (touches : List (BitVec 16 × BitVec 16))
  /-- SUPPLY (R480). A Watch supply output trip turns it off and wakes the module with code 10. -/
  | supply (c : Fin 128)
  /-- STATIC_COMPARATOR (R290). An armed static comparator of IN0–15 changes and requests wake. Pin voltage in 10 mV for `us`. -/
  | staticComparator (ix : Fin 96) (v us : Nat)
  /-- NM_MESSAGE (R483). A received Reeve-ring message is processed by the node's ring state machine. -/
  | nmMessage (q : NmMsg)
  /-- NM_FORWARD (R483). T_HOP after a ring message the node forwards it to its successor. -/
  | nmForward (ms : Nat)
  /-- RING_SKIP (R483). No message from the successor within SKIP_T skips it. -/
  | ringSkip (ms : Nat)
  /-- RING_LISTEN_TIMEOUT (R483). In LISTEN, no NM message for LOST_T + NODE × T_HOP starts the ring. -/
  | ringListenTimeout (ms : Nat)
  /-- RING_LOST (R483). In RING, no NM message for LOST_T returns the node to LISTEN. -/
  | ringLost (ms : Nat)
  /-- GRACE_END (R483). T_GRACE ends and the module enters sleep. -/
  | graceEnd (ms : Nat)
  /-- NETWORK_RACE (R483). A local wake request in GRACE cancels grace and sends a wake frame. -/
  | networkRace
  /-- CONSENT_WRITE (R483). A write of CONSENT sets the node's own consent bit, 0 being a local wake request. -/
  | consentWrite (src : Src) (v : Word)
  /-- NM_EN_WRITE (R482). A write of NM_EN starts or stops the Reeve ring, or is refused. -/
  | nmEnWrite (src : Src) (v : Word)
  /-- GENERATE (R494). Locker SVC 1 generates a new key into an empty slot. Mailbox of core `c`; its other registers are written before. -/
  | generate (src : Src) (c : Fin 6) (slot slot2 : Fin 64)
  /-- IMPORT (R494). Locker SVC 2 unwraps a key into an empty slot. -/
  | importKey (src : Src) (c : Fin 6) (slot slot2 : Fin 64)
  /-- EXPORT (R494). Locker SVC 3 exports an exportable key wrapped. -/
  | exportKey (src : Src) (c : Fin 6) (slot slot2 : Fin 64)
  /-- DERIVE (R495). Locker SVC 4 derives a key under SP 800-108 into a second slot. -/
  | derive (src : Src) (c : Fin 6) (slot slot2 : Fin 64)
  /-- MAC_GEN (R494). Locker SVC 5 generates a CMAC tag. -/
  | macGen (src : Src) (c : Fin 6) (slot slot2 : Fin 64)
  /-- MAC_VER (R494). Locker SVC 6 verifies a CMAC tag. -/
  | macVer (src : Src) (c : Fin 6) (slot slot2 : Fin 64)
  /-- ENCRYPT (R494). Locker SVC 7 encrypts with GCM. -/
  | encrypt (src : Src) (c : Fin 6) (slot slot2 : Fin 64)
  /-- DECRYPT (R494). Locker SVC 8 decrypts and checks with GCM. -/
  | decrypt (src : Src) (c : Fin 6) (slot slot2 : Fin 64)
  /-- SIGN (R494). Locker SVC 9 signs with ECDSA P-256. -/
  | signMsg (src : Src) (c : Fin 6) (slot slot2 : Fin 64)
  /-- VERIFY (R494). Locker SVC 10 verifies an ECDSA signature. -/
  | verify (src : Src) (c : Fin 6) (slot slot2 : Fin 64)
  /-- ATTEST (R500). Locker SVC 11 writes a signed attestation statement for an attestable slot. -/
  | attest (src : Src) (c : Fin 6) (slot slot2 : Fin 64)
  /-- RANDOM (R494). Locker SVC 12 returns DRBG bytes. -/
  | random (src : Src) (c : Fin 6) (slot slot2 : Fin 64)
  /-- ZEROISE (R494). Locker SVC 13 overwrites a slot and empties it. -/
  | zeroise (src : Src) (c : Fin 6) (slot slot2 : Fin 64)
  /-- LOCK (R494). Locker SVC 14 sets a slot's LOCKED attribute. -/
  | lockSlot (src : Src) (c : Fin 6) (slot slot2 : Fin 64)
  /-- HASH (R494). Locker SVC 15 computes SHA-256 of the source. -/
  | hash (src : Src) (c : Fin 6) (slot slot2 : Fin 64)
  /-- LOCKER_NOP (R494). Locker SVC 0 does nothing. -/
  | lockerNop (src : Src) (c : Fin 6) (slot slot2 : Fin 64)
  /-- LOCKER_REQUEST_DONE (R497). A Locker request ends, DONE and STATUS set and the completion vector raised. -/
  | lockerRequestDone
  /-- SLOT_READ (R508). SLOT_OP 1 reads slot SLOT_SEL's attribute word. -/
  | slotRead (src : Src)
  /-- WRITE_ATTR (R508). SLOT_OP 2 writes a slot's attribute word, or is refused for locked or slot 0. -/
  | writeAttr (src : Src)
  /-- TAMPER (R503). A tamper sensor decides, sets its source and asserts the Slipline when set to ERASE. Sensor `sensor` senses `v`, for `k` in the unit of its filter. -/
  | tamper (sensor : Fin 7) (v : Int) (k : Nat)
  /-- TAMPER_CFG_WRITE (R504). A write to CFG.TAMPER sets sensor codes, refusing ERASE to ALARM unless slots are empty. -/
  | tamperCfgWrite (src : Src) (v : Word)
  /-- RNG_FAIL (R499). An entropy health-test failure stops the DRBG and random-dependent services. A window of raw bits of the entropy source. -/
  | rngFail (bits : List Bool)
  /-- DRBG_RESEED (R498). After 65,536 generate requests or at wake the DRBG reseeds. -/
  | drbgReseed
  /-- REQUEST (R516). Tether OP 1 starts a request of up to ROUNDS rounds, or completes at once if locked out. -/
  | request (src : Src)
  /-- WITHDRAW (R518). Tether OP 2 ends a release and sends WITHDRAW messages. -/
  | withdraw (src : Src)
  /-- TOKEN_READ (R524). TOK_OP 1 copies token entry TOK_SEL into the window. -/
  | tokenRead (src : Src)
  /-- TOKEN_WRITE (R524). TOK_OP 2 writes a token entry and sets its LAST_CNT to 0. -/
  | tokenWrite (src : Src)
  /-- ROUND (R512). A Tether round draws a challenge and drives the LF telegram on its antenna mask. -/
  | round
  /-- TOKEN_ANSWER (R514). A slot's UHF answer is received and classified valid, invalid, collision or empty. Slot, level, token identifier, counter, status, tag and CRC of the answer. -/
  | tokenAnswer (slot : Fin 16) (dbm : Int) (id cnt : Word) (stat : Nat) (tag : List Nat) (crc : Nat)
  /-- ROUND_OUTCOME (R515). After slot 15 closes the round's outcome is decided. -/
  | roundOutcome
  /-- LOCKOUT_END (R517). LOCK_T minutes elapse, the lock-out ends and the failure window empties. -/
  | lockoutEnd
  /-- PRESENCE_ROUND (R518). Every PRES_T ms while released a presence round runs. -/
  | presenceRound (ms : Nat)
  /-- ABSENCE (R518). No successful presence round for ABSENT_T s at standstill ends the release. -/
  | absence (sec : Nat)
  /-- RELEASE_MESSAGE (R519). Every 100 ms a RELEASE or WITHDRAW message is sent under a new RCTR. `ms` since the last message. -/
  | releaseMessage (ms : Nat)
  /-- ANT_SHORT (R510). An antenna in current limit for 1 ms stops its drive. -/
  | antShort (a : Fin 6) (ms : Nat)
  /-- ANT_OPEN (R510). An antenna current below 30 % of setpoint sets ANT_OPEN. Antenna current, mA. -/
  | antOpen (a : Fin 6) (mA : Nat)
  /-- LOGIC_FEED_START (R530). A logic feed comes above the start threshold and the start from Off runs its steps to READY. The reading of a logic feed, LOGIC_A 0, for `us`; what the fuses hold, with lid switch 1 and the mesh as found; the Locker test that fails; the writes of the configuration region, none where its CRC fails. -/
  | logicFeedStart (b : Fin 2) (mV us : Nat) (fuses : Fuses) (fail : Option (Fin 16)) (config : Option (List (Nat × Nat × Word)))
  /-- LOGIC_FEED_STOP (R528). Both logic feeds below the stop threshold write STOP, turn drive units off and enter Off. The reading of a logic feed for `us`. -/
  | logicFeedStop (b : Fin 2) (mV us : Nat)
  /-- WATCHDOG (R536). A missed firmware watchdog resets the main domain and resumes start at step 5. `ms` since S0, or S1, last serviced its watchdog. -/
  | watchdog (ms : Nat) (config : Option (List (Nat × Nat × Word)))
  /-- UPDATE (R536). The end of a firmware update resets the main domain and resumes start at step 5. -/
  | update (config : Option (List (Nat × Nat × Word)))
  /-- RECOVERY_IMAGE (R534). The recovery loader receives an image over ETH0, checks it, writes bank A and restarts at step 5. -/
  | recoveryImage (image : List Byte) (config : Option (List (Nat × Nat × Word)))
  /-- ROLLBACK_FLOOR_RAISE (R533). After 1 h of t_op without watchdog reset the firmware raises the rollback floor. Hours of t_op without a watchdog reset. -/
  | rollbackFloorRaise (h : Nat)
  /-- SPLICE_LINK_CHANGE (R45). The X66 link comes up with a partner or goes down, setting LINK_DOWN. -/
  | spliceLinkChange (up : Bool)
  /-- BUS_INTEGRATION (R423). A CAN controller completes bus integration after ENABLE or PLL lock and becomes ACTIVE. -/
  | busIntegration (c : Fin 6)
  /-- FEED_RETURN (R153). A bank feed or rail recovering above its threshold clears its lost, sag or over-voltage status and returns the BANK page to ACTIVE. Feeds and rail in 10 mV and their currents in 10 mA, for `ms`. -/
  | feedReturn (k : Fin 4) (vA vB vR : Nat) (iA iB iR : Int) (ms : Nat)
  /-- MOTOR_STOPPED (R190). The back-EMF of a coasting motor falls below 0.5 V, MOVING clears and the bridge goes IDLE with its position stored. Terminal voltage A−B in mV, motor current in mA. -/
  | motorStopped (b : Fin 8) (v cur : Int)
  /-- THERMAL_RESUME (R189). A bridge, valve, shared switch, boost or output junction cools below 150 °C and the withheld drive is resumed. Page `n`, junction estimate in 0.1 °C. -/
  | thermalResume (n : Fin 32768) (tj : Int)
  /-- BOOST_READY (R282). The boost capacitor reaches V_SET within 2 V, READY sets and switches may run PEAK from the boost rail. V_C in 10 mV, the converter current in 10 mA. -/
  | boostReady (vc : Nat) (cur : Int)
  /-- FAILED_ATTEMPT_EXPIRY (R517). A failed Tether attempt leaves the 10 min sliding window and FAILS decreases. -/
  | failedAttemptExpiry
  /-- SPLICE_HELLO_TIMER (R454). In FORMING, SOLO or SPLIT the SPLICE unit sends a link HELLO every 10 ms and retries formation every 1 s after a mismatch. Since the last. -/
  | spliceHelloTimer (ms : Nat)
  deriving DecidableEq, Repr

end Sys2Proof
end

