-- ==== Sys2Proof/Decode.lean ====
section
/-! DEFINITION. What a table word spells. The rows of spec/opcode_table.json give no bits (their fields are empty): a row is a step of the
block, not an encoding, so no word spells a command. The encodings the spec does give, those of the Strand cores, are decoded where a core
issues them (Machine/Syllables.lean). -/

namespace Sys2Proof

/-- The command a word spells by the table's bits: none, as no row gives bits. -/
def decodeTableWord (_nbits _w : Nat) : Option Instr := none

end Sys2Proof
end

