-- ==== Sys2Proof/Config.lean ====
section
/-! DEFINITION. What an implementation fixes and the spec leaves open: constants with no body, so that no proof can see a value. -/

namespace Sys2Proof.Config

/-- A free value: the `k`-th value the spec leaves open in a run (notes/assumptions/5.md). -/
opaque freeValue (k : Nat) : Nat

/-- Whether the damage of a cycle, a real number, is rounded up to Q16.48 (R177 states no rounding). Operands: class, range, maximum. -/
opaque damageRound (cls dt tmax : Nat) : Bool

/-- Whether a coil temperature that falls between two steps of 0.1 °C reads the upper one (R271 states no rounding). Operands: R_EST,
R_REF. -/
opaque coilRound (rest rref : Nat) : Bool

/-- Byte `i` of the root secret in the fuses, 0 to 31 (R490), taken modulo 256. -/
opaque rootByte (i : Nat) : Nat

/-- Byte `i` of the digest of a configuration given as words (R454 names its content, not its layout), taken modulo 256. -/
opaque digestByte (words : List Nat) (i : Nat) : Nat

/-- Where the HALT_N comparator's rising and falling thresholds lie in their ranges of 2 V, in mV above 8 V and 5 V, taken modulo 2,001
(R30 gives the ranges). -/
opaque haltRise : Nat
opaque haltFall : Nat

/-- How far a port's ingress policer lets frames run ahead of OTHER_MAX, in 1/512,000 µs (R431 gives the rate alone). -/
opaque policeBurst : Nat

/-- Whether the frame of the slot that runs on LIN channel `c` is still on the bus at Reckoner count `k` (R426; the slot is at least as long
as the frame). -/
opaque linOnBus (c k : Nat) : Bool

/-- Page clocks of one LF-RC cycle, less one (R343): the oscillator's own rate is open within the error it is measured to. -/
opaque lfClocks : Nat

/-- Byte `i` of the fused firmware key hash (R532), taken modulo 256. -/
opaque fuseKeyByte (i : Nat) : Nat

end Sys2Proof.Config
end

