-- ==== Sys2Proof/Machine/Fields.lean ====
section
/-! DEFINITION. The register fields of every page class, each a named bit span at its offset, and the layout of each class:
access code, reset value and the codes and range a write must satisfy (R7, R73, R74). The numbers are those of the register tables
of spec/ (the rule of each table stands at its namespace). A reset value the spec leaves to fuses, MRAM or configuration reads 0 here
unless a log entry says otherwise (notes/assumptions/3.md). -/

namespace Sys2Proof

/-! The common header of every page (R60). -/
namespace Hdr
def CLASS : Fld := ⟨0x000, 31, 24⟩
def REV : Fld := ⟨0x000, 23, 16⟩
def INDEX : Fld := ⟨0x000, 15, 0⟩
def SATELLITE : Fld := ⟨0x004, 5, 5⟩
def PROXY : Fld := ⟨0x004, 4, 4⟩
def BIGHT : Fld := ⟨0x004, 3, 3⟩
def GUARDABLE : Fld := ⟨0x004, 2, 2⟩
def ADAPTIVE : Fld := ⟨0x004, 1, 1⟩
def PRESENT : Fld := ⟨0x004, 0, 0⟩
def SEQ : Fld := ⟨0x008, 31, 16⟩
def ARG : Fld := ⟨0x008, 15, 8⟩
def CODE : Fld := ⟨0x008, 3, 0⟩
def LAST_SEQ : Fld := ⟨0x00C, 31, 16⟩
def ADAPT_FROZEN : Fld := ⟨0x00C, 11, 11⟩
def SHADOW_DIRTY : Fld := ⟨0x00C, 10, 10⟩
def REJECT : Fld := ⟨0x00C, 9, 9⟩
def BUSY : Fld := ⟨0x00C, 8, 8⟩
def HEALTH : Fld := ⟨0x00C, 5, 4⟩
def STATE : Fld := ⟨0x00C, 3, 0⟩
def REASON : Fld := ⟨0x010, 15, 12⟩
def OFFSET : Fld := ⟨0x010, 11, 0⟩
def OVF : Fld := ⟨0x014, 31, 31⟩
def VALID : Fld := ⟨0x014, 30, 30⟩
def SOURCE : Fld := ⟨0x014, 7, 0⟩
def FAULT_SET : Fld := ⟨0x018, 31, 0⟩
def FAULT_MASK : Fld := ⟨0x01C, 31, 0⟩
def SAFE_LEVEL : Fld := ⟨0x020, 15, 8⟩
def SAFE_STATE : Fld := ⟨0x020, 2, 0⟩
def PARENT : Fld := ⟨0x024, 15, 0⟩
def BASE_CAP : Fld := ⟨0x028, 2, 0⟩
def LOCKED : Fld := ⟨0x02C, 0, 0⟩
end Hdr

/-! DEV page (R88). -/
namespace Dev
def DEVNUM : Fld := ⟨0x040, 15, 0⟩
def ORDER : Fld := ⟨0x044, 7, 0⟩
def HWREV : Fld := ⟨0x048, 31, 16⟩
def PATCH : Fld := ⟨0x048, 15, 0⟩
def FWVER : Fld := ⟨0x04C, 31, 0⟩
def VALID : Fld := ⟨0x050, 31, 31⟩
def OFFSET : Fld := ⟨0x050, 27, 16⟩
def INDEX : Fld := ⟨0x050, 15, 0⟩
end Dev

/-! Bight registers (R82). -/
namespace Bight
def LEAF_CLASS : Fld := ⟨0xF00, 23, 16⟩
def MEMBERS : Fld := ⟨0xF00, 15, 0⟩
def CURSOR : Fld := ⟨0xF04, 15, 0⟩
def VALID : Fld := ⟨0xF08, 31, 31⟩
def MEMBER : Fld := ⟨0xF08, 15, 0⟩
def VALID_F0C : Fld := ⟨0xF0C, 31, 31⟩
def REJ_LEAF : Fld := ⟨0xF0C, 15, 0⟩
def DIRECT : Fld := ⟨0xF10, 15, 0⟩
end Bight

/-! CAP page (R112, R116). -/
namespace Cap
def LOS : Fld := ⟨0x040, 11, 10⟩
def JUMP : Fld := ⟨0x040, 9, 9⟩
def DIR : Fld := ⟨0x040, 8, 8⟩
def SRC : Fld := ⟨0x040, 5, 4⟩
def TYPE : Fld := ⟨0x040, 2, 0⟩
def PERIOD : Fld := ⟨0x044, 31, 0⟩
def SCALE : Fld := ⟨0x048, 31, 0⟩
def ORIGIN_LO : Fld := ⟨0x04C, 31, 0⟩
def ORIGIN_HI : Fld := ⟨0x050, 31, 0⟩
def TRIM : Fld := ⟨0x054, 15, 0⟩
def POS : Fld := ⟨0x058, 31, 0⟩
def ADVANCE : Fld := ⟨0x05C, 31, 0⟩
def SETPOS : Fld := ⟨0x060, 31, 0⟩
def RATE : Fld := ⟨0x064, 31, 0⟩
def FALLBACK : Fld := ⟨0x068, 8, 8⟩
def GAP : Fld := ⟨0x068, 6, 6⟩
def DEGRADED : Fld := ⟨0x068, 5, 5⟩
def REVERSE : Fld := ⟨0x068, 4, 4⟩
def STANDSTILL : Fld := ⟨0x068, 3, 3⟩
def LOS_68 : Fld := ⟨0x068, 2, 2⟩
def COAST : Fld := ⟨0x068, 1, 1⟩
def LOCKED : Fld := ⟨0x068, 0, 0⟩
def BACKLOG : Fld := ⟨0x06C, 31, 0⟩
def HOLDOVER : Fld := ⟨0x070, 23, 16⟩
def STILL : Fld := ⟨0x070, 15, 0⟩
def LIMIT : Fld := ⟨0x074, 31, 0⟩
def LATE : Fld := ⟨0x078, 31, 16⟩
def MISSED : Fld := ⟨0x078, 15, 0⟩
def AUX : Fld := ⟨0x07C, 31, 0⟩
def MARK_SEL : Fld := ⟨0x080, 11, 0⟩
def MARK_POS : Fld := ⟨0x084, 31, 0⟩
def ARMED : Fld := ⟨0x088, 31, 31⟩
def WAKE : Fld := ⟨0x088, 30, 30⟩
def LATE_POL : Fld := ⟨0x088, 29, 29⟩
def ACTION : Fld := ⟨0x088, 23, 20⟩
def BASE : Fld := ⟨0x088, 18, 16⟩
def TARGET : Fld := ⟨0x088, 15, 0⟩
def MARK_PERIOD : Fld := ⟨0x08C, 31, 0⟩
def STATUS : Fld := ⟨0x090, 31, 24⟩
def ARG : Fld := ⟨0x090, 15, 0⟩
def MARK_OP : Fld := ⟨0x094, 1, 0⟩
def VALID : Fld := ⟨0x098, 31, 31⟩
def NEXT : Fld := ⟨0x098, 11, 0⟩
def FREE : Fld := ⟨0x09C, 28, 16⟩
def ARMED_N : Fld := ⟨0x09C, 12, 0⟩
def POW_OUT (i : Nat) : Fld := ⟨0x100 + 32 * i, 31, 16⟩
def POW_SENSE (i : Nat) : Fld := ⟨0x100 + 32 * i, 15, 0⟩
def POW_MARK (i : Nat) : Fld := ⟨0x104 + 32 * i, 31, 20⟩
def POW_TARGET (i : Nat) : Fld := ⟨0x104 + 32 * i, 15, 0⟩
def POW_DELAY (i : Nat) : Fld := ⟨0x108 + 32 * i, 31, 16⟩
def POW_LAST_ERR (i : Nat) : Fld := ⟨0x108 + 32 * i, 15, 0⟩
def POW_MAX (i : Nat) : Fld := ⟨0x10C + 32 * i, 31, 16⟩
def POW_MIN (i : Nat) : Fld := ⟨0x10C + 32 * i, 15, 0⟩
def POW_GO (i : Nat) : Fld := ⟨0x110 + 32 * i, 0, 0⟩
def POW_CLOSES (i : Nat) : Fld := ⟨0x114 + 32 * i, 31, 16⟩
def POW_PHASE (i : Nat) : Fld := ⟨0x114 + 32 * i, 3, 0⟩
end Cap

/-! OUT page (R151, R182). -/
namespace Out
def BOOT_ON : Fld := ⟨0x040, 15, 15⟩
def CLASS : Fld := ⟨0x040, 14, 13⟩
def OFFDIAG : Fld := ⟨0x040, 12, 12⟩
def CAPSTART : Fld := ⟨0x040, 11, 11⟩
def SNUB_SLEW : Fld := ⟨0x040, 9, 8⟩
def SLEW : Fld := ⟨0x040, 6, 4⟩
def PWM_MODE : Fld := ⟨0x040, 1, 0⟩
def DUTY : Fld := ⟨0x044, 31, 16⟩
def ON : Fld := ⟨0x044, 0, 0⟩
def PERIOD : Fld := ⟨0x048, 31, 0⟩
def PHASE : Fld := ⟨0x04C, 31, 16⟩
def DIV : Fld := ⟨0x04C, 11, 0⟩
def ILIM : Fld := ⟨0x050, 31, 16⟩
def TRIP : Fld := ⟨0x050, 7, 0⟩
def IMULT : Fld := ⟨0x054, 20, 16⟩
def TINRUSH : Fld := ⟨0x054, 15, 0⟩
def ISTART : Fld := ⟨0x058, 31, 16⟩
def TSTART : Fld := ⟨0x058, 7, 0⟩
def MAX : Fld := ⟨0x05C, 19, 16⟩
def BACKOFF : Fld := ⟨0x05C, 15, 15⟩
def DELAY : Fld := ⟨0x05C, 14, 0⟩
def TJ_WARN : Fld := ⟨0x060, 7, 0⟩
def DUPLEX : Fld := ⟨0x064, 23, 23⟩
def IMB : Fld := ⟨0x064, 22, 16⟩
def GROUP : Fld := ⟨0x064, 4, 0⟩
def OPEN_ON : Fld := ⟨0x068, 31, 16⟩
def OFFDIAG_T : Fld := ⟨0x068, 15, 0⟩
def BF_BLANK : Fld := ⟨0x06C, 10, 0⟩
def SLACK : Fld := ⟨0x070, 3, 0⟩
def I_OUT : Fld := ⟨0x074, 15, 0⟩
def V_OUT : Fld := ⟨0x078, 31, 16⟩
def TJ : Fld := ⟨0x078, 15, 0⟩
def RETRIES : Fld := ⟨0x07C, 31, 28⟩
def BF_ARMED : Fld := ⟨0x07C, 11, 11⟩
def SNUBBED : Fld := ⟨0x07C, 10, 10⟩
def SLACK_7C : Fld := ⟨0x07C, 9, 9⟩
def BOOT_HELD : Fld := ⟨0x07C, 8, 8⟩
def FOLLOWER : Fld := ⟨0x07C, 7, 7⟩
def RETRY_WAIT : Fld := ⟨0x07C, 6, 6⟩
def SYNC_LOST : Fld := ⟨0x07C, 5, 5⟩
def PWM_CLAMP : Fld := ⟨0x07C, 4, 4⟩
def INRUSH : Fld := ⟨0x07C, 3, 3⟩
def STARTING : Fld := ⟨0x07C, 2, 2⟩
def HIGH : Fld := ⟨0x07C, 1, 1⟩
def GATE : Fld := ⟨0x07C, 0, 0⟩
def TRIPS : Fld := ⟨0x080, 31, 16⟩
def BACKFEEDS : Fld := ⟨0x080, 15, 0⟩
def I_RAW : Fld := ⟨0x100, 31, 16⟩
def PEAK : Fld := ⟨0x100, 15, 0⟩
def I_SLOW : Fld := ⟨0x104, 31, 16⟩
def BIN1 : Fld := ⟨0x108, 31, 16⟩
def BIN0 : Fld := ⟨0x108, 15, 0⟩
def BIN3 : Fld := ⟨0x10C, 31, 16⟩
def BIN2 : Fld := ⟨0x10C, 15, 0⟩
def BASE1 : Fld := ⟨0x110, 31, 16⟩
def BASE0 : Fld := ⟨0x110, 15, 0⟩
def BASE3 : Fld := ⟨0x114, 31, 16⟩
def BASE2 : Fld := ⟨0x114, 15, 0⟩
def OFF : Fld := ⟨0x118, 31, 31⟩
def SNAP : Fld := ⟨0x118, 30, 30⟩
def W3 : Fld := ⟨0x118, 27, 24⟩
def W2 : Fld := ⟨0x118, 23, 20⟩
def W1 : Fld := ⟨0x118, 19, 16⟩
def W0 : Fld := ⟨0x118, 15, 12⟩
def MARGIN : Fld := ⟨0x118, 11, 8⟩
def DECAY : Fld := ⟨0x118, 7, 4⟩
def TAU : Fld := ⟨0x118, 3, 0⟩
def ARC_TH : Fld := ⟨0x11C, 31, 16⟩
def PSTEP : Fld := ⟨0x11C, 15, 8⟩
def FLOOR : Fld := ⟨0x11C, 7, 0⟩
def A_SER : Fld := ⟨0x120, 31, 16⟩
def A_PAR : Fld := ⟨0x120, 15, 0⟩
def BLIND : Fld := ⟨0x124, 31, 31⟩
def SER_EVT : Fld := ⟨0x124, 30, 16⟩
def PAR_EVT : Fld := ⟨0x124, 15, 0⟩
def CLASS_128 : Fld := ⟨0x128, 31, 28⟩
def EXPECT : Fld := ⟨0x128, 27, 24⟩
def CONF : Fld := ⟨0x128, 23, 16⟩
def RATIO : Fld := ⟨0x12C, 31, 16⟩
def SETTLE : Fld := ⟨0x12C, 15, 0⟩
def STEP : Fld := ⟨0x130, 31, 16⟩
def HOLD : Fld := ⟨0x130, 15, 8⟩
def EN : Fld := ⟨0x130, 0, 0⟩
def PLUGS : Fld := ⟨0x134, 31, 16⟩
def UNPLUGS : Fld := ⟨0x134, 15, 0⟩
def STEP_LAST : Fld := ⟨0x138, 31, 16⟩
def REF : Fld := ⟨0x138, 15, 0⟩
def SNAP_ADDR : Fld := ⟨0x13C, 31, 0⟩
def BUSY : Fld := ⟨0x140, 31, 31⟩
def DONE : Fld := ⟨0x140, 30, 30⟩
def VECTOR : Fld := ⟨0x140, 15, 11⟩
def CORE : Fld := ⟨0x140, 10, 8⟩
def GO : Fld := ⟨0x140, 0, 0⟩
def SNAP_POS : Fld := ⟨0x144, 31, 0⟩
def SNAP_DROPS : Fld := ⟨0x148, 15, 0⟩
def LEDGER_D : Fld := ⟨0x14C, 31, 0⟩
def RHO : Fld := ⟨0x150, 31, 16⟩
def F : Fld := ⟨0x150, 15, 8⟩
def RHO_ON : Fld := ⟨0x154, 31, 24⟩
def FMIN : Fld := ⟨0x154, 23, 16⟩
def KD : Fld := ⟨0x154, 15, 8⟩
def I_LED : Fld := ⟨0x158, 31, 16⟩
def HALVES : Fld := ⟨0x15C, 31, 0⟩
def DT_LAST : Fld := ⟨0x160, 31, 16⟩
def TMAX_LAST : Fld := ⟨0x160, 15, 0⟩
end Out

/-! BANK page (R157). -/
namespace Bank
def CLASS : Fld := ⟨0x040, 5, 4⟩
def B_USED : Fld := ⟨0x040, 1, 1⟩
def A_USED : Fld := ⟨0x040, 0, 0⟩
def VA : Fld := ⟨0x044, 31, 16⟩
def IA : Fld := ⟨0x044, 15, 0⟩
def VB : Fld := ⟨0x048, 31, 16⟩
def IB : Fld := ⟨0x048, 15, 0⟩
def VR : Fld := ⟨0x04C, 31, 16⟩
def IR : Fld := ⟨0x04C, 15, 0⟩
def LOSS_V : Fld := ⟨0x050, 31, 16⟩
def LOSS_T : Fld := ⟨0x050, 15, 0⟩
def SAG_V : Fld := ⟨0x054, 31, 16⟩
def SAG_T : Fld := ⟨0x054, 15, 0⟩
def OV_V : Fld := ⟨0x058, 31, 16⟩
def OV_T : Fld := ⟨0x058, 15, 0⟩
def LIM : Fld := ⟨0x05C, 9, 0⟩
def TEMP : Fld := ⟨0x060, 31, 16⟩
def BP_WARN : Fld := ⟨0x060, 7, 0⟩
def UNUSED_LIVE : Fld := ⟨0x064, 10, 10⟩
def TRIP : Fld := ⟨0x064, 9, 9⟩
def BP_WARN_64 : Fld := ⟨0x064, 8, 8⟩
def OC : Fld := ⟨0x064, 7, 7⟩
def OV : Fld := ⟨0x064, 6, 6⟩
def SAG : Fld := ⟨0x064, 5, 5⟩
def B_LOST : Fld := ⟨0x064, 4, 4⟩
def A_LOST : Fld := ⟨0x064, 3, 3⟩
def B_ON : Fld := ⟨0x064, 1, 1⟩
def A_ON : Fld := ⟨0x064, 0, 0⟩
def A_LOSSES : Fld := ⟨0x068, 31, 16⟩
def B_LOSSES : Fld := ⟨0x068, 15, 0⟩
end Bank

/-! BRIDGE page (R203). -/
namespace Bridge
def PINCH_EN : Fld := ⟨0x040, 11, 11⟩
def WIPER : Fld := ⟨0x040, 10, 10⟩
def LEARN : Fld := ⟨0x040, 9, 9⟩
def DECAY : Fld := ⟨0x040, 8, 8⟩
def SLACK : Fld := ⟨0x040, 3, 0⟩
def DUTY : Fld := ⟨0x044, 31, 16⟩
def MODE : Fld := ⟨0x044, 2, 0⟩
def TARGET : Fld := ⟨0x048, 31, 0⟩
def SLOPE : Fld := ⟨0x04C, 31, 16⟩
def DEAD_REV : Fld := ⟨0x04C, 15, 8⟩
def LEAD : Fld := ⟨0x04C, 7, 0⟩
def ILIM : Fld := ⟨0x050, 31, 16⟩
def STALL_T : Fld := ⟨0x050, 15, 8⟩
def HOME_I : Fld := ⟨0x050, 7, 0⟩
def TJ_WARN : Fld := ⟨0x054, 31, 24⟩
def UNC_LIM : Fld := ⟨0x054, 23, 16⟩
def R_ARM : Fld := ⟨0x054, 15, 0⟩
def SPAN : Fld := ⟨0x058, 31, 16⟩
def END_WIN : Fld := ⟨0x058, 15, 8⟩
def SEAL : Fld := ⟨0x058, 7, 0⟩
def MARGIN : Fld := ⟨0x05C, 31, 16⟩
def REV : Fld := ⟨0x05C, 15, 0⟩
def ENTRY : Fld := ⟨0x060, 31, 24⟩
def PTAU : Fld := ⟨0x060, 23, 16⟩
def PROF_V : Fld := ⟨0x060, 15, 0⟩
def CYCLE : Fld := ⟨0x064, 31, 16⟩
def PARK_IN : Fld := ⟨0x064, 15, 0⟩
def IV_MIN : Fld := ⟨0x068, 31, 24⟩
def IV_MAX : Fld := ⟨0x068, 23, 16⟩
def IV_BASE : Fld := ⟨0x068, 15, 8⟩
def V_REF : Fld := ⟨0x068, 7, 0⟩
def PARK_OFS : Fld := ⟨0x06C, 31, 16⟩
def PARK_POL : Fld := ⟨0x06C, 0, 0⟩
def POS : Fld := ⟨0x070, 31, 0⟩
def I_MOT : Fld := ⟨0x074, 31, 16⟩
def SPEED : Fld := ⟨0x074, 15, 0⟩
def UNCERT : Fld := ⟨0x078, 31, 16⟩
def TJ : Fld := ⟨0x078, 15, 0⟩
def SEAL_ZONE : Fld := ⟨0x07C, 11, 11⟩
def AT_OPEN : Fld := ⟨0x07C, 10, 10⟩
def AT_CLOSED : Fld := ⟨0x07C, 9, 9⟩
def PARKED : Fld := ⟨0x07C, 8, 8⟩
def WAIT : Fld := ⟨0x07C, 7, 7⟩
def REVERSING : Fld := ⟨0x07C, 6, 6⟩
def BRAKING : Fld := ⟨0x07C, 5, 5⟩
def LIMITING : Fld := ⟨0x07C, 4, 4⟩
def RAMPING : Fld := ⟨0x07C, 3, 3⟩
def DIR : Fld := ⟨0x07C, 2, 2⟩
def MOVING : Fld := ⟨0x07C, 1, 1⟩
def HOMED : Fld := ⟨0x07C, 0, 0⟩
def INSERTED : Fld := ⟨0x080, 31, 16⟩
def REJECTED : Fld := ⟨0x080, 15, 0⟩
def PINCHES : Fld := ⟨0x084, 31, 16⟩
def STALLS : Fld := ⟨0x084, 15, 0⟩
def LAST_PEAK : Fld := ⟨0x088, 31, 16⟩
def LAST_PBIN : Fld := ⟨0x088, 5, 0⟩
def PMAX : Fld := ⟨0x08C, 31, 16⟩
def PMIN : Fld := ⟨0x08C, 15, 0⟩
def INTERVAL : Fld := ⟨0x090, 7, 0⟩
def PROFILE_HI (i : Nat) : Fld := ⟨0x100 + 4 * i, 31, 16⟩
def PROFILE_LO (i : Nat) : Fld := ⟨0x100 + 4 * i, 15, 0⟩
end Bridge

/-! RAT page (R229). -/
namespace Rat
def IMAX : Fld := ⟨0x040, 25, 16⟩
def DIVSRC : Fld := ⟨0x040, 12, 12⟩
def RUNG_EN : Fld := ⟨0x040, 11, 11⟩
def SLACK : Fld := ⟨0x040, 3, 0⟩
def LEVEL : Fld := ⟨0x044, 19, 0⟩
def EASE_T : Fld := ⟨0x048, 31, 16⟩
def CURVE : Fld := ⟨0x048, 1, 0⟩
def DIV : Fld := ⟨0x04C, 11, 0⟩
def FMAX : Fld := ⟨0x050, 31, 16⟩
def FMIN : Fld := ⟨0x050, 15, 0⟩
def VMAX : Fld := ⟨0x054, 31, 16⟩
def PMAX : Fld := ⟨0x054, 15, 0⟩
def LEAD : Fld := ⟨0x058, 15, 8⟩
def FF_TOL : Fld := ⟨0x058, 7, 0⟩
def MAXBYP : Fld := ⟨0x05C, 23, 16⟩
def RETEST_T : Fld := ⟨0x05C, 15, 0⟩
def I_STR : Fld := ⟨0x060, 31, 16⟩
def V_STR : Fld := ⟨0x060, 15, 0⟩
def P_OUT : Fld := ⟨0x064, 31, 16⟩
def TJ : Fld := ⟨0x064, 15, 0⟩
def V_EXP : Fld := ⟨0x068, 31, 16⟩
def V_CLOSED : Fld := ⟨0x068, 15, 0⟩
def LEVEL_NOW : Fld := ⟨0x06C, 19, 0⟩
def DIV_NOW : Fld := ⟨0x070, 28, 17⟩
def DUTY_NOW : Fld := ⟨0x070, 16, 0⟩
def RUNGS : Fld := ⟨0x074, 31, 24⟩
def BYPASSED : Fld := ⟨0x074, 23, 16⟩
def FF_ERRS : Fld := ⟨0x074, 15, 0⟩
def F_RUNG : Fld := ⟨0x078, 31, 16⟩
def CLAMPS : Fld := ⟨0x078, 15, 0⟩
def SLACK_7C : Fld := ⟨0x07C, 10, 10⟩
def SNUBBED : Fld := ⟨0x07C, 9, 9⟩
def CHAIN_READY : Fld := ⟨0x07C, 8, 8⟩
def DIM_LOST : Fld := ⟨0x07C, 7, 7⟩
def DIM_FLOOR : Fld := ⟨0x07C, 6, 6⟩
def NO_ALIGN : Fld := ⟨0x07C, 5, 5⟩
def V_LIMIT : Fld := ⟨0x07C, 4, 4⟩
def P_LIMIT : Fld := ⟨0x07C, 3, 3⟩
def EASING : Fld := ⟨0x07C, 2, 2⟩
def RUNG_MODE : Fld := ⟨0x07C, 1, 1⟩
def REGULATING : Fld := ⟨0x07C, 0, 0⟩
def BYPASS (i : Nat) : Fld := ⟨0x100 + 4 * i, 31, 0⟩
end Rat

/-! SINK page (R235). -/
namespace Sink
def DIVSRC : Fld := ⟨0x040, 11, 11⟩
def PWM_MODE : Fld := ⟨0x040, 9, 8⟩
def SLACK : Fld := ⟨0x040, 3, 0⟩
def DUTY : Fld := ⟨0x044, 31, 16⟩
def CURRENT : Fld := ⟨0x044, 15, 8⟩
def ON : Fld := ⟨0x044, 0, 0⟩
def PERIOD : Fld := ⟨0x048, 31, 0⟩
def PHASE : Fld := ⟨0x04C, 31, 16⟩
def DIV : Fld := ⟨0x04C, 11, 0⟩
def VHIGH : Fld := ⟨0x050, 31, 16⟩
def FMAX : Fld := ⟨0x054, 31, 16⟩
def FMIN : Fld := ⟨0x054, 15, 0⟩
def V_PIN : Fld := ⟨0x058, 31, 16⟩
def I_SINK : Fld := ⟨0x058, 15, 0⟩
def SLACK_5C : Fld := ⟨0x05C, 6, 6⟩
def SNUBBED : Fld := ⟨0x05C, 5, 5⟩
def SYNC_LOST : Fld := ⟨0x05C, 4, 4⟩
def PWM_CLAMP : Fld := ⟨0x05C, 3, 3⟩
def LOW_HEAD : Fld := ⟨0x05C, 2, 2⟩
def FOLDBACK : Fld := ⟨0x05C, 1, 1⟩
def SINKING : Fld := ⟨0x05C, 0, 0⟩
end Sink

/-! SINKCOMPAT page (R236). -/
namespace Compat
def GLOBAL : Fld := ⟨0x040, 7, 0⟩
end Compat

/-! MSG page (R259). -/
namespace Msg
def RETURN : Fld := ⟨0x040, 16, 16⟩
def NODES : Fld := ⟨0x040, 10, 0⟩
def POLL_T : Fld := ⟨0x044, 31, 16⟩
def REFRESH : Fld := ⟨0x044, 15, 0⟩
def OP : Fld := ⟨0x048, 2, 0⟩
def ENUM_BUSY : Fld := ⟨0x04C, 31, 31⟩
def MAP_VALID : Fld := ⟨0x04C, 30, 30⟩
def CHANGED : Fld := ⟨0x04C, 29, 29⟩
def ECHO_OK : Fld := ⟨0x04C, 28, 28⟩
def FOUND : Fld := ⟨0x04C, 26, 16⟩
def AWAKE : Fld := ⟨0x04C, 10, 0⟩
def BREAK_AT : Fld := ⟨0x050, 31, 16⟩
def LAST_HOP : Fld := ⟨0x050, 15, 0⟩
def ECHO_ERRS : Fld := ⟨0x054, 31, 16⟩
def CRC_REPORTS : Fld := ⟨0x054, 15, 0⟩
def FRAMES : Fld := ⟨0x058, 31, 0⟩
def T_HV : Fld := ⟨0x05C, 31, 0⟩
end Msg

/-! satellite page (R260). -/
namespace Sat
def UID : Fld := ⟨0x040, 31, 0⟩
def PORT : Fld := ⟨0x044, 12, 8⟩
def LEDS : Fld := ⟨0x044, 4, 3⟩
def POSITIONS : Fld := ⟨0x044, 2, 0⟩
def H : Fld := ⟨0x048, 25, 16⟩
def RUNG0 : Fld := ⟨0x048, 7, 0⟩
def SYNC : Fld := ⟨0x04C, 0, 0⟩
def OPEN_i_ (i : Nat) : Fld := ⟨0x050 + 4 * i, 31, 16⟩
def CLOSED_i_ (i : Nat) : Fld := ⟨0x050 + 4 * i, 15, 0⟩
def CLAMPED : Fld := ⟨0x060, 7, 4⟩
def CRC_SEEN : Fld := ⟨0x060, 2, 2⟩
def RESET_SEEN : Fld := ⟨0x060, 1, 1⟩
def AWAKE : Fld := ⟨0x060, 0, 0⟩
end Sat

/-! VALVE page (R279). -/
namespace Valve
def PI_DET : Fld := ⟨0x040, 8, 8⟩
def SLACK : Fld := ⟨0x040, 3, 0⟩
def I_SET : Fld := ⟨0x044, 31, 16⟩
def MODE : Fld := ⟨0x044, 1, 0⟩
def I_PEAK : Fld := ⟨0x048, 31, 16⟩
def I_HOLD : Fld := ⟨0x048, 15, 0⟩
def T_PEAK : Fld := ⟨0x04C, 31, 16⟩
def PI_EXT : Fld := ⟨0x04C, 15, 8⟩
def PI_DIP : Fld := ⟨0x04C, 7, 0⟩
def F_DITH : Fld := ⟨0x050, 24, 16⟩
def A_DITH : Fld := ⟨0x050, 7, 0⟩
def DUTY_MAX : Fld := ⟨0x054, 23, 16⟩
def WIN : Fld := ⟨0x054, 5, 0⟩
def PK_CAP : Fld := ⟨0x058, 15, 0⟩
def R_REF : Fld := ⟨0x05C, 31, 16⟩
def T_HOT : Fld := ⟨0x05C, 15, 8⟩
def RTAU : Fld := ⟨0x05C, 3, 0⟩
def R_MAX : Fld := ⟨0x060, 31, 16⟩
def R_MIN : Fld := ⟨0x060, 15, 0⟩
def I_COIL : Fld := ⟨0x064, 31, 16⟩
def V_COIL : Fld := ⟨0x064, 15, 0⟩
def R_EST : Fld := ⟨0x068, 31, 16⟩
def T_COIL : Fld := ⟨0x068, 15, 0⟩
def T_PULL : Fld := ⟨0x06C, 31, 16⟩
def PK_LAST : Fld := ⟨0x06C, 15, 0⟩
def DUTY_NOW : Fld := ⟨0x070, 31, 16⟩
def PK_NOW : Fld := ⟨0x070, 15, 0⟩
def SNUBBED : Fld := ⟨0x074, 10, 10⟩
def SLACK_74 : Fld := ⟨0x074, 9, 9⟩
def CLAMPING : Fld := ⟨0x074, 8, 8⟩
def PULLED : Fld := ⟨0x074, 7, 7⟩
def DUTY_WAIT : Fld := ⟨0x074, 6, 6⟩
def OVERLAP_DELAYED : Fld := ⟨0x074, 5, 5⟩
def PHASE : Fld := ⟨0x074, 2, 0⟩
def PULLINS : Fld := ⟨0x078, 31, 16⟩
def NO_PULLS : Fld := ⟨0x078, 15, 0⟩
def OVL_DELAYS : Fld := ⟨0x07C, 31, 16⟩
def DUTY_HITS : Fld := ⟨0x07C, 15, 0⟩
def TJ : Fld := ⟨0x080, 15, 0⟩
end Valve

/-! VHS page (R281). -/
namespace Vhs
def DUTY_MAX : Fld := ⟨0x040, 23, 16⟩
def WIN : Fld := ⟨0x040, 5, 0⟩
def PK_CAP : Fld := ⟨0x044, 15, 0⟩
def I_HS : Fld := ⟨0x048, 31, 16⟩
def V_HS : Fld := ⟨0x048, 15, 0⟩
def DUTY_NOW : Fld := ⟨0x04C, 31, 16⟩
def PK_NOW : Fld := ⟨0x04C, 15, 0⟩
def TJ : Fld := ⟨0x050, 31, 16⟩
def DUTY_WAIT : Fld := ⟨0x050, 5, 5⟩
def RAIL_UP : Fld := ⟨0x050, 4, 4⟩
def OWNER : Fld := ⟨0x050, 3, 3⟩
def PEAK : Fld := ⟨0x050, 2, 2⟩
def RAIL : Fld := ⟨0x050, 1, 1⟩
def ON : Fld := ⟨0x050, 0, 0⟩
end Vhs

/-! BOOST page (R282). -/
namespace Boost
def V_SET : Fld := ⟨0x040, 9, 0⟩
def V_C : Fld := ⟨0x044, 31, 16⟩
def I_IN : Fld := ⟨0x044, 15, 0⟩
def TJ : Fld := ⟨0x048, 31, 16⟩
def CLAMP : Fld := ⟨0x048, 4, 4⟩
def RECOVERING : Fld := ⟨0x048, 3, 3⟩
def BOOSTING : Fld := ⟨0x048, 2, 2⟩
def BYPASS : Fld := ⟨0x048, 1, 1⟩
def READY : Fld := ⟨0x048, 0, 0⟩
def E_REC : Fld := ⟨0x04C, 31, 0⟩
end Boost

/-! IN page (R292). -/
namespace Inp
def STATIC : Fld := ⟨0x040, 10, 10⟩
def WAKE : Fld := ⟨0x040, 9, 8⟩
def FAIL_STATE : Fld := ⟨0x040, 7, 6⟩
def CLEAN_EN : Fld := ⟨0x040, 5, 5⟩
def INVERT : Fld := ⟨0x040, 4, 4⟩
def NETWORK : Fld := ⟨0x040, 3, 3⟩
def CLASS : Fld := ⟨0x040, 0, 0⟩
def DEB_ON : Fld := ⟨0x044, 31, 24⟩
def DEB_OFF : Fld := ⟨0x044, 23, 16⟩
def SCAN_T : Fld := ⟨0x044, 7, 0⟩
def CLEAN_T : Fld := ⟨0x048, 31, 16⟩
def CLEAN_I : Fld := ⟨0x048, 7, 0⟩
def CT_MAX : Fld := ⟨0x04C, 31, 24⟩
def CT_MIN : Fld := ⟨0x04C, 23, 16⟩
def CHAT_HI : Fld := ⟨0x04C, 7, 0⟩
def LONG_T : Fld := ⟨0x050, 15, 0⟩
def VECTOR : Fld := ⟨0x054, 15, 11⟩
def CORE : Fld := ⟨0x054, 10, 8⟩
def IRQ_LONG : Fld := ⟨0x054, 2, 2⟩
def IRQ_REL : Fld := ⟨0x054, 1, 1⟩
def IRQ_PRESS : Fld := ⟨0x054, 0, 0⟩
def I_MEAS : Fld := ⟨0x058, 31, 16⟩
def V_PIN : Fld := ⟨0x058, 15, 0⟩
def WAKE_ARMED : Fld := ⟨0x05C, 8, 8⟩
def FAILED : Fld := ⟨0x05C, 7, 7⟩
def CLEANING : Fld := ⟨0x05C, 6, 6⟩
def COUNTING : Fld := ⟨0x05C, 5, 5⟩
def ACTIVE : Fld := ⟨0x05C, 4, 4⟩
def BAND : Fld := ⟨0x05C, 2, 0⟩
def CT_NOW : Fld := ⟨0x060, 31, 24⟩
def C_LAST : Fld := ⟨0x060, 23, 16⟩
def GOOD : Fld := ⟨0x060, 15, 8⟩
def PRESSES : Fld := ⟨0x064, 31, 16⟩
def RELEASES : Fld := ⟨0x064, 15, 0⟩
def LAST_EDGE : Fld := ⟨0x068, 31, 0⟩
def LONGS : Fld := ⟨0x06C, 31, 16⟩
def CT_STEPS : Fld := ⟨0x06C, 15, 0⟩
end Inp

/-! TOUCH page (R299). -/
namespace Touch
def WAKE : Fld := ⟨0x040, 3, 2⟩
def STUCK_EN : Fld := ⟨0x040, 1, 1⟩
def DEB : Fld := ⟨0x044, 15, 8⟩
def SCAN_T : Fld := ⟨0x044, 7, 0⟩
def TOUCH_TH : Fld := ⟨0x048, 31, 16⟩
def REL_TH : Fld := ⟨0x048, 15, 0⟩
def STUCK_T : Fld := ⟨0x04C, 31, 16⟩
def WK : Fld := ⟨0x04C, 4, 0⟩
def BDRIFT : Fld := ⟨0x050, 31, 16⟩
def BTAU : Fld := ⟨0x050, 3, 0⟩
def VECTOR : Fld := ⟨0x054, 15, 11⟩
def CORE : Fld := ⟨0x054, 10, 8⟩
def IRQ_STUCK : Fld := ⟨0x054, 2, 2⟩
def IRQ_REL : Fld := ⟨0x054, 1, 1⟩
def IRQ_TOUCH : Fld := ⟨0x054, 0, 0⟩
def RAW_D : Fld := ⟨0x058, 31, 16⟩
def RAW_G : Fld := ⟨0x058, 15, 0⟩
def BASE_D : Fld := ⟨0x05C, 31, 16⟩
def BASE_G : Fld := ⟨0x05C, 15, 0⟩
def DELTA_D : Fld := ⟨0x060, 31, 16⟩
def DELTA_G : Fld := ⟨0x060, 15, 0⟩
def BOUND : Fld := ⟨0x064, 3, 3⟩
def STUCK_HELD : Fld := ⟨0x064, 2, 2⟩
def WATER : Fld := ⟨0x064, 1, 1⟩
def TOUCHED : Fld := ⟨0x064, 0, 0⟩
def TOUCHES : Fld := ⟨0x068, 31, 16⟩
def RELEASES : Fld := ⟨0x068, 15, 0⟩
def STUCKS : Fld := ⟨0x06C, 31, 16⟩
def LAST_EDGE : Fld := ⟨0x070, 31, 0⟩
end Touch

/-! POLICY page (R323). -/
namespace Policy
def RESUME : Fld := ⟨0x040, 3, 3⟩
def SHED_EN : Fld := ⟨0x040, 2, 2⟩
def GFREEZE : Fld := ⟨0x040, 0, 0⟩
def RESUME_T : Fld := ⟨0x044, 31, 16⟩
def SLACK_T : Fld := ⟨0x044, 9, 0⟩
def ALIVE_S (i : Nat) : Fld := ⟨0x048 + 4 * i, 15, 0⟩
def LAST_S3 : Fld := ⟨0x058, 31, 16⟩
def LAST_S2 : Fld := ⟨0x058, 15, 0⟩
def LAST_S5 : Fld := ⟨0x05C, 31, 16⟩
def LAST_S4 : Fld := ⟨0x05C, 15, 0⟩
def RUNNING : Fld := ⟨0x060, 7, 4⟩
def SILENT : Fld := ⟨0x060, 3, 0⟩
def SILENCES : Fld := ⟨0x064, 31, 0⟩
def LOGSTEP2 : Fld := ⟨0x068, 31, 16⟩
def LOGSTEP1 : Fld := ⟨0x068, 15, 0⟩
def LOGSTEP4 : Fld := ⟨0x06C, 31, 16⟩
def LOGSTEP3 : Fld := ⟨0x06C, 15, 0⟩
def LOGSTEP6 : Fld := ⟨0x070, 31, 16⟩
def LOGSTEP5 : Fld := ⟨0x070, 15, 0⟩
def LOGSTEP8 : Fld := ⟨0x074, 31, 16⟩
def LOGSTEP7 : Fld := ⟨0x074, 15, 0⟩
def LOGSTEP10 : Fld := ⟨0x078, 31, 16⟩
def LOGSTEP9 : Fld := ⟨0x078, 15, 0⟩
def LOGSTEP11 : Fld := ⟨0x07C, 15, 0⟩
def ADAPT_LOGS : Fld := ⟨0x080, 31, 16⟩
def ADAPT_DROPS : Fld := ⟨0x080, 15, 0⟩
def LOGMAX : Fld := ⟨0x084, 7, 0⟩
def CEIL (i : Nat) : Fld := ⟨0x088 + 4 * i, 27, 24⟩
def TRIG_BP (i : Nat) : Fld := ⟨0x088 + 4 * i, 18, 18⟩
def TRIG_OC (i : Nat) : Fld := ⟨0x088 + 4 * i, 17, 17⟩
def TRIG_SAG (i : Nat) : Fld := ⟨0x088 + 4 * i, 16, 16⟩
def STEP_T (i : Nat) : Fld := ⟨0x088 + 4 * i, 15, 0⟩
def RESTORE_T (i : Nat) : Fld := ⟨0x098 + 4 * i, 15, 0⟩
def TRIGGERED : Fld := ⟨0x0A8, 19, 16⟩
def STAGE : Fld := ⟨0x0A8, 15, 0⟩
def RAISES : Fld := ⟨0x0AC, 31, 16⟩
def SHED_N : Fld := ⟨0x0AC, 8, 0⟩
def LOADED : Fld := ⟨0x0B0, 31, 31⟩
def STAGED : Fld := ⟨0x0B0, 30, 30⟩
def ERR_VALID : Fld := ⟨0x0B0, 24, 24⟩
def ERR_ENTRY : Fld := ⟨0x0B0, 23, 16⟩
def ENTRIES : Fld := ⟨0x0B0, 8, 0⟩
def TBL_W0 : Fld := ⟨0x0B4, 31, 0⟩
def TBL_W1 : Fld := ⟨0x0B8, 31, 0⟩
def SHED : Fld := ⟨0x0BC, 31, 31⟩
def WITHHELD : Fld := ⟨0x0BC, 30, 30⟩
def SEL : Fld := ⟨0x0C0, 15, 8⟩
def OP : Fld := ⟨0x0C0, 1, 0⟩
end Policy

/-! LAY page (R341). -/
namespace Lay
def HALT_FLT : Fld := ⟨0x040, 15, 0⟩
def VECTOR : Fld := ⟨0x044, 15, 11⟩
def CORE : Fld := ⟨0x044, 10, 8⟩
def OVF : Fld := ⟨0x048, 31, 31⟩
def VALID : Fld := ⟨0x048, 30, 30⟩
def BREAK : Fld := ⟨0x048, 29, 29⟩
def BIT : Fld := ⟨0x048, 4, 0⟩
def UNIT : Fld := ⟨0x04C, 15, 0⟩
def FIRST_T_LO : Fld := ⟨0x050, 31, 0⟩
def FIRST_T_HI : Fld := ⟨0x054, 15, 0⟩
def SNUBBED : Fld := ⟨0x058, 15, 0⟩
def SOFT : Fld := ⟨0x05C, 15, 0⟩
def SNUB_ALL : Fld := ⟨0x060, 5, 5⟩
def BREAK_HELD : Fld := ⟨0x060, 4, 4⟩
def FAULTN_PIN : Fld := ⟨0x060, 3, 3⟩
def FAULTN_ON : Fld := ⟨0x060, 2, 2⟩
def HALTED : Fld := ⟨0x060, 1, 1⟩
def HALT_LOW : Fld := ⟨0x060, 0, 0⟩
def ASSERTS : Fld := ⟨0x064, 31, 16⟩
def BREAKS : Fld := ⟨0x064, 15, 0⟩
def VALID_68 : Fld := ⟨0x068, 31, 31⟩
def BIT_68 : Fld := ⟨0x068, 20, 16⟩
def UNIT_68 : Fld := ⟨0x068, 15, 0⟩
def EN (i : Nat) : Fld := ⟨0x06C + 4 * i, 31, 31⟩
def GROUP (i : Nat) : Fld := ⟨0x06C + 4 * i, 27, 24⟩
def CTRL (i : Nat) : Fld := ⟨0x06C + 4 * i, 10, 8⟩
def OBJ (i : Nat) : Fld := ⟨0x06C + 4 * i, 6, 0⟩
def SEL : Fld := ⟨0x074, 8, 0⟩
def REACT_LO : Fld := ⟨0x078, 31, 0⟩
def REACT_HI : Fld := ⟨0x07C, 31, 0⟩
def TGROUP : Fld := ⟨0x080, 19, 16⟩
def MEMBER : Fld := ⟨0x080, 15, 0⟩
def ENTRY_OP : Fld := ⟨0x084, 1, 0⟩
end Lay

/-! RECKON page (R362). -/
namespace Reckon
def COUNT_LO : Fld := ⟨0x040, 31, 0⟩
def COUNT_HI : Fld := ⟨0x044, 15, 0⟩
def CAL : Fld := ⟨0x048, 31, 0⟩
def PTP_LOCK : Fld := ⟨0x04C, 5, 5⟩
def UTC_VALID : Fld := ⟨0x04C, 3, 3⟩
def GAP : Fld := ⟨0x04C, 2, 2⟩
def DEGRADED : Fld := ⟨0x04C, 1, 1⟩
def XTAL_OK : Fld := ⟨0x04C, 0, 0⟩
def UTC_S : Fld := ⟨0x050, 31, 0⟩
def UTC_NS : Fld := ⟨0x054, 29, 0⟩
def STEPS : Fld := ⟨0x058, 31, 16⟩
def EPOCH : Fld := ⟨0x058, 7, 0⟩
def SRC : Fld := ⟨0x05C, 0, 0⟩
def SET_S : Fld := ⟨0x060, 31, 0⟩
def SET_NS : Fld := ⟨0x064, 29, 0⟩
def SET : Fld := ⟨0x068, 0, 0⟩
end Reckon

/-! TLOG page (R364). -/
namespace Tlog
def BASE : Fld := ⟨0x040, 31, 0⟩
def HEAD_SEQ : Fld := ⟨0x044, 31, 0⟩
def OLDEST_SEQ : Fld := ⟨0x048, 31, 0⟩
def COUNT : Fld := ⟨0x04C, 12, 0⟩
def APP_ARG : Fld := ⟨0x050, 31, 16⟩
def APP_UNIT : Fld := ⟨0x050, 15, 0⟩
def APP_D0 : Fld := ⟨0x054, 31, 0⟩
def APP_D1 : Fld := ⟨0x058, 31, 0⟩
def APP_DROPS : Fld := ⟨0x05C, 31, 16⟩
def APPMAX : Fld := ⟨0x05C, 7, 0⟩
def SEL : Fld := ⟨0x060, 31, 0⟩
def OP : Fld := ⟨0x064, 1, 0⟩
def RD_VALID : Fld := ⟨0x068, 0, 0⟩
def RD (i : Nat) : Fld := ⟨0x070 + 4 * i, 31, 0⟩
end Tlog

/-! LOGLINE page (R365). -/
namespace Logline
def KINDS : Fld := ⟨0x040, 15, 1⟩
def HEAD : Fld := ⟨0x044, 14, 0⟩
def TAIL : Fld := ⟨0x048, 14, 0⟩
def HEAD_SEQ : Fld := ⟨0x04C, 31, 0⟩
def TAIL_SEQ : Fld := ⟨0x050, 31, 0⟩
def OPSEC : Fld := ⟨0x054, 31, 0⟩
def PCYC : Fld := ⟨0x058, 31, 0⟩
def QDEPTH : Fld := ⟨0x05C, 31, 16⟩
def DROPS : Fld := ⟨0x05C, 15, 0⟩
def BAD : Fld := ⟨0x060, 31, 16⟩
end Logline

/-! STRANDCTL page (R388). -/
namespace Strandctl
def AUTOSTART : Fld := ⟨0x040, 5, 2⟩
def RUNNING : Fld := ⟨0x044, 5, 0⟩
def CORE : Fld := ⟨0x048, 10, 8⟩
def VECTOR : Fld := ⟨0x048, 4, 0⟩
def C_OP (i : Nat) : Fld := ⟨0x100 + 64 * i, 2, 0⟩
def C_LOAD_ERR (i : Nat) : Fld := ⟨0x104 + 64 * i, 11, 8⟩
def C_STATE (i : Nat) : Fld := ⟨0x104 + 64 * i, 2, 0⟩
def C_TWIN_MAP (i : Nat) : Fld := ⟨0x108 + 64 * i, 15, 0⟩
def C_VBAR (i : Nat) : Fld := ⟨0x10C + 64 * i, 31, 0⟩
def C_DSTK_LO (i : Nat) : Fld := ⟨0x110 + 64 * i, 31, 0⟩
def C_DSTK_HI (i : Nat) : Fld := ⟨0x114 + 64 * i, 31, 0⟩
def C_IRQ_EN (i : Nat) : Fld := ⟨0x118 + 64 * i, 31, 0⟩
def C_IRQ_PEND (i : Nat) : Fld := ⟨0x11C + 64 * i, 31, 0⟩
def C_TRAP_INFO (i : Nat) : Fld := ⟨0x120 + 64 * i, 31, 0⟩
def C_FADDR (i : Nat) : Fld := ⟨0x124 + 64 * i, 31, 0⟩
def C_TRAPS (i : Nat) : Fld := ⟨0x128 + 64 * i, 31, 16⟩
def C_DEFER_MAX (i : Nat) : Fld := ⟨0x128 + 64 * i, 15, 0⟩
def C_PC (i : Nat) : Fld := ⟨0x12C + 64 * i, 31, 0⟩
def C_IMG_VER (i : Nat) : Fld := ⟨0x130 + 64 * i, 31, 0⟩
def C_ECC_CORR (i : Nat) : Fld := ⟨0x134 + 64 * i, 31, 16⟩
def C_ECC_UNCORR (i : Nat) : Fld := ⟨0x134 + 64 * i, 15, 0⟩
end Strandctl

/-! CAN page (R423). -/
namespace Can
def AUTO_RECOVER : Fld := ⟨0x040, 31, 31⟩
def RESTRICTED : Fld := ⟨0x040, 30, 30⟩
def PN_EN : Fld := ⟨0x040, 29, 29⟩
def WAKE_EN : Fld := ⟨0x040, 28, 28⟩
def TERM : Fld := ⟨0x040, 27, 26⟩
def J1939_SA : Fld := ⟨0x040, 23, 16⟩
def FD_EN : Fld := ⟨0x040, 0, 0⟩
def NSJW : Fld := ⟨0x044, 31, 24⟩
def NTSEG2 : Fld := ⟨0x044, 23, 16⟩
def NTSEG1 : Fld := ⟨0x044, 15, 8⟩
def NBRP : Fld := ⟨0x044, 7, 0⟩
def TDCO : Fld := ⟨0x048, 31, 24⟩
def DSJW : Fld := ⟨0x048, 23, 20⟩
def DTSEG2 : Fld := ⟨0x048, 19, 16⟩
def DTSEG1 : Fld := ⟨0x048, 15, 8⟩
def DBRP : Fld := ⟨0x048, 7, 0⟩
def RP : Fld := ⟨0x04C, 16, 16⟩
def REC : Fld := ⟨0x04C, 15, 8⟩
def TEC : Fld := ⟨0x04C, 7, 0⟩
def LEC : Fld := ⟨0x050, 10, 8⟩
def ALONE : Fld := ⟨0x050, 7, 7⟩
def BUS_OFF : Fld := ⟨0x050, 6, 6⟩
def ERR_PASSIVE : Fld := ⟨0x050, 5, 5⟩
def ERR_WARN : Fld := ⟨0x050, 4, 4⟩
def RECOVERING : Fld := ⟨0x050, 3, 3⟩
def TX : Fld := ⟨0x050, 2, 2⟩
def RX : Fld := ⟨0x050, 1, 1⟩
def SYNC : Fld := ⟨0x050, 0, 0⟩
def RECOVER : Fld := ⟨0x054, 0, 0⟩
def FRAMES_TX : Fld := ⟨0x058, 31, 0⟩
def FRAMES_RX : Fld := ⟨0x05C, 31, 0⟩
def BUSOFFS : Fld := ⟨0x060, 31, 16⟩
def OVERRUNS : Fld := ⟨0x060, 15, 0⟩
def OBJ_SEL : Fld := ⟨0x064, 6, 0⟩
def EN : Fld := ⟨0x068, 31, 31⟩
def DIR : Fld := ⟨0x068, 30, 30⟩
def IDE : Fld := ⟨0x068, 29, 29⟩
def FDF : Fld := ⟨0x068, 28, 28⟩
def BRS : Fld := ⟨0x068, 27, 27⟩
def RTR : Fld := ⟨0x068, 26, 26⟩
def ALONE_POL : Fld := ⟨0x068, 25, 25⟩
def J1939 : Fld := ⟨0x068, 24, 24⟩
def OVW : Fld := ⟨0x068, 23, 23⟩
def IRQ : Fld := ⟨0x068, 22, 22⟩
def VECTOR : Fld := ⟨0x068, 21, 17⟩
def CORE : Fld := ⟨0x068, 16, 14⟩
def DLC : Fld := ⟨0x068, 3, 0⟩
def OBJ_ID : Fld := ⟨0x06C, 28, 0⟩
def OBJ_MASK : Fld := ⟨0x070, 28, 0⟩
def STATUS : Fld := ⟨0x074, 31, 24⟩
def NEW : Fld := ⟨0x074, 0, 0⟩
def OBJ_TS : Fld := ⟨0x078, 31, 0⟩
def OBJ_OP : Fld := ⟨0x07C, 2, 0⟩
def PEND (i : Nat) : Fld := ⟨0x080 + 4 * i, 31, 0⟩
def NEWMAP (i : Nat) : Fld := ⟨0x090 + 4 * i, 31, 0⟩
def PN_IDE : Fld := ⟨0x0A0, 31, 31⟩
def PN_ID : Fld := ⟨0x0A0, 28, 0⟩
def PN_MASK : Fld := ⟨0x0A4, 28, 0⟩
def FEC : Fld := ⟨0x0A8, 15, 10⟩
def PN_DLCONLY : Fld := ⟨0x0A8, 8, 8⟩
def PN_DLC : Fld := ⟨0x0A8, 3, 0⟩
def PN_DATA (i : Nat) : Fld := ⟨0x0AC + 4 * i, 31, 0⟩
def DATA (i : Nat) : Fld := ⟨0x100 + 4 * i, 31, 0⟩
end Can

/-! LIN page (R427). -/
namespace Lin
def WAKE_EN : Fld := ⟨0x040, 19, 19⟩
def TERM : Fld := ⟨0x040, 18, 18⟩
def VSUP : Fld := ⟨0x040, 17, 17⟩
def ROLE : Fld := ⟨0x040, 16, 16⟩
def BAUD : Fld := ⟨0x040, 15, 0⟩
def SCHED_LEN : Fld := ⟨0x044, 6, 0⟩
def FRM_SEL : Fld := ⟨0x048, 5, 0⟩
def EN : Fld := ⟨0x04C, 31, 31⟩
def TYPE : Fld := ⟨0x04C, 30, 29⟩
def DIR : Fld := ⟨0x04C, 28, 28⟩
def CHK : Fld := ⟨0x04C, 27, 27⟩
def ASSOC : Fld := ⟨0x04C, 26, 26⟩
def SLOT_T : Fld := ⟨0x04C, 23, 16⟩
def LEN : Fld := ⟨0x04C, 11, 8⟩
def ID : Fld := ⟨0x04C, 5, 0⟩
def FRM_DATA (i : Nat) : Fld := ⟨0x050 + 4 * i, 31, 0⟩
def FRM_STAT : Fld := ⟨0x058, 2, 0⟩
def FRM_OP : Fld := ⟨0x05C, 1, 0⟩
def OP : Fld := ⟨0x060, 2, 0⟩
def ERRORS : Fld := ⟨0x064, 31, 16⟩
def ASLEEP : Fld := ⟨0x064, 1, 1⟩
def RUNNING : Fld := ⟨0x064, 0, 0⟩
end Lin

/-! ETH page (R449). -/
namespace Eth
def BODY_VID : Fld := ⟨0x040, 27, 16⟩
def IP : Fld := ⟨0x044, 31, 0⟩
def LINK : Fld := ⟨0x048, 13, 8⟩
def EN : Fld := ⟨0x048, 5, 0⟩
def OTHER_MAX : Fld := ⟨0x04C, 15, 0⟩
def DOMAIN : Fld := ⟨0x050, 15, 8⟩
def LAN : Fld := ⟨0x050, 1, 1⟩
def PTP_EN : Fld := ⟨0x050, 0, 0⟩
def OFFSET : Fld := ⟨0x054, 31, 0⟩
def HOPS : Fld := ⟨0x058, 23, 16⟩
def LOCK : Fld := ⟨0x058, 0, 0⟩
def DUP_DISC : Fld := ⟨0x05C, 31, 16⟩
def POLICED : Fld := ⟨0x05C, 15, 0⟩
def ETB_TOPO : Fld := ⟨0x060, 31, 0⟩
def OPTRN_TOPO : Fld := ⟨0x064, 31, 0⟩
def TEL_SEL : Fld := ⟨0x068, 7, 0⟩
def COMID : Fld := ⟨0x06C, 31, 0⟩
def DEST : Fld := ⟨0x070, 31, 0⟩
def EN_74 : Fld := ⟨0x074, 31, 31⟩
def DIR : Fld := ⟨0x074, 30, 30⟩
def TMO_ACT : Fld := ⟨0x074, 29, 29⟩
def LAN_B : Fld := ⟨0x074, 28, 28⟩
def TIMEOUT : Fld := ⟨0x074, 27, 27⟩
def CYCLE : Fld := ⟨0x074, 26, 11⟩
def LEN : Fld := ⟨0x074, 10, 0⟩
def TMO : Fld := ⟨0x078, 15, 0⟩
def TEL_OP : Fld := ⟨0x07C, 1, 0⟩
end Eth

/-! HITCH page (R450). -/
namespace Hitch
def SEL : Fld := ⟨0x040, 13, 0⟩
def W (i : Nat) : Fld := ⟨0x044 + 4 * i, 31, 0⟩
def W7 : Fld := ⟨0x060, 31, 0⟩
def OP : Fld := ⟨0x064, 1, 0⟩
def WATCHED : Fld := ⟨0x068, 31, 16⟩
def ENTRIES : Fld := ⟨0x068, 15, 0⟩
def LOOKUPS : Fld := ⟨0x06C, 31, 0⟩
def DROPS : Fld := ⟨0x070, 31, 16⟩
def REJECTS : Fld := ⟨0x070, 15, 0⟩
def LAST_REJ : Fld := ⟨0x074, 13, 0⟩
end Hitch

/-! FID page (R451). -/
namespace Fid
def PORT : Fld := ⟨0x040, 15, 0⟩
def TMO : Fld := ⟨0x044, 31, 16⟩
def HELLO_T : Fld := ⟨0x044, 15, 0⟩
def REPORT_T : Fld := ⟨0x048, 31, 16⟩
def RETRY : Fld := ⟨0x048, 2, 0⟩
def PEER_SEL : Fld := ⟨0x04C, 7, 0⟩
def EN : Fld := ⟨0x050, 31, 31⟩
def WR : Fld := ⟨0x050, 30, 30⟩
def SLOT : Fld := ⟨0x050, 29, 24⟩
def PSTATE : Fld := ⟨0x050, 17, 16⟩
def DEV : Fld := ⟨0x050, 15, 0⟩
def PEER_IP : Fld := ⟨0x054, 31, 0⟩
def PROXY_SEL : Fld := ⟨0x058, 12, 0⟩
def BIND : Fld := ⟨0x05C, 31, 31⟩
def CACHE_LEN : Fld := ⟨0x05C, 30, 24⟩
def PEER : Fld := ⟨0x05C, 23, 16⟩
def REMOTE : Fld := ⟨0x05C, 15, 0⟩
def CACHE_OFS : Fld := ⟨0x060, 11, 0⟩
def OP : Fld := ⟨0x064, 2, 0⟩
def AUTH_FAIL : Fld := ⟨0x068, 31, 16⟩
def REPLAYS : Fld := ⟨0x068, 15, 0⟩
def TX_MSGS : Fld := ⟨0x06C, 31, 0⟩
def RX_MSGS : Fld := ⟨0x070, 31, 0⟩
end Fid

/-! SPLICE page (R468). -/
namespace Splice
def PEER_DEV : Fld := ⟨0x040, 31, 16⟩
def SLOT : Fld := ⟨0x040, 13, 8⟩
def ROLE_PREF : Fld := ⟨0x040, 5, 4⟩
def BLIND : Fld := ⟨0x040, 3, 3⟩
def EDGE_DLY : Fld := ⟨0x044, 31, 24⟩
def CKPT_T : Fld := ⟨0x044, 23, 16⟩
def SH_LEN : Fld := ⟨0x044, 9, 0⟩
def SH_BASE : Fld := ⟨0x048, 31, 0⟩
def PSTATE : Fld := ⟨0x04C, 31, 28⟩
def ROLE : Fld := ⟨0x04C, 27, 26⟩
def LINK : Fld := ⟨0x04C, 25, 25⟩
def KEYED : Fld := ⟨0x04C, 24, 24⟩
def PARTNER_FIT : Fld := ⟨0x04C, 23, 23⟩
def CKPT_OK : Fld := ⟨0x04C, 22, 22⟩
def BACKBONE : Fld := ⟨0x04C, 21, 21⟩
def STEP_CORES : Fld := ⟨0x04C, 15, 12⟩
def COLD_CORES : Fld := ⟨0x04C, 11, 8⟩
def GSEL : Fld := ⟨0x050, 6, 0⟩
def EN : Fld := ⟨0x054, 31, 31⟩
def MODE : Fld := ⟨0x054, 30, 30⟩
def KIND : Fld := ⟨0x054, 29, 28⟩
def CTR_W : Fld := ⟨0x054, 24, 21⟩
def UNIT : Fld := ⟨0x054, 15, 0⟩
def CTR_POS : Fld := ⟨0x058, 8, 0⟩
def GOP : Fld := ⟨0x05C, 1, 0⟩
def INTENT_FIX : Fld := ⟨0x060, 31, 16⟩
def AUTH_FAILS : Fld := ⟨0x060, 15, 0⟩
def CKPT_SENT : Fld := ⟨0x064, 31, 16⟩
def CKPT_SKIPS : Fld := ⟨0x064, 15, 0⟩
def TAKEOVERS : Fld := ⟨0x068, 31, 16⟩
def LAST_GAP : Fld := ⟨0x068, 15, 0⟩
def DLY : Fld := ⟨0x06C, 31, 16⟩
def OFFSET : Fld := ⟨0x06C, 15, 0⟩
def EDGE_LATE : Fld := ⟨0x070, 31, 16⟩
def PEER_HFLAGS : Fld := ⟨0x070, 3, 0⟩
end Splice

/-! PWR page (R484). -/
namespace Pwr
def TARGET : Fld := ⟨0x040, 17, 16⟩
def WAKE_LEAD : Fld := ⟨0x040, 15, 0⟩
def OP : Fld := ⟨0x044, 1, 0⟩
def DOZE_REQ : Fld := ⟨0x048, 5, 2⟩
def PSTATE : Fld := ⟨0x04C, 31, 28⟩
def LAST_SLEEP : Fld := ⟨0x04C, 27, 26⟩
def ASSIST : Fld := ⟨0x04C, 25, 24⟩
def BIAS : Fld := ⟨0x04C, 23, 22⟩
def SLEPT_BIAS : Fld := ⟨0x04C, 21, 20⟩
def SLEPT_ASSIST : Fld := ⟨0x04C, 19, 18⟩
def READY : Fld := ⟨0x04C, 17, 17⟩
def DOZING : Fld := ⟨0x04C, 5, 2⟩
def VALID : Fld := ⟨0x050, 31, 31⟩
def TIMEOUT : Fld := ⟨0x050, 30, 30⟩
def WAKE : Fld := ⟨0x050, 29, 29⟩
def UNIT : Fld := ⟨0x050, 15, 0⟩
def ENTRY : Fld := ⟨0x054, 31, 31⟩
def CODE : Fld := ⟨0x054, 23, 16⟩
def UNIT_54 : Fld := ⟨0x054, 15, 0⟩
def WAKE_SEEN : Fld := ⟨0x058, 11, 0⟩
def WAKES : Fld := ⟨0x05C, 31, 16⟩
def ROLLBACKS : Fld := ⟨0x05C, 15, 0⟩
def FALSE_WAKES : Fld := ⟨0x060, 31, 16⟩
def FW_T : Fld := ⟨0x060, 15, 0⟩
def NM_EN : Fld := ⟨0x064, 31, 31⟩
def CTRL : Fld := ⟨0x064, 30, 28⟩
def NODE : Fld := ⟨0x064, 21, 16⟩
def NM_BASE : Fld := ⟨0x064, 10, 0⟩
def T_HOP : Fld := ⟨0x068, 31, 16⟩
def T_GRACE : Fld := ⟨0x068, 15, 0⟩
def SKIP_T : Fld := ⟨0x06C, 31, 16⟩
def LOST_T : Fld := ⟨0x06C, 15, 0⟩
def MEMBERS_LO : Fld := ⟨0x070, 31, 0⟩
def MEMBERS_HI : Fld := ⟨0x074, 15, 0⟩
def CONSENT : Fld := ⟨0x078, 0, 0⟩
def NMSTATE : Fld := ⟨0x07C, 31, 28⟩
def ANCHOR : Fld := ⟨0x07C, 27, 27⟩
def ROUNDS : Fld := ⟨0x07C, 26, 25⟩
def SUCC : Fld := ⟨0x07C, 21, 16⟩
def SKIPS : Fld := ⟨0x07C, 15, 0⟩
def SEEN_LO : Fld := ⟨0x080, 31, 0⟩
def SEEN_HI : Fld := ⟨0x084, 15, 0⟩
def RACES : Fld := ⟨0x088, 31, 16⟩
end Pwr

/-! CLK page (R485). -/
namespace Clk
def TRIM_EN : Fld := ⟨0x040, 2, 2⟩
def CORE_SRC : Fld := ⟨0x040, 1, 1⟩
def PLL_EN : Fld := ⟨0x040, 0, 0⟩
def HF_TRIM : Fld := ⟨0x044, 31, 16⟩
def ON_PLL : Fld := ⟨0x044, 2, 2⟩
def TRIMMED : Fld := ⟨0x044, 1, 1⟩
def LOCKED : Fld := ⟨0x044, 0, 0⟩
def LOCK_T : Fld := ⟨0x048, 31, 16⟩
def UNLOCKS : Fld := ⟨0x048, 15, 0⟩
end Clk

/-! WATCHSEQ page (R485). -/
namespace Watchseq
def LEN : Fld := ⟨0x040, 6, 0⟩
def PERIOD : Fld := ⟨0x044, 31, 0⟩
def I_EST : Fld := ⟨0x048, 31, 16⟩
def PASSES : Fld := ⟨0x048, 15, 0⟩
def STEP (i : Nat) : Fld := ⟨0x100 + 4 * i, 31, 0⟩
end Watchseq

/-! LOCKER page (R508). -/
namespace Locker
def TAMPER : Fld := ⟨0x040, 13, 0⟩
def PROVISIONED : Fld := ⟨0x044, 31, 31⟩
def ERROR : Fld := ⟨0x044, 30, 30⟩
def DRBG_OK : Fld := ⟨0x044, 29, 29⟩
def SLIPLINE : Fld := ⟨0x044, 28, 28⟩
def TAMPER_NOW : Fld := ⟨0x044, 27, 21⟩
def ERASES : Fld := ⟨0x044, 15, 0⟩
def UID (i : Nat) : Fld := ⟨0x048 + 4 * i, 31, 0⟩
def IDCERT_ADDR : Fld := ⟨0x050, 31, 0⟩
def IDCERT_LEN : Fld := ⟨0x054, 15, 0⟩
def SLOT_SEL : Fld := ⟨0x058, 5, 0⟩
def SLOT_ATTR : Fld := ⟨0x05C, 31, 0⟩
def SLOT_OP : Fld := ⟨0x060, 1, 0⟩
def DENIALS : Fld := ⟨0x064, 31, 16⟩
def SVC_ERRS : Fld := ⟨0x064, 15, 0⟩
def LAST_TAMPER : Fld := ⟨0x068, 18, 16⟩
def SLOTS_USED : Fld := ⟨0x068, 6, 0⟩
def LAST_TAMPER_T : Fld := ⟨0x06C, 31, 0⟩
def M_SLOT2 (i : Nat) : Fld := ⟨0x100 + 32 * i, 29, 24⟩
def M_SLOT (i : Nat) : Fld := ⟨0x100 + 32 * i, 21, 16⟩
def M_SVC (i : Nat) : Fld := ⟨0x100 + 32 * i, 3, 0⟩
def M_SRC (i : Nat) : Fld := ⟨0x104 + 32 * i, 31, 0⟩
def M_DST (i : Nat) : Fld := ⟨0x108 + 32 * i, 31, 0⟩
def M_AAD (i : Nat) : Fld := ⟨0x10C + 32 * i, 31, 16⟩
def M_LEN (i : Nat) : Fld := ⟨0x10C + 32 * i, 15, 0⟩
def M_ARG (i : Nat) : Fld := ⟨0x110 + 32 * i, 31, 0⟩
def M_BUSY (i : Nat) : Fld := ⟨0x114 + 32 * i, 31, 31⟩
def M_DONE (i : Nat) : Fld := ⟨0x114 + 32 * i, 30, 30⟩
def M_STATUS (i : Nat) : Fld := ⟨0x114 + 32 * i, 23, 16⟩
def M_OUT_LEN (i : Nat) : Fld := ⟨0x114 + 32 * i, 15, 0⟩
def M_VECTOR (i : Nat) : Fld := ⟨0x118 + 32 * i, 4, 0⟩
def M_IRQ (i : Nat) : Fld := ⟨0x11C + 32 * i, 0, 0⟩
end Locker

/-! TETHER page (R524). -/
namespace Tether
def PRELOAD : Fld := ⟨0x040, 26, 26⟩
def BAND : Fld := ⟨0x040, 25, 24⟩
def ZONE : Fld := ⟨0x040, 23, 18⟩
def PARK_ANT : Fld := ⟨0x040, 17, 12⟩
def AUTOREQ : Fld := ⟨0x040, 11, 11⟩
def ROUNDS : Fld := ⟨0x040, 10, 8⟩
def DRIVE : Fld := ⟨0x040, 7, 0⟩
def LOCK_T : Fld := ⟨0x044, 31, 24⟩
def PRES_T : Fld := ⟨0x044, 15, 0⟩
def ABSENT_T : Fld := ⟨0x048, 31, 16⟩
def VCODE : Fld := ⟨0x048, 15, 0⟩
def TOKSLOT : Fld := ⟨0x04C, 29, 24⟩
def RELSLOT : Fld := ⟨0x04C, 21, 16⟩
def HANDLE : Fld := ⟨0x04C, 15, 0⟩
def EN (i : Nat) : Fld := ⟨0x050 + 4 * i, 31, 31⟩
def CTRL (i : Nat) : Fld := ⟨0x050 + 4 * i, 10, 8⟩
def OBJ (i : Nat) : Fld := ⟨0x050 + 4 * i, 6, 0⟩
def LAST_OUT : Fld := ⟨0x058, 31, 28⟩
def REL_TOK : Fld := ⟨0x058, 27, 24⟩
def FAILS : Fld := ⟨0x058, 18, 16⟩
def PARKED : Fld := ⟨0x058, 5, 5⟩
def JAM : Fld := ⟨0x058, 4, 4⟩
def LOCKOUT : Fld := ⟨0x058, 3, 3⟩
def ROUND : Fld := ⟨0x058, 2, 2⟩
def RELEASED : Fld := ⟨0x058, 1, 1⟩
def REQ : Fld := ⟨0x058, 0, 0⟩
def RCTR (i : Nat) : Fld := ⟨0x05C + 4 * i, 31, 0⟩
def PERIOD : Fld := ⟨0x064, 31, 16⟩
def LOCK_LEFT : Fld := ⟨0x064, 15, 0⟩
def ROUNDS_N : Fld := ⟨0x068, 31, 16⟩
def JAMS : Fld := ⟨0x068, 15, 0⟩
def FAILED_N : Fld := ⟨0x06C, 31, 16⟩
def LOCKOUTS : Fld := ⟨0x06C, 15, 0⟩
def OP : Fld := ⟨0x070, 1, 0⟩
def TOK_SEL : Fld := ⟨0x074, 3, 0⟩
def TOK_ID : Fld := ⟨0x078, 31, 0⟩
def EN_7C : Fld := ⟨0x07C, 31, 31⟩
def LAST_CNT : Fld := ⟨0x080, 31, 0⟩
def TOK_OP : Fld := ⟨0x084, 1, 0⟩
def ANT_SHORT : Fld := ⟨0x088, 13, 8⟩
def ANT_OPEN : Fld := ⟨0x088, 5, 0⟩
end Tether

/-- Layout of the DEV page (R88). -/
def layoutDev : List RegDef := [
  ⟨0x040, 1, 4, false, [⟨15, 0, .rw, 0, .any⟩]⟩,
  ⟨0x044, 1, 4, false, [⟨7, 0, .ro, 0, .any⟩]⟩,
  ⟨0x048, 1, 4, false, [⟨31, 16, .ro, 0, .any⟩, ⟨15, 0, .ro, 0, .any⟩]⟩,
  ⟨0x04C, 1, 4, false, [⟨31, 0, .ro, 0, .any⟩]⟩,
  ⟨0x050, 1, 4, false, [⟨31, 31, .ro, 0, .any⟩, ⟨27, 16, .ro, 0, .any⟩, ⟨15, 0, .ro, 0, .any⟩]⟩]

/-- Layout of the Bight registers (R82). -/
def layoutBight : List RegDef := [
  ⟨0xF00, 1, 4, false, [⟨23, 16, .ro, 0, .any⟩, ⟨15, 0, .ro, 0, .any⟩]⟩,
  ⟨0xF04, 1, 4, true, [⟨15, 0, .rw, 0, .any⟩]⟩,
  ⟨0xF08, 1, 4, false, [⟨31, 31, .ro, 0, .any⟩, ⟨15, 0, .ro, 0, .any⟩]⟩,
  ⟨0xF0C, 1, 4, false, [⟨31, 31, .ro, 0, .any⟩, ⟨15, 0, .ro, 0, .any⟩]⟩,
  ⟨0xF10, 1, 4, false, [⟨15, 0, .ro, 0, .any⟩]⟩]

/-- Layout of the CAP page (R112, R116), part 1. -/
def layoutCap1 : List RegDef := [
  ⟨0x040, 1, 4, false, [⟨11, 10, .rw, 0, .max 2⟩, ⟨9, 9, .rw, 0, .any⟩, ⟨8, 8, .rw, 0, .any⟩, ⟨5, 4, .rw, 0, .any⟩, ⟨2, 0, .rw, 0, .max 5⟩]⟩,
  ⟨0x044, 1, 4, false, [⟨31, 0, .rws, 32768, .any⟩]⟩,
  ⟨0x048, 1, 4, false, [⟨31, 0, .rws, 0, .any⟩]⟩,
  ⟨0x04C, 1, 4, false, [⟨31, 0, .rws, 0, .any⟩]⟩,
  ⟨0x050, 1, 4, false, [⟨31, 0, .rws, 0, .any⟩]⟩,
  ⟨0x054, 1, 4, false, [⟨15, 0, .rws, 0, .any⟩]⟩,
  ⟨0x058, 1, 4, false, [⟨31, 0, .ro, 0, .any⟩]⟩,
  ⟨0x05C, 1, 4, false, [⟨31, 0, .wo, 0, .any⟩]⟩,
  ⟨0x060, 1, 4, false, [⟨31, 0, .wo, 0, .any⟩]⟩,
  ⟨0x064, 1, 4, false, [⟨31, 0, .ro, 0, .any⟩]⟩,
  ⟨0x068, 1, 4, false, [⟨8, 8, .ro, 0, .any⟩, ⟨6, 6, .w1c, 0, .any⟩, ⟨5, 5, .ro, 0, .any⟩, ⟨4, 4, .ro, 0, .any⟩, ⟨3, 3, .ro, 0, .any⟩, ⟨2, 2, .ro, 0, .max 2⟩, ⟨1, 1, .ro, 0, .any⟩, ⟨0, 0, .ro, 0, .any⟩]⟩,
  ⟨0x06C, 1, 4, false, [⟨31, 0, .ro, 0, .any⟩]⟩,
  ⟨0x070, 1, 4, false, [⟨23, 16, .rw, 5, .any⟩, ⟨15, 0, .rw, 500, .any⟩]⟩,
  ⟨0x074, 1, 4, false, [⟨31, 0, .rw, 1024, .any⟩]⟩,
  ⟨0x078, 1, 4, false, [⟨31, 16, .ro, 0, .any⟩, ⟨15, 0, .ro, 0, .any⟩]⟩,
  ⟨0x07C, 1, 4, false, [⟨31, 0, .ro, 0, .any⟩]⟩,
  ⟨0x080, 1, 4, true, [⟨11, 0, .rw, 0, .any⟩]⟩,
  ⟨0x084, 1, 4, true, [⟨31, 0, .rw, 0, .any⟩]⟩,
  ⟨0x088, 1, 4, true, [⟨31, 31, .ro, 0, .any⟩, ⟨30, 30, .rw, 0, .any⟩, ⟨29, 29, .rw, 0, .any⟩, ⟨23, 20, .rw, 0, .max 4⟩, ⟨18, 16, .ro, 0, .any⟩, ⟨15, 0, .rw, 0, .any⟩]⟩,
  ⟨0x08C, 1, 4, true, [⟨31, 0, .rw, 0, .any⟩]⟩,
  ⟨0x090, 1, 4, true, [⟨31, 24, .ro, 0, .any⟩, ⟨15, 0, .rw, 0, .any⟩]⟩,
  ⟨0x094, 1, 4, false, [⟨1, 0, .wo, 0, .any⟩]⟩,
  ⟨0x098, 1, 4, false, [⟨31, 31, .ro, 0, .any⟩, ⟨11, 0, .ro, 0, .any⟩]⟩,
  ⟨0x09C, 1, 4, false, [⟨28, 16, .ro, 4096, .any⟩, ⟨12, 0, .ro, 0, .any⟩]⟩]

/-- Layout of the CAP page (R112, R116), part 2. -/
def layoutCap2 : List RegDef := [
  ⟨0x100, 8, 32, false, [⟨31, 16, .rw, 0, .any⟩, ⟨15, 0, .rw, 65535, .any⟩]⟩,
  ⟨0x104, 8, 32, false, [⟨31, 20, .rw, 0, .any⟩, ⟨15, 0, .rw, 0, .any⟩]⟩,
  ⟨0x108, 8, 32, false, [⟨31, 16, .rw, 15000, .any⟩, ⟨15, 0, .ro, 0, .any⟩]⟩,
  ⟨0x10C, 8, 32, false, [⟨31, 16, .rw, 40000, .any⟩, ⟨15, 0, .rw, 5000, .any⟩]⟩,
  ⟨0x110, 8, 32, false, [⟨0, 0, .wo, 0, .any⟩]⟩,
  ⟨0x114, 8, 32, false, [⟨31, 16, .ro, 0, .any⟩, ⟨3, 0, .ro, 0, .any⟩]⟩]

/-- Layout of the CAP page (R112, R116). -/
def layoutCap : List RegDef := layoutCap1 ++ layoutCap2

/-- Layout of the OUT page (R151, R182), part 1. -/
def layoutOut1 : List RegDef := [
  ⟨0x040, 1, 4, false, [⟨15, 15, .ro, 0, .any⟩, ⟨14, 13, .ro, 0, .any⟩, ⟨12, 12, .rw, 0, .any⟩, ⟨11, 11, .rw, 0, .any⟩, ⟨9, 8, .rw, 0, .max 3⟩, ⟨6, 4, .rw, 3, .max 6⟩, ⟨1, 0, .rw, 0, .max 2⟩]⟩,
  ⟨0x044, 1, 4, false, [⟨31, 16, .rws, 0, .any⟩, ⟨0, 0, .rws, 0, .any⟩]⟩,
  ⟨0x048, 1, 4, false, [⟨31, 0, .rws, 5000000, .any⟩]⟩,
  ⟨0x04C, 1, 4, false, [⟨31, 16, .rws, 0, .any⟩, ⟨11, 0, .rws, 1, .any⟩]⟩,
  ⟨0x050, 1, 4, false, [⟨31, 16, .rw, 0, .any⟩, ⟨7, 0, .rw, 10, .any⟩]⟩,
  ⟨0x054, 1, 4, false, [⟨20, 16, .rw, 10, .rng 10 19⟩, ⟨15, 0, .rw, 0, .any⟩]⟩,
  ⟨0x058, 1, 4, false, [⟨31, 16, .rw, 500, .rng 50 65535⟩, ⟨7, 0, .rw, 50, .rng 0 200⟩]⟩,
  ⟨0x05C, 1, 4, false, [⟨19, 16, .rw, 3, .any⟩, ⟨15, 15, .rw, 1, .any⟩, ⟨14, 0, .rw, 1000, .rng 10 32767⟩]⟩,
  ⟨0x060, 1, 4, false, [⟨7, 0, .rw, 150, .rng 100 165⟩]⟩,
  ⟨0x064, 1, 4, false, [⟨23, 23, .ro, 0, .any⟩, ⟨22, 16, .rw, 25, .rng 5 100⟩, ⟨4, 0, .rw, 0, .rng 0 31⟩]⟩,
  ⟨0x068, 1, 4, false, [⟨31, 16, .rw, 0, .any⟩, ⟨15, 0, .rw, 1000, .rng 100 10000⟩]⟩,
  ⟨0x06C, 1, 4, false, [⟨10, 0, .rw, 200, .rng 0 2000⟩]⟩,
  ⟨0x070, 1, 4, false, [⟨3, 0, .rw, 0, .any⟩]⟩,
  ⟨0x074, 1, 4, false, [⟨15, 0, .ro, 0, .any⟩]⟩,
  ⟨0x078, 1, 4, false, [⟨31, 16, .ro, 0, .any⟩, ⟨15, 0, .ro, 0, .any⟩]⟩,
  ⟨0x07C, 1, 4, false, [⟨31, 28, .ro, 0, .any⟩, ⟨11, 11, .ro, 0, .any⟩, ⟨10, 10, .ro, 0, .any⟩, ⟨9, 9, .ro, 0, .any⟩, ⟨8, 8, .ro, 0, .any⟩, ⟨7, 7, .ro, 0, .any⟩, ⟨6, 6, .ro, 0, .any⟩, ⟨5, 5, .ro, 0, .any⟩, ⟨4, 4, .ro, 0, .any⟩, ⟨3, 3, .ro, 0, .any⟩, ⟨2, 2, .ro, 0, .any⟩, ⟨1, 1, .ro, 0, .any⟩, ⟨0, 0, .ro, 0, .any⟩]⟩,
  ⟨0x080, 1, 4, false, [⟨31, 16, .ro, 0, .any⟩, ⟨15, 0, .ro, 0, .any⟩]⟩,
  ⟨0x100, 1, 4, false, [⟨31, 16, .ro, 0, .any⟩, ⟨15, 0, .ro, 0, .any⟩]⟩,
  ⟨0x104, 1, 4, false, [⟨31, 16, .ro, 0, .any⟩]⟩,
  ⟨0x108, 1, 4, false, [⟨31, 16, .ro, 0, .any⟩, ⟨15, 0, .ro, 0, .any⟩]⟩,
  ⟨0x10C, 1, 4, false, [⟨31, 16, .ro, 0, .any⟩, ⟨15, 0, .ro, 0, .any⟩]⟩,
  ⟨0x110, 1, 4, false, [⟨31, 16, .rw, 256, .any⟩, ⟨15, 0, .rw, 256, .any⟩]⟩,
  ⟨0x114, 1, 4, false, [⟨31, 16, .rw, 256, .any⟩, ⟨15, 0, .rw, 256, .any⟩]⟩,
  ⟨0x118, 1, 4, false, [⟨31, 31, .rw, 1, .any⟩, ⟨30, 30, .rw, 0, .any⟩, ⟨27, 24, .rw, 1, .rng 0 15⟩, ⟨23, 20, .rw, 2, .any⟩, ⟨19, 16, .rw, 2, .any⟩, ⟨15, 12, .rw, 0, .any⟩, ⟨11, 8, .rw, 4, .any⟩, ⟨7, 4, .rw, 4, .rng 0 12⟩, ⟨3, 0, .rw, 8, .any⟩]⟩]

/-- Layout of the OUT page (R151, R182), part 2. -/
def layoutOut2 : List RegDef := [
  ⟨0x11C, 1, 4, false, [⟨31, 16, .rw, 6144, .rng 256 65535⟩, ⟨15, 8, .rw, 50, .rng 10 250⟩, ⟨7, 0, .rw, 16, .rng 1 255⟩]⟩,
  ⟨0x120, 1, 4, false, [⟨31, 16, .ro, 0, .any⟩, ⟨15, 0, .ro, 0, .any⟩]⟩,
  ⟨0x124, 1, 4, false, [⟨31, 31, .ro, 0, .any⟩, ⟨30, 16, .ro, 0, .any⟩, ⟨15, 0, .ro, 0, .any⟩]⟩,
  ⟨0x128, 1, 4, false, [⟨31, 28, .ro, 0, .any⟩, ⟨27, 24, .rw, 0, .max 7⟩, ⟨23, 16, .ro, 0, .any⟩]⟩,
  ⟨0x12C, 1, 4, false, [⟨31, 16, .ro, 0, .any⟩, ⟨15, 0, .ro, 0, .any⟩]⟩,
  ⟨0x130, 1, 4, false, [⟨31, 16, .rw, 100, .rng 5 65535⟩, ⟨15, 8, .rw, 5, .rng 0 100⟩, ⟨0, 0, .rw, 0, .any⟩]⟩,
  ⟨0x134, 1, 4, false, [⟨31, 16, .ro, 0, .any⟩, ⟨15, 0, .ro, 0, .any⟩]⟩,
  ⟨0x138, 1, 4, false, [⟨31, 16, .ro, 0, .any⟩, ⟨15, 0, .ro, 0, .any⟩]⟩,
  ⟨0x13C, 1, 4, false, [⟨31, 0, .rw, 536870912, .any⟩]⟩,
  ⟨0x140, 1, 4, false, [⟨31, 31, .ro, 0, .any⟩, ⟨30, 30, .w1c, 0, .any⟩, ⟨15, 11, .rw, 0, .any⟩, ⟨10, 8, .rw, 7, .core⟩, ⟨0, 0, .wo, 0, .any⟩]⟩,
  ⟨0x144, 1, 4, false, [⟨31, 0, .ro, 0, .any⟩]⟩,
  ⟨0x148, 1, 4, false, [⟨15, 0, .ro, 0, .any⟩]⟩,
  ⟨0x14C, 1, 4, false, [⟨31, 0, .ro, 0, .any⟩]⟩,
  ⟨0x150, 1, 4, false, [⟨31, 16, .ro, 0, .any⟩, ⟨15, 8, .ro, 100, .any⟩]⟩,
  ⟨0x154, 1, 4, false, [⟨31, 24, .rw, 125, .rng 100 250⟩, ⟨23, 16, .rw, 50, .rng 25 100⟩, ⟨15, 8, .rw, 5, .rng 1 50⟩]⟩,
  ⟨0x158, 1, 4, false, [⟨31, 16, .ro, 0, .any⟩]⟩,
  ⟨0x15C, 1, 4, false, [⟨31, 0, .ro, 0, .any⟩]⟩,
  ⟨0x160, 1, 4, false, [⟨31, 16, .ro, 0, .any⟩, ⟨15, 0, .ro, 0, .any⟩]⟩]

/-- Layout of the OUT page (R151, R182). -/
def layoutOut : List RegDef := layoutOut1 ++ layoutOut2

/-- Layout of the BANK page (R157). -/
def layoutBank : List RegDef := [
  ⟨0x040, 1, 4, false, [⟨5, 4, .rw, 2, .max 2⟩, ⟨1, 1, .rw, 1, .any⟩, ⟨0, 0, .rw, 1, .any⟩]⟩,
  ⟨0x044, 1, 4, false, [⟨31, 16, .ro, 0, .any⟩, ⟨15, 0, .ro, 0, .any⟩]⟩,
  ⟨0x048, 1, 4, false, [⟨31, 16, .ro, 0, .any⟩, ⟨15, 0, .ro, 0, .any⟩]⟩,
  ⟨0x04C, 1, 4, false, [⟨31, 16, .ro, 0, .any⟩, ⟨15, 0, .ro, 0, .any⟩]⟩,
  ⟨0x050, 1, 4, false, [⟨31, 16, .rw, 5500, .rng 500 15400⟩, ⟨15, 0, .rw, 5, .rng 0 1000⟩]⟩,
  ⟨0x054, 1, 4, false, [⟨31, 16, .rw, 7700, .rng 500 15400⟩, ⟨15, 0, .rw, 20, .rng 0 1000⟩]⟩,
  ⟨0x058, 1, 4, false, [⟨31, 16, .rw, 15400, .rng 2000 16000⟩, ⟨15, 0, .rw, 10, .rng 0 1000⟩]⟩,
  ⟨0x05C, 1, 4, false, [⟨9, 0, .rw, 1000, .rng 100 1000⟩]⟩,
  ⟨0x060, 1, 4, false, [⟨31, 16, .ro, 0, .any⟩, ⟨7, 0, .rw, 85, .rng 60 95⟩]⟩,
  ⟨0x064, 1, 4, false, [⟨10, 10, .ro, 0, .any⟩, ⟨9, 9, .ro, 0, .any⟩, ⟨8, 8, .ro, 0, .rng 60 95⟩, ⟨7, 7, .ro, 0, .any⟩, ⟨6, 6, .ro, 0, .any⟩, ⟨5, 5, .ro, 0, .any⟩, ⟨4, 4, .ro, 0, .any⟩, ⟨3, 3, .ro, 0, .any⟩, ⟨1, 1, .ro, 0, .any⟩, ⟨0, 0, .ro, 0, .any⟩]⟩,
  ⟨0x068, 1, 4, false, [⟨31, 16, .ro, 0, .any⟩, ⟨15, 0, .ro, 0, .any⟩]⟩]

/-- Layout of the BRIDGE page (R203). -/
def layoutBridge : List RegDef := [
  ⟨0x040, 1, 4, false, [⟨11, 11, .rw, 0, .any⟩, ⟨10, 10, .rw, 0, .any⟩, ⟨9, 9, .rw, 1, .any⟩, ⟨8, 8, .rw, 0, .any⟩, ⟨3, 0, .rw, 0, .any⟩]⟩,
  ⟨0x044, 1, 4, false, [⟨31, 16, .rws, 0, .any⟩, ⟨2, 0, .rws, 0, .max 6⟩]⟩,
  ⟨0x048, 1, 4, false, [⟨31, 0, .rws, 0, .any⟩]⟩,
  ⟨0x04C, 1, 4, false, [⟨31, 16, .rw, 1000, .rng 1 65535⟩, ⟨15, 8, .rw, 20, .rng 1 255⟩, ⟨7, 0, .rw, 4, .any⟩]⟩,
  ⟨0x050, 1, 4, false, [⟨31, 16, .rw, 0, .any⟩, ⟨15, 8, .rw, 50, .rng 10 255⟩, ⟨7, 0, .rw, 30, .rng 1 120⟩]⟩,
  ⟨0x054, 1, 4, false, [⟨31, 24, .rw, 150, .rng 100 165⟩, ⟨23, 16, .rw, 16, .rng 1 255⟩, ⟨15, 0, .rw, 1000, .rng 10 65535⟩]⟩,
  ⟨0x058, 1, 4, false, [⟨31, 16, .rw, 0, .zrng 64 65535⟩, ⟨15, 8, .rw, 8, .rng 1 255⟩, ⟨7, 0, .rw, 20, .any⟩]⟩,
  ⟨0x05C, 1, 4, false, [⟨31, 16, .rw, 2000, .rng 100 20000⟩, ⟨15, 0, .rw, 200, .any⟩]⟩,
  ⟨0x060, 1, 4, false, [⟨31, 24, .rw, 40, .any⟩, ⟨23, 16, .rw, 2, .rng 0 7⟩, ⟨15, 0, .rw, 2400, .rng 1400 15400⟩]⟩,
  ⟨0x064, 1, 4, false, [⟨31, 16, .rw, 0, .zrng 16 65535⟩, ⟨15, 0, .rw, 65535, .any⟩]⟩,
  ⟨0x068, 1, 4, false, [⟨31, 24, .rw, 20, .rng 1 255⟩, ⟨23, 16, .rw, 150, .any⟩, ⟨15, 8, .rw, 60, .rng 1 255⟩, ⟨7, 0, .rw, 0, .any⟩]⟩,
  ⟨0x06C, 1, 4, false, [⟨31, 16, .rw, 0, .any⟩, ⟨0, 0, .rw, 1, .any⟩]⟩,
  ⟨0x070, 1, 4, false, [⟨31, 0, .rw, 0, .any⟩]⟩,
  ⟨0x074, 1, 4, false, [⟨31, 16, .ro, 0, .any⟩, ⟨15, 0, .ro, 0, .any⟩]⟩,
  ⟨0x078, 1, 4, false, [⟨31, 16, .ro, 0, .any⟩, ⟨15, 0, .ro, 0, .any⟩]⟩,
  ⟨0x07C, 1, 4, false, [⟨11, 11, .ro, 0, .any⟩, ⟨10, 10, .ro, 0, .any⟩, ⟨9, 9, .ro, 0, .any⟩, ⟨8, 8, .ro, 0, .any⟩, ⟨7, 7, .ro, 0, .any⟩, ⟨6, 6, .ro, 0, .any⟩, ⟨5, 5, .ro, 0, .any⟩, ⟨4, 4, .ro, 0, .any⟩, ⟨3, 3, .ro, 0, .any⟩, ⟨2, 2, .ro, 0, .any⟩, ⟨1, 1, .ro, 0, .any⟩, ⟨0, 0, .ro, 0, .any⟩]⟩,
  ⟨0x080, 1, 4, false, [⟨31, 16, .ro, 0, .any⟩, ⟨15, 0, .ro, 0, .any⟩]⟩,
  ⟨0x084, 1, 4, false, [⟨31, 16, .ro, 0, .any⟩, ⟨15, 0, .ro, 0, .any⟩]⟩,
  ⟨0x088, 1, 4, false, [⟨31, 16, .ro, 0, .any⟩, ⟨5, 0, .ro, 0, .any⟩]⟩,
  ⟨0x08C, 1, 4, false, [⟨31, 16, .rw, 20000, .any⟩, ⟨15, 0, .rw, 100, .any⟩]⟩,
  ⟨0x090, 1, 4, false, [⟨7, 0, .ro, 0, .any⟩]⟩,
  ⟨0x100, 32, 4, false, [⟨31, 16, .rw, 0, .any⟩, ⟨15, 0, .rw, 0, .any⟩]⟩]

/-- Layout of the RAT page (R229). -/
def layoutRat : List RegDef := [
  ⟨0x040, 1, 4, false, [⟨25, 16, .rw, 350, .rng 20 700⟩, ⟨12, 12, .rw, 1, .any⟩, ⟨11, 11, .rw, 1, .any⟩, ⟨3, 0, .rw, 0, .any⟩]⟩,
  ⟨0x044, 1, 4, false, [⟨19, 0, .rws, 0, .rng 0 655360⟩]⟩,
  ⟨0x048, 1, 4, false, [⟨31, 16, .rws, 0, .any⟩, ⟨1, 0, .rws, 2, .max 2⟩]⟩,
  ⟨0x04C, 1, 4, false, [⟨11, 0, .rws, 40, .any⟩]⟩,
  ⟨0x050, 1, 4, false, [⟨31, 16, .rw, 4000, .rng 100 4000⟩, ⟨15, 0, .rw, 1000, .rng 100 4000⟩]⟩,
  ⟨0x054, 1, 4, false, [⟨31, 16, .rw, 2000, .rng 100 2000⟩, ⟨15, 0, .rw, 6000, .rng 100 6000⟩]⟩,
  ⟨0x058, 1, 4, false, [⟨15, 8, .rw, 10, .rng 0 100⟩, ⟨7, 0, .rw, 20, .rng 5 100⟩]⟩,
  ⟨0x05C, 1, 4, false, [⟨23, 16, .rw, 4, .rng 0 64⟩, ⟨15, 0, .rw, 10, .rng 1 3600⟩]⟩,
  ⟨0x060, 1, 4, false, [⟨31, 16, .ro, 0, .any⟩, ⟨15, 0, .ro, 0, .any⟩]⟩,
  ⟨0x064, 1, 4, false, [⟨31, 16, .ro, 0, .any⟩, ⟨15, 0, .ro, 0, .any⟩]⟩,
  ⟨0x068, 1, 4, false, [⟨31, 16, .ro, 0, .any⟩, ⟨15, 0, .ro, 0, .any⟩]⟩,
  ⟨0x06C, 1, 4, false, [⟨19, 0, .ro, 0, .any⟩]⟩,
  ⟨0x070, 1, 4, false, [⟨28, 17, .ro, 0, .any⟩, ⟨16, 0, .ro, 0, .any⟩]⟩,
  ⟨0x074, 1, 4, false, [⟨31, 24, .ro, 0, .any⟩, ⟨23, 16, .ro, 0, .any⟩, ⟨15, 0, .ro, 0, .any⟩]⟩,
  ⟨0x078, 1, 4, false, [⟨31, 16, .ro, 0, .any⟩, ⟨15, 0, .ro, 0, .any⟩]⟩,
  ⟨0x07C, 1, 4, false, [⟨10, 10, .ro, 0, .any⟩, ⟨9, 9, .ro, 0, .any⟩, ⟨8, 8, .ro, 0, .any⟩, ⟨7, 7, .ro, 0, .any⟩, ⟨6, 6, .ro, 0, .any⟩, ⟨5, 5, .ro, 0, .any⟩, ⟨4, 4, .ro, 0, .any⟩, ⟨3, 3, .ro, 0, .any⟩, ⟨2, 2, .ro, 0, .any⟩, ⟨1, 1, .ro, 0, .any⟩, ⟨0, 0, .ro, 0, .any⟩]⟩,
  ⟨0x100, 8, 4, false, [⟨31, 0, .w1c, 0, .any⟩]⟩]

/-- Layout of the SINK page (R235). -/
def layoutSink : List RegDef := [
  ⟨0x040, 1, 4, false, [⟨11, 11, .rw, 0, .any⟩, ⟨9, 8, .rw, 0, .max 2⟩, ⟨3, 0, .rw, 0, .any⟩]⟩,
  ⟨0x044, 1, 4, false, [⟨31, 16, .rws, 0, .any⟩, ⟨15, 8, .rws, 0, .any⟩, ⟨0, 0, .rws, 0, .any⟩]⟩,
  ⟨0x048, 1, 4, false, [⟨31, 0, .rws, 819200, .rng 40000 100000000⟩]⟩,
  ⟨0x04C, 1, 4, false, [⟨31, 16, .rws, 0, .any⟩, ⟨11, 0, .rws, 1, .any⟩]⟩,
  ⟨0x050, 1, 4, false, [⟨31, 16, .rw, 1000, .rng 100 6000⟩]⟩,
  ⟨0x054, 1, 4, false, [⟨31, 16, .rw, 4000, .rng 100 25000⟩, ⟨15, 0, .rw, 1000, .rng 100 25000⟩]⟩,
  ⟨0x058, 1, 4, false, [⟨31, 16, .ro, 0, .any⟩, ⟨15, 0, .ro, 0, .any⟩]⟩,
  ⟨0x05C, 1, 4, false, [⟨6, 6, .ro, 0, .any⟩, ⟨5, 5, .ro, 0, .any⟩, ⟨4, 4, .ro, 0, .any⟩, ⟨3, 3, .ro, 0, .any⟩, ⟨2, 2, .ro, 0, .any⟩, ⟨1, 1, .ro, 0, .any⟩, ⟨0, 0, .ro, 0, .any⟩]⟩]

/-- Layout of the SINKCOMPAT page (R236). -/
def layoutCompat : List RegDef := [
  ⟨0x040, 1, 4, false, [⟨7, 0, .rws, 255, .any⟩]⟩]

/-- Layout of the MSG page (R259). -/
def layoutMsg : List RegDef := [
  ⟨0x040, 1, 4, false, [⟨16, 16, .rw, 1, .any⟩, ⟨10, 0, .rw, 0, .rng 0 1024⟩]⟩,
  ⟨0x044, 1, 4, false, [⟨31, 16, .rw, 200, .rng 10 10000⟩, ⟨15, 0, .rw, 100, .rng 10 10000⟩]⟩,
  ⟨0x048, 1, 4, false, [⟨2, 0, .wo, 0, .max 4⟩]⟩,
  ⟨0x04C, 1, 4, false, [⟨31, 31, .ro, 0, .any⟩, ⟨30, 30, .ro, 0, .any⟩, ⟨29, 29, .ro, 0, .any⟩, ⟨28, 28, .ro, 0, .any⟩, ⟨26, 16, .ro, 0, .any⟩, ⟨10, 0, .ro, 0, .any⟩]⟩,
  ⟨0x050, 1, 4, false, [⟨31, 16, .ro, 65535, .any⟩, ⟨15, 0, .ro, 0, .any⟩]⟩,
  ⟨0x054, 1, 4, false, [⟨31, 16, .ro, 0, .any⟩, ⟨15, 0, .ro, 0, .any⟩]⟩,
  ⟨0x058, 1, 4, false, [⟨31, 0, .ro, 0, .any⟩]⟩,
  ⟨0x05C, 1, 4, false, [⟨31, 0, .ro, 258000, .any⟩]⟩]

/-- Layout of the satellite page (R260). -/
def layoutSat : List RegDef := [
  ⟨0x040, 1, 4, false, [⟨31, 0, .ro, 0, .any⟩]⟩,
  ⟨0x044, 1, 4, false, [⟨12, 8, .ro, 31, .any⟩, ⟨4, 3, .ro, 0, .any⟩, ⟨2, 0, .ro, 0, .any⟩]⟩,
  ⟨0x048, 1, 4, false, [⟨25, 16, .ro, 0, .any⟩, ⟨7, 0, .ro, 0, .any⟩]⟩,
  ⟨0x04C, 1, 4, false, [⟨0, 0, .rws, 0, .any⟩]⟩,
  ⟨0x050, 4, 4, false, [⟨31, 16, .ro, 0, .any⟩, ⟨15, 0, .ro, 0, .any⟩]⟩,
  ⟨0x060, 1, 4, false, [⟨7, 4, .ro, 0, .any⟩, ⟨2, 2, .ro, 0, .any⟩, ⟨1, 1, .ro, 0, .any⟩, ⟨0, 0, .ro, 0, .any⟩]⟩]

/-- Layout of the VALVE page (R279). -/
def layoutValve : List RegDef := [
  ⟨0x040, 1, 4, false, [⟨8, 8, .rw, 0, .any⟩, ⟨3, 0, .rw, 0, .any⟩]⟩,
  ⟨0x044, 1, 4, false, [⟨31, 16, .rws, 0, .rng 0 4000⟩, ⟨1, 0, .rws, 0, .max 2⟩]⟩,
  ⟨0x048, 1, 4, false, [⟨31, 16, .rw, 1500, .rng 0 4000⟩, ⟨15, 0, .rw, 400, .rng 0 4000⟩]⟩,
  ⟨0x04C, 1, 4, false, [⟨31, 16, .rw, 30, .rng 0 1000⟩, ⟨15, 8, .rw, 5, .any⟩, ⟨7, 0, .rw, 5, .rng 1 255⟩]⟩,
  ⟨0x050, 1, 4, false, [⟨24, 16, .rws, 100, .rng 40 400⟩, ⟨7, 0, .rws, 0, .rng 0 250⟩]⟩,
  ⟨0x054, 1, 4, false, [⟨23, 16, .rw, 100, .rng 1 100⟩, ⟨5, 0, .rw, 10, .rng 1 60⟩]⟩,
  ⟨0x058, 1, 4, false, [⟨15, 0, .rw, 1000, .rng 1 65535⟩]⟩,
  ⟨0x05C, 1, 4, false, [⟨31, 16, .rw, 1000, .rng 100 65535⟩, ⟨15, 8, .rw, 120, .rng 60 200⟩, ⟨3, 0, .rw, 3, .rng 0 7⟩]⟩,
  ⟨0x060, 1, 4, false, [⟨31, 16, .rw, 65535, .any⟩, ⟨15, 0, .rw, 100, .rng 100 65535⟩]⟩,
  ⟨0x064, 1, 4, false, [⟨31, 16, .ro, 0, .any⟩, ⟨15, 0, .ro, 0, .any⟩]⟩,
  ⟨0x068, 1, 4, false, [⟨31, 16, .ro, 1000, .any⟩, ⟨15, 0, .ro, 200, .any⟩]⟩,
  ⟨0x06C, 1, 4, false, [⟨31, 16, .ro, 0, .any⟩, ⟨15, 0, .ro, 0, .any⟩]⟩,
  ⟨0x070, 1, 4, false, [⟨31, 16, .ro, 0, .any⟩, ⟨15, 0, .ro, 0, .any⟩]⟩,
  ⟨0x074, 1, 4, false, [⟨10, 10, .ro, 0, .any⟩, ⟨9, 9, .ro, 0, .any⟩, ⟨8, 8, .ro, 0, .any⟩, ⟨7, 7, .ro, 0, .any⟩, ⟨6, 6, .ro, 0, .any⟩, ⟨5, 5, .ro, 0, .any⟩, ⟨2, 0, .ro, 0, .any⟩]⟩,
  ⟨0x078, 1, 4, false, [⟨31, 16, .ro, 0, .any⟩, ⟨15, 0, .ro, 0, .any⟩]⟩,
  ⟨0x07C, 1, 4, false, [⟨31, 16, .ro, 0, .any⟩, ⟨15, 0, .ro, 0, .any⟩]⟩,
  ⟨0x080, 1, 4, false, [⟨15, 0, .ro, 0, .any⟩]⟩]

/-- Layout of the VHS page (R281). -/
def layoutVhs : List RegDef := [
  ⟨0x040, 1, 4, false, [⟨23, 16, .rw, 200, .rng 1 200⟩, ⟨5, 0, .rw, 10, .rng 1 60⟩]⟩,
  ⟨0x044, 1, 4, false, [⟨15, 0, .rw, 2000, .rng 1 65535⟩]⟩,
  ⟨0x048, 1, 4, false, [⟨31, 16, .ro, 0, .any⟩, ⟨15, 0, .ro, 0, .any⟩]⟩,
  ⟨0x04C, 1, 4, false, [⟨31, 16, .ro, 0, .any⟩, ⟨15, 0, .ro, 0, .any⟩]⟩,
  ⟨0x050, 1, 4, false, [⟨31, 16, .ro, 0, .any⟩, ⟨5, 5, .ro, 0, .any⟩, ⟨4, 4, .ro, 0, .any⟩, ⟨3, 3, .ro, 0, .any⟩, ⟨2, 2, .ro, 0, .any⟩, ⟨1, 1, .ro, 0, .any⟩, ⟨0, 0, .ro, 0, .any⟩]⟩]

/-- Layout of the BOOST page (R282). -/
def layoutBoost : List RegDef := [
  ⟨0x040, 1, 4, false, [⟨9, 0, .rw, 480, .rng 300 600⟩]⟩,
  ⟨0x044, 1, 4, false, [⟨31, 16, .ro, 0, .any⟩, ⟨15, 0, .ro, 0, .any⟩]⟩,
  ⟨0x048, 1, 4, false, [⟨31, 16, .ro, 0, .any⟩, ⟨4, 4, .ro, 0, .any⟩, ⟨3, 3, .ro, 0, .any⟩, ⟨2, 2, .ro, 0, .any⟩, ⟨1, 1, .ro, 0, .any⟩, ⟨0, 0, .ro, 0, .any⟩]⟩,
  ⟨0x04C, 1, 4, false, [⟨31, 0, .ro, 0, .any⟩]⟩]

/-- Layout of the IN page (R292). -/
def layoutInp : List RegDef := [
  ⟨0x040, 1, 4, false, [⟨10, 10, .rw, 0, .any⟩, ⟨9, 8, .rw, 0, .any⟩, ⟨7, 6, .rw, 0, .max 2⟩, ⟨5, 5, .rw, 1, .any⟩, ⟨4, 4, .rw, 0, .any⟩, ⟨3, 3, .rw, 1, .any⟩, ⟨0, 0, .rw, 1, .any⟩]⟩,
  ⟨0x044, 1, 4, false, [⟨31, 24, .rw, 5, .any⟩, ⟨23, 16, .rw, 5, .any⟩, ⟨7, 0, .rw, 1, .rng 1 100⟩]⟩,
  ⟨0x048, 1, 4, false, [⟨31, 16, .rw, 100, .rng 10 1000⟩, ⟨7, 0, .rw, 60, .rng 10 150⟩]⟩,
  ⟨0x04C, 1, 4, false, [⟨31, 24, .rw, 80, .rng 1 200⟩, ⟨23, 16, .rw, 5, .rng 1 200⟩, ⟨7, 0, .rw, 2, .rng 1 255⟩]⟩,
  ⟨0x050, 1, 4, false, [⟨15, 0, .rw, 0, .any⟩]⟩,
  ⟨0x054, 1, 4, false, [⟨15, 11, .rw, 0, .any⟩, ⟨10, 8, .rw, 7, .core⟩, ⟨2, 2, .rw, 0, .any⟩, ⟨1, 1, .rw, 0, .any⟩, ⟨0, 0, .rw, 0, .any⟩]⟩,
  ⟨0x058, 1, 4, false, [⟨31, 16, .ro, 0, .any⟩, ⟨15, 0, .ro, 0, .any⟩]⟩,
  ⟨0x05C, 1, 4, false, [⟨8, 8, .ro, 0, .any⟩, ⟨7, 7, .ro, 0, .any⟩, ⟨6, 6, .ro, 0, .any⟩, ⟨5, 5, .ro, 0, .any⟩, ⟨4, 4, .ro, 0, .any⟩, ⟨2, 0, .ro, 4, .any⟩]⟩,
  ⟨0x060, 1, 4, false, [⟨31, 24, .ro, 5, .any⟩, ⟨23, 16, .ro, 0, .any⟩, ⟨15, 8, .ro, 0, .any⟩]⟩,
  ⟨0x064, 1, 4, false, [⟨31, 16, .ro, 0, .any⟩, ⟨15, 0, .ro, 0, .any⟩]⟩,
  ⟨0x068, 1, 4, false, [⟨31, 0, .ro, 0, .any⟩]⟩,
  ⟨0x06C, 1, 4, false, [⟨31, 16, .ro, 0, .any⟩, ⟨15, 0, .ro, 0, .any⟩]⟩]

/-- Layout of the TOUCH page (R299). -/
def layoutTouch : List RegDef := [
  ⟨0x040, 1, 4, false, [⟨3, 2, .rw, 0, .any⟩, ⟨1, 1, .rw, 1, .any⟩]⟩,
  ⟨0x044, 1, 4, false, [⟨15, 8, .rw, 2, .rng 0 15⟩, ⟨7, 0, .rw, 20, .rng 5 100⟩]⟩,
  ⟨0x048, 1, 4, false, [⟨31, 16, .rw, 100, .rng 10 10000⟩, ⟨15, 0, .rw, 60, .rng 5 9999⟩]⟩,
  ⟨0x04C, 1, 4, false, [⟨31, 16, .rw, 30, .rng 1 255⟩, ⟨4, 0, .rw, 8, .rng 0 16⟩]⟩,
  ⟨0x050, 1, 4, false, [⟨31, 16, .rw, 2000, .rng 10 30000⟩, ⟨3, 0, .rw, 6, .any⟩]⟩,
  ⟨0x054, 1, 4, false, [⟨15, 11, .rw, 0, .any⟩, ⟨10, 8, .rw, 7, .core⟩, ⟨2, 2, .rw, 0, .any⟩, ⟨1, 1, .rw, 0, .any⟩, ⟨0, 0, .rw, 0, .any⟩]⟩,
  ⟨0x058, 1, 4, false, [⟨31, 16, .ro, 0, .any⟩, ⟨15, 0, .ro, 0, .any⟩]⟩,
  ⟨0x05C, 1, 4, false, [⟨31, 16, .ro, 0, .any⟩, ⟨15, 0, .ro, 0, .any⟩]⟩,
  ⟨0x060, 1, 4, false, [⟨31, 16, .ro, 0, .any⟩, ⟨15, 0, .ro, 0, .any⟩]⟩,
  ⟨0x064, 1, 4, false, [⟨3, 3, .ro, 0, .any⟩, ⟨2, 2, .ro, 0, .any⟩, ⟨1, 1, .ro, 0, .any⟩, ⟨0, 0, .ro, 0, .any⟩]⟩,
  ⟨0x068, 1, 4, false, [⟨31, 16, .ro, 0, .any⟩, ⟨15, 0, .ro, 0, .any⟩]⟩,
  ⟨0x06C, 1, 4, false, [⟨31, 16, .ro, 0, .any⟩]⟩,
  ⟨0x070, 1, 4, false, [⟨31, 0, .ro, 0, .any⟩]⟩]

/-- Layout of the POLICY page (R323). -/
def layoutPolicy : List RegDef := [
  ⟨0x040, 1, 4, false, [⟨3, 3, .rw, 0, .any⟩, ⟨2, 2, .rw, 1, .any⟩, ⟨0, 0, .rw, 0, .any⟩]⟩,
  ⟨0x044, 1, 4, false, [⟨31, 16, .rw, 1000, .rng 100 60000⟩, ⟨9, 0, .rw, 50, .rng 1 1000⟩]⟩,
  ⟨0x048, 4, 4, false, [⟨15, 0, .wo, 0, .any⟩]⟩,
  ⟨0x058, 1, 4, false, [⟨31, 16, .ro, 0, .any⟩, ⟨15, 0, .ro, 0, .any⟩]⟩,
  ⟨0x05C, 1, 4, false, [⟨31, 16, .ro, 0, .any⟩, ⟨15, 0, .ro, 0, .any⟩]⟩,
  ⟨0x060, 1, 4, false, [⟨7, 4, .ro, 0, .any⟩, ⟨3, 0, .ro, 0, .any⟩]⟩,
  ⟨0x064, 1, 4, false, [⟨31, 0, .ro, 0, .any⟩]⟩,
  ⟨0x068, 1, 4, false, [⟨31, 16, .rw, 1, .rng 1 65535⟩, ⟨15, 0, .rw, 1, .rng 1 65535⟩]⟩,
  ⟨0x06C, 1, 4, false, [⟨31, 16, .rw, 200, .rng 1 65535⟩, ⟨15, 0, .rw, 500, .rng 1 65535⟩]⟩,
  ⟨0x070, 1, 4, false, [⟨31, 16, .rw, 1, .rng 1 65535⟩, ⟨15, 0, .rw, 50, .rng 1 65535⟩]⟩,
  ⟨0x074, 1, 4, false, [⟨31, 16, .rw, 1, .rng 1 65535⟩, ⟨15, 0, .rw, 32, .rng 1 65535⟩]⟩,
  ⟨0x078, 1, 4, false, [⟨31, 16, .rw, 1, .rng 1 1⟩, ⟨15, 0, .rw, 1, .rng 1 65535⟩]⟩,
  ⟨0x07C, 1, 4, false, [⟨15, 0, .rw, 100, .rng 1 65535⟩]⟩,
  ⟨0x080, 1, 4, false, [⟨31, 16, .ro, 0, .any⟩, ⟨15, 0, .ro, 0, .any⟩]⟩,
  ⟨0x084, 1, 4, false, [⟨7, 0, .rw, 32, .rng 1 255⟩]⟩,
  ⟨0x088, 4, 4, false, [⟨27, 24, .rw, 15, .any⟩, ⟨18, 18, .rw, 1, .any⟩, ⟨17, 17, .rw, 1, .any⟩, ⟨16, 16, .rw, 1, .any⟩, ⟨15, 0, .rw, 100, .rng 10 10000⟩]⟩,
  ⟨0x098, 4, 4, false, [⟨15, 0, .rw, 2000, .rng 100 60000⟩]⟩,
  ⟨0x0A8, 1, 4, false, [⟨19, 16, .ro, 0, .any⟩, ⟨15, 0, .ro, 0, .any⟩]⟩,
  ⟨0x0AC, 1, 4, false, [⟨31, 16, .ro, 0, .any⟩, ⟨8, 0, .ro, 0, .any⟩]⟩,
  ⟨0x0B0, 1, 4, false, [⟨31, 31, .ro, 0, .any⟩, ⟨30, 30, .ro, 0, .any⟩, ⟨24, 24, .ro, 0, .any⟩, ⟨23, 16, .ro, 0, .any⟩, ⟨8, 0, .ro, 0, .any⟩]⟩,
  ⟨0x0B4, 1, 4, true, [⟨31, 0, .rw, 0, .any⟩]⟩,
  ⟨0x0B8, 1, 4, true, [⟨31, 0, .rw, 0, .any⟩]⟩,
  ⟨0x0BC, 1, 4, false, [⟨31, 31, .ro, 0, .any⟩, ⟨30, 30, .ro, 0, .any⟩]⟩,
  ⟨0x0C0, 1, 4, false, [⟨15, 8, .wo, 0, .any⟩, ⟨1, 0, .wo, 0, .any⟩]⟩]

/-- Layout of the LAY page (R341). -/
def layoutLay : List RegDef := [
  ⟨0x040, 1, 4, false, [⟨15, 0, .rw, 200, .rng 50 2000⟩]⟩,
  ⟨0x044, 1, 4, false, [⟨15, 11, .rw, 0, .any⟩, ⟨10, 8, .rw, 7, .core⟩]⟩,
  ⟨0x048, 1, 4, false, [⟨31, 31, .ro, 0, .any⟩, ⟨30, 30, .ro, 0, .any⟩, ⟨29, 29, .ro, 0, .any⟩, ⟨4, 0, .ro, 0, .any⟩]⟩,
  ⟨0x04C, 1, 4, false, [⟨15, 0, .ro, 0, .any⟩]⟩,
  ⟨0x050, 1, 4, false, [⟨31, 0, .ro, 0, .any⟩]⟩,
  ⟨0x054, 1, 4, false, [⟨15, 0, .ro, 0, .any⟩]⟩,
  ⟨0x058, 1, 4, false, [⟨15, 0, .ro, 0, .any⟩]⟩,
  ⟨0x05C, 1, 4, true, [⟨15, 0, .rw, 0, .any⟩]⟩,
  ⟨0x060, 1, 4, false, [⟨5, 5, .ro, 0, .any⟩, ⟨4, 4, .ro, 0, .any⟩, ⟨3, 3, .ro, 1, .any⟩, ⟨2, 2, .ro, 1, .any⟩, ⟨1, 1, .ro, 0, .any⟩, ⟨0, 0, .ro, 0, .any⟩]⟩,
  ⟨0x064, 1, 4, false, [⟨31, 16, .ro, 0, .any⟩, ⟨15, 0, .ro, 0, .any⟩]⟩,
  ⟨0x068, 1, 4, false, [⟨31, 31, .ro, 0, .any⟩, ⟨20, 16, .ro, 0, .any⟩, ⟨15, 0, .ro, 0, .any⟩]⟩,
  ⟨0x06C, 2, 4, false, [⟨31, 31, .rw, 0, .any⟩, ⟨27, 24, .rw, 0, .any⟩, ⟨10, 8, .rw, 0, .max 5⟩, ⟨6, 0, .rw, 0, .any⟩]⟩,
  ⟨0x074, 1, 4, true, [⟨8, 0, .rw, 0, .rng 0 388⟩]⟩,
  ⟨0x078, 1, 4, true, [⟨31, 0, .rw, 0, .any⟩]⟩,
  ⟨0x07C, 1, 4, true, [⟨31, 0, .rw, 0, .any⟩]⟩,
  ⟨0x080, 1, 4, true, [⟨19, 16, .rw, 0, .any⟩, ⟨15, 0, .rw, 0, .any⟩]⟩,
  ⟨0x084, 1, 4, false, [⟨1, 0, .wo, 0, .max 2⟩]⟩]

/-- Layout of the RECKON page (R362). -/
def layoutReckon : List RegDef := [
  ⟨0x040, 1, 4, false, [⟨31, 0, .ro, 0, .any⟩]⟩,
  ⟨0x044, 1, 4, false, [⟨15, 0, .ro, 0, .any⟩]⟩,
  ⟨0x048, 1, 4, false, [⟨31, 0, .ro, 1099511627, .any⟩]⟩,
  ⟨0x04C, 1, 4, false, [⟨5, 5, .ro, 0, .any⟩, ⟨3, 3, .ro, 0, .any⟩, ⟨2, 2, .ro, 1, .any⟩, ⟨1, 1, .ro, 0, .any⟩, ⟨0, 0, .ro, 0, .any⟩]⟩,
  ⟨0x050, 1, 4, false, [⟨31, 0, .ro, 0, .any⟩]⟩,
  ⟨0x054, 1, 4, false, [⟨29, 0, .ro, 0, .any⟩]⟩,
  ⟨0x058, 1, 4, false, [⟨31, 16, .ro, 0, .any⟩, ⟨7, 0, .ro, 0, .any⟩]⟩,
  ⟨0x05C, 1, 4, false, [⟨0, 0, .rw, 0, .any⟩]⟩,
  ⟨0x060, 1, 4, true, [⟨31, 0, .rw, 0, .any⟩]⟩,
  ⟨0x064, 1, 4, true, [⟨29, 0, .rw, 0, .rng 0 999999999⟩]⟩,
  ⟨0x068, 1, 4, false, [⟨0, 0, .wo, 0, .any⟩]⟩]

/-- Layout of the TLOG page (R364). -/
def layoutTlog : List RegDef := [
  ⟨0x040, 1, 4, false, [⟨31, 0, .ro, 805699584, .any⟩]⟩,
  ⟨0x044, 1, 4, false, [⟨31, 0, .ro, 0, .any⟩]⟩,
  ⟨0x048, 1, 4, false, [⟨31, 0, .ro, 0, .any⟩]⟩,
  ⟨0x04C, 1, 4, false, [⟨12, 0, .ro, 0, .any⟩]⟩,
  ⟨0x050, 1, 4, true, [⟨31, 16, .rw, 0, .any⟩, ⟨15, 0, .rw, 0, .any⟩]⟩,
  ⟨0x054, 1, 4, true, [⟨31, 0, .rw, 0, .any⟩]⟩,
  ⟨0x058, 1, 4, true, [⟨31, 0, .rw, 0, .any⟩]⟩,
  ⟨0x05C, 1, 4, false, [⟨31, 16, .ro, 0, .any⟩, ⟨7, 0, .rw, 16, .rng 1 255⟩]⟩,
  ⟨0x060, 1, 4, true, [⟨31, 0, .rw, 0, .any⟩]⟩,
  ⟨0x064, 1, 4, false, [⟨1, 0, .wo, 0, .max 2⟩]⟩,
  ⟨0x068, 1, 4, false, [⟨0, 0, .ro, 0, .any⟩]⟩,
  ⟨0x070, 8, 4, false, [⟨31, 0, .ro, 0, .any⟩]⟩]

/-- Layout of the LOGLINE page (R365). -/
def layoutLogline : List RegDef := [
  ⟨0x040, 1, 4, false, [⟨15, 1, .rw, 255, .any⟩]⟩,
  ⟨0x044, 1, 4, false, [⟨14, 0, .ro, 0, .any⟩]⟩,
  ⟨0x048, 1, 4, false, [⟨14, 0, .ro, 0, .any⟩]⟩,
  ⟨0x04C, 1, 4, false, [⟨31, 0, .ro, 0, .any⟩]⟩,
  ⟨0x050, 1, 4, false, [⟨31, 0, .ro, 0, .any⟩]⟩,
  ⟨0x054, 1, 4, false, [⟨31, 0, .ro, 0, .any⟩]⟩,
  ⟨0x058, 1, 4, false, [⟨31, 0, .ro, 0, .any⟩]⟩,
  ⟨0x05C, 1, 4, false, [⟨31, 16, .ro, 0, .any⟩, ⟨15, 0, .ro, 0, .any⟩]⟩,
  ⟨0x060, 1, 4, false, [⟨31, 16, .ro, 0, .any⟩]⟩]

/-- Layout of the STRANDCTL page (R388). -/
def layoutStrandctl : List RegDef := [
  ⟨0x040, 1, 4, false, [⟨5, 2, .rw, 0, .any⟩]⟩,
  ⟨0x044, 1, 4, false, [⟨5, 0, .ro, 0, .any⟩]⟩,
  ⟨0x048, 1, 4, false, [⟨10, 8, .wo, 0, .max 5⟩, ⟨4, 0, .wo, 0, .any⟩]⟩,
  ⟨0x100, 6, 64, false, [⟨2, 0, .wo, 0, .any⟩]⟩,
  ⟨0x104, 6, 64, false, [⟨11, 8, .ro, 0, .any⟩, ⟨2, 0, .ro, 0, .any⟩]⟩,
  ⟨0x108, 6, 64, false, [⟨15, 0, .ro, 0, .any⟩]⟩,
  ⟨0x10C, 6, 64, false, [⟨31, 0, .ro, 0, .any⟩]⟩,
  ⟨0x110, 6, 64, false, [⟨31, 0, .ro, 0, .any⟩]⟩,
  ⟨0x114, 6, 64, false, [⟨31, 0, .ro, 0, .any⟩]⟩,
  ⟨0x118, 6, 64, true, [⟨31, 0, .rw, 0, .any⟩]⟩,
  ⟨0x11C, 6, 64, false, [⟨31, 0, .w1c, 0, .any⟩]⟩,
  ⟨0x120, 6, 64, false, [⟨31, 0, .ro, 0, .any⟩]⟩,
  ⟨0x124, 6, 64, false, [⟨31, 0, .ro, 0, .any⟩]⟩,
  ⟨0x128, 6, 64, false, [⟨31, 16, .ro, 0, .any⟩, ⟨15, 0, .ro, 0, .any⟩]⟩,
  ⟨0x12C, 6, 64, false, [⟨31, 0, .ro, 0, .any⟩]⟩,
  ⟨0x130, 6, 64, false, [⟨31, 0, .ro, 0, .any⟩]⟩,
  ⟨0x134, 6, 64, false, [⟨31, 16, .ro, 0, .any⟩, ⟨15, 0, .ro, 0, .any⟩]⟩]

/-- Layout of the CAN page (R423). -/
def layoutCan : List RegDef := [
  ⟨0x040, 1, 4, false, [⟨31, 31, .rw, 1, .any⟩, ⟨30, 30, .rw, 0, .any⟩, ⟨29, 29, .rw, 0, .any⟩, ⟨28, 28, .rw, 1, .any⟩, ⟨27, 26, .rw, 0, .max 1⟩, ⟨23, 16, .rw, 254, .any⟩, ⟨0, 0, .rw, 1, .any⟩]⟩,
  ⟨0x044, 1, 4, false, [⟨31, 24, .rw, 16, .rng 1 128⟩, ⟨23, 16, .rw, 16, .rng 1 128⟩, ⟨15, 8, .rw, 63, .rng 2 255⟩, ⟨7, 0, .rw, 2, .rng 1 255⟩]⟩,
  ⟨0x048, 1, 4, false, [⟨31, 24, .rw, 32, .rng 0 127⟩, ⟨23, 20, .rw, 8, .rng 1 15⟩, ⟨19, 16, .rw, 8, .rng 1 15⟩, ⟨15, 8, .rw, 31, .rng 1 31⟩, ⟨7, 0, .rw, 1, .rng 1 31⟩]⟩,
  ⟨0x04C, 1, 4, false, [⟨16, 16, .ro, 0, .any⟩, ⟨15, 8, .ro, 0, .any⟩, ⟨7, 0, .ro, 0, .any⟩]⟩,
  ⟨0x050, 1, 4, false, [⟨10, 8, .ro, 0, .any⟩, ⟨7, 7, .ro, 0, .any⟩, ⟨6, 6, .ro, 0, .any⟩, ⟨5, 5, .ro, 0, .any⟩, ⟨4, 4, .ro, 0, .any⟩, ⟨3, 3, .ro, 0, .any⟩, ⟨2, 2, .ro, 0, .any⟩, ⟨1, 1, .ro, 0, .any⟩, ⟨0, 0, .ro, 0, .any⟩]⟩,
  ⟨0x054, 1, 4, false, [⟨0, 0, .wo, 0, .any⟩]⟩,
  ⟨0x058, 1, 4, false, [⟨31, 0, .ro, 0, .any⟩]⟩,
  ⟨0x05C, 1, 4, false, [⟨31, 0, .ro, 0, .any⟩]⟩,
  ⟨0x060, 1, 4, false, [⟨31, 16, .ro, 0, .any⟩, ⟨15, 0, .ro, 0, .any⟩]⟩,
  ⟨0x064, 1, 4, true, [⟨6, 0, .rw, 0, .any⟩]⟩,
  ⟨0x068, 1, 4, true, [⟨31, 31, .rw, 0, .any⟩, ⟨30, 30, .rw, 0, .any⟩, ⟨29, 29, .rw, 0, .any⟩, ⟨28, 28, .rw, 0, .any⟩, ⟨27, 27, .rw, 0, .any⟩, ⟨26, 26, .rw, 0, .any⟩, ⟨25, 25, .rw, 0, .any⟩, ⟨24, 24, .rw, 0, .any⟩, ⟨23, 23, .rw, 0, .any⟩, ⟨22, 22, .rw, 0, .any⟩, ⟨21, 17, .rw, 0, .any⟩, ⟨16, 14, .rw, 7, .core⟩, ⟨3, 0, .rw, 0, .any⟩]⟩,
  ⟨0x06C, 1, 4, true, [⟨28, 0, .rw, 0, .any⟩]⟩,
  ⟨0x070, 1, 4, true, [⟨28, 0, .rw, 0, .any⟩]⟩,
  ⟨0x074, 1, 4, false, [⟨31, 24, .ro, 0, .any⟩, ⟨0, 0, .ro, 0, .any⟩]⟩,
  ⟨0x078, 1, 4, false, [⟨31, 0, .ro, 0, .any⟩]⟩,
  ⟨0x07C, 1, 4, false, [⟨2, 0, .wo, 0, .max 4⟩]⟩,
  ⟨0x080, 4, 4, false, [⟨31, 0, .ro, 0, .any⟩]⟩,
  ⟨0x090, 4, 4, false, [⟨31, 0, .ro, 0, .any⟩]⟩,
  ⟨0x0A0, 1, 4, false, [⟨31, 31, .rw, 0, .any⟩, ⟨28, 0, .rw, 0, .any⟩]⟩,
  ⟨0x0A4, 1, 4, false, [⟨28, 0, .rw, 0, .any⟩]⟩,
  ⟨0x0A8, 1, 4, false, [⟨15, 10, .ro, 0, .any⟩, ⟨8, 8, .rw, 0, .any⟩, ⟨3, 0, .rw, 8, .rng 0 8⟩]⟩,
  ⟨0x0AC, 2, 4, false, [⟨31, 0, .rw, 0, .any⟩]⟩,
  ⟨0x100, 16, 4, true, [⟨31, 0, .rw, 0, .any⟩]⟩]

/-- Layout of the LIN page (R427). -/
def layoutLin : List RegDef := [
  ⟨0x040, 1, 4, false, [⟨19, 19, .rw, 1, .any⟩, ⟨18, 18, .rw, 1, .any⟩, ⟨17, 17, .rw, 1, .any⟩, ⟨16, 16, .rw, 0, .any⟩, ⟨15, 0, .rw, 19200, .rng 1000 20000⟩]⟩,
  ⟨0x044, 1, 4, false, [⟨6, 0, .rw, 0, .rng 0 64⟩]⟩,
  ⟨0x048, 1, 4, true, [⟨5, 0, .rw, 0, .any⟩]⟩,
  ⟨0x04C, 1, 4, true, [⟨31, 31, .rw, 0, .any⟩, ⟨30, 29, .rw, 0, .any⟩, ⟨28, 28, .rw, 0, .any⟩, ⟨27, 27, .rw, 1, .any⟩, ⟨26, 26, .rw, 0, .any⟩, ⟨23, 16, .rw, 10, .rng 1 255⟩, ⟨11, 8, .rw, 8, .rng 0 8⟩, ⟨5, 0, .rw, 0, .any⟩]⟩,
  ⟨0x050, 2, 4, true, [⟨31, 0, .rw, 0, .any⟩]⟩,
  ⟨0x058, 1, 4, false, [⟨2, 0, .ro, 0, .any⟩]⟩,
  ⟨0x05C, 1, 4, false, [⟨1, 0, .wo, 0, .max 2⟩]⟩,
  ⟨0x060, 1, 4, false, [⟨2, 0, .wo, 0, .max 4⟩]⟩,
  ⟨0x064, 1, 4, false, [⟨31, 16, .ro, 0, .any⟩, ⟨1, 1, .ro, 0, .any⟩, ⟨0, 0, .ro, 0, .any⟩]⟩]

/-- Layout of the ETH page (R449). -/
def layoutEth : List RegDef := [
  ⟨0x040, 1, 4, false, [⟨27, 16, .rw, 10, .rng 1 4094⟩]⟩,
  ⟨0x044, 1, 4, false, [⟨31, 0, .rw, 0, .any⟩]⟩,
  ⟨0x048, 1, 4, false, [⟨13, 8, .ro, 0, .any⟩, ⟨5, 0, .rw, 63, .any⟩]⟩,
  ⟨0x04C, 1, 4, false, [⟨15, 0, .rw, 1000, .rng 0 1000⟩]⟩,
  ⟨0x050, 1, 4, false, [⟨15, 8, .rw, 0, .rng 0 127⟩, ⟨1, 1, .rw, 0, .any⟩, ⟨0, 0, .rw, 1, .any⟩]⟩,
  ⟨0x054, 1, 4, false, [⟨31, 0, .ro, 0, .any⟩]⟩,
  ⟨0x058, 1, 4, false, [⟨23, 16, .ro, 0, .any⟩, ⟨0, 0, .ro, 0, .any⟩]⟩,
  ⟨0x05C, 1, 4, false, [⟨31, 16, .ro, 0, .any⟩, ⟨15, 0, .ro, 0, .any⟩]⟩,
  ⟨0x060, 1, 4, false, [⟨31, 0, .rw, 0, .any⟩]⟩,
  ⟨0x064, 1, 4, false, [⟨31, 0, .rw, 0, .any⟩]⟩,
  ⟨0x068, 1, 4, true, [⟨7, 0, .rw, 0, .any⟩]⟩,
  ⟨0x06C, 1, 4, true, [⟨31, 0, .rw, 0, .any⟩]⟩,
  ⟨0x070, 1, 4, true, [⟨31, 0, .rw, 0, .any⟩]⟩,
  ⟨0x074, 1, 4, true, [⟨31, 31, .rw, 0, .any⟩, ⟨30, 30, .rw, 0, .any⟩, ⟨29, 29, .rw, 0, .any⟩, ⟨28, 28, .ro, 0, .any⟩, ⟨27, 27, .ro, 0, .any⟩, ⟨26, 11, .rw, 100, .rng 1 65535⟩, ⟨10, 0, .rw, 0, .rng 0 1432⟩]⟩,
  ⟨0x078, 1, 4, true, [⟨15, 0, .rw, 300, .any⟩]⟩,
  ⟨0x07C, 1, 4, false, [⟨1, 0, .wo, 0, .max 2⟩]⟩]

/-- Layout of the HITCH page (R450). -/
def layoutHitch : List RegDef := [
  ⟨0x040, 1, 4, true, [⟨13, 0, .rw, 0, .any⟩]⟩,
  ⟨0x044, 7, 4, true, [⟨31, 0, .rw, 0, .any⟩]⟩,
  ⟨0x060, 1, 4, false, [⟨31, 0, .ro, 0, .any⟩]⟩,
  ⟨0x064, 1, 4, false, [⟨1, 0, .wo, 0, .max 2⟩]⟩,
  ⟨0x068, 1, 4, false, [⟨31, 16, .ro, 0, .any⟩, ⟨15, 0, .ro, 0, .any⟩]⟩,
  ⟨0x06C, 1, 4, false, [⟨31, 0, .ro, 0, .any⟩]⟩,
  ⟨0x070, 1, 4, false, [⟨31, 16, .ro, 0, .any⟩, ⟨15, 0, .ro, 0, .any⟩]⟩,
  ⟨0x074, 1, 4, false, [⟨13, 0, .ro, 0, .any⟩]⟩]

/-- Layout of the FID page (R451). -/
def layoutFid : List RegDef := [
  ⟨0x040, 1, 4, false, [⟨15, 0, .rw, 47311, .rng 1024 65535⟩]⟩,
  ⟨0x044, 1, 4, false, [⟨31, 16, .rw, 10, .rng 1 1000⟩, ⟨15, 0, .rw, 1000, .rng 100 10000⟩]⟩,
  ⟨0x048, 1, 4, false, [⟨31, 16, .rw, 100, .rng 10 10000⟩, ⟨2, 0, .rw, 2, .any⟩]⟩,
  ⟨0x04C, 1, 4, true, [⟨7, 0, .rw, 0, .any⟩]⟩,
  ⟨0x050, 1, 4, true, [⟨31, 31, .rw, 0, .any⟩, ⟨30, 30, .rw, 0, .any⟩, ⟨29, 24, .rw, 0, .any⟩, ⟨17, 16, .ro, 0, .any⟩, ⟨15, 0, .rw, 0, .any⟩]⟩,
  ⟨0x054, 1, 4, true, [⟨31, 0, .rw, 0, .any⟩]⟩,
  ⟨0x058, 1, 4, true, [⟨12, 0, .rw, 0, .rng 0 8191⟩]⟩,
  ⟨0x05C, 1, 4, true, [⟨31, 31, .rw, 0, .any⟩, ⟨30, 24, .rw, 0, .rng 0 64⟩, ⟨23, 16, .rw, 0, .any⟩, ⟨15, 0, .rw, 0, .rng 0 16383⟩]⟩,
  ⟨0x060, 1, 4, true, [⟨11, 0, .rw, 64, .rng 64 3836⟩]⟩,
  ⟨0x064, 1, 4, false, [⟨2, 0, .wo, 0, .max 4⟩]⟩,
  ⟨0x068, 1, 4, false, [⟨31, 16, .ro, 0, .any⟩, ⟨15, 0, .ro, 0, .any⟩]⟩,
  ⟨0x06C, 1, 4, false, [⟨31, 0, .ro, 0, .any⟩]⟩,
  ⟨0x070, 1, 4, false, [⟨31, 0, .ro, 0, .any⟩]⟩]

/-- Layout of the SPLICE page (R468). -/
def layoutSplice : List RegDef := [
  ⟨0x040, 1, 4, false, [⟨31, 16, .rw, 0, .any⟩, ⟨13, 8, .rw, 0, .any⟩, ⟨5, 4, .rw, 0, .max 2⟩, ⟨3, 3, .rw, 0, .any⟩]⟩,
  ⟨0x044, 1, 4, false, [⟨31, 24, .rw, 50, .rng 25 200⟩, ⟨23, 16, .rw, 20, .rng 5 100⟩, ⟨9, 0, .rw, 0, .rng 0 512⟩]⟩,
  ⟨0x048, 1, 4, false, [⟨31, 0, .rw, 537395200, .any⟩]⟩,
  ⟨0x04C, 1, 4, false, [⟨31, 28, .ro, 0, .any⟩, ⟨27, 26, .ro, 0, .any⟩, ⟨25, 25, .ro, 0, .any⟩, ⟨24, 24, .ro, 0, .any⟩, ⟨23, 23, .ro, 0, .any⟩, ⟨22, 22, .ro, 0, .any⟩, ⟨21, 21, .ro, 0, .any⟩, ⟨15, 12, .ro, 0, .any⟩, ⟨11, 8, .ro, 0, .any⟩]⟩,
  ⟨0x050, 1, 4, true, [⟨6, 0, .rw, 0, .any⟩]⟩,
  ⟨0x054, 1, 4, true, [⟨31, 31, .rw, 0, .any⟩, ⟨30, 30, .rw, 0, .any⟩, ⟨29, 28, .rw, 0, .max 2⟩, ⟨24, 21, .rw, 0, .rng 0 8⟩, ⟨15, 0, .rw, 0, .any⟩]⟩,
  ⟨0x058, 1, 4, true, [⟨8, 0, .rw, 0, .any⟩]⟩,
  ⟨0x05C, 1, 4, false, [⟨1, 0, .wo, 0, .max 2⟩]⟩,
  ⟨0x060, 1, 4, false, [⟨31, 16, .ro, 0, .any⟩, ⟨15, 0, .ro, 0, .any⟩]⟩,
  ⟨0x064, 1, 4, false, [⟨31, 16, .ro, 0, .any⟩, ⟨15, 0, .ro, 0, .any⟩]⟩,
  ⟨0x068, 1, 4, false, [⟨31, 16, .ro, 0, .any⟩, ⟨15, 0, .ro, 0, .any⟩]⟩,
  ⟨0x06C, 1, 4, false, [⟨31, 16, .ro, 0, .any⟩, ⟨15, 0, .ro, 0, .any⟩]⟩,
  ⟨0x070, 1, 4, false, [⟨31, 16, .ro, 0, .any⟩, ⟨3, 0, .ro, 0, .any⟩]⟩]

/-- Layout of the PWR page (R484). -/
def layoutPwr : List RegDef := [
  ⟨0x040, 1, 4, false, [⟨17, 16, .rw, 1, .any⟩, ⟨15, 0, .rw, 2048, .any⟩]⟩,
  ⟨0x044, 1, 4, false, [⟨1, 0, .wo, 0, .max 1⟩]⟩,
  ⟨0x048, 1, 4, false, [⟨5, 2, .wo, 0, .any⟩]⟩,
  ⟨0x04C, 1, 4, false, [⟨31, 28, .ro, 0, .any⟩, ⟨27, 26, .ro, 0, .any⟩, ⟨25, 24, .ro, 1, .any⟩, ⟨23, 22, .ro, 0, .any⟩, ⟨21, 20, .ro, 0, .any⟩, ⟨19, 18, .ro, 0, .any⟩, ⟨17, 17, .ro, 0, .any⟩, ⟨5, 2, .ro, 0, .any⟩]⟩,
  ⟨0x050, 1, 4, false, [⟨31, 31, .ro, 0, .any⟩, ⟨30, 30, .ro, 0, .any⟩, ⟨29, 29, .ro, 0, .any⟩, ⟨15, 0, .ro, 0, .any⟩]⟩,
  ⟨0x054, 1, 4, false, [⟨31, 31, .ro, 0, .any⟩, ⟨23, 16, .ro, 0, .any⟩, ⟨15, 0, .ro, 0, .any⟩]⟩,
  ⟨0x058, 1, 4, false, [⟨11, 0, .ro, 0, .any⟩]⟩,
  ⟨0x05C, 1, 4, false, [⟨31, 16, .ro, 0, .any⟩, ⟨15, 0, .ro, 0, .any⟩]⟩,
  ⟨0x060, 1, 4, false, [⟨31, 16, .ro, 0, .any⟩, ⟨15, 0, .rw, 2000, .rng 100 60000⟩]⟩,
  ⟨0x064, 1, 4, false, [⟨31, 31, .rw, 0, .any⟩, ⟨30, 28, .rw, 0, .any⟩, ⟨21, 16, .rw, 0, .rng 0 47⟩, ⟨10, 0, .rw, 1280, .any⟩]⟩,
  ⟨0x068, 1, 4, false, [⟨31, 16, .rw, 20, .rng 10 1000⟩, ⟨15, 0, .rw, 50, .rng 0 10000⟩]⟩,
  ⟨0x06C, 1, 4, false, [⟨31, 16, .rw, 100, .rng 20 2000⟩, ⟨15, 0, .rw, 1000, .rng 200 10000⟩]⟩,
  ⟨0x070, 1, 4, false, [⟨31, 0, .rw, 0, .any⟩]⟩,
  ⟨0x074, 1, 4, false, [⟨15, 0, .rw, 0, .any⟩]⟩,
  ⟨0x078, 1, 4, true, [⟨0, 0, .rw, 0, .any⟩]⟩,
  ⟨0x07C, 1, 4, false, [⟨31, 28, .ro, 0, .any⟩, ⟨27, 27, .ro, 0, .any⟩, ⟨26, 25, .ro, 0, .any⟩, ⟨21, 16, .ro, 0, .any⟩, ⟨15, 0, .ro, 0, .any⟩]⟩,
  ⟨0x080, 1, 4, false, [⟨31, 0, .ro, 0, .any⟩]⟩,
  ⟨0x084, 1, 4, false, [⟨15, 0, .ro, 0, .any⟩]⟩,
  ⟨0x088, 1, 4, false, [⟨31, 16, .ro, 0, .any⟩]⟩]

/-- Layout of the CLK page (R485). -/
def layoutClk : List RegDef := [
  ⟨0x040, 1, 4, false, [⟨2, 2, .rw, 1, .any⟩, ⟨1, 1, .rw, 0, .any⟩, ⟨0, 0, .rw, 0, .any⟩]⟩,
  ⟨0x044, 1, 4, false, [⟨31, 16, .ro, 0, .any⟩, ⟨2, 2, .ro, 0, .any⟩, ⟨1, 1, .ro, 0, .any⟩, ⟨0, 0, .ro, 0, .any⟩]⟩,
  ⟨0x048, 1, 4, false, [⟨31, 16, .ro, 0, .any⟩, ⟨15, 0, .ro, 0, .any⟩]⟩]

/-- Layout of the WATCHSEQ page (R485). -/
def layoutWatchseq : List RegDef := [
  ⟨0x040, 1, 4, false, [⟨6, 0, .rw, 0, .rng 0 64⟩]⟩,
  ⟨0x044, 1, 4, false, [⟨31, 0, .ro, 0, .any⟩]⟩,
  ⟨0x048, 1, 4, false, [⟨31, 16, .ro, 0, .any⟩, ⟨15, 0, .ro, 0, .any⟩]⟩,
  ⟨0x100, 64, 4, false, [⟨31, 0, .rw, 0, .any⟩]⟩]

/-- Layout of the LOCKER page (R508). -/
def layoutLocker : List RegDef := [
  ⟨0x040, 1, 4, false, [⟨13, 0, .rw, 17, .any⟩]⟩,
  ⟨0x044, 1, 4, false, [⟨31, 31, .ro, 0, .any⟩, ⟨30, 30, .ro, 0, .any⟩, ⟨29, 29, .ro, 0, .any⟩, ⟨28, 28, .ro, 0, .any⟩, ⟨27, 21, .ro, 0, .any⟩, ⟨15, 0, .ro, 0, .any⟩]⟩,
  ⟨0x048, 2, 4, false, [⟨31, 0, .ro, 0, .any⟩]⟩,
  ⟨0x050, 1, 4, false, [⟨31, 0, .ro, 0, .any⟩]⟩,
  ⟨0x054, 1, 4, false, [⟨15, 0, .ro, 0, .any⟩]⟩,
  ⟨0x058, 1, 4, true, [⟨5, 0, .rw, 0, .any⟩]⟩,
  ⟨0x05C, 1, 4, true, [⟨31, 0, .rw, 0, .any⟩]⟩,
  ⟨0x060, 1, 4, false, [⟨1, 0, .wo, 0, .max 2⟩]⟩,
  ⟨0x064, 1, 4, false, [⟨31, 16, .ro, 0, .any⟩, ⟨15, 0, .ro, 0, .any⟩]⟩,
  ⟨0x068, 1, 4, false, [⟨18, 16, .ro, 0, .any⟩, ⟨6, 0, .ro, 0, .any⟩]⟩,
  ⟨0x06C, 1, 4, false, [⟨31, 0, .ro, 0, .any⟩]⟩,
  ⟨0x100, 6, 32, false, [⟨29, 24, .wo, 0, .any⟩, ⟨21, 16, .wo, 0, .any⟩, ⟨3, 0, .wo, 0, .any⟩]⟩,
  ⟨0x104, 6, 32, true, [⟨31, 0, .rw, 0, .any⟩]⟩,
  ⟨0x108, 6, 32, true, [⟨31, 0, .rw, 0, .any⟩]⟩,
  ⟨0x10C, 6, 32, true, [⟨31, 16, .rw, 0, .any⟩, ⟨15, 0, .rw, 0, .any⟩]⟩,
  ⟨0x110, 6, 32, true, [⟨31, 0, .rw, 0, .any⟩]⟩,
  ⟨0x114, 6, 32, false, [⟨31, 31, .ro, 0, .any⟩, ⟨30, 30, .ro, 0, .any⟩, ⟨23, 16, .ro, 0, .any⟩, ⟨15, 0, .ro, 0, .any⟩]⟩,
  ⟨0x118, 6, 32, true, [⟨4, 0, .rw, 0, .any⟩]⟩,
  ⟨0x11C, 6, 32, true, [⟨0, 0, .rw, 0, .any⟩]⟩]

/-- Layout of the TETHER page (R524). -/
def layoutTether : List RegDef := [
  ⟨0x040, 1, 4, false, [⟨26, 26, .rw, 1, .any⟩, ⟨25, 24, .rw, 0, .max 1⟩, ⟨23, 18, .rw, 3, .any⟩, ⟨17, 12, .rw, 1, .any⟩, ⟨11, 11, .rw, 1, .any⟩, ⟨10, 8, .rw, 3, .rng 1 7⟩, ⟨7, 0, .rw, 50, .rng 10 100⟩]⟩,
  ⟨0x044, 1, 4, false, [⟨31, 24, .rw, 5, .rng 1 30⟩, ⟨15, 0, .rw, 1000, .rng 250 10000⟩]⟩,
  ⟨0x048, 1, 4, false, [⟨31, 16, .rw, 10, .rng 1 3600⟩, ⟨15, 0, .rw, 0, .any⟩]⟩,
  ⟨0x04C, 1, 4, false, [⟨29, 24, .rw, 0, .any⟩, ⟨21, 16, .rw, 0, .any⟩, ⟨15, 0, .rw, 65535, .any⟩]⟩,
  ⟨0x050, 2, 4, false, [⟨31, 31, .rw, 0, .any⟩, ⟨10, 8, .rw, 0, .max 5⟩, ⟨6, 0, .rw, 0, .any⟩]⟩,
  ⟨0x058, 1, 4, false, [⟨31, 28, .ro, 0, .any⟩, ⟨27, 24, .ro, 0, .any⟩, ⟨18, 16, .ro, 0, .any⟩, ⟨5, 5, .ro, 0, .any⟩, ⟨4, 4, .ro, 0, .any⟩, ⟨3, 3, .ro, 0, .any⟩, ⟨2, 2, .ro, 0, .any⟩, ⟨1, 1, .ro, 0, .any⟩, ⟨0, 0, .ro, 0, .any⟩]⟩,
  ⟨0x05C, 2, 4, false, [⟨31, 0, .ro, 0, .any⟩]⟩,
  ⟨0x064, 1, 4, false, [⟨31, 16, .ro, 0, .any⟩, ⟨15, 0, .ro, 0, .any⟩]⟩,
  ⟨0x068, 1, 4, false, [⟨31, 16, .ro, 0, .any⟩, ⟨15, 0, .ro, 0, .any⟩]⟩,
  ⟨0x06C, 1, 4, false, [⟨31, 16, .ro, 0, .any⟩, ⟨15, 0, .ro, 0, .any⟩]⟩,
  ⟨0x070, 1, 4, false, [⟨1, 0, .wo, 0, .max 2⟩]⟩,
  ⟨0x074, 1, 4, true, [⟨3, 0, .rw, 0, .any⟩]⟩,
  ⟨0x078, 1, 4, true, [⟨31, 0, .rw, 0, .any⟩]⟩,
  ⟨0x07C, 1, 4, true, [⟨31, 31, .rw, 0, .any⟩]⟩,
  ⟨0x080, 1, 4, false, [⟨31, 0, .ro, 0, .any⟩]⟩,
  ⟨0x084, 1, 4, false, [⟨1, 0, .wo, 0, .max 2⟩]⟩,
  ⟨0x088, 1, 4, false, [⟨13, 8, .ro, 0, .any⟩, ⟨5, 0, .ro, 0, .any⟩]⟩]

end Sys2Proof
end

