-- ==== Sys2Proof/Machine/Classes.lean ====
section
/-! DEFINITION. The page map (R54 to R57), the unit classes (R61) and what each class chapter fixes for the header of its pages:
fault sources and which of them are faulting (R62, R69), the safe states supported (R64), whether the unit is adaptive or guardable,
its enable flag and STATE at reset, whether DISABLE is refused, whether SELFTEST is refused in ACTIVE (R69), and the HEALTH each set
source requires (R545). -/

namespace Sys2Proof

/-- The class of a page. -/
inductive Cls where
  | none | dev | pwr | clk | reckon | lay | tlog | logline | policy | locker | tether | splice | fid | eth | hitch
  | watchseq | strandctl | cap | bank | out | bridge | valve | vhs | boost | rat | msg | sink | compat | inp | touch
  | can | lin | sat | bight | proxy
  deriving DecidableEq, Repr

/-- Classes of the indices below 0x0020 (R54). -/
def clsLow (n : Nat) : Cls :=
  match n with
  | 0 => .dev | 1 => .pwr | 2 => .clk | 3 => .reckon | 4 => .lay | 5 => .tlog | 6 => .logline | 7 => .policy
  | 8 => .locker | 9 => .tether | 10 => .splice | 11 => .fid | 12 => .eth | 13 => .hitch | 14 => .watchseq
  | 15 => .strandctl
  | _ => if n < 0x18 then .cap else if n < 0x1C then .bank else .none

/-- The class of the page at local index `n`, occupied or not (R54). -/
def clsOf (n : Nat) : Cls :=
  if n < 0x20 then clsLow n
  else if n < 0xA0 then .out
  else if n < 0xA8 then .bridge
  else if n < 0xB0 then .valve
  else if n < 0xB4 then .vhs
  else if n = 0xB4 then .boost
  else if n < 0xC0 then .none
  else if n < 0xD8 then .rat
  else if n < 0xDC then .msg
  else if n < 0xEC then .sink
  else if n = 0xEC then .compat
  else if n < 0x100 then .none
  else if n < 0x160 then .inp
  else if n < 0x170 then .touch
  else if n < 0x176 then .can
  else if n < 0x17A then .lin
  else if n < 0x1000 then .none
  else if n < 0x2000 then .sat
  else if n < 0x4000 then .bight
  else if n < 0x6000 then .proxy
  else .none

/-! Page indices of the units (R54). -/
def pgDev : Nat := 0
def pgPwr : Nat := 1
def pgClk : Nat := 2
def pgReckon : Nat := 3
def pgLay : Nat := 4
def pgTlog : Nat := 5
def pgLogline : Nat := 6
def pgPolicy : Nat := 7
def pgLocker : Nat := 8
def pgTether : Nat := 9
def pgSplice : Nat := 10
def pgFid : Nat := 11
def pgEth : Nat := 12
def pgHitch : Nat := 13
def pgWatch : Nat := 14
def pgStrand : Nat := 15
def pgCap (k : Nat) : Nat := 0x10 + k
def pgBank (k : Nat) : Nat := 0x18 + k
def pgOut (c : Nat) : Nat := 0x20 + c
def pgBridge (b : Nat) : Nat := 0xA0 + b
def pgValve (v : Nat) : Nat := 0xA8 + v
def pgVhs (h : Nat) : Nat := 0xB0 + h
def pgBoost : Nat := 0xB4
def pgRat (p : Nat) : Nat := 0xC0 + p
def pgMsg (c : Nat) : Nat := 0xD8 + c
def pgSink (k : Nat) : Nat := 0xDC + k
def pgCompat : Nat := 0xEC
def pgIn (i : Nat) : Nat := 0x100 + i
def pgTouch (t : Nat) : Nat := 0x160 + t
def pgCan (c : Nat) : Nat := 0x170 + c
def pgLin (c : Nat) : Nat := 0x176 + c
def pgSat (c k : Nat) : Nat := 0x1000 + c * 0x400 + k
def pgProxy (p : Nat) : Nat := 0x4000 + p

/-- What a class chapter fixes for the header of its pages. -/
structure ClsInfo where
  /-- CLASS code (R61) -/
  code : Nat
  /-- defined FAULT_SET bits -/
  srcs : Nat
  /-- those that are faulting sources (R69); the arc sources of OUT depend on ARC_CFG.OFF (R165) -/
  faulting : Nat
  /-- SAFE_STATE codes supported (R64) -/
  safe : List Nat
  adaptive : Bool
  guardable : Bool
  /-- enable flag and STATE.STATE after reset -/
  enabled : Bool
  state : Nat
  /-- DISABLE refused with REASON 3 -/
  noDisable : Bool
  /-- SELFTEST refused in ACTIVE (R69) -/
  noActiveTest : Bool
  /-- HEALTH required while a source is set (R545) -/
  health : List (Nat × Nat)
  deriving DecidableEq, Repr

/-- The class table. -/
def info : Cls → ClsInfo
  | .none => ⟨0x00, 0, 0, [0], false, false, false, 0, false, false, []⟩
  | .dev => ⟨0x01, 0, 0, [0], false, false, true, 2, false, false, []⟩
  | .pwr => ⟨0x02, 0x1F, 0x10, [0], false, false, true, 2, true, false, [(4, 3)]⟩
  | .clk => ⟨0x03, 0x7, 0x4, [0], false, false, true, 1, true, false, [(2, 3)]⟩
  | .reckon => ⟨0x04, 0xF, 0x8, [0], false, false, true, 2, true, false, [(3, 3)]⟩
  | .lay => ⟨0x05, 0x1F, 0x10, [0], false, false, true, 2, true, true, [(4, 3)]⟩
  | .tlog => ⟨0x06, 0x3, 0x2, [0], false, false, true, 2, true, false, [(1, 3)]⟩
  | .logline => ⟨0x07, 0x3, 0x2, [0], false, false, true, 2, true, false, [(1, 3)]⟩
  | .policy => ⟨0x08, 0x1F, 0, [0], true, false, true, 1, true, false, []⟩
  | .locker => ⟨0x09, 0x7FF, 0x300, [0], false, false, true, 1, true, false, [(7, 2), (8, 3), (9, 3)]⟩
  | .tether => ⟨0x0A, 0x7F, 0x40, [0], true, false, false, 0, false, false, [(6, 3)]⟩
  | .splice => ⟨0x0B, 0x1FF, 0x100, [0], false, false, false, 0, false, true, [(8, 3)]⟩
  | .fid => ⟨0x0C, 0xF, 0x8, [0], false, false, true, 1, false, false, [(3, 3)]⟩
  | .eth => ⟨0x0D, 0xF, 0x8, [0], false, false, true, 1, true, true, [(3, 3)]⟩
  | .hitch => ⟨0x0E, 0xF, 0x8, [0], false, false, true, 2, true, false, [(3, 3)]⟩
  | .watchseq => ⟨0x0F, 0x1, 0x1, [0], false, false, true, 1, true, false, [(0, 3)]⟩
  | .strandctl => ⟨0x10, 0x033F0F3F, 0x02000000, [0], false, false, true, 1, true, false, [(25, 3)]⟩
  | .cap => ⟨0x11, 0x3F, 0x1, [0], true, false, false, 0, false, false, []⟩
  | .bank => ⟨0x12, 0x7FF, 0x140, [0], false, false, true, 1, true, false, []⟩
  | .out => ⟨0x13, 0x7FFFFF, 0x407320, [0, 1, 2, 3], true, true, false, 0, false, true,
      [(12, 3), (13, 3), (19, 1), (20, 2), (22, 3)]⟩
  | .bridge => ⟨0x14, 0xFFF, 0xB01, [0, 3], true, false, false, 0, false, true, [(11, 3)]⟩
  | .valve => ⟨0x15, 0x7FF, 0x303, [0, 1, 2, 3], true, false, false, 0, false, true, [(9, 3)]⟩
  | .vhs => ⟨0x16, 0x3F, 0x31, [0], false, false, true, 1, false, true, [(4, 3)]⟩
  | .boost => ⟨0x17, 0x1F, 0x18, [0], false, false, true, 1, false, true, [(3, 3)]⟩
  | .rat => ⟨0x18, 0xFFF, 0xC03, [0, 1, 2, 3], true, true, false, 0, false, true, [(6, 2), (7, 1), (11, 3)]⟩
  | .msg => ⟨0x19, 0x3F, 0x1C, [0], false, false, false, 0, false, false, []⟩
  | .sink => ⟨0x1A, 0x1F, 0x10, [0, 1, 2, 3], true, false, false, 0, false, true, [(4, 3)]⟩
  | .compat => ⟨0x1B, 0, 0, [0], false, false, true, 2, false, false, []⟩
  | .inp => ⟨0x1C, 0x1F, 0x13, [0], true, false, true, 2, false, false, [(4, 3)]⟩
  | .touch => ⟨0x1D, 0x1F, 0x18, [0], true, false, true, 2, false, false, [(4, 3)]⟩
  | .can => ⟨0x1E, 0x7F, 0x60, [0], false, false, false, 0, false, true, [(6, 3)]⟩
  | .lin => ⟨0x1F, 0xF, 0xC, [0], false, false, true, 1, false, true, [(3, 3)]⟩
  | .sat => ⟨0x20, 0xF, 0, [0], false, false, true, 1, false, true, []⟩
  | .bight => ⟨0x40, 0, 0, [0, 1, 2, 3], false, false, false, 1, false, false, []⟩
  | .proxy => ⟨0x00, 0xFFFFFFFF, 0, [0, 1, 2, 3], false, false, false, 0, false, false, []⟩

/-- The register layout of a class. -/
def layoutOf : Cls → List RegDef
  | .dev => layoutDev | .pwr => layoutPwr | .clk => layoutClk | .reckon => layoutReckon | .lay => layoutLay
  | .tlog => layoutTlog | .logline => layoutLogline | .policy => layoutPolicy | .locker => layoutLocker
  | .tether => layoutTether | .splice => layoutSplice | .fid => layoutFid | .eth => layoutEth | .hitch => layoutHitch
  | .watchseq => layoutWatchseq | .strandctl => layoutStrandctl | .cap => layoutCap | .bank => layoutBank
  | .out => layoutOut | .bridge => layoutBridge | .valve => layoutValve | .vhs => layoutVhs | .boost => layoutBoost
  | .rat => layoutRat | .msg => layoutMsg | .sink => layoutSink | .compat => layoutCompat | .inp => layoutInp
  | .touch => layoutTouch | .can => layoutCan | .lin => layoutLin | .sat => layoutSat | .bight => layoutBight
  | .none => [] | .proxy => []

/-- Whether a register definition covers offset `off`. -/
def RegDef.covers (r : RegDef) (off : Nat) : Bool :=
  decide (r.off ≤ off) && (off - r.off) % r.stride == 0 && decide ((off - r.off) / r.stride < r.count)

/-- The register definition of a class at an offset, if the table gives it fields. -/
def regDef (c : Cls) (off : Nat) : Option RegDef := (layoutOf c).find? (·.covers off)

/-- The bits of a span [hi:lo]. -/
def span (hi lo : Nat) : Nat := (2 ^ (hi + 1 - lo) - 1) * 2 ^ lo

/-- Sum of the reset values of a register's fields, each at its place. -/
def RegDef.resetNat (r : RegDef) : Nat := r.flds.foldl (fun a f => a + f.reset * 2 ^ f.lo) 0

/-- The bits of a register that carry a given access code. -/
def RegDef.bits (r : RegDef) (p : Acc → Bool) : Nat := r.flds.foldl (fun a f => if p f.acc then a ||| span f.hi f.lo else a) 0

/-- The offsets of the RWS registers of a class (R7, R71). -/
def rwsOffs (c : Cls) : List Nat :=
  (layoutOf c).flatMap fun r => if r.flds.any (fun f => f.acc == .rws) then (List.range r.count).map (fun i => r.off + r.stride * i) else []

/-- Reset values a register table states per unit: the order code, fused (R88; notes/assumptions/3.md); the class and ratings of an output at the reset bank class, 110 V (R124, R151,
R182), the current limit of a bridge (R184, R203), the JB4410 MODE byte
(R237), and a valve's R_EST at its R_REF (R279). -/
def resetUnit (n off : Nat) : Option Word :=
  match clsOf n with
  | .dev => if off = 0x044 then some 1 else none
  | .out =>
    let c := n - 0x20
    let k := if c < 16 then 0 else if c < 80 then 1 else 2
    let r := match k with | 0 => 8000 | 1 => 2000 | _ => 500
    match off with
    | 0x040 => some (BitVec.ofNat 32 (k * 2 ^ 13 + 3 * 2 ^ 4))
    | 0x050 => some (BitVec.ofNat 32 (r * 2 ^ 16 + 10))
    | 0x158 => some (BitVec.ofNat 32 (r * 2 ^ 16))
    | _ => none
  | .valve => if off = 0x068 then some (BitVec.ofNat 32 (1000 * 2 ^ 16 + 200)) else none
  | .compat => if off = 0x100 then some 1 else none
  | .bridge => if off = 0x050 then some (BitVec.ofNat 32 (5000 * 2 ^ 16 + 50 * 2 ^ 8 + 30)) else none
  | _ => none

end Sys2Proof
end

