-- ==== Sys2Proof/Machine/Table.lean ====
section
/-! DEFINITION. Sparse data by key: a list of (key, value) pairs, keys strictly rising, with no pair whose value is the one an
unlisted key reads as. Memory, page registers and every numbered table of the machine are held this way, so equal contents are
equal lists. -/

namespace Sys2Proof

/-- A sparse table: pairs (key, value). -/
abbrev Table (α : Type) := List (Nat × α)

/-- The value listed at key `k`, if any. -/
def tfind {α : Type} : Table α → Nat → Option α
  | [], _ => none
  | (j, v) :: t, k => if j = k then some v else tfind t k

/-- The value at key `k`, `d` where the key is unlisted. -/
def tget {α : Type} (t : Table α) (d : α) (k : Nat) : α := (tfind t k).getD d

/-- The table without key `k`. -/
def terase {α : Type} : Table α → Nat → Table α
  | [], _ => []
  | (j, v) :: t, k => if j = k then terase t k else (j, v) :: terase t k

/-- Insert a pair before the first higher key. -/
def tinsert {α : Type} : Table α → Nat → α → Table α
  | [], k, v => [(k, v)]
  | (j, w) :: t, k, v => if k < j then (k, v) :: (j, w) :: t else (j, w) :: tinsert t k v

/-- Write `v` at key `k` of a table whose unlisted keys read `d` there: writing `d` removes the pair. -/
def tput {α : Type} [DecidableEq α] (t : Table α) (d : α) (k : Nat) (v : α) : Table α :=
  if v = d then terase t k else tinsert (terase t k) k v

/-- Keys strictly rising. -/
def tsorted {α : Type} : Table α → Bool
  | [] => true
  | [_] => true
  | (j, _) :: (k, w) :: t => decide (j < k) && tsorted ((k, w) :: t)

/-- The canonical form over default `d`: keys strictly rising and no listed value equal to `d`. -/
def tcanon {α : Type} [DecidableEq α] (t : Table α) (d : α) : Bool :=
  tsorted t && t.all (fun p => decide (p.2 ≠ d))

end Sys2Proof
end

