-- ==== Sys2Proof/Machine/State.lean ====
section
/-! DEFINITION. The state of the module as plain data: the register pages, the state behind them that the chapters name, the byte
memory of the Strand memory map and the queue of waiting commands; the stops; and the state after reset. Each structure names the
chapter of spec/ whose state it holds. -/

namespace Sys2Proof.Machine

/-! ## Units (02_units_and_pages.md) -/

/-- What a unit holds behind its header: the enable flag (R69), the command held while BUSY (R67), the state before TEST with
whether the flag changed since (R69), a failed self-test (R545), its own FREEZE (R322), the sources whose conditions persist (R62),
a direct override (R87), and whether it is in SAFE by Slack-window expiry alone (R318). -/
structure UnitAux where
  enabled : Bool
  held : Option Word
  test : Option (Nat × Bool)
  testFailed : Bool
  frozen : Bool
  holding : Word
  direct : Bool
  slackOnly : Bool
  deriving DecidableEq, Repr

/-! ## Capstan (03_capstan_bases_and_marks.md) -/

/-- An entry of the Mark table (R105), with the status it will fire with when it is due at a later page clock (R103, R109, R115). -/
structure Mark where
  pos : Word
  target : Nat
  action : Nat
  arg : Nat
  period : Word
  drop : Bool
  wake : Bool
  base : Nat
  armed : Bool
  status : Nat
  due : Option Nat
  deriving DecidableEq, Repr

/-- What a base holds behind its page: the edge count E and the backward edges not yet unwound (R94, R100); whether it has locked since
ENABLE (R98); good pulses in succession and the last interval in ns (R94); the relocked position waiting for CLEAR_FAULTS and the slew
left (R98); the Reckoner counts of the quadrature errors of the last second (R99); and a bit for each point-on-wave slot scheduled
without phase targeting (R117); whether the base still has to relock after a sleep (R122); the part of a unit its advance carries on, in
1/64,000,000 (R94); the units coasted (R97); and the frame period FALLBACK keeps, ns (R97). -/
structure CapAux where
  edges : Int
  back : Nat
  everLocked : Bool
  pulses : Nat
  interval : Nat
  relock : Option Word
  slew : Int
  quadAt : List Nat
  unsync : Nat
  resume : Bool
  sub : Nat
  coasted : Nat
  fbPeriod : Nat
  deriving DecidableEq, Repr

/-! ## Policy (11_policy_and_adaptation.md) -/

/-- An entry of the policy table (R306). -/
structure PolEntry where
  w0 : Word
  w1 : Word
  deriving DecidableEq, Repr

/-- What POLICY holds: the live, staged and stored tables (R306, R308, R324), whether the stored table fails its CRC (R325) and whether the table has been loaded since the start (R323), for
each bank whether a lowering has begun (R311), for each core S2 to S5 the length in ms of its running window (R316), what the last
choice of each unit's DIV was made from (R219), the last logged values L of the adaptive quantities (R321) and the Reckoner counts of the ADAPT entries of the last second (R321). -/
structure PolicyAux where
  live : Table PolEntry
  staged : Table PolEntry
  stored : Table PolEntry
  storedBad : Bool
  up : Bool
  calm : Table Bool
  window : Table Nat
  chosen : Table (Option (List Nat))
  logged : Table (Option Int)
  adaptAt : List Nat
  deriving DecidableEq, Repr

/-! ## Lay (12_lay_fault_collection.md) -/

/-- An entry of the reaction table (R330): 32 two-bit reactions, the target group and the membership mask. -/
structure React where
  lo : Word
  hi : Word
  tgroup : Nat
  member : Nat
  deriving DecidableEq, Repr

/-- A FAULT entry the firmware still has to write (R349). -/
structure FaultNote where
  unit : Nat
  bit : Nat
  brk : Bool
  reaction : Nat
  deriving DecidableEq, Repr

/-- What the collector holds: the sources asserting at it and the break latches, a mask for each unit (R327), the reaction table
(R330), the FAULT entries waiting for the firmware (R349), whether start-up has released the FAULT_N pin (R336), and the pairs that do not read idle now, as
(unit, bit) (R327). -/
structure LayAux where
  asserting : Table Word
  breaks : Table Word
  react : Table (Option React)
  notes : List FaultNote
  released : Bool
  bad : List (Nat × Nat)
  deriving DecidableEq, Repr

/-! ## Trouble log, Logline, Reckoner (13_trouble_log_and_logline.md) -/

/-- A Trouble-log entry, its eight words (R348). -/
structure TEntry where
  seq : Word
  utcS : Word
  utcN : Word
  rkLo : Word
  kind : Word
  unit : Word
  d0 : Word
  d1 : Word
  deriving DecidableEq, Repr

/-- A Logline record waiting for its sequence number and CRC (R356, R358): its words 0x04 to 0x24. -/
structure LRec where
  opsec : Word
  pcyc : Word
  kind : Word
  arg : Word
  d0 : Word
  d1 : Word
  tseq : Word
  ext0 : Word
  ext1 : Word
  deriving DecidableEq, Repr

/-- A Logline slot in MRAM: its 16 words (R356); a slot never written is the empty list. -/
structure LSlot where
  words : List Word
  deriving DecidableEq, Repr

/-- The logs and their clock: the Reckoner count (R343) and its UTC in units of 1/64 ns, the slew still to remove (R344), t_op in ms
and its MRAM copy, PCYC (R346), the Trouble-log ring by slot (R347), the Reckoner counts of each core's recent APPENDs (R354), the
Logline queue, slots, LOST mark and stopped recorder (R355, R358, R365), and the time the next t_op store is due. -/
structure LogAux where
  rk : Nat
  utc : Nat
  slew : Int
  topMs : Nat
  topStored : Nat
  pcyc : Nat
  ring : Table TEntry
  appAt : Table (List Nat)
  queue : List LRec
  slots : Table LSlot
  lost : Bool
  stopped : Bool
  deriving DecidableEq, Repr

/-! ## Protected outputs and load sensing (04_protected_outputs.md, 05_load_sensing_and_lifetime.md) -/

/-- A drive in force at a switch: on, PWM mode, duty, period, divider and phase (R128, R146). -/
structure Drive where
  on : Bool
  mode : Nat
  duty : Nat
  period : Nat
  div : Nat
  phase : Nat
  deriving DecidableEq, Repr

/-- The PWM period in force at an output (R128, R129): its length and on-time in ns; every how many periods one is driven, and how many of
those have passed; the base positions of its on-edge and off-edge; and whether the base has placed a period since synchronised PWM began. -/
structure Pulse where
  period : Nat
  on : Nat
  every : Nat
  count : Nat
  onEdge : Word
  offEdge : Word
  placed : Bool
  deriving DecidableEq, Repr

/-- What an output holds behind its page: the retry wait in ms and a retry that has fallen due (R134), a thermal trip not yet cooled
(R133), the warm side of TJ_WARN's hysteresis (R133), the drive in force (R128) and its PWM period, the drive HOLD keeps (R146), the
current a start phase regulates to in mA (R130, R179), whether a start phase ran, whether the turn-on was a retry, and the energy of the
last turn-off's clamp in mJ (R172); checks of the modulator and of the reference failed in succession (R160) and the digitiser offset (R159),
invalid windows in succession (R162), the valid windows of the present second, whether one had s above 0 and the sums of their FRAY, and
whether the channel was on throughout (R168); the snapshot triggers not re-armed (R166), the last classifications (R172), whether REF waits
for its first 1 s mean (R174), the damage sum in Q16.48, the residue of turning points in 0.1 °C and their MRAM copies, and whether the stored residue waits to be closed (R176, R181). -/
structure OutAux where
  wait : Option Nat
  retryDue : Bool
  hot : Bool
  warm : Bool
  drive : Drive
  pulse : Pulse
  hold : Drive
  startCur : Nat
  startRan : Bool
  byRetry : Bool
  clampMj : Nat
  digiFails : Nat
  refFails : Nat
  offset : Int
  blind : Nat
  winN : Nat
  winS : Bool
  winSum : List Nat
  steady : Bool
  serFired : Bool
  parFired : Bool
  classes : List Nat
  refStale : Bool
  damage : Nat
  residue : List Int
  damageStored : Nat
  residueStored : List Int
  halvesStored : Nat
  closeNext : Bool
  deriving DecidableEq, Repr

/-! ## Motor bridges (06_motor_bridges.md) -/

/-- What a bridge is doing: coasting, driving, the 100 ms brake of a stop that ends demand (R193), the brake of LIMIT_LONG and PARK_FAIL that
ends in coast (R188, R198), the brake before a reversal (R187), the steps of a pinch reversal (R196), or a standing brake. -/
inductive BrPhase where
  | coast | drive | stopBrake | limitBrake | turnBrake | pinchBrake | pinchBack | pinchHold | brake
  deriving DecidableEq, Repr

/-- What a bridge holds behind its page: the phase; the duty at the motor in 1/32,768 duty units (R187); whether demand has ended (R200)
and whether the bridge acts only on its next APPLY (R188, R193, R196); the direction of a POSITION drive, up where true (R186), and
whether the brake before its reversal is done (R187); a thermal turn-off not yet cooled and the warm side of TJ_WARN (R189); the last
accepted interval τ in ns, the intervals of the last moving second as (|E| in µV, ns) and the gaps between the ripples of the last 10 ms in
ns, newest first (R191); ripples since the motion's start, its first position and whether it may still train (R195, R197), the window
sums by bin, the last window exceeding, the largest excess (R195); the position of the pinch decision and the last closing duty (R196); ripples and a park edge since the park request, the present and the last cycle time in
ns (R198); and the MRAM copies (R202). -/
structure BridgeAux where
  phase : BrPhase
  duty : Int
  done : Bool
  ended : Bool
  aimUp : Bool
  turned : Bool
  hot : Bool
  warm : Bool
  tau : Nat
  recent : List (Nat × Nat)
  gaps : List Nat
  since : Nat
  startPos : Int
  train : Bool
  bins : Table (Nat × Nat)
  exceeded : Bool
  peak : Option Int
  ppos : Int
  closeDuty : Nat
  parkRipples : Nat
  parkEdge : Bool
  cycNs : Nat
  lastCycNs : Nat
  posStored : Word
  homedStored : Bool
  uncertStored : Nat
  profileStored : List Word
  deriving DecidableEq, Repr


/-! ## Ratline ports and sinks (07_ratline_lighting.md) -/

/-- A running Ease: from `a` to `b` over `total` ms with a curve, and the rung ticks elapsed (R220). -/
structure Ease where
  a : Nat
  b : Nat
  total : Nat
  curve : Nat
  ticks : Nat
  deriving DecidableEq, Repr

/-- What an APPLY asks of a port and its nodes: level, Ease time, curve and periods, and whether an Ease starts (R216, R220, R247). -/
structure RatTarget where
  level : Nat
  easeT : Nat
  curve : Nat
  div : Nat
  fresh : Bool
  deriving DecidableEq, Repr

/-- What a port holds behind its page: the Ease and the level last asked for; the target that waits for a frame, the one in the frame in
progress and the one delivered, which the next Heave latches (R216, R220, R221); the periods last asked for (R215); whether rung dimming was available
when last judged (R211, R212); a Heave whose turn has not opened yet and the last turn length in rung ticks (R213); the level of the rung
pattern in force, 0 where the rungs stand open, the next edge of the turn (2j the on-edge of period j, 2j + 1 its off-edge), whether the
pattern has the rungs open, and the regulator's feed-forward voltage in 10 mV (R213, R217); edges out of and within tolerance in succession
(R218); the rungs clamped and not released, the retests that run (1 queued, 2 in the frame, 3 delivered, 4 open in this turn) (R222, R223)
and the rungs returning at the next turn start (R225); the current a limit holds, 0.1 mA (R207); a thermal turn-off (R209); NO_ALIGN by
choice (R219); the bypass words in MRAM (R225). -/
structure RatAux where
  ease : Option Ease
  target : Nat
  want : Option RatTarget
  flight : Option RatTarget
  ready : Option RatTarget
  divAsked : Nat
  hadDim : Bool
  turnDue : Bool
  turnTicks : Nat
  pattern : Nat
  edge : Nat
  lit : Bool
  ffV : Nat
  ffBad : Nat
  ffGood : Nat
  clamped : List Nat
  retests : Table Nat
  released : List Nat
  cap : Option Nat
  hot : Bool
  noAlign : Bool
  bypassStored : List Word
  deriving DecidableEq, Repr

/-- What a sink holds behind its page: the drive, its PWM period and the current setting in force, and those HOLD keeps (R233, R234). -/
structure SinkAux where
  drive : Drive
  pulse : Pulse
  cur : Nat
  hold : Drive
  holdCur : Nat
  deriving DecidableEq, Repr

/-! ## Messenger chains (08_messenger_line.md) -/

/-- A node of the map: identity, positions and LEDs per position, the port it is assigned to (31 none) and its first rung (R253,
R254). -/
structure ChainNode where
  uid : Word
  positions : Nat
  leds : Nat
  port : Nat
  rung0 : Nat
  deriving DecidableEq, Repr

/-- What a chain holds: the nodes found, the map in MRAM and whether it is complete (R253, R255, R259); the awake set, nodes to join and to leave (R251); a frame in
progress, its TAG and its bytes (R244, R256); the items waiting for each node (R246, R260); the nodes to be asked for a reply, those
the last frame asked and the frames each has missed (R256, R259); the nodes whose JOIN the frame in progress carries; whether the last frame had a share for a SYNC node (R248); the Heaves of each
Mark delivered in succession, up to 2, and the Mark whose Heave awaits its echo (R211, R256); the ENUM operation running (R259); and whether a frame is due (R259). -/
structure ChainAux where
  found : List ChainNode
  stored : List ChainNode
  mapValid : Bool
  awake : List Nat
  joining : List Nat
  leaving : List Nat
  inFrame : Bool
  tag : Nat
  frame : List Nat
  items : Table (List (Nat × Nat))
  ask : List Nat
  asked : List Nat
  missed : Table Nat
  joinSent : List Nat
  syncShare : Bool
  runs : Table Nat
  awaiting : Option Nat
  op : Nat
  due : Bool
  deriving DecidableEq, Repr

/-- A chain at reset. -/
def chainReset : ChainAux := ⟨[], [], false, [], [], [], false, 0, [], [], [], [], [], [], false, [], none, 0, false⟩

/-! ## Valve drivers (09_valve_drivers.md) -/

/-- What a valve holds behind its page: whether a pulse has ended its demand, live and in SAFE (R267); the pull-in time in 10 µs (R265);
withheld by a duty limit (R274); a thermal turn-off (R280), the warm side of COIL_HOT (R272) and R_EST held at a bound (R271); on the
boost rail for a hold (R263); the decay path by row of R268, 0 none; the duty and PEAK-energy bins of 10 ms, newest first, in µs and mJ
(R273); the mode, setpoint and dither amplitude SAFE HOLD keeps (R277); the dither phase in 1/20,000 and the frequency in force, i_ref,
the duty the last setpoint step started at and that setpoint (R266); what the interval of R271 must not change and whether it has;
R_EST in MRAM (R271). -/
structure ValveAux where
  done : Bool
  safeDone : Bool
  pullAt : Nat
  dutyHold : Bool
  hot : Bool
  warm : Bool
  bound : Bool
  railUp : Bool
  peakCut : Bool
  path : Nat
  bins : List (Nat × Nat)
  holdMode : Nat
  holdSet : Nat
  holdAmp : Nat
  dPhase : Nat
  dFreq : Nat
  iRef : Nat
  duty : Nat
  lastSet : Nat
  steady : Option (Nat × Bool)
  touched : Bool
  rStored : Option Nat
  deriving DecidableEq, Repr

/-- What a shared switch holds: withheld by its duty limit (R274) and a thermal turn-off (R281). -/
structure VhsAux where
  dutyHold : Bool
  hot : Bool
  deriving DecidableEq, Repr

/-! ## Field inputs and touch (10_inputs_and_touch.md) -/

/-- What an input holds behind its page: the debounced band, 4 while undecided, and the debounce count with its band (R287); the
closing attempt with its chatter and the OPEN or BROKEN windows in succession (R289); the cleaning train, the pulses of it that have
fallen due, whether the debounced band has been CLOSED in it and when the pulse ends (R288); a LONG already posted, since when the input
is active, and that the first decision after a wake is still to come (R301, R302); BROKEN or SHORT not ended by a valid window, by bit,
and INDET for 50 ms not ended (R286); the scans that differ while asleep (R290); CT_NOW in MRAM (R289). -/
structure InAux where
  deb : Nat
  count : Nat
  countBand : Nat
  attempt : Bool
  chatter : Nat
  openRun : Nat
  train : Bool
  pulses : Nat
  trainClosed : Bool
  pulseEnd : Nat
  longDone : Bool
  activeAt : Nat
  recheck : Bool
  indet : Bool
  bad : Nat
  wakeScans : Nat
  ctStored : Option Nat
  deriving DecidableEq, Repr

/-- What a touch channel holds behind its page: whether BASE0 is still to be captured, BASE0 (R295), the scans with press and release in
succession (R296) and the scans that differ while asleep (R298). -/
structure TouchAux where
  capture : Bool
  base0D : Nat
  base0G : Nat
  pressRun : Nat
  relRun : Nat
  wakeScans : Nat
  deriving DecidableEq, Repr
/-! ## Strand cores (14_strand_architecture.md, 15_strand_instructions.md) -/

/-- Two-register operations of the X and Y units (R393). -/
inductive AluOp where
  | add | sub | adc | sbc | adds | subs | and | or | xor | andn | shl | shr | sar | ror | min | max | minu | maxu
  deriving DecidableEq, Repr

/-- Compares (R393). -/
inductive CmpOp where
  | eq | ne | lt | ltu | le | leu
  deriving DecidableEq, Repr

/-- Multiplies (R398). -/
inductive MulOp where
  | mul | mulh | mulhu | mulq
  deriving DecidableEq, Repr

/-- An operation with its operands (15_strand_instructions.md). Register numbers are those of the fields; immediates are signed where
the table extends them. -/
inductive SOp where
  | alu (o : AluOp) (f : Bool) (rd rs1 rs2 : Nat)
  | clz (rd rs1 : Nat)
  | perm (rd rs1 rs2 : Nat)
  | bfx (signed : Bool) (rd rs1 rs2 : Nat)
  | bfi (rd rs1 rs2 : Nat)
  | sel (p rd rs1 rs2 : Nat)
  | cmp (o : CmpOp) (pd rs1 rs2 : Nat)
  | plog (pd ps1 ps2 tbl : Nat)
  | mvtx (f : RFile) (idx rs1 : Nat)
  | mvfx (rd : Nat) (f : RFile) (idx : Nat)
  | mvts (r : SReg) (rs1 : Nat)
  | mvfs (rd : Nat) (r : SReg)
  | alui (o : AluOp) (rd rs1 : Nat) (imm : Int)
  | bfxi (rd rs1 pos width : Nat)
  | bfii (rd rs1 pos width : Nat)
  | cmpi (o : CmpOp) (pd rs1 : Nat) (imm : Int)
  | movi (rd : Nat) (imm : Int)
  | movh (rd imm : Nat)
  | mul (o : MulOp) (rd rs1 rs2 : Nat)
  | mac (acc : Nat) (neg uns zero : Bool) (rs1 rs2 : Nat)
  | mach (acc : Nat) (neg cross : Bool) (rs1 rs2 : Nat)
  | macd (acc : Nat) (neg word : Bool) (i j : Nat)
  | mvfacc (rd acc sh : Nat) (round sat : Bool)
  | mvtacc (acc rs1 sh : Nat)
  | ldo (z : Size) (uns : Bool) (rd i : Nat) (imm : Int)
  | sto (z : Size) (rd i : Nat) (imm : Int)
  | ldp (z : Size) (uns : Bool) (rd i : Nat)
  | stp (z : Size) (rd i : Nat)
  | ldx (z : Size) (uns : Bool) (rd i rs2 : Nat)
  | stx (z : Size) (rd i rs2 : Nat)
  | push (rd : Nat)
  | pop (rd : Nat)
  | swap (rd i : Nat)
  | sync
  | nop
  | br (off : Int)
  | call (off : Int)
  | brdec (off : Int)
  | brr (rs1 : Nat)
  | callr (rs1 : Nat)
  | ret
  | reti
  | rep (n : Nat)
  | repr (rs1 : Nat)
  | wait
  | trap (code : Nat)
  | brk
  deriving DecidableEq, Repr

/-- A syllable: unit (0 X, 1 Y, 2 M, 3 L, 4 C), guard predicate and operation (R371). -/
structure Syl where
  unit : Nat
  pr : Nat
  op : SOp
  deriving DecidableEq, Repr

/-- An issue group: its address, the address that follows it in memory, and its syllables (R369, R373). -/
structure Group where
  addr : Nat
  next : Nat
  syls : List Syl
  deriving DecidableEq, Repr

/-- A result in flight (R374): the issue number from which groups read it, and the g register, or the accumulator as a non-MAC operation
reads it. -/
structure Flight where
  land : Nat
  acc : Bool
  reg : Nat
  val : BitVec 72
  deriving DecidableEq, Repr

/-- A taken transfer: delay groups left, target, and the status that RETI restores there (R374, R404). -/
structure Jump where
  left : Nat
  target : Nat
  status : Option Word
  deriving DecidableEq, Repr

/-- A frame of the return stack: address, status and kind (0 call, 1 interrupt, 2 trap) (R377). -/
structure Frame where
  addr : Nat
  status : Word
  kind : Nat
  deriving DecidableEq, Repr

/-- A buffered store (R374): address, bytes and value. -/
structure WStore where
  addr : Nat
  bytes : Nat
  val : Word
  deriving DecidableEq, Repr

/-- A core: the registers of R367; the address of the next group and the count of groups issued; results in flight and taken transfers
(R374); the iterations left of a REP whose body comes next (R379); the return stack, newest first (R377); the write buffer, oldest first
(R374); a group waiting for its accesses, with how many are outstanding, 0 while it waits for the buffer (R376, R402); the entry point of
its image (R386); the groups an enabled vector has waited (R382); whether it replays the input log (R465); whether the firmware starts it
once loaded (R388); a RESET that waits for the write buffer (R546); and a request to doze (R473). -/
structure Core where
  g : Table Word
  a : Table Word
  mm : Table Word
  l : Table Word
  am : Table Word
  acc : Table (BitVec 72)
  view : Table (BitVec 72)
  p : BitVec 8
  rpt : Word
  dsp : Word
  status : Word
  trapInfo : Word
  pc : Nat
  issued : Nat
  flight : List Flight
  jumps : List Jump
  rep : Option Nat
  frames : List Frame
  wbuf : List WStore
  stall : Option (Group × Nat)
  entry : Nat
  defer : Nat
  replay : Bool
  auto : Bool
  closing : Bool
  dozeReq : Bool
  deriving DecidableEq, Repr

/-- A core at reset (R367). -/
def coreReset : Core :=
  ⟨[], [], [], [], [], [], [], 1, 0, 0, 0, 0, 0, 0, [], [], none, [], [], none, 0, 0, false, false, false, false⟩

/-! ## CAN FD and LIN (16_can_and_lin.md) -/

/-- A CAN message object (R412, R414, R416): its configuration word, identifier and mask as in the window of R423, 64 data bytes, STATUS,
NEW and time stamp; a request held while its frame is on the bus (R412), an abort of the frame on the bus (R416); and for content
that an EDGE frame brought, the source address it goes out with (R462). -/
structure CanObj where
  ctl : Word
  id : Word
  mask : Word
  data : List Byte
  status : Nat
  fresh : Bool
  ts : Word
  again : Bool
  aborting : Bool
  sa : Option Nat
  deriving DecidableEq, Repr

/-- An object at reset: disabled, CORE 7. -/
def canObjReset : CanObj := ⟨0x1C000#32, 0, 0, List.replicate 64 0, 0, false, 0, false, false, none⟩

/-- What a controller holds behind its page: the object whose frame is on the bus, the acknowledge errors in succession (R418), and
whether its transceiver is in low-power mode (R422), and the base position at the start of the frame on the bus (R416). -/
structure CanAux where
  onBus : Option Nat
  ackRun : Nat
  asleep : Bool
  startTs : Word
  deriving DecidableEq, Repr

/-- A controller at reset. -/
def canReset : CanAux := ⟨none, 0, false, 0⟩

/-- A LIN frame entry (R425, R427): its control word as in the window, 8 data bytes, FRM_STAT, and whether its data has been written
since its last send. -/
structure LinFrame where
  ctl : Word
  data : List Byte
  stat : Nat
  written : Bool
  deriving DecidableEq, Repr

/-- A frame entry at reset: the window's reset values. -/
def linFrameReset : LinFrame := ⟨0x080A0800#32, List.replicate 8 0, 0, false⟩

/-- What a LIN channel holds behind its page: the next entry of the schedule, the entries to poll after a collision (R425), a
go-to-sleep command due in the next slot (R426), and the length in ms of the slot that runs (R425). -/
structure LinAux where
  next : Nat
  polls : List Nat
  sleepDue : Bool
  slot : Nat
  deriving DecidableEq, Repr

/-- A channel at reset. -/
def linReset : LinAux := ⟨0, [], false, 0⟩

/-! ## Backbone, Hitch, Fid (17_backbone_hitch_and_fid.md) -/

/-- A telegram (R434, R449): ComID, destination, control word as in the window and time-out; the sequence counter last sent and last
accepted; the Reckoner count at which it last left (R436); the dataset last sent; the grid point it last took, as a multiple of CYCLE, and
whether a step of the time came since (R434, R436). -/
structure Telegram where
  comid : Word
  dest : Word
  ctl : Word
  tmo : Word
  txSeq : Nat
  rxSeq : Option Nat
  sentAt : Option Nat
  data : List Byte
  grid : Nat
  stepped : Bool
  deriving DecidableEq, Repr

/-- A telegram entry at reset: the window's reset values. -/
def telReset : Telegram := ⟨0, 0, 0x00032000#32, 300, 0, none, none, [], 0, false⟩

/-- What ETH holds behind its page: good Syncs in succession (R432), the slew of the PTP time still to do in 1/64 ns (R432), the
grandmaster's UTC offset in seconds last heard (R344), the telegrams (R434), the frames of the PRP duplicate table as (source, number,
Reckoner count) (R433), and the supervision frames sent. -/
structure EthAux where
  good : Nat
  slew : Int
  utcOff : Option Int
  tels : Table Telegram
  seen : List (Nat × Nat × Nat)
  supervised : Nat
  deriving DecidableEq, Repr

/-- A frame that waits at the egress of a port (R431): port, traffic class, bytes, and when it was queued. -/
structure Egress where
  port : Nat
  cls : Nat
  bytes : Nat
  at_ : Nat
  deriving DecidableEq, Repr

/-- What the bridge holds (R430, R431): the learnt addresses as (address, port, Reckoner count), the latest first; the frames queued,
oldest first; until when each port's wire is busy; and until when the policer of each port is paid off. Times as `Mach.wire` counts. -/
structure SwitchAux where
  fdb : List (Nat × Nat × Nat)
  queued : List Egress
  busy : Table Nat
  paid : Table Nat
  deriving DecidableEq, Repr

/-- The bridge at a start. -/
def switchReset : SwitchAux := ⟨[], [], [], []⟩

/-- A Hitch entry (R437): words W0 to W6, HITS and REJS; the source field it last saw and the result it last computed (R440); and the
Reckoner count of its last transmission request with whether one waits for GAP (R440). -/
structure HEntry where
  w0 : Word
  w1 : Word
  w2 : Word
  w3 : Word
  w4 : Word
  w5 : Word
  w6 : Word
  hits : Nat
  rejs : Nat
  seen : Option Nat
  result : Option Nat
  asked : Option Nat
  waiting : Bool
  deriving DecidableEq, Repr

/-- An entry at reset: not valid. -/
def hitchReset : HEntry := ⟨0, 0, 0, 0, 0, 0, 0, 0, 0, none, none, none, false⟩

/-- A lookup request (R440, R441): source kind and keys, and the payload of a frame. -/
structure HReq where
  sk : Nat
  keyA : Word
  keyB : Nat
  payload : List Byte
  deriving DecidableEq, Repr

/-- What HITCH holds: its table and the FIFO of lookups (R441). -/
structure HitchAux where
  table : Table HEntry
  fifo : List HReq
  deriving DecidableEq, Repr

/-- A request sent and not yet answered (R446): its SEQ, its items each with the proxy it came from, and the times it was resent. -/
structure FOut where
  seq : Nat
  items : List (Nat × FItem)
  resent : Nat
  deriving DecidableEq, Repr

/-- A Fid peer (R445, R451): its control word as in the window and its address; PSTATE; its epoch; the own SEQ last used for it; the
highest SEQ received and the bits of the 64 below it; the last 8 requests acted on with their RESP (R445); the units it subscribed
(R447), each with the STATE and FAULT_SET last reported; the items gathered for it (R448) and the requests outstanding (R446); and whether
its last frame came on LAN B (R433). -/
structure Peer where
  ctl : Word
  ip : Word
  pstate : Nat
  epoch : Word
  tx : Nat
  high : Nat
  window : Nat
  recent : List (Nat × List FResp)
  subs : List (Nat × Option (Word × Word))
  gather : List (Nat × FItem)
  out : List FOut
  lanB : Bool
  deriving DecidableEq, Repr

/-- A peer entry at reset. -/
def peerReset : Peer := ⟨0, 0, 0, 0, 0, 0, 0, [], [], [], [], false⟩

/-- What FID holds: the module's present epoch (R445), its peers, and whether an epoch is ending (R445). -/
structure FidAux where
  epoch : Word
  peers : Table Peer
  ending : Bool
  deriving DecidableEq, Repr

/-- A proxy binding (R448, R451): enabled, cached words, peer, remote index, first cached offset. -/
structure ProxyAux where
  bind : Bool
  len : Nat
  peer : Nat
  remote : Nat
  ofs : Nat
  deriving DecidableEq, Repr

/-- A binding at reset: none. -/
def proxyReset : ProxyAux := ⟨false, 0, 0, 0, 0x040⟩

/-! ## Splice pairs (18_splice_pairs.md), the guard list -/

/-- A guard entry (R452): enabled, STEP rather than COLD, kind, counter width, unit or object, counter position. -/
structure Guard where
  en : Bool
  step : Bool
  kind : Nat
  ctrW : Nat
  unit : Nat
  ctrPos : Nat
  deriving DecidableEq, Repr

/-- An item of the input log (R464): core, whether an interrupt acceptance, the value of the load or the vector, and the groups issued
since the checkpoint. -/
structure LogItem where
  core : Nat
  irq : Bool
  val : Word
  groups : Nat
  deriving DecidableEq, Repr

/-- A checkpoint (R463): the core, its local data memory and the shared range as byte lists in canonical form, the pending vectors, and the
Reckoner count of its taking. -/
structure Ckpt where
  core : Core
  data : List Host.Cell
  shared : List Host.Cell
  pend : Word
  at_ : Nat
  deriving DecidableEq, Repr

/-- What the pair holds behind its page: FSEQ last sent and highest seen (R456); the changes held until T_APPLY and the EDGE frame last
sent (R458); the last INTENT (R459) and the Reckoner count of its arrival; the partner's held legs as (unit, mean current, on) (R456,
R460); the FSEQ acknowledged; the last good checkpoint of each core, trial-restores failed in succession and the cores fallen back to Step
(R465); checkpoints skipped in succession, and one still being sent (R463); the input log and the cores' group counts at the last
checkpoint (R464); HEALTH frames and probes sent (R454, R467); the mirrored items,
as kind × 65536 + index, whose request has arrived since their last periodic one (R462); the unit of the last leg mismatch (R459); the
Reckoner count of the last mismatch of digests (R454); the partner's bank feed states (R467); what the Second's link time has been corrected by, ns (R457);
and the bits and bank feed states of the HEALTH frame last sent (R467). -/
structure SpliceAux where
  fseqTx : Nat
  fseqRx : Nat
  edges : List Edge
  sent : Option Edge
  intent : List IntentUnit
  heardAt : Nat
  legs : List (Nat × Nat × Bool)
  acked : Nat
  ckpts : Table (Option Ckpt)
  trialFails : Table Nat
  fellBack : Nat
  skipped : Nat
  sending : Bool
  log : List LogItem
  marks : Table Nat
  healthTx : Nat
  probes : Nat
  arrived : List Nat
  misUnit : Nat
  mismatchAt : Option Nat
  peerBanks : List Nat
  linkAdj : Int
  healthOut : Nat × List Nat
  deriving DecidableEq, Repr

/-- The pair at reset: none. -/
def spliceReset : SpliceAux := ⟨0, 0, [], none, [], 0, [], 0, [], [], 0, 0, false, [], [], 0, 0, [], 0, none, [], 0, (0, [])⟩
/-! ## Power states and network sleep (19_power_states_and_network_sleep.md) -/

/-- A Trouble-log entry latched in sleep, written after the wake (R351): kind, unit, argument and data. -/
structure LateNote where
  kind : Nat
  unit : Nat
  arg : Nat
  d0 : Word
  d1 : Word
  deriving DecidableEq, Repr

/-- What PWR, CLK and WATCHSEQ hold: where the module sleeps (0 awake, 1 Watch, 2 Stasis, 3 Off) (R470); the first latched wake source as
(code, unit, Reckoner count) and whether it came during COMMIT (R475, R477); the page whose first valid frame would make a wake true
(R478); the step the Watch sequencer runs next and the supply channels it drives (R480); the ring message to be forwarded, whether the node
is its anchor, the ring message last sent and whether the successor's next message is awaited (R483); and the FAULT_N level held in sleep
(R336); the entries latched in sleep (R351); and whether LOGIC_A and LOGIC_B are above the start threshold (R527). -/
structure PwrAux where
  asleep : Nat
  latch : Option (Nat × Nat × Nat)
  atCommit : Bool
  suspect : Option Nat
  step : Nat
  supplies : List Nat
  fwd : Option NmMsg
  last : NmMsg
  await : Bool
  heldFaultN : Bool
  late : List LateNote
  upA : Bool
  upB : Bool
  deriving DecidableEq, Repr

/-- Awake, with nothing latched and no ring. -/
def pwrReset : PwrAux := ⟨0, none, false, none, 0, [], none, ⟨0, 0, false, false, 0, 0⟩, false, true, [], false, false⟩

/-! ## Locker (20_locker_security.md) -/

/-- A key slot (R492): its attribute word, key bytes, and the public point of a P-256 key. -/
structure KeySlot where
  attr : Word
  key : List Nat
  pub : List Nat
  deriving DecidableEq, Repr

/-- An empty slot. -/
def slotEmpty : KeySlot := ⟨0, [], []⟩

/-- A running request (R494, R497): its mailbox, service, slots, buffers, lengths and attribute word, the slots as they stood when it
started (R493), and whether the Slipline has aborted it (R506). -/
structure LkReq where
  core : Nat
  svc : Nat
  slot : Nat
  slot2 : Nat
  src : Nat
  dst : Nat
  len : Nat
  aad : Nat
  arg : Word
  k1 : KeySlot
  k2 : KeySlot
  erased : Bool
  deriving DecidableEq, Repr

/-- What LOCKER holds behind its page: the slots (R491, R492), NONCE (R490), the session cache by Fid peer, 256 the Splice link (R495), the
running requests, the one being served first (R497), the last of the mailboxes 2 to 5 served (R497), the DRBG's generate requests since its
seeding (R498), and the Reckoner count of the last denial logged (R489). -/
structure LockerAux where
  slots : Table KeySlot
  nonce : List Nat
  session : Table (List Nat)
  queue : List LkReq
  turn : Nat
  drbg : Nat
  deniedAt : Option Nat
  deriving DecidableEq, Repr

/-! ## Tether (21_tether_access.md) -/

/-- A token entry (R514, R524): its ID, whether enabled, and LAST_CNT. -/
structure Token where
  id : Word
  en : Bool
  last : Nat
  deriving DecidableEq, Repr

/-- A token entry never written. -/
def tokenNone : Token := ⟨0, false, 0⟩

/-- What TETHER holds behind its page: the token entries; the round running (0 none, 1 of a request, 2 a presence round, 3 a parked burst), its
challenge and round number (R512); the slots answered, as (slot, class 1 valid, 2 invalid, 3 collision, ID) (R514); rounds left in the
request, COLLIDE rounds in succession (R515, R516); failed attempts, newest first, by Reckoner count (R517); WITHDRAW messages still to send
(R519); the rolling counter in MRAM (R519); whether parking may begin, the Reckoner counts of its start and of the next burst (R521); the token of a burst that woke
the module (R521); and the Reckoner count of the lock-out (R517). -/
structure TetherAux where
  tokens : Table Token
  round : Nat
  chal : List Nat
  rnd : Nat
  slots : List (Nat × Nat × Word)
  left : Nat
  collides : Nat
  fails : List Nat
  withdraws : Nat
  rctrStored : Nat
  parkedAt : Option Nat
  burstAt : Nat
  burstTok : Option Nat
  lockAt : Nat
  deriving DecidableEq, Repr

/-! ## The machine -/

/-- Everything but the byte memory and the queue: the page registers and the state behind them. -/
structure Mach where
  /-- Live page registers by page × 4096 + offset; an unlisted one is at its reset value. -/
  live : Table Word
  /-- Shadow registers of the RWS registers, in the same keys (R70). -/
  shadow : Table Word
  /-- What each unit holds behind its header. -/
  units : Table UnitAux
  /-- The guard list of the Splice pair (R452). -/
  guards : Table Guard
  /-- What each Capstan base holds behind its page. -/
  caps : Table CapAux
  /-- The Mark table (R105). -/
  marks : Table Mark
  /-- What each output holds behind its page. -/
  outs : Table OutAux
  /-- What each bridge holds behind its page. -/
  bridges : Table BridgeAux
  /-- What each Ratline port holds behind its page. -/
  rats : Table RatAux
  /-- What each linear sink holds behind its page. -/
  sinks : Table SinkAux
  /-- What each valve holds behind its page. -/
  valves : Table ValveAux
  /-- What each shared switch holds behind its page. -/
  switches : Table VhsAux
  /-- Page clocks of the regulators' present period of 50 µs (R266). -/
  regClk : Nat
  /-- What E_REC has not yet counted, mJ (R270). -/
  recMj : Nat
  /-- The boost converter is stopped until its junction is below 150 °C (R282). -/
  boostHot : Bool
  /-- What each field input holds behind its page. -/
  ins : Table InAux
  /-- What each touch channel holds behind its page. -/
  touches : Table TouchAux
  /-- What has passed of the present Reckoner tick, in 1/15,625 of it: a page clock is 8 (R94). -/
  clk : Nat
  /-- The fraction of a Reckoner unit the LF-RC's accumulator holds, in 2^-30 (R343). -/
  lfAcc : Nat
  /-- The switch's PTP time in units of 1/64 ns (R432). -/
  ptp : Nat
  /-- The CAN message objects, by controller × 128 + object. -/
  canObjs : Table CanObj
  /-- What each CAN controller holds behind its page. -/
  cans : Table CanAux
  /-- The LIN frame entries, by channel × 64 + entry. -/
  linFrames : Table LinFrame
  /-- What the bridge of the backbone holds. -/
  net : SwitchAux
  /-- What each LIN channel holds behind its page. -/
  lins : Table LinAux
  /-- What ETH holds. -/
  eth : EthAux
  /-- What HITCH holds. -/
  hitch : HitchAux
  /-- What FID holds. -/
  fid : FidAux
  /-- What SPLICE holds. -/
  splice : SpliceAux
  /-- The Strand cores. -/
  cores : Table Core
  /-- The rollback floors in MRAM: the firmware's at 0, those of cores S2 to S5 at their numbers (R386, R533). -/
  floors : Table Nat
  /-- What PWR, CLK and WATCHSEQ hold. -/
  pwr : PwrAux
  /-- What LOCKER holds. -/
  locker : LockerAux
  /-- What TETHER holds. -/
  tether : TetherAux
  /-- The channel whose snapshot is in progress (R170, R171). -/
  snap : Option Nat
  /-- What POLICY holds. -/
  policy : PolicyAux
  /-- What the collector holds. -/
  lay : LayAux
  /-- The logs and their clock. -/
  log : LogAux
  /-- The Messenger chains. -/
  chains : Table ChainAux
  /-- The Fid proxies. -/
  proxies : Table ProxyAux
  /-- The main domain is unpowered: Watch, Stasis or Off (R470, R471). -/
  mainOff : Bool
  /-- How many free values have been taken (the model's own). -/
  freeCount : Nat
  deriving DecidableEq, Repr

/-- The machine right after reset. -/
def machReset : Mach where
  live := []
  shadow := []
  units := []
  guards := []
  caps := []
  marks := []
  outs := []
  bridges := []
  rats := []
  sinks := []
  valves := []
  switches := []
  regClk := 0
  recMj := 0
  boostHot := false
  ins := []
  touches := []
  clk := 0
  lfAcc := 0
  ptp := 0
  canObjs := []
  cans := []
  linFrames := []
  net := switchReset
  lins := []
  eth := ⟨0, 0, none, [], [], 0⟩
  hitch := ⟨[], []⟩
  fid := ⟨0, [], false⟩
  splice := spliceReset
  cores := []
  floors := []
  pwr := pwrReset
  locker := ⟨[], [], [], [], 5, 0, none⟩
  tether := ⟨[], 0, [], 0, [], 0, 0, [], 0, 0, none, 0, none, 0⟩
  snap := none
  policy := ⟨[], [], [], false, false, [], [], [], [], []⟩
  lay := ⟨[], [], [], [], false, []⟩
  log := ⟨0, 0, 0, 0, 0, 0, [], [], [], [], false, false⟩
  chains := []
  proxies := []
  mainOff := false
  freeCount := 0

/-- The byte memory of the Strand memory map (R89): keys are Strand addresses; the local memories of core c lie at
0x1_0000_0000 + c × 0x2_0000 + address. A byte never written reads 0 (notes/assumptions/4.md). -/
abbrev Memory := List Host.Cell

/-- The state of the block: the machine, its byte memory and the commands waiting, first in first out. -/
structure State where
  m : Mach
  mem : Memory
  pending : List Instr
  deriving DecidableEq, Repr

/-- The block right after reset: every register at its reset value, memory with nothing listed, no command waiting. -/
def State.reset : State := ⟨machReset, [], []⟩

/-- Why a command stops with a fault: never. The spec gives every row an effect, and an access it turns away shows in registers
(STATE.REJECT, DEV.STRAY, a core's trap); operands are typed so that no command names a page or register that does not exist (R54, R55).
Safe: nothing is stopped. -/
inductive Fault where
  deriving DecidableEq, Repr

/-- Why a command is refused by the model. -/
inductive Refusal where
  /-- The command has no meaning in the model yet. Safe: the model answers no next state. -/
  | notModelled (mnemonic : String)
  deriving DecidableEq, Repr

end Sys2Proof.Machine
end

