-- ==== Sys2Proof/Machine/Ops.lean ====
section
/-! DEFINITION. The named operations every meaning is built from: reading and writing page registers and their fields, refusing a
write, setting a fault source, the Trouble log and the Logline queue, raising a vector, the ADAPT log, and the state of a unit. -/

namespace Sys2Proof

/-! ## Fields of words -/

/-- The mask of a field. -/
def Fld.mask (f : Fld) : Word := BitVec.ofNat 32 (span f.hi f.lo)

/-- The value of a field in a word. -/
def Fld.of (f : Fld) (w : Word) : Nat := (w.toNat / 2 ^ f.lo) % 2 ^ (f.hi + 1 - f.lo)

/-- A word with a field replaced; the value is taken modulo the field's width. -/
def Fld.put (f : Fld) (w : Word) (v : Nat) : Word :=
  BitVec.ofNat 32 (w.toNat % 2 ^ f.lo + (v % 2 ^ (f.hi + 1 - f.lo)) * 2 ^ f.lo + (w.toNat / 2 ^ (f.hi + 1)) * 2 ^ (f.hi + 1))

/-- The largest value a field holds. -/
def Fld.top (f : Fld) : Nat := 2 ^ (f.hi + 1 - f.lo) - 1

/-- A field's value read as two's complement. -/
def Fld.sof (f : Fld) (w : Word) : Int :=
  let v := f.of w
  if v < 2 ^ (f.hi - f.lo) then v else (v : Int) - 2 ^ (f.hi + 1 - f.lo)

/-- The largest magnitude a signed field holds, in both directions. -/
def Fld.stop (f : Fld) : Int := 2 ^ (f.hi - f.lo) - 1

/-- The word of two's complement `i`. -/
def wordOfInt (i : Int) : Word := BitVec.ofInt 32 i

namespace Machine

/-! ## Register pages -/

/-- The key of a register in the page tables. -/
def pageKey (n off : Nat) : Nat := n * 4096 + off

/-- The header of a page at reset (R60): identity, capabilities, STATE, FAULT_MASK with every defined source enabled, no parent. -/
def headerReset (c : Cls) (n off : Nat) : Word :=
  let i := info c
  if c = .none then 0
  else match off with
    | 0x000 => BitVec.ofNat 32 (i.code * 2 ^ 24 + 2 ^ 16 + n)
    | 0x004 => BitVec.ofNat 32 ((if c = .sat then 32 else 0) + (if c = .proxy then 16 else 0) + (if c = .bight then 8 else 0)
        + (if i.guardable then 4 else 0) + (if i.adaptive then 2 else 0) + 1)
    | 0x00C => BitVec.ofNat 32 i.state
    | 0x01C => BitVec.ofNat 32 i.srcs
    | 0x024 => 0xFFFF#32
    | _ => 0

/-- What a page register holds at reset (R60 and the register table of its class). -/
def resetWord (n off : Nat) : Word :=
  let c := clsOf n
  if off < 0x40 then headerReset c n off
  else match resetUnit n off with
    | some w => w
    | none => match regDef c off with
      | some r => BitVec.ofNat 32 r.resetNat
      | none => 0

/-- The live register at an offset of a page. -/
def Mach.reg (m : Mach) (n off : Nat) : Word := tget m.live (resetWord n off) (pageKey n off)

/-- Set the live register at an offset of a page. -/
def Mach.setReg (n off : Nat) (w : Word) (m : Mach) : Mach :=
  { m with live := tput m.live (resetWord n off) (pageKey n off) w }

/-- The shadow register at an offset of a page (R70). -/
def Mach.shd (m : Mach) (n off : Nat) : Word := tget m.shadow (resetWord n off) (pageKey n off)

/-- Set the shadow register at an offset of a page. -/
def Mach.setShd (n off : Nat) (w : Word) (m : Mach) : Mach :=
  { m with shadow := tput m.shadow (resetWord n off) (pageKey n off) w }

/-- A field of a live register. -/
def Mach.fld (m : Mach) (n : Nat) (f : Fld) : Nat := f.of (m.reg n f.off)

/-- A one-bit field of a live register. -/
def Mach.flag (m : Mach) (n : Nat) (f : Fld) : Bool := m.fld n f ≠ 0

/-- A signed field of a live register. -/
def Mach.sfld (m : Mach) (n : Nat) (f : Fld) : Int := f.sof (m.reg n f.off)

/-- Set a field of a live register. -/
def Mach.setFld (n : Nat) (f : Fld) (v : Nat) (m : Mach) : Mach := m.setReg n f.off (f.put (m.reg n f.off) v)

/-- Set a signed field of a live register; a reading beyond the field's range saturates. -/
def Mach.setSFld (n : Nat) (f : Fld) (v : Int) (m : Mach) : Mach :=
  m.setFld n f ((max (-f.stop) (min v f.stop)) % 2 ^ (f.hi + 1 - f.lo)).toNat

/-- Set a field of a live register to a reading; one beyond the field's range saturates. -/
def Mach.setSat (n : Nat) (f : Fld) (v : Nat) (m : Mach) : Mach := m.setFld n f (min v f.top)

/-- Set or clear a one-bit field. -/
def Mach.setFlag (n : Nat) (f : Fld) (b : Bool) (m : Mach) : Mach := m.setFld n f (if b then 1 else 0)

/-- A field of a shadow register. -/
def Mach.shFld (m : Mach) (n : Nat) (f : Fld) : Nat := f.of (m.shd n f.off)

/-- Set a field of a shadow register. -/
def Mach.setShFld (n : Nat) (f : Fld) (v : Nat) (m : Mach) : Mach := m.setShd n f.off (f.put (m.shd n f.off) v)

/-- Add to a counter field, saturating at its width. -/
def Mach.addSat (n : Nat) (f : Fld) (d : Nat) (m : Mach) : Mach := m.setFld n f (min (m.fld n f + d) f.top)

/-- Add one to a counter field, saturating. -/
def Mach.incSat (n : Nat) (f : Fld) (m : Mach) : Mach := m.addSat n f 1

/-- Add one to a counter field, wrapping. -/
def Mach.incWrap (n : Nat) (f : Fld) (m : Mach) : Mach := m.setFld n f (m.fld n f + 1)

/-! ## Units -/

/-- What a unit holds at reset behind its header: the enable flag its class gives it, and nothing else. -/
def unitReset (n : Nat) : UnitAux := ⟨(info (clsOf n)).enabled, none, none, false, false, 0, false, false⟩

/-- The state behind a unit's header. -/
def Mach.unit (m : Mach) (n : Nat) : UnitAux := tget m.units (unitReset n) n

/-- Set the state behind a unit's header. -/
def Mach.setUnit (n : Nat) (u : UnitAux) (m : Mach) : Mach := { m with units := tput m.units (unitReset n) n u }

/-- Change the state behind a unit's header. -/
def Mach.modUnit (n : Nat) (g : UnitAux → UnitAux) (m : Mach) : Mach := m.setUnit n (g (m.unit n))

/-- Whether order code JV9160-L leaves the unit at `n` absent (R4, R6). -/
def Mach.absent (m : Mach) (n : Nat) : Bool :=
  m.fld pgDev Dev.ORDER == 2 && (n == pgTether || n == pgSplice || (decide (0xCC ≤ n) && decide (n ≤ 0xD7)))

/-- Whether the page at `n` is occupied (R55, R56). -/
def Mach.occupied (m : Mach) (n : Nat) : Bool :=
  match clsOf n with
  | .none => false
  | .sat => decide ((n - 0x1000) % 0x400 < (tget m.chains chainReset ((n - 0x1000) / 0x400)).found.length)
  | .proxy => (tget m.proxies proxyReset (n - 0x4000)).bind
  | _ => true

/-- STATE.STATE of a unit; 6 (ABSENT) for an absent one (R5). -/
def Mach.st (m : Mach) (n : Nat) : Nat := if m.absent n then 6 else m.fld n Hdr.STATE

/-- Set STATE.STATE. Codes: 0 OFF, 1 IDLE, 2 ACTIVE, 3 SAFE, 4 FAULTED, 5 TEST (R63). -/
def Mach.setSt (n v : Nat) (m : Mach) : Mach := m.setFld n Hdr.STATE v

/-- A unit in IDLE or ACTIVE: it follows its live values. -/
def Mach.running (m : Mach) (n : Nat) : Bool := m.st n == 1 || m.st n == 2

/-- IDLE or ACTIVE by demand; other states stand (R69). -/
def Mach.settle (n : Nat) (demand : Bool) (m : Mach) : Mach :=
  if m.running n then m.setSt n (if demand then 2 else 1) else m

/-- Refuse a write: STATE.REJECT sets and REJECT_INFO records the register and the reason (R73, R74). -/
def Mach.refuse (n off reason : Nat) (m : Mach) : Mach :=
  (m.setFlag n Hdr.REJECT true).setReg n 0x010 (BitVec.ofNat 32 (reason % 16 * 4096 + off % 4096))

/-- Whether source `b` of unit `n` is a faulting source (R69); the arc sources of an output are while ARC_CFG.OFF is 1 (R165). -/
def Mach.isFaulting (m : Mach) (n b : Nat) : Bool :=
  Nat.testBit (info (clsOf n)).faulting b || (clsOf n == .out && (b == 16 || b == 17) && m.flag n Out.OFF)

/-- The HEALTH a unit's standing causes require (R545): its set sources, a failed self-test, and bypassed rungs (R225). -/
def Mach.healthDue (m : Mach) (n : Nat) : Nat :=
  let s := (m.reg n 0x018).toNat
  let h := (info (clsOf n)).health.foldl (fun a p => if Nat.testBit s p.1 then max a p.2 else a) 0
  let h := if (m.unit n).testFailed then 3 else h
  if clsOf n == .rat && decide (0 < m.fld n Rat.BYPASSED) then max h 1 else h

/-- Bring HEALTH to what the standing causes require. -/
def Mach.refreshHealth (n : Nat) (m : Mach) : Mach := m.setFld n Hdr.HEALTH (m.healthDue n)

/-- The bit number of the lowest set bit of a non-zero number below 2^32. -/
def lowestBit (v : Nat) : Nat := ((List.range 32).find? (Nat.testBit v)).getD 0

/-- Fault sources set in one page clock (R62): FAULT_SET takes the bits the class defines; FAULT_FIRST latches the lowest when
FAULT_SET was all zero and VALID 0, with OVF when several set; while VALID is 1 a newly set source sets OVF. A faulting source takes an
IDLE, ACTIVE or SAFE unit to FAULTED (R69). HEALTH follows. An absent unit never raises a fault (R6). -/
def Mach.raiseMask (n : Nat) (srcs : Nat) (m : Mach) : Mach :=
  let old := (m.reg n 0x018).toNat
  let new := (srcs &&& (info (clsOf n)).srcs) &&& (0xFFFFFFFF ^^^ old)
  if new = 0 || m.absent n then m
  else
    let m1 := m.setReg n 0x018 (BitVec.ofNat 32 (old ||| new))
    let m2 :=
      if m.flag n Hdr.VALID then m1.setFlag n Hdr.OVF true
      else if old = 0 then
        ((m1.setFld n Hdr.SOURCE (lowestBit new)).setFlag n Hdr.VALID true).setFlag n Hdr.OVF (new != 2 ^ lowestBit new)
      else m1
    let s := m.st n
    let m3 :=
      if (List.range 32).any (fun b => Nat.testBit new b && m.isFaulting n b) && (s == 1 || s == 2 || s == 3)
      then m2.setSt n 4 else m2
    m3.refreshHealth n

/-- One fault source sets (R62). -/
def Mach.raise (n b : Nat) (m : Mach) : Mach := m.raiseMask n (2 ^ b)

/-- Whether source `b` of unit `n` is set. -/
def Mach.src (m : Mach) (n b : Nat) : Bool := (m.reg n 0x018).getLsbD b

/-- Whether the unit is frozen (R322). -/
def Mach.isFrozen (m : Mach) (n : Nat) : Bool := m.flag n Hdr.ADAPT_FROZEN

/-- ADAPT_FROZEN is the unit's own FREEZE or the global freeze (R322). -/
def Mach.refreshFrozen (n : Nat) (m : Mach) : Mach :=
  m.setFlag n Hdr.ADAPT_FROZEN ((m.unit n).frozen || m.flag pgPolicy Policy.GFREEZE)

/-! ## Time -/

/-- The Reckoner count, 48 bits (R343). -/
def Mach.rk (m : Mach) : Nat := m.log.rk

/-- The counts of a list that lie within the last second. -/
def withinSecond (now : Nat) (l : List Nat) : List Nat := l.filter fun t => decide ((now + 2 ^ 48 - t) % 2 ^ 48 < 32768)

/-! ## Trouble log and Logline (13_trouble_log_and_logline.md) -/

/-- Queue a Logline record (R358): dropped when 64 wait, with DROPS, LL_DROP and LOST for the next. The recorder stopped by LL_WRITE
takes none (R365). -/
def Mach.loglinePush (kind unit arg : Nat) (d0 d1 tseq ext0 ext1 : Word) (gap : Bool) (m : Mach) : Mach :=
  if m.log.stopped then m
  else if 64 ≤ m.log.queue.length then
    let m := (m.incSat pgLogline Logline.DROPS).raise pgLogline 0
    { m with log := { m.log with lost := true } }
  else
    let deg := if m.flag pgReckon Reckon.DEGRADED then 2 ^ 18 else 0
    let r : LRec := ⟨BitVec.ofNat 32 (m.log.topMs / 1000), BitVec.ofNat 32 m.log.pcyc,
      BitVec.ofNat 32 (kind * 2 ^ 24 + deg + (if gap then 2 ^ 16 else 0) + unit % 65536),
      BitVec.ofNat 32 (arg % 65536 * 65536 + m.log.topMs % 1000), d0, d1, tseq, ext0, ext1⟩
    let m := { m with log := { m.log with queue := m.log.queue ++ [r] } }
    m.setFld pgLogline Logline.QDEPTH m.log.queue.length

/-- Write a Trouble-log entry at slot SEQ mod 4,096 (R347, R348), and queue its copy for the Logline when KINDS names its kind
(R357). -/
def Mach.tlogWrite (kind unit arg : Nat) (d0 d1 : Word) (m : Mach) : Mach :=
  let seq := m.reg pgTlog 0x044
  let ns := m.log.utc / 64
  let e : TEntry :=
    { seq := seq
      utcS := BitVec.ofNat 32 (ns / 1000000000)
      utcN := BitVec.ofNat 32 ((if m.flag pgReckon Reckon.UTC_VALID then 2 ^ 31 else 0)
        + (if m.flag pgReckon Reckon.DEGRADED then 2 ^ 30 else 0) + ns % 1000000000)
      rkLo := BitVec.ofNat 32 m.rk
      kind := BitVec.ofNat 32 (kind * 2 ^ 24 + m.fld pgReckon Reckon.EPOCH * 2 ^ 16 + m.rk / 2 ^ 32)
      unit := BitVec.ofNat 32 (arg % 65536 * 65536 + unit % 65536)
      d0 := d0
      d1 := d1 }
  let m1 := { m with log := { m.log with ring := tput m.log.ring ⟨0, 0, 0, 0, 0, 0, 0, 0⟩ (seq.toNat % 4096) e } }
  let cnt := min (m.fld pgTlog Tlog.COUNT + 1) 4096
  let m2 := ((m1.setReg pgTlog 0x044 (seq + 1)).setFld pgTlog Tlog.COUNT cnt).setReg pgTlog 0x048 (seq + 1 - BitVec.ofNat 32 cnt)
  if (m.reg pgLogline 0x040).getLsbD kind && decide (1 ≤ kind) && decide (kind ≤ 15) then
    m2.loglinePush kind unit arg d0 d1 seq 0 0 false
  else m2

/-! ## Adaptive quantities (R319 to R322) -/

/-- The key of an adaptive quantity's last logged value. -/
def adaptKey (qid unit sub : Nat) : Nat := (qid * 65536 + unit) * 65536 + sub

/-- LOGSTEP of a QID (R323). -/
def Mach.logStep (m : Mach) (qid : Nat) : Nat :=
  let w := (m.reg pgPolicy (0x068 + 4 * ((qid - 1) / 2))).toNat
  if qid % 2 = 1 then w % 65536 else w / 65536

/-- An entry of the Trouble log, latched while the module sleeps (R351). -/
def Mach.logNow (kind unit arg : Nat) (d0 d1 : Word) (m : Mach) : Mach :=
  if m.pwr.asleep = 0 then m.tlogWrite kind unit arg d0 d1
  else { m with pwr := { m.pwr with late := m.pwr.late ++ [⟨kind, unit, arg, d0, d1⟩] } }

/-- An adaptive quantity moves from `old` to `new` (R321): when it has moved by LOGSTEP since the last logged value, an ADAPT entry is
written and L takes the new value; beyond LOGMAX entries in one second it is dropped and counted, and L stands. -/
def Mach.adapt (qid unit sub : Nat) (old new : Int) (m : Mach) : Mach :=
  let k := adaptKey qid unit sub
  let last := (tget m.policy.logged none k).getD old
  let m := { m with policy := { m.policy with logged := tput m.policy.logged none k (some last) } }
  if (new - last).natAbs < max 1 (m.logStep qid) then m
  else
    let recent := withinSecond m.rk m.policy.adaptAt
    if m.fld pgPolicy Policy.LOGMAX ≤ recent.length then
      (m.incSat pgPolicy Policy.ADAPT_DROPS).raise pgPolicy 4
    else
      let m := { m with policy := { m.policy with logged := tput m.policy.logged none k (some new), adaptAt := m.rk :: recent } }
      (m.logNow 2 unit (qid * 256 + sub) (wordOfInt last) (wordOfInt new)).incWrap pgPolicy Policy.ADAPT_LOGS

/-- L takes the present value for every instance the predicate names (R321): the next move is measured from where the quantity then
stands. -/
def Mach.relog (p : Nat → Bool) (m : Mach) : Mach :=
  { m with policy := { m.policy with logged := m.policy.logged.filter fun e => !p e.1 } }

/-! ## Interrupts to cores -/

/-- Raise a vector on a core: its pending bit sets, and a WAITING core goes on when IRQ_EN enables it (R381). -/
def Mach.irq (core vec : Nat) (m : Mach) : Mach :=
  if core < 6 then
    let m := m.setReg pgStrand (Strandctl.C_IRQ_PEND core).off (m.reg pgStrand (Strandctl.C_IRQ_PEND core).off ||| BitVec.ofNat 32 (2 ^ (vec % 32)))
    if m.fld pgStrand (Strandctl.C_STATE core) = 3 && (m.reg pgStrand (Strandctl.C_IRQ_EN core).off).getLsbD (vec % 32)
    then m.setFld pgStrand (Strandctl.C_STATE core) 2 else m
  else m

/-! ## Free values -/

/-- Take the next free value of width `w` bits: the counter of State advances, the value is unconstrained (Config.freeValue). -/
def Mach.free (m : Mach) : Nat × Mach := (Config.freeValue m.freeCount, { m with freeCount := m.freeCount + 1 })

end Machine
end Sys2Proof
end

