-- ==== Sys2Proof/Machine/Memory.lean ====
section
/-! DEFINITION. The byte memory of the Strand memory map (R89): one byte at a time, with halfwords and words little-endian. An
unlisted byte reads 0 (notes/assumptions/4.md); the list is kept in canonical form. -/

namespace Sys2Proof.Machine

/-- The byte at an address. -/
def readByte (mem : Memory) (a : Nat) : Byte := tget mem 0 a

/-- Write one byte; writing 0 removes the entry. -/
def writeByte (a : Nat) (b : Byte) (mem : Memory) : Memory := tput mem 0 a b

/-- Write bytes at rising addresses. -/
def writeBytes : Nat → List Byte → Memory → Memory
  | _, [], mem => mem
  | a, b :: l, mem => writeBytes (a + 1) l (writeByte a b mem)

/-- Read `k` bytes from an address. -/
def readBytes (mem : Memory) (a k : Nat) : List Byte := (List.range k).map fun i => readByte mem (a + i)

/-- The little-endian bytes of a number, `k` of them. -/
def leBytes : Nat → Nat → List Byte
  | 0, _ => []
  | k + 1, v => BitVec.ofNat 8 v :: leBytes k (v / 256)

/-- The number little-endian bytes spell. -/
def leNat : List Byte → Nat
  | [] => 0
  | b :: l => b.toNat + 256 * leNat l

/-- Write a word, little-endian. -/
def writeWord (a : Nat) (w : Word) (mem : Memory) : Memory := writeBytes a (leBytes 4 w.toNat) mem

/-- Read a word, little-endian. -/
def readWord (mem : Memory) (a : Nat) : Word := BitVec.ofNat 32 (leNat (readBytes mem a 4))

/-- Write words at rising word addresses. -/
def writeWords (a : Nat) (ws : List Word) (mem : Memory) : Memory := writeBytes a (ws.flatMap fun w => leBytes 4 w.toNat) mem

/-- Write halfwords at rising addresses, little-endian (R169). -/
def writeHalves (a : Nat) (hs : List (BitVec 16)) (mem : Memory) : Memory := writeBytes a (hs.flatMap fun h => leBytes 2 h.toNat) mem

/-- The memory with every byte of a range back at 0. -/
def eraseRange (lo len : Nat) (mem : Memory) : Memory := mem.filter fun p => decide (p.1 < lo) || decide (lo + len ≤ p.1)

/-- Write bytes at given addresses. -/
def writeCells (cs : List Host.Cell) (mem : Memory) : Memory := cs.foldl (fun (mem : Memory) (c : Host.Cell) => writeByte c.1 c.2 mem) mem

/-- The canonical form: addresses strictly rising, no entry equal to what an unlisted address reads as. -/
def Memory.wf (mem : Memory) : Bool := tcanon mem 0

end Sys2Proof.Machine
end

