-- ==== Sys2Proof/Machine/Holds.lean ====
section
/-! DEFINITION. What stands above a unit: the tree of Bights it belongs to (R78 to R82), the Splice pair that may hold it (R452 to
R454), the shed holds of the policy table (R307, R310) and the bank it draws from (R21). -/

namespace Sys2Proof.Machine

/-! ## The tree of Bights -/

/-- The Bight a unit belongs to; 0xFFFF for none (R79). -/
def Mach.parent (m : Mach) (n : Nat) : Nat := m.fld n Hdr.PARENT

/-- The direct members of Bight `b`, in ascending index (R79, R82). -/
def Mach.members (m : Mach) (b : Nat) : List Nat :=
  (m.live.filter fun p => p.1 % 4096 == 0x024 && Hdr.PARENT.of p.2 == b).map fun p => p.1 / 4096

/-- The Bights above a unit, nearest first; `fuel` bounds the walk. -/
def Mach.bightsAbove (m : Mach) : Nat → Nat → List Nat
  | 0, _ => []
  | fuel + 1, n =>
    let b := m.parent n
    if clsOf b == .bight then b :: m.bightsAbove fuel b else []

/-- A bound on the depth of the tree: the number of registers that differ from reset, PARENT registers among them. -/
def Mach.depth (m : Mach) : Nat := m.live.length + 1

/-- Every Bight above a unit. -/
def Mach.ancestors (m : Mach) (n : Nat) : List Nat := m.bightsAbove m.depth n

/-- The leaves below a Bight, each sub-tree in member order; `fuel` bounds the depth. -/
def Mach.leavesBelow (m : Mach) : Nat → Nat → List Nat
  | 0, _ => []
  | fuel + 1, b => (m.members b).flatMap fun n => if clsOf n == .bight then m.leavesBelow fuel n else [n]

/-- Insert into an ascending list without repeats. -/
def insertUp (n : Nat) : List Nat → List Nat
  | [] => [n]
  | k :: l => if n < k then n :: k :: l else if n = k then k :: l else k :: insertUp n l

/-- The leaves of a Bight in ascending index (R81). -/
def Mach.leaves (m : Mach) (b : Nat) : List Nat := (m.leavesBelow m.depth b).foldr insertUp []

/-- The present leaves of a Bight: absent units take no part (R6). -/
def Mach.presentLeaves (m : Mach) (b : Nat) : List Nat := (m.leaves b).filter fun n => !m.absent n

/-- The units a page index stands for: the leaves of a Bight, or the unit itself. -/
def Mach.unitsOf (m : Mach) (n : Nat) : List Nat := if clsOf n == .bight then m.leaves n else [n]

/-! ## Held by a Splice pair -/

/-- The pair is formed: PAIRED, CONFIRM, TAKING or SOLO (R454). -/
def Mach.paired (m : Mach) : Bool :=
  let p := m.fld pgSplice Splice.PSTATE
  p == 2 || p == 3 || p == 4 || p == 5

/-- The units the guard list names, directly or through a Bight (R453). -/
def Mach.guarded (m : Mach) : List Nat :=
  (m.guards.filter fun g => g.2.en && g.2.kind == 0).flatMap fun g => m.unitsOf g.2.unit

/-- A held unit of a formed pair. -/
def Mach.pairHeld (m : Mach) (n : Nat) : Bool := m.paired && m.guarded.contains n

/-- The module is the Second of a pair that has not ended in SOLO: held units take no write but the pair's (R458). -/
def Mach.secondHeld (m : Mach) (n : Nat) : Bool :=
  m.fld pgSplice Splice.ROLE == 2 && (m.fld pgSplice Splice.PSTATE == 2 || m.fld pgSplice Splice.PSTATE == 3
    || m.fld pgSplice Splice.PSTATE == 4) && m.guarded.contains n

/-- The module is the Lead of a PAIRED pair and holds the unit: its APPLY, CMD and Mark actions go out as EDGE frames (R458). -/
def Mach.leadHeld (m : Mach) (n : Nat) : Bool :=
  m.fld pgSplice Splice.ROLE == 1 && m.fld pgSplice Splice.PSTATE == 2 && m.guarded.contains n

/-- The guard entry of a mirrored message (R452): kind 1 a CAN object, index controller × 256 + object; kind 2 a telegram. -/
def Mach.mirror (m : Mach) (kind unit : Nat) : Option Guard :=
  (m.guards.find? fun g => g.2.en && g.2.kind == kind && g.2.unit == unit).map fun g => g.2

/-- The module is the Lead, or the Second, of a running pair. -/
def Mach.leadPair (m : Mach) : Bool := m.fld pgSplice Splice.ROLE == 1 && m.fld pgSplice Splice.PSTATE == 2
def Mach.secondPair (m : Mach) : Bool :=
  m.fld pgSplice Splice.ROLE == 2 && (m.fld pgSplice Splice.PSTATE == 2 || m.fld pgSplice Splice.PSTATE == 3
    || m.fld pgSplice Splice.PSTATE == 4)

/-- A Second whose confirmation has ended in SPLIT: its mirrored items stop (R454). -/
def Mach.mirrorsStopped (m : Mach) : Bool := m.fld pgSplice Splice.PSTATE == 6 && m.fld pgSplice Splice.ROLE == 2

/-- Link time, ns (R456, R457): the module's clock since the Reckoner's zero, in the Second with the corrections made so far. -/
def Mach.linkNs (m : Mach) : Nat := ((((m.rk * 15625 + m.clk) * 125 / 64 : Nat) : Int) + m.splice.linkAdj).toNat

/-- An EDGE frame goes to the partner (R456, R458, R462). A write or a request is held for T_APPLY, EDGE_DLY after now, here as well. -/
def Mach.edgeSend (unit : Nat) (act : EdgeAct) (cause : Nat) (m : Mach) : Mach :=
  let e : Edge := ⟨unit, act, m.linkNs + m.fld pgSplice Splice.EDGE_DLY * 1000, cause⟩
  { m with splice := { m.splice with
    fseqTx := m.splice.fseqTx + 1, sent := some e, edges := if cause = 0 || cause = 3 then m.splice.edges ++ [e] else m.splice.edges } }

/-- Mirrored items whose request an EDGE frame has brought since their last periodic one (R462). -/
def mirrorKey (kind unit : Nat) : Nat := kind * 65536 + unit
def Mach.setArrived (k : Nat) (b : Bool) (m : Mach) : Mach :=
  let l := m.splice.arrived.filter fun a => a != k
  { m with splice := { m.splice with arrived := if b then k :: l else l } }

/-! ## Shed holds -/

/-- The shed stage S_k of bank `k` (R310). -/
def Mach.stage (m : Mach) (k : Nat) : Nat := m.fld pgPolicy Policy.STAGE / 16 ^ k % 16

/-- Set the shed stage of bank `k`. -/
def Mach.setStage (k v : Nat) (m : Mach) : Mach :=
  let w := m.fld pgPolicy Policy.STAGE
  m.setFld pgPolicy Policy.STAGE (w - (w / 16 ^ k % 16) * 16 ^ k + v % 16 * 16 ^ k)

/-! Fields of a policy entry (R306). -/
def PolEntry.type (e : PolEntry) : Nat := e.w0.toNat / 2 ^ 28
def PolEntry.banks (e : PolEntry) : Nat := e.w0.toNat / 2 ^ 16 % 16
def PolEntry.unit (e : PolEntry) : Nat := e.w0.toNat % 65536
def PolEntry.prio (e : PolEntry) : Nat := e.w1.toNat / 2 ^ 28
def PolEntry.action (e : PolEntry) : Nat := e.w1.toNat / 2 ^ 26 % 4
def PolEntry.level (e : PolEntry) : Nat := e.w1.toNat / 256 % 256

/-- A SHED entry is shed while the stage of one of its banks is above its priority (R310). -/
def Mach.isShed (m : Mach) (e : PolEntry) : Bool :=
  e.type == 1 && (List.range 4).any fun k => Nat.testBit e.banks k && decide (e.prio < m.stage k)

/-- The holds that shed entries place on a unit together (R310). -/
structure Hold where
  off : Bool
  level : Option Nat
  defer : Bool
  deriving DecidableEq, Repr

/-- Add one shed entry's hold: OFF overrides, the lowest LEVEL applies, DEFER acts beside it (R310). -/
def Hold.add (h : Hold) (e : PolEntry) : Hold :=
  match e.action with
  | 0 => { h with off := true }
  | 1 => { h with level := some (match h.level with | some l => min l e.level | none => e.level) }
  | 2 => { h with defer := true }
  | _ => h

/-- The shed holds on a unit: entries that name it or a Bight above it; none while a pair holds it (R310, R314). -/
def Mach.holdOn (m : Mach) (n : Nat) : Hold :=
  if m.policy.live.isEmpty || m.pairHeld n then ⟨false, none, false⟩
  else
    let up := n :: m.ancestors n
    m.policy.live.foldl (fun h e => if m.isShed e.2 && up.contains e.2.unit then h.add e.2 else h) ⟨false, none, false⟩

/-! ## Banks -/

/-- The bank a power-carrying unit draws from (R21). -/
def bankOf (n : Nat) : Nat :=
  match clsOf n with
  | .out =>
    let c := n - 0x20
    if c < 16 then c / 4 else if c < 80 then (c - 16) / 16 else (c - 80) / 12
  | .bridge => (n - 0xA0) / 2
  | .rat => (n - 0xC0) / 6
  | _ => 3

/-- The nominal class of a bank: 0 24 V, 1 72 V, 2 110 V (R156). -/
def Mach.bankClass (m : Mach) (k : Nat) : Nat := m.fld (pgBank k) Bank.CLASS

/-- SPEED of an AXLE base in 0.01 km/h: RATE × SCALE × 0.36, saturating (R113). -/
def Mach.axleSpeed (m : Mach) (k : Nat) : Nat :=
  min 0xFFFF (m.fld (pgCap k) Cap.RATE * (m.reg (pgCap k) Cap.SCALE.off).toNat * 36 / (65536 * 100))

/-- The rail voltage of a bank, 10 mV units. -/
def Mach.rail (m : Mach) (k : Nat) : Nat := m.fld (pgBank k) Bank.VR

end Sys2Proof.Machine
end

