-- ==== Sys2Proof/Machine/Outputs.lean ====
section
/-! DEFINITION. Protected outputs (04_protected_outputs.md): ratings, groups, demand and drive, trips and retries, the safe states,
and what each event at a channel does. Units: mA, mJ, ms, 10 mV for voltages, 0.1 °C for junctions. -/

namespace Sys2Proof.Machine

/-! ## Ratings (R124) -/

/-- Class of channel `c`: 0 H, 1 M, 2 L. -/
def outClass (c : Nat) : Nat := if c < 16 then 0 else if c < 80 then 1 else 2

/-- Rated current of a channel class at a bank class, mA (R124). -/
def ratingOf (cls bank : Nat) : Nat :=
  match cls, bank with
  | 0, 0 => 15000 | 0, _ => 8000
  | 1, 0 => 4000 | 1, _ => 2000
  | _, 0 => 1000 | _, _ => 500

/-- Rated current of channel `c` at its bank's class, mA. -/
def Mach.outRating (m : Mach) (c : Nat) : Nat := ratingOf (outClass c) (m.bankClass (bankOf (pgOut c)))

/-- Highest PWM frequency of a channel class, Hz (R124). -/
def outFmax (c : Nat) : Nat := match outClass c with | 0 => 2000 | 1 => 10000 | _ => 25000

/-- Shortest PWM period of a channel class, ns (R127). -/
def outPmin (c : Nat) : Nat := 1000000000 / outFmax c

/-- Single-pulse clamp energy, mJ (R124). -/
def outClampMj (c : Nat) : Nat := match outClass c with | 0 => 1500 | 1 => 400 | _ => 80

/-- Start energy, mJ (R124). -/
def outStartMj (c : Nat) : Nat := match outClass c with | 0 => 5000 | 1 => 2000 | _ => 500

/-- Output slew of a SLEW code, mV/µs (R125). -/
def slewOf (code : Nat) : Nat :=
  match code with | 0 => 200 | 1 => 500 | 2 => 1000 | 3 => 2000 | 4 => 5000 | 5 => 10000 | _ => 20000

/-! ## Channel state -/

/-- The drive of a channel that is off. -/
def driveOff : Drive := ⟨false, 0, 0, 0, 0, 0⟩

/-- The period of a switch that is off or on without edges. -/
def pulseNone : Pulse := ⟨0, 0, 1, 0, 0, 0, false⟩

/-- What an output holds at reset. -/
def outReset : OutAux :=
  { wait := none, retryDue := false, hot := false, warm := false, drive := driveOff, pulse := pulseNone, hold := driveOff, startCur := 0
    startRan := false, byRetry := false, clampMj := 0, digiFails := 0, refFails := 0, offset := 0, blind := 0, winN := 0, winS := false
    winSum := [], steady := false, serFired := false, parFired := false, classes := [], refStale := true, damage := 0, residue := []
    damageStored := 0, residueStored := [], halvesStored := 0, closeNext := false }

def Mach.out (m : Mach) (c : Nat) : OutAux := tget m.outs outReset c
def Mach.setOut (c : Nat) (a : OutAux) (m : Mach) : Mach := { m with outs := tput m.outs outReset c a }
def Mach.modOut (c : Nat) (g : OutAux → OutAux) (m : Mach) : Mach := m.setOut c (g (m.out c))

/-- The members of channel `c`'s declared parallel group, ascending; the channel alone when it has none (R144). -/
def Mach.group (m : Mach) (c : Nat) : List Nat :=
  let g := m.fld (pgOut c) Out.GROUP
  if g = 0 then [c] else (List.range 128).filter fun d => m.fld (pgOut d) Out.GROUP == g

/-- The head of the group: its lowest index (R145). -/
def Mach.head (m : Mach) (c : Nat) : Nat := ((m.group c).head?).getD c

/-- The page whose DRIVE, PWM, LIMIT, INRUSH, START, RETRY, THERM, SAFE and mode fields govern channel `c` (R145). -/
def Mach.outCfg (m : Mach) (c : Nat) : Nat := pgOut (m.head c)

/-- Demand of a channel (R150). -/
def Mach.outDemand (m : Mach) (c : Nat) : Bool :=
  let h := m.outCfg c
  (m.unit (pgOut c)).enabled && m.flag h Out.ON && (m.fld h Out.PWM_MODE == 0 || m.flag h Out.DUTY)

/-- The live drive registers that govern the channel (R128, R145). -/
def Mach.liveDrive (m : Mach) (c : Nat) : Drive :=
  let h := m.outCfg c
  ⟨m.flag h Out.ON, m.fld h Out.PWM_MODE, m.fld h Out.DUTY, m.fld h Out.PERIOD, m.fld h Out.DIV, m.fld h Out.PHASE⟩

/-- The live drive under a LEVEL shed hold: static counts as full duty and runs free PWM (R307). -/
def Drive.capped (d : Drive) (level : Nat) : Drive :=
  if d.mode = 0 then { d with mode := 1, duty := min 65535 (level * 257) } else { d with duty := min d.duty (level * 257) }

/-- The drive a safe state asks for (R146): OFF, ON, the drive held at entry, or free PWM at SAFE_LEVEL. -/
def Mach.safeDrive (m : Mach) (c : Nat) : Drive :=
  let h := m.outCfg c
  match m.fld h Hdr.SAFE_STATE with
  | 0 => driveOff
  | 1 => ⟨true, 0, 65535, 0, 0, 0⟩
  | 2 => (m.out c).hold
  | _ => ⟨m.flag h Hdr.SAFE_LEVEL, 1, m.fld h Hdr.SAFE_LEVEL * 257, m.fld h Out.PERIOD, 0, 0⟩

/-- Only PARALLEL_UNDECLARED of the faulting sources is set: its action applies the safe state, every other one is off (R152). -/
def Mach.outFaultSafe (m : Mach) (c : Nat) : Bool :=
  let s := (m.reg (pgOut c) 0x018).toNat
  Nat.testBit s 9 && (List.range 32).all fun b => b == 9 || !(Nat.testBit s b && m.isFaulting (pgOut c) b)

/-- A retry wait that has not passed, or a junction still hot after a thermal turn-off, keeps the channel off (R133, R134). -/
def Mach.outHeldOff (m : Mach) (c : Nat) : Bool := (m.flag (pgOut c) Out.RETRY_WAIT && !(m.out c).retryDue) || (m.out c).hot

/-- A set faulting source whose class fault action is off keeps the channel off in every state (R136, R137, R140, R152). -/
def Mach.outFaultOff (m : Mach) (c : Nat) : Bool :=
  let s := (m.reg (pgOut c) 0x018).toNat
  (List.range 24).any fun b => b != 9 && Nat.testBit s b && m.isFaulting (pgOut c) b

/-- The drive the channel's state asks of its switch: the live registers under the shed hold in ACTIVE with its group running, the safe
state in SAFE, the class fault action in FAULTED, off otherwise; a retry wait, a junction not yet below 150 °C after a thermal
turn-off, and a faulting source whose action is off keep the channel and its group off (R133, R134, R136, R145, R146, R305, R307). -/
def Mach.wantDrive (m : Mach) (c : Nat) : Drive :=
  let n := pgOut c
  if (m.group c).any (fun d => m.outHeldOff d || m.outFaultOff d) then driveOff
  else match m.st n with
    | 2 =>
      let h := m.holdOn n
      if !(m.group c).all (fun d => m.running (pgOut d)) || h.off || (h.defer && !m.flag n Out.GATE) then driveOff
      else match h.level with
        | some l => (m.liveDrive c).capped l
        | none => m.liveDrive c
    | 3 => m.safeDrive c
    | 4 => if m.outFaultSafe c then m.safeDrive c else driveOff
    | _ => driveOff

/-- A drive that conducts at all: on, in PWM with a duty above 0, and in synchronised PWM with a period in the turn (R129). -/
def Drive.conducts (d : Drive) : Bool := d.on && (d.mode == 0 || d.duty != 0) && !(d.mode == 2 && d.div == 0)

/-! ## PWM periods (R127 to R129) -/

/-- The base a unit's synchronised drive follows is neither LOCKED nor coasting, or its RATE reads 0 (R129). -/
def Mach.baseLost (m : Mach) (n : Nat) : Bool :=
  let b := pgCap (m.fld n Hdr.BASE_CAP)
  !(m.flag b Cap.LOCKED || m.flag b Cap.COAST) || !m.flag b Cap.RATE

/-- The shortest pulse of a channel, ns: 2 × V / S (R128). -/
def Mach.outTmin (m : Mach) (c : Nat) : Nat :=
  2 * m.rail (bankOf (pgOut c)) * 10 * 1000 / slewOf (m.fld (m.outCfg c) Out.SLEW)

/-- The on-time of a period: a short on-time is extended to `tmin`, a short off-time omitted (R128). -/
def pulseOn (duty period tmin : Nat) : Nat :=
  let on := duty * period / 65535
  if duty = 0 then 0 else if duty = 65535 then period
  else
    let on := max on (min tmin period)
    if period - on < tmin then period else on

/-- The on-edge at or before position `p` on a base, and the distance to the next one, for `div` on-edges a turn from `phase` (R129). -/
def edgeAt (p : Word) (phase div : Nat) : Word × Nat :=
  let f := (p.toNat + 65536 - phase) % 65536
  let j := ((f + 1) * div - 1) / 65536
  let on := j * 65536 / div
  (p - BitVec.ofNat 32 (f - on), (j + 1) * 65536 / div - on)

/-- The period that starts now at unit `n` for the drive `d` after the period `last`, with the shortest pulse `tmin` in ns and the highest
frequency `fmax` (R128, R129): on its base's edges while the base is locked or coasts, else free-running at
the last period length, or at PWM_PERIOD where the base has placed none. Every how many periods one is driven keeps the frequency within the
class limit. -/
def Mach.pulseAt (m : Mach) (n tmin fmax : Nat) (last : Pulse) (d : Drive) : Pulse :=
  if d.mode = 0 then pulseNone
  else if d.mode = 2 && !m.baseLost n && d.div ≠ 0 then
    let b := m.fld n Hdr.BASE_CAP
    let rate := m.fld (pgCap b) Cap.RATE
    let (at_, span) := edgeAt (m.reg (pgCap b) Cap.POS.off) d.phase d.div
    let period := span * 1000000000 / max 1 rate
    let every := max 1 ((rate * d.div + fmax * 65536 - 1) / (fmax * 65536))
    let count := if last.placed then (last.count + 1) % every else 0
    ⟨period, if count = 0 then pulseOn d.duty period tmin else 0, every, count, at_, at_ + BitVec.ofNat 32 (d.duty * span / 65535), true⟩
  else
    let period := if d.mode = 2 && last.placed then last.period else d.period
    ⟨period, pulseOn d.duty period tmin, 1, 0, 0, 0, d.mode == 2 && last.placed⟩

/-- The period that starts now at an output. -/
def Mach.pulseOf (m : Mach) (c : Nat) (d : Drive) : Pulse := m.pulseAt (pgOut c) (m.outTmin c) (outFmax c) (m.out c).pulse d

/-- Whether a period is stretched, omitted or thinned (R128, R129). -/
def Pulse.clamped (p : Pulse) (d : Drive) : Bool :=
  d.mode != 0 && (decide (1 < p.every) || (p.count == 0 && p.on != d.duty * p.period / 65535))

/-- A drive takes effect with a new period (R128, R129): PWM_CLAMP shows whether it is stretched, omitted or thinned, SYNC_LOST whether
synchronised PWM free-runs. That PWM_CLAMP returns to 0 at the first period that needs no such change, and when PWM ends, is the model's
choice (DESIGN CHOICE, notes/assumptions/135.md). -/
def Mach.takeDrive (c : Nat) (d : Drive) (m : Mach) : Mach :=
  let n := pgOut c
  let p := m.pulseOf c d
  let lost := d.mode == 2 && m.baseLost n
  let m := ((m.modOut c fun a => { a with drive := d, pulse := p }).setFlag n Out.PWM_CLAMP (p.clamped d)).setFlag n Out.SYNC_LOST lost
  if lost then (m.group c).foldl (fun (m : Mach) (e : Nat) => m.raiseMask (pgOut e) (2 ^ 15)) m else m

/-! ## The switch (R126, R130, R147, R548) -/

/-- The switch turns on from off (R130, R131): a pending retry is taken, a start phase begins where CAPSTART asks for one, at the lower of
ISTART and the ledger limit (R179), else the inrush window; the drive starts a new period. -/
def Mach.outTurnOn (c : Nat) (d : Drive) (m : Mach) : Mach :=
  let n := pgOut c
  let h := m.outCfg c
  let start := m.flag h Out.CAPSTART && m.flag h Out.TSTART
  let again := m.flag n Out.RETRY_WAIT
  let m := if again then (m.setFlag n Out.RETRY_WAIT false).incSat n Out.RETRIES else m
  let m := (m.setFlag n Out.GATE true).setFlag n Out.BF_ARMED false
  let m := (m.setFlag n Out.STARTING start).setFlag n Out.INRUSH (!start && m.flag h Out.TINRUSH)
  let cur := if start then min (m.fld h Out.ISTART) (m.fld n Out.I_LED) else 0
  (m.modOut c fun a => { a with wait := none, retryDue := false, startRan := start, startCur := cur, byRetry := again, steady := false,
                                refStale := true, pulse := pulseNone }).takeDrive c d

/-- The switch turns off (R126, R140, R548): the BACKFEED check arms at the off edge when BF_BLANK is 0. -/
def Mach.outTurnOff (c : Nat) (m : Mach) : Mach :=
  let n := pgOut c
  let m := ((m.setFlag n Out.GATE false).setFlag n Out.STARTING false).setFlag n Out.INRUSH false
  let m := (m.setFlag n Out.PWM_CLAMP false).setFlag n Out.SYNC_LOST false
  let m := m.setFlag n Out.BF_ARMED (m.fld n Out.BF_BLANK == 0)
  m.modOut c fun a => { a with drive := driveOff, pulse := pulseNone, startCur := 0, clampMj := 0, steady := false }

/-- A start phase ends in full on, and the inrush window starts (R130, R131). -/
def Mach.startEnds (c : Nat) (m : Mach) : Mach :=
  ((m.setFlag (pgOut c) Out.STARTING false).setFlag (pgOut c) Out.INRUSH (m.flag (m.outCfg c) Out.TINRUSH)).modOut c
    fun a => { a with startCur := 0 }

/-- Bring a channel's switch to what its state asks for. A static drive and a change of on take effect at once; new PWM values wait
for the next period (R128). -/
def Mach.outDrive (c : Nat) (m : Mach) : Mach :=
  let n := pgOut c
  let d := m.wantDrive c
  let gate := m.flag n Out.GATE
  if d.conducts then
    if !gate then m.outTurnOn c d
    else if (m.out c).drive.mode == 0 || d.mode == 0 then (if d = (m.out c).drive then m else m.takeDrive c d)
    else m
  else if gate then m.outTurnOff c else m

/-- IDLE or ACTIVE by demand, then the switch; a demand that ends cancels a retry wait (R134, R150). -/
def Mach.outSettle (c : Nat) (m : Mach) : Mach :=
  let n := pgOut c
  let dem := m.outDemand c
  let m := m.settle n dem
  let m := if m.flag n Out.RETRY_WAIT && !dem && m.running n then
      (m.setFlag n Out.RETRY_WAIT false).modOut c fun a => { a with wait := none, retryDue := false }
    else m
  m.outDrive c

/-- Settle every member of a channel's group. -/
def Mach.groupSettle (c : Nat) (m : Mach) : Mach := (m.group c).foldl (fun m d => m.outSettle d) m

/-- The drive in force is kept for HOLD (R146). -/
def Mach.keepHold (c : Nat) (m : Mach) : Mach :=
  m.modOut c fun a => { a with hold := if m.flag (pgOut c) Out.GATE then a.drive else driveOff }

/-- Set fault sources in every member of the group (R145), then settle them. PARALLEL_UNDECLARED applies the safe state, and HOLD keeps
what a running member drives (R146, R152). -/
def Mach.outRaise (c : Nat) (srcs : Nat) (m : Mach) : Mach :=
  let g := m.group c
  let m := if Nat.testBit srcs 9 then g.foldl (fun m d => if m.running (pgOut d) then m.keepHold d else m) m else m
  let m := g.foldl (fun m d => m.raiseMask (pgOut d) srcs) m
  g.foldl (fun m d => m.outSettle d) m

/-- Clear fault sources whose class chapter says they clear by themselves. -/
def Mach.clearSrc (n srcs : Nat) (m : Mach) : Mach :=
  (m.setReg n 0x018 (m.reg n 0x018 &&& ~~~ BitVec.ofNat 32 srcs)).refreshHealth n

/-- The wait before the next retry, ms (R134). -/
def Mach.retryWait (m : Mach) (c : Nat) : Nat :=
  let h := m.outCfg c
  let d := m.fld h Out.DELAY
  min 600000 (if m.flag h Out.BACKOFF then d * 2 ^ m.fld (pgOut c) Out.RETRIES else d)

/-- Whether a trip of this member is past its last retry (R134). -/
def Mach.lastTrip (m : Mach) (c : Nat) : Bool := decide (m.fld (m.outCfg c) Out.MAX ≤ m.fld (pgOut c) Out.RETRIES)

/-- One member's share of a trip (R134): the gate goes off, TRIPS counts; after the last retry EXHAUSTED sets, else the wait begins. -/
def Mach.tripOne (c : Nat) (last : Bool) (m : Mach) : Mach :=
  let n := pgOut c
  let w := m.retryWait c
  let m := (m.outTurnOff c).incSat n Out.TRIPS
  if last then ((m.setFlag n Out.RETRY_WAIT false).raise n 5).modOut c fun a => { a with wait := none, retryDue := false }
  else (m.setFlag n Out.RETRY_WAIT true).modOut c fun a => { a with wait := some w, retryDue := false }

/-- A trip condition (R134, R145): its sources set in every member. A channel that is on turns off with its group, which is one trip;
EXHAUSTED of one member is every member's. With the switch already off, as when a further condition arises with the first (R134) or in the
current of a falling output (R548), the source alone sets. -/
def Mach.outTrip (c : Nat) (srcs : Nat) (m : Mach) : Mach :=
  let g := m.group c
  let on := g.any fun d => m.flag (pgOut d) Out.GATE
  let last := g.any m.lastTrip
  let m := g.foldl (fun m d => m.raiseMask (pgOut d) srcs) m
  let m := if on then g.foldl (fun m d => m.tripOne d last) m else m
  g.foldl (fun m d => m.outDrive d) m

/-- A channel enters SAFE (R69, R146, R147, R148): the drive in force is kept for HOLD, the cause is recorded. A start phase in progress
ends at once where the safe state is OFF; where it is ON, the channel goes to full on, and the inrush window starts as at the end of any start
phase (DEDUCED, notes/assumptions/136.md). The safe state's own PWM takes effect at once. -/
def Mach.outEnterSafe (c : Nat) (snub : Bool) (m : Mach) : Mach :=
  let n := pgOut c
  let m := (m.keepHold c).setSt n 3
  let m := if snub then m.setFlag n Out.SNUBBED true else m.setFlag n Out.SLACK_7C true
  let m := m.outDrive c
  let d := m.wantDrive c
  let m := if m.flag n Out.GATE && d.conducts && d ≠ (m.out c).drive then m.takeDrive c d else m
  if m.flag n Out.STARTING && m.fld (m.outCfg c) Hdr.SAFE_STATE == 1 then m.startEnds c else m

/-- Class part of CLEAR_FAULTS (R134, R151, R165, R166, R182): counters and scores return to 0, which re-arms the snapshot triggers;
RETRIES returns to 0, and a wait that runs goes on (DEDUCED, notes/assumptions/136.md). -/
def Mach.outCleared (c : Nat) (m : Mach) : Mach :=
  let n := pgOut c
  let m := ((m.setFld n Out.TRIPS 0).setFld n Out.BACKFEEDS 0).setFld n Out.RETRIES 0
  let m := (m.setReg n 0x120 0).setFld n Out.SER_EVT 0
  let m := (m.setFld n Out.PAR_EVT 0).setFld n Out.SNAP_DROPS 0
  m.modOut c fun a => { a with serFired := false, parFired := false }

/-- A channel leaves SAFE or FAULTED: the marks of what held it clear. -/
def Mach.outReleased (c : Nat) (m : Mach) : Mach :=
  let n := pgOut c
  (m.setFlag n Out.SNUBBED false).setFlag n Out.SLACK_7C false

/-- Class part of DISABLE (R134): the retry series ends. -/
def Mach.outDisabled (c : Nat) (m : Mach) : Mach :=
  let n := pgOut c
  let m := (m.setFld n Out.RETRIES 0).setFlag n Out.RETRY_WAIT false
  m.modOut c fun a => { a with wait := none, retryDue := false }

/-- Class part of APPLY (R128, R149): BOOT_HELD clears, then the switch follows the live registers. -/
def Mach.outApplied (c : Nat) (m : Mach) : Mach := (m.setFlag (pgOut c) Out.BOOT_HELD false).groupSettle c

/-- Every member of a group shows whether it is a follower (R145). -/
def Mach.refreshFollowers (m : Mach) : Mach :=
  (List.range 128).foldl (fun m c =>
    let f := m.head c != c
    if m.flag (pgOut c) Out.FOLLOWER == f then m else m.setFlag (pgOut c) Out.FOLLOWER f) m

/-! ## Events at a channel -/

/-- The output reads `v`, 10 mV: MEAS_V.V_OUT, and STATUS.HIGH while above 2 V. -/
def Mach.readOut (c : Nat) (v : Int) (m : Mach) : Mach :=
  (m.setSFld (pgOut c) Out.V_OUT v).setFlag (pgOut c) Out.HIGH (decide (200 < v))

/-- START_SUCCESS (R130, R131): the output has reached the rail minus 1.5 V; full on, and the inrush window starts. -/
def Mach.startSuccess (c : Nat) (vOut : Int) (m : Mach) : Mach :=
  let n := pgOut c
  let m := m.readOut c vOut
  if m.flag n Out.STARTING && decide ((m.rail (bankOf n) : Int) - 150 ≤ vOut) then m.startEnds c else m

/-- START_TIMEOUT (R130): TSTART has passed in the start phase; START_FAIL, a trip. -/
def Mach.startTimeout (c : Nat) (ms : Nat) (m : Mach) : Mach :=
  if m.flag (pgOut c) Out.STARTING && decide (m.fld (m.outCfg c) Out.TSTART ≤ ms) then m.outTrip c (2 ^ 4) else m

/-- START_ENERGY_CAP (R130, R179): the phase has dissipated the class start energy × F / 100; as a time-out. -/
def Mach.startEnergy (c : Nat) (mj : Nat) (m : Mach) : Mach :=
  if m.flag (pgOut c) Out.STARTING && decide (outStartMj c * m.fld (pgOut c) Out.F ≤ mj * 100) then m.outTrip c (2 ^ 4) else m

/-- INRUSH_END (R131). -/
def Mach.inrushEnd (c : Nat) (ms : Nat) (m : Mach) : Mach :=
  if decide (m.fld (m.outCfg c) Out.TINRUSH ≤ ms) then m.setFlag (pgOut c) Out.INRUSH false else m

/-- SHORT_CIRCUIT of an output (R132, R547, R548): the instantaneous current's magnitude exceeds twice the rating, not in a start phase; it
acts on the current of a falling output as well. -/
def Mach.outShort (c : Nat) (i : Int) (m : Mach) : Mach :=
  if !m.flag (pgOut c) Out.STARTING && decide (2 * m.outRating c < i.natAbs) then m.outTrip c (2 ^ 0) else m

/-- The effective over-current limit of a channel, mA: ILIM, or when the ledger derates the channel the lower of ILIM and the ledger limit
(R132, R179). -/
def Mach.outLimit (m : Mach) (c : Nat) : Nat :=
  let i := m.fld (m.outCfg c) Out.ILIM
  if m.fld (pgOut c) Out.F < 100 then min i (m.fld (pgOut c) Out.I_LED) else i

/-- The over-current threshold of a channel, mA (R131, R132). -/
def Mach.outThreshold (m : Mach) (c : Nat) : Nat :=
  if m.flag (pgOut c) Out.INRUSH then m.fld (m.outCfg c) Out.IMULT * m.outRating c / 10 else m.outLimit c

/-- The lowest effective limit among the members of a group (R179). -/
def Mach.groupLimit (m : Mach) (c : Nat) : Nat := (m.group c).foldl (fun a d => min a (m.outThreshold d)) (m.outThreshold c)

/-- OVERCURRENT of an output (R132, R145): the average `avg` of the channel and the sum `sum` of its group have stayed above their
thresholds for `t` × 0.1 ms. -/
def Mach.outOver (c : Nat) (avg sum : Int) (t : Nat) (m : Mach) : Mach :=
  let n := pgOut c
  let g := m.group c
  let isOver :=
    if g.length ≤ 1 then decide (m.outThreshold c < avg.natAbs)
    else decide (g.length * m.groupLimit c < sum.natAbs) || decide (m.outRating c < avg.natAbs)
  if !m.flag n Out.STARTING && isOver && decide (m.fld (m.outCfg c) Out.TRIP ≤ t) then m.outTrip c (2 ^ 1) else m

/-- THERMAL of an output (R133): at 170 °C, in every state, the channel turns off as a trip, and stays off until below 150 °C. -/
def Mach.outThermal (c : Nat) (tj : Int) (m : Mach) : Mach :=
  let n := pgOut c
  let m := m.setSFld n Out.TJ tj
  if decide (1700 ≤ tj) then (m.modOut c fun a => { a with hot := true }).outTrip c (2 ^ 2)
  else if (m.out c).hot && decide (tj < 1500) then (m.modOut c fun a => { a with hot := false }).groupSettle c
  else m

/-- TJ_WARN of an output (R133), with 5 °C hysteresis. -/
def Mach.outTjWarn (c : Nat) (tj : Int) (m : Mach) : Mach :=
  let n := pgOut c
  let th : Int := 10 * m.fld (m.outCfg c) Out.TJ_WARN
  let m := m.setSFld n Out.TJ tj
  if !(m.out c).warm && decide (th < tj) then (m.modOut c fun a => { a with warm := true }).outRaise c (2 ^ 3)
  else if decide (tj < th - 50) then m.modOut c fun a => { a with warm := false }
  else m

/-- RETRY (R134, R133, R307): the wait has passed; the channel turns on again with its group unless it is still hot, or a DEFER hold
withholds it; the retry then stays due. -/
def Mach.outRetry (c : Nat) (ms : Nat) (tj : Int) (m : Mach) : Mach :=
  let n := pgOut c
  let m := m.setSFld n Out.TJ tj
  match (m.out c).wait with
  | none => m
  | some w =>
    if decide (ms < w) then m
    else (m.modOut c fun a => { a with hot := a.hot && decide (1500 ≤ tj), retryDue := true }).groupSettle c

/-- RETRY_SERIES_RESET (R134): 10 s of continuous demand without a trip. -/
def Mach.retrySeriesReset (c : Nat) (ms : Nat) (m : Mach) : Mach :=
  if m.outDemand c && !m.flag (pgOut c) Out.RETRY_WAIT && decide (10000 ≤ ms) then m.setFld (pgOut c) Out.RETRIES 0 else m

/-- CLAMP (R135): the energy of a clamp event at turn-off. -/
def Mach.outClamp (c : Nat) (mj : Nat) (m : Mach) : Mach :=
  let m := m.modOut c fun a => { a with clampMj := mj }
  if decide (outClampMj c < mj) then m.outRaise c (2 ^ 11) else m

/-- SWITCH_OPEN (R137): gate on after the start phase, current below ILIM, output below the rail − 3 V for 1 ms, rail not below
LOSS_V. -/
def Mach.switchOpen (c : Nat) (i vOut : Int) (us : Nat) (m : Mach) : Mach :=
  let n := pgOut c
  let k := bankOf n
  let m := m.readOut c vOut
  if m.flag n Out.GATE && !m.flag n Out.STARTING && decide (i < m.fld (m.outCfg c) Out.ILIM)
      && decide (vOut < (m.rail k : Int) - 300) && decide (m.fld (pgBank k) Bank.LOSS_V ≤ m.rail k) && decide (1000 ≤ us)
  then m.outRaise c (2 ^ 12) else m

/-- SWITCH_STUCK (R137): gate off and current above 50 mA for 1 ms. -/
def Mach.switchStuck (c : Nat) (i : Int) (us : Nat) (m : Mach) : Mach :=
  if !m.flag (pgOut c) Out.GATE && decide (50 < i) && decide (1000 ≤ us) then m.outRaise c (2 ^ 13) else m

/-- OPEN_ON (R138): the on-time current below the threshold for 100 ms; it clears when the current returns. A threshold of 0 turns the check
off. -/
def Mach.openOn (c : Nat) (i : Int) (ms : Nat) (m : Mach) : Mach :=
  let n := pgOut c
  let k := bankOf n
  let th := m.fld n Out.OPEN_ON
  if th = 0 then m
  else if decide ((th : Int) ≤ i) then m.clearSrc n (2 ^ 6)
  else if m.flag n Out.GATE && decide (m.fld (pgBank k) Bank.LOSS_V ≤ m.rail k) && decide (100 ≤ ms) then m.outRaise c (2 ^ 6)
  else m

/-- OFFDIAG_PULSE (R139): an off channel's test pulse; V_OUT above 3.5 V at its end sets OPEN_OFF. -/
def Mach.offdiagPulse (c : Nat) (vOut : Int) (m : Mach) : Mach :=
  let n := pgOut c
  if m.flag n Out.OFFDIAG && !m.flag n Out.GATE then
    let m := m.readOut c vOut
    if decide (350 < vOut) then m.outRaise c (2 ^ 7) else m
  else m

/-- BF_ARM (R140): the output has been below 2 V, or BF_BLANK ms have passed since the off edge. -/
def Mach.bfArm (c : Nat) (vOut : Int) (ms : Nat) (m : Mach) : Mach :=
  let n := pgOut c
  let m := m.readOut c vOut
  if !m.flag n Out.GATE && (decide (vOut < 200) || decide (m.fld n Out.BF_BLANK ≤ ms)) then m.setFlag n Out.BF_ARMED true else m

/-- BACKFEED (R140, R141, R142, R460): an armed off channel above 2 V (6 V in a test pulse) for 50 µs, or an on channel above its rail by
more than 2 V for 10 µs. A duplex leg's off-state check waits 2 ms and does not act while the partner leg is on or not known. An off channel
whose voltage is another channel's by R143 sets none. -/
def Mach.backfeed (c : Nat) (vOut : Int) (us : Nat) (pulse partnerOff : Bool) (m : Mach) : Mach :=
  let n := pgOut c
  let m := m.readOut c vOut
  let duplex := m.flag n Out.DUPLEX
  let off := !m.flag n Out.GATE && m.flag n Out.BF_ARMED && !m.src n 9 && decide ((if pulse then 600 else 200) < vOut)
    && (if duplex then m.fld pgSplice Splice.PSTATE == 2 && partnerOff && decide (2000 ≤ us) else decide (50 ≤ us))
  let on := m.flag n Out.GATE && decide ((m.rail (bankOf n) : Int) + 200 < vOut) && decide (10 ≤ us)
  if off || on then (m.incSat n Out.BACKFEEDS).outRaise c (2 ^ 8) else m

/-- The partner of a duplex leg is known to be off (R460). -/
def Mach.partnerLegOff (m : Mach) (n : Nat) : Bool :=
  m.fld pgSplice Splice.PSTATE == 2 && m.splice.legs.any fun l => l.1 == n && !l.2.2

/-- An off channel whose armed check reads its output above 2 V (R140), on a duplex leg with its partner known to be off (R142, R460). -/
def Mach.fedBack (m : Mach) (c : Nat) : Bool :=
  let n := pgOut c
  !m.flag n Out.GATE && m.flag n Out.BF_ARMED && m.flag n Out.HIGH && !m.src n 9 && (!m.flag n Out.DUPLEX || m.partnerLegOff n)

/-- The edge at which two channels A and B show that they are wired together (R143). On edge: A turns on; B is off, its V_OUT was below 2 V,
rises above 2 V within 50 µs and follows A's within 1 V. Off edge: B turns off while A is on; B's current falls below 50 mA while its V_OUT
stays above 2 V, and A's current rises within 50 µs by at least half of what B carried. Voltages in 10 mV, currents in mA. -/
def Mach.wiredAt (m : Mach) (c d : Nat) : WireEdge → Bool
  | .on before vA vB us =>
    m.flag (pgOut c) Out.GATE && !m.flag (pgOut d) Out.GATE && decide (before < 200) && decide (200 < vB) && decide ((vB - vA).natAbs ≤ 100)
      && decide (us ≤ 50)
  | .off iB vB before rise us =>
    m.flag (pgOut c) Out.GATE && !m.flag (pgOut d) Out.GATE && decide (iB < 50) && decide (200 < vB) && decide (before ≤ 2 * rise)
      && decide (us ≤ 50)

/-- PARALLEL_UNDECLARED (R143): two channels of one bank with no declared group in common, found wired together. -/
def Mach.parallelFound (c d : Nat) (e : WireEdge) (m : Mach) : Mach :=
  let g := m.fld (pgOut c) Out.GROUP
  if c ≠ d && bankOf (pgOut c) = bankOf (pgOut d) && !(g != 0 && g == m.fld (pgOut d) Out.GROUP) && m.wiredAt c d e then
    (m.outRaise c (2 ^ 9)).outRaise d (2 ^ 9)
  else m

/-- SHARE (R145): a member's current deviates from the mean by more than IMB % for 1 s while the sum is at least 25 % of
members × ILIM. -/
def Mach.share (c : Nat) (i sum : Nat) (ms : Nat) (m : Mach) : Mach :=
  let k := if m.flag (pgOut c) Out.DUPLEX then 2 else (m.group c).length
  if 2 ≤ k && decide (k * m.fld (m.outCfg c) Out.ILIM ≤ 4 * sum) && decide (1000 ≤ ms)
      && decide (m.fld (pgOut c) Out.IMB * sum < 100 * ((k * i : Int) - sum).natAbs)
  then m.outRaise c (2 ^ 10) else m

/-- SYNC_LOST of an output (R129): synchronised PWM free-runs. -/
def Mach.outSyncLost (c : Nat) (m : Mach) : Mach :=
  let n := pgOut c
  let d := (m.out c).drive
  if d.mode == 2 && m.flag n Out.GATE && m.baseLost n then (m.takeDrive c d).outRaise c (2 ^ 15) else m

/-- PWM_PERIOD_START of an output (R128, R129): the pending values take effect with the period that starts. -/
def Mach.outPeriodStart (c : Nat) (m : Mach) : Mach :=
  let d := m.wantDrive c
  if m.flag (pgOut c) Out.GATE && d.conducts && d.mode ≠ 0 then m.takeDrive c d else m

end Sys2Proof.Machine
end

