-- ==== Sys2Proof/Machine/Sensing.lean ====
section
/-! DEFINITION. Load sensing, arc detection, snapshots, load classification, plugs and the lifetime ledger
(05_load_sensing_and_lifetime.md). -/

namespace Sys2Proof.Machine

/-! ## Digitiser (R158 to R160) -/

/-- OFFSET_RECALIBRATION (R159): the offset measured while the channel is off. -/
def Mach.recalibrate (c : Nat) (offset : Int) (m : Mach) : Mach :=
  if m.flag (pgOut c) Out.GATE then m else m.modOut c fun a => { a with offset := offset }

/-- DIGI_FAULT (R160): one 10 ms check of the modulator, which toggles or not, and of the reference, in 0.1 % of nominal; two failures of
either check in succession set the source. -/
def Mach.digiCheck (c : Nat) (toggles : Bool) (ref : Nat) (m : Mach) : Mach :=
  let k := if toggles then 0 else min 2 ((m.out c).digiFails + 1)
  let r := if decide (970 ≤ ref) && decide (ref ≤ 1030) then 0 else min 2 ((m.out c).refFails + 1)
  let m := m.modOut c fun a => { a with digiFails := k, refFails := r }
  if k = 2 || r = 2 then m.outRaise c (2 ^ 22) else m

/-! ## Snapshot engine (R169 to R171) -/

/-- Every OUT page shows whether the engine is busy (R171). -/
def Mach.showSnap (busy : Bool) (m : Mach) : Mach :=
  (List.range 128).foldl (fun m c => m.setFlag (pgOut c) Out.BUSY busy) m

/-- A snapshot starts (R170): SNAP_POS takes the position of the channel's base. -/
def Mach.snapStart (c : Nat) (m : Mach) : Mach :=
  let n := pgOut c
  let pos := m.reg (pgCap (m.fld n Hdr.BASE_CAP)) Cap.POS.off
  ({ m with snap := some c }.setReg n Out.SNAP_POS.off pos).showSnap true

/-- SNAP_GO (R170, R171): a GO write starts a snapshot, or is refused with REASON 3 while the engine is busy. -/
def Mach.snapGo (c : Nat) (m : Mach) : Mach :=
  if m.snap.isSome then m.refuse (pgOut c) 0x140 3 else m.snapStart c

/-- The trigger of R166: a snapshot, or a counted drop while the engine is busy. -/
def Mach.snapTrigger (c : Nat) (m : Mach) : Mach :=
  if m.snap.isSome then m.incSat (pgOut c) Out.SNAP_DROPS else m.snapStart c

/-- The snapshot completes (R170): DONE sets, and the completion vector is raised where CORE names a core. -/
def Mach.snapDone (m : Mach) : Mach :=
  match m.snap with
  | none => m
  | some c =>
    let n := pgOut c
    let m := ({ m with snap := none }.setFlag n Out.DONE true).showSnap false
    m.irq (m.fld n Out.CORE) (m.fld n Out.VECTOR)

/-- SNAPSHOT_COMPLETE (R169, R170): the samples stand at SNAP_ADDR + 2 i, little-endian halfwords. The address is the one SNAP_ADDR holds at
completion: which one a run uses when the register changes while it runs, the spec does not say (DESIGN CHOICE, notes/assumptions/137.md). -/
def snapStore (samples : List (BitVec 16)) (s : State) : State :=
  match s.m.snap with
  | none => s
  | some c => { s with m := s.m.snapDone, mem := writeHalves (s.m.reg (pgOut c) Out.SNAP_ADDR.off).toNat (samples.take 4096) s.mem }

/-! ## Arc scores (R161 to R168) -/

/-- x[b] of R164 in Q8.8: the excess over the threshold in baselines, at most 4.0. -/
def arcX (fray base floor margin : Nat) : Nat :=
  let b := max base floor
  min ((4 * fray - b * (4 + margin)) * 256 / (4 * b)) 1024

/-- A score's decay (R164). -/
def arcLeak (a decay : Nat) : Nat := a - a / 2 ^ decay

/-- One arc score moves to `v` (R165, R166): its source sets and its event counts when it reaches ARC_TH; the half-threshold trigger
fires once until the score falls below ARC_TH / 4. Each score has a trigger of its own, and ARC_TH / 2 and ARC_TH / 4 are rounded down (DESIGN
CHOICE, notes/assumptions/138.md). -/
def Mach.arcScore (c : Nat) (ser : Bool) (v : Nat) (m : Mach) : Mach :=
  let n := pgOut c
  let th := m.fld n Out.ARC_TH
  let old := m.fld n (if ser then Out.A_SER else Out.A_PAR)
  let m := m.setFld n (if ser then Out.A_SER else Out.A_PAR) v
  let fired := if ser then (m.out c).serFired else (m.out c).parFired
  let trig := decide (th / 2 ≤ v) && !fired && m.flag n Out.SNAP
  let fired' := if decide (v < th / 4) then false else fired || decide (th / 2 ≤ v)
  let m := m.modOut c fun a => if ser then { a with serFired := fired' } else { a with parFired := fired' }
  let m := if trig then m.snapTrigger c else m
  if decide (th ≤ v) then
    let m := if decide (old < th) then m.incSat n (if ser then Out.SER_EVT else Out.PAR_EVT) else m
    m.outRaise c (2 ^ (if ser then 16 else 17))
  else m

/-- One class LSB in 1/1,024 mA: 1.25, 0.3125 and 0.078125 mA for H, M and L (R158). -/
def outLsb (c : Nat) : Int := match outClass c with | 0 => 1280 | 1 => 320 | _ => 80

/-- A sample with the digitiser's offset taken off, saturating at ±32,767 (R158, R159). -/
def Mach.sample (m : Mach) (c : Nat) (raw : Int) : Int := max (-32767) (min (raw - (m.out c).offset) 32767)

/-- The sample of largest magnitude, the first of equals (R159). -/
def peakOf (l : List Int) : Int := l.foldl (fun a s => if a.natAbs < s.natAbs then s else a) 0

/-- The readings of a 1 ms window (R158, R159): I_RAW the latest of its 10 samples, PEAK the largest, I_OUT their mean in mA, toward zero
(DESIGN CHOICE, notes/assumptions/139.md); I_SLOW the mean over the last second. -/
def Mach.readWindow (c : Nat) (raw : List Int) (iSlow : Int) (m : Mach) : Mach :=
  let n := pgOut c
  let l := (raw.take 10).map (m.sample c)
  let m := (m.setSFld n Out.PEAK (peakOf l)).setSFld n Out.I_RAW ((l.getLast?).getD 0)
  (m.setSFld n Out.I_OUT (Int.tdiv (l.foldl (· + ·) 0 * outLsb c) (1024 * max 1 l.length))).setSFld n Out.I_SLOW iSlow

/-- The Fray of a valid window in the four bands, saturating (R161). -/
def Mach.setFray (c f0 f1 f2 f3 : Nat) (m : Mach) : Mach :=
  let n := pgOut c
  (((m.setSat n Out.BIN0 f0).setSat n Out.BIN1 f1).setSat n Out.BIN2 f2).setSat n Out.BIN3 f3

/-- s of R164 for the Fray that stands: each band's excess times its weight, saturating. -/
def Mach.arcSum (m : Mach) (c : Nat) : Nat :=
  let n := pgOut c
  let x := fun (w b f : Fld) => m.fld n w * arcX (m.fld n f) (m.fld n b) (m.fld n Out.FLOOR) (m.fld n Out.MARGIN)
  min 0xFFFF (x Out.W0 Out.BASE0 Out.BIN0 + x Out.W1 Out.BASE1 Out.BIN1 + x Out.W2 Out.BASE2 Out.BIN2 + x Out.W3 Out.BASE3 Out.BIN3)

/-- The window counts as parallel (R164): the peak exceeds a mean current of at least 50 mA by PSTEP percent. -/
def Mach.arcParallel (m : Mach) (c : Nat) : Bool :=
  let n := pgOut c
  let slow := m.sfld n Out.I_SLOW
  decide (50 ≤ slow) && decide (slow * (100 + m.fld n Out.PSTEP) * 1024 ≤ m.sfld n Out.PEAK * outLsb c * 100)

/-- The second's count of windows and their Fray (R168). -/
def Mach.arcNote (c sum : Nat) (m : Mach) : Mach :=
  let fray := [Out.BIN0, Out.BIN1, Out.BIN2, Out.BIN3].map (m.fld (pgOut c))
  m.modOut c fun a => { a with
    winN := a.winN + 1, winS := a.winS || decide (0 < sum), winSum := (List.range 4).map fun b => a.winSum.getD b 0 + fray.getD b 0 }

/-- A valid window moves the scores (R164): both leak, and the series or the parallel one takes s. -/
def Mach.arcScored (c f0 f1 f2 f3 : Nat) (m : Mach) : Mach :=
  let n := pgOut c
  let m := ((m.modOut c fun a => { a with blind := 0 }).setFlag n Out.BLIND false).setFray c f0 f1 f2 f3
  let sum := m.arcSum c
  let m := m.arcNote c sum
  let par := m.arcParallel c
  let dec := m.fld n Out.DECAY
  let s := min 0xFFFF (arcLeak (m.fld n Out.A_SER) dec + if par then 0 else sum)
  let p := min 0xFFFF (arcLeak (m.fld n Out.A_PAR) dec + if par then sum else 0)
  (m.arcScore c true s).arcScore c false p

/-- ARC_SCORE_UPDATE (R159, R161, R162, R164): the window's samples, its Fray bands, the 1 s mean, and how many of its 1,000 µs were
unblanked; a window with less than half is invalid and changes neither FRAY nor the scores. -/
def Mach.arcUpdate (c us : Nat) (f0 f1 f2 f3 : Nat) (raw : List Int) (iSlow : Int) (m : Mach) : Mach :=
  let m := m.readWindow c raw iSlow
  if us < 500 then
    let k := min ((m.out c).blind + 1) 100
    (m.modOut c fun a => { a with blind := k }).setFlag (pgOut c) Out.BLIND (k == 100)
  else m.arcScored c f0 f1 f2 f3

/-- One baseline's update (R168): towards the mean sum / cnt by its time constant, rounding toward zero, clamped. -/
def baseNext (base sum cnt floor tau : Nat) : Nat :=
  let v := (base : Int) + Int.tdiv ((sum : Int) - base * cnt) (max 1 cnt * 2 ^ tau)
  (max (floor : Int) (min v (64 * floor : Int))).toNat

/-- Whether the second that ends trains the baselines (R168): the channel was on throughout, with no start phase, inrush window or retry,
at least 500 windows were valid, none had s > 0, and the unit is not frozen. -/
def Mach.trains (m : Mach) (c : Nat) : Bool :=
  (m.out c).steady && decide (500 ≤ (m.out c).winN) && !(m.out c).winS && !m.isFrozen (pgOut c)

/-- One second ends: its windows are forgotten, and the next begins on a channel that is on, with no start phase and no inrush window. -/
def Mach.nextSecond (c : Nat) (m : Mach) : Mach :=
  let n := pgOut c
  m.modOut c fun a => { a with
    winN := 0, winS := false, winSum := [], steady := m.flag n Out.GATE && !m.flag n Out.STARTING && !m.flag n Out.INRUSH }

/-- A baseline moves towards the second's mean Fray in its band (R168, R321). -/
def Mach.trainBase (c b : Nat) (f : Fld) (m : Mach) : Mach :=
  let n := pgOut c
  let a := m.out c
  let old := m.fld n f
  let new := baseNext old (a.winSum.getD b 0) a.winN (m.fld n Out.FLOOR) (m.fld n Out.TAU)
  (m.setFld n f new).adapt 7 n b old new

/-- ARC_BASELINE_UPDATE (R168): the second's mean Fray trains each baseline. -/
def Mach.baselineUpdate (c : Nat) (m : Mach) : Mach :=
  if m.trains c then
    ((((m.trainBase c 0 Out.BASE0).trainBase c 1 Out.BASE1).trainBase c 2 Out.BASE2).trainBase c 3 Out.BASE3).nextSecond c
  else m.nextSecond c

/-! ## Load classification and plugs (R172 to R174) -/

/-- The class of the first matching row of R172. `ratio` × 100, `settle` ms, `final` mA, steady bins `b0`..`b3`. -/
def loadClass (start : Bool) (final ratio settle clampMj b0 b1 b2 b3 base0 floor : Nat) : Nat :=
  let conv := fun (b o1 o2 o3 : Nat) => decide (8 * floor < b) && decide (4 * o1 < b) && decide (4 * o2 < b) && decide (4 * o3 < b)
  if final < 10 then 1
  else if start || (decide (300 ≤ ratio) && decide (settle ≤ 5)) then 4
  else if decide (300 ≤ ratio) && decide (ratio ≤ 1500) && decide (20 ≤ settle) && decide (settle ≤ 200) then 3
  else if decide (200 ≤ ratio) && decide (ratio ≤ 1000) && decide (4 * base0 < b0) then 6
  else if conv b1 b0 b2 b3 || conv b2 b0 b1 b3 || conv b3 b0 b1 b2 then 7
  else if decide (ratio ≤ 110) && decide (1 ≤ settle) && decide (1 < clampMj) then 5
  else if decide (ratio ≤ 120) && decide (settle < 5) then 2
  else 0

/-- The class for a RATIO × 100 (R172, R173): shown with its confidence over the last 8, and LOAD_MISMATCH sets after three off EXPECT. -/
def Mach.classified (c ratio final settle b0 b1 b2 b3 : Nat) (m : Mach) : Mach :=
  let n := pgOut c
  let a := m.out c
  let cl := loadClass a.startRan final ratio settle a.clampMj b0 b1 b2 b3 (m.fld n Out.BASE0) (m.fld n Out.FLOOR)
  let hist := (cl :: a.classes).take 8
  let conf := (hist.filter (· == cl)).length * 100 / 8
  let m := (m.setFld n Out.RATIO ratio).setFld n Out.SETTLE (min 0xFFFF settle)
  let m := (m.setFld n Out.CLASS_128 cl).setFld n Out.CONF conf
  let m := m.modOut c fun a => { a with classes := hist }
  let e := m.fld n Out.EXPECT
  if e = 0 then m
  else if cl = e then m.clearSrc n (2 ^ 21)
  else if decide (3 ≤ hist.length) && (hist.take 3).all (· != e) then m.outRaise c (2 ^ 21)
  else m

/-- LOAD_CLASSIFICATION (R172, R173): 200 ms after a turn-on that is no retry. RATIO is a free value when the final mean is 0, a division the spec does
not define. -/
def Mach.classify (c : Nat) (final peak20 settle b0 b1 b2 b3 : Nat) (m : Mach) : Mach :=
  if !m.flag (pgOut c) Out.GATE || (m.out c).byRetry then m
  else if final = 0 then m.free.2.classified c (m.free.1 % 65536) final settle b0 b1 b2 b3
  else m.classified c (min 0xFFFF (peak20 * 100 / final)) final settle b0 b1 b2 b3

/-- PLUG (R174): the 50 ms mean `mean` has stood off REF by STEP for `ms`; the event counts and REF restarts. While the deviation is
below STEP / 2, REF follows I_SLOW. At a resumption, after a turn-on or EN, REF restarts from the first 1 s mean. -/
def Mach.plug (c : Nat) (mean iSlow : Int) (ms : Nat) (m : Mach) : Mach :=
  let n := pgOut c
  if !m.flag n Out.EN || !m.flag n Out.GATE || m.flag n Out.STARTING || m.flag n Out.INRUSH || m.flag n Out.RETRY_WAIT
      || (m.out c).drive.mode != 0 then m
  else if (m.out c).refStale then (m.setSFld n Out.REF iSlow).modOut c fun a => { a with refStale := false }
  else
    let ref := m.sfld n Out.REF
    let d := mean - ref
    if decide (2 * d.natAbs < m.fld n Out.STEP) then m.setSFld n Out.REF iSlow
    else if decide (m.fld n Out.STEP ≤ d.natAbs) && decide (m.fld n Out.HOLD * 10 ≤ ms) then
      let m := if 0 < d then m.incWrap n Out.PLUGS else m.incWrap n Out.UNPLUGS
      (m.setSFld n Out.STEP_LAST d).setSFld n Out.REF mean
    else m

/-! ## Lifetime ledger (R176 to R181) -/

/-- N_ref of a channel class (R177). -/
def nRef (cls : Nat) : Nat := match cls with | 0 => 20000 | 1 => 30000 | _ => 50000

/-- The largest `d` below 2^`bits` with p d, for p true at 0 and downward closed. -/
def searchMax (p : Nat → Bool) : Nat → Nat → Nat
  | 0, d => d
  | b + 1, d => searchMax p b (if p (d + 2 ^ b) then d + 2 ^ b else d)

/-- 1 / N_f in Q16.48 (R177), rounded down: the largest d with d ≤ 2^48 × ΔT^5 × 2^((T − 125) / 20) / (50^5 × N_ref), ΔT and T in 0.1 K;
compared in 200th powers, so exactly. -/
def damageFloor (cls dt : Nat) (tmax : Int) : Nat :=
  let num := 2 ^ 48 * dt ^ 5
  let den := 500 ^ 5 * nRef cls
  let e := tmax - 1250
  searchMax (fun d => if 0 ≤ e then decide ((d * den) ^ 200 ≤ num ^ 200 * 2 ^ e.toNat)
    else decide ((d * den) ^ 200 * 2 ^ (-e).toNat ≤ num ^ 200)) 64 0

/-- The damage of a full cycle (R177): the spec states no rounding to Q16.48, so the last bit is a free value. -/
def cycleDamage (cls dt : Nat) (tmax : Int) : Nat :=
  damageFloor cls dt tmax + (if Config.damageRound cls dt tmax.natAbs then 1 else 0)

/-- A counted cycle between turning points `a` and `b` (R176): full counts 1 / N_f and two halves, half counts 0.5 / N_f and one; a
range below 3 K counts nothing. A half cycle's damage in Q16.48, and the Q4.28 view of D, are rounded down (DESIGN CHOICE,
notes/assumptions/140.md). -/
def Mach.countCycle (c : Nat) (a b : Int) (full : Bool) (m : Mach) : Mach :=
  let n := pgOut c
  let dt := (a - b).natAbs
  if dt < 30 then m
  else
    let t := max a b
    let w := cycleDamage (outClass c) dt t
    let w := if full then w else w / 2
    let m := m.modOut c fun o => { o with damage := min (2 ^ 64 - 1) (o.damage + w) }
    let m := m.addSat n Out.HALVES (if full then 2 else 1)
    let m := (m.setFld n Out.DT_LAST (min 0xFFFF dt)).setSFld n Out.TMAX_LAST t
    m.setReg n Out.LEDGER_D.off (BitVec.ofNat 32 (min 0xFFFFFFFF ((m.out c).damage / 2 ^ 20)))

/-- Four-point rainflow on a residue whose newest point is first (R176): while the two middle ranges close, count a full cycle. -/
def Mach.rainflow (c : Nat) : Nat → List Int → Mach → List Int × Mach
  | 0, l, m => (l, m)
  | fuel + 1, l, m =>
    match l with
    | d :: e :: b :: a :: rest =>
      if (e - b).natAbs ≤ (b - a).natAbs && decide ((e - b).natAbs ≤ (d - e).natAbs) then
        Mach.rainflow c fuel (d :: a :: rest) (m.countCycle c b e true)
      else (l, m)
    | _ => (l, m)

/-- A new reading joins the turning points, newest first, with a hysteresis of 1 K (R176). -/
def turnPoint (x : Int) : List Int → List Int
  | [] => [x]
  | [p] => if (x - p).natAbs < 10 then [p] else [x, p]
  | l :: p :: rest =>
    if (decide (p < l) && decide (l ≤ x)) || (decide (l < p) && decide (x ≤ l)) then x :: p :: rest
    else if (x - l).natAbs < 10 then l :: p :: rest
    else x :: l :: p :: rest

/-- Every range of a residue counts as a half cycle (R181). -/
def Mach.closeResidue (c : Nat) : List Int → Mach → Mach
  | a :: b :: rest, m => Mach.closeResidue c (b :: rest) (m.countCycle c a b false)
  | _, m => m

/-- ρ as a fraction: D × T_LIFE over max(t_op, 500 h) × 2^48 (R178). -/
def Mach.rhoNum (m : Mach) (c : Nat) : Nat := (m.out c).damage * 591705000
def Mach.rhoDen (m : Mach) : Nat := 2 ^ 48 * max (m.log.topMs / 1000) 1800000

/-- RHO, AHEAD and LIFE_END follow the damage (R178). RHO in Q8.8 is rounded down (DESIGN CHOICE, notes/assumptions/140.md). -/
def Mach.showRho (c : Nat) (m : Mach) : Mach :=
  let n := pgOut c
  let num := m.rhoNum c
  let den := m.rhoDen
  let m := m.setFld n Out.RHO (min 0xFFFF (num * 256 / den))
  let m := if decide (den ≤ num) then m.outRaise c (2 ^ 18)
    else if decide (num * 100 < den * 95) then m.clearSrc n (2 ^ 18) else m
  if decide (2 ^ 48 ≤ (m.out c).damage) then m.outRaise c (2 ^ 20) else m

/-- A reading joins the residue (R176): the cycles it closes are counted, and beyond 64 turning points the oldest range counts as a half
cycle. -/
def Mach.rainAdd (c : Nat) (tj : Int) (m : Mach) : Mach :=
  let (l, m) := m.rainflow c 64 (turnPoint tj (m.out c).residue)
  let (l, m) := if decide (64 < l.length) then
      match l.reverse with
      | p :: q :: rest => (rest.reverse, m.countCycle c p q false)
      | _ => (l, m)
    else (l, m)
  m.modOut c fun o => { o with residue := l }

/-- LEDGER_SAMPLE (R176, R181): TJ joins the residue; the first reading after start-up or wake closes the stored one. -/
def Mach.ledgerSample (c : Nat) (tj : Int) (m : Mach) : Mach :=
  let n := pgOut c
  let m := m.setSFld n Out.TJ tj
  let a := m.out c
  if a.closeNext then
    let m := m.closeResidue c (tj :: a.residue)
    (m.modOut c fun o => { o with residue := [tj], closeNext := false }).showRho c
  else (m.rainAdd c tj).showRho c

/-- The ledger limit: F percent of the rating at the bank's class (R179). -/
def Mach.showLed (c : Nat) (m : Mach) : Mach := m.setFld (pgOut c) Out.I_LED (m.fld (pgOut c) Out.F * m.outRating c / 100)

/-- F of R179: the percentage that ρ leaves, between FMIN and 100. -/
def Mach.deratePct (m : Mach) (c : Nat) : Nat :=
  let n := pgOut c
  let num : Int := 100 * m.rhoNum c
  let den : Int := m.rhoDen
  let raw := (1000 * den - (num - m.fld n Out.RHO_ON * den) * m.fld n Out.KD) / (10 * den)
  (max (m.fld n Out.FMIN : Int) (min raw 100)).toNat

/-- DERATING_RECOMPUTE (R179): F and I_LED follow ρ unless the unit is frozen. -/
def Mach.derate (c : Nat) (m : Mach) : Mach :=
  let n := pgOut c
  if m.isFrozen n then m
  else
    let f := m.deratePct c
    let old := m.fld n Out.F
    let m := ((m.setFld n Out.F f).showLed c).adapt 2 n 0 old f
    if f < 100 then m.outRaise c (2 ^ 19) else m.clearSrc n (2 ^ 19)

/-- LEDGER_STORE (R181): ledger and residue go to MRAM. -/
def Mach.ledgerStore (c : Nat) (m : Mach) : Mach :=
  let h := (m.reg (pgOut c) Out.HALVES.off).toNat
  m.modOut c fun o => { o with damageStored := o.damage, residueStored := o.residue, halvesStored := h }

/-- Take up the stored ledger at a start or wake; the first reading will close its residue (R181). -/
def Mach.ledgerLoad (c : Nat) (m : Mach) : Mach :=
  let n := pgOut c
  let m := m.modOut c fun o => { o with damage := o.damageStored, residue := o.residueStored, closeNext := true }
  let m := m.setReg n Out.HALVES.off (BitVec.ofNat 32 (m.out c).halvesStored)
  m.setReg n Out.LEDGER_D.off (BitVec.ofNat 32 (min 0xFFFFFFFF ((m.out c).damage / 2 ^ 20)))

end Sys2Proof.Machine
end

