-- ==== Sys2Proof/Machine/Banks.lean ====
section
/-! DEFINITION. Bank feed monitoring (04_protected_outputs.md, R153 to R157). Voltages in 10 mV, times in ms; feed B where `b` is
true. -/

namespace Sys2Proof.Machine

/-- The BANK page is ACTIVE while the rail is at or above LOSS_V, IDLE otherwise. -/
def Mach.bankSettle (k : Nat) (m : Mach) : Mach :=
  m.settle (pgBank k) (decide (m.fld (pgBank k) Bank.LOSS_V ≤ m.rail k))

/-- The rail reads `v`. -/
def Mach.setRail (k v : Nat) (m : Mach) : Mach := (m.setSat (pgBank k) Bank.VR v).bankSettle k

/-- The ideal diodes follow the feeds (R16): the higher feed's conducts, and both do within 40 mV of each other. -/
def Mach.diodes (k : Nat) (m : Mach) : Mach :=
  let n := pgBank k
  let a := m.fld n Bank.VA
  let b := m.fld n Bank.VB
  (m.setFlag n Bank.A_ON (decide (0 < a) && decide (b ≤ a + 4))).setFlag n Bank.B_ON (decide (0 < b) && decide (a ≤ b + 4))

/-- A feed's voltage reads `v`. -/
def Mach.readFeed (k : Nat) (b : Bool) (v : Nat) (m : Mach) : Mach := m.setSat (pgBank k) (if b then Bank.VB else Bank.VA) v

/-- A feed reads `v`, and the diodes follow. -/
def Mach.setFeed (k : Nat) (b : Bool) (v : Nat) (m : Mach) : Mach := (m.readFeed k b v).diodes k

/-- The feed and bank currents read, in 10 mA, the bank's with whatever flows through its channels in either direction (R157, R547, R548). -/
def Mach.readCurrents (k : Nat) (iA iB iR : Int) (m : Mach) : Mach :=
  let n := pgBank k
  ((m.setSFld n Bank.IA iA).setSFld n Bank.IB iB).setSFld n Bank.IR iR

/-- Whether a feed is declared used (R20). -/
def Mach.feedUsed (m : Mach) (k : Nat) (b : Bool) : Bool := m.flag (pgBank k) (if b then Bank.B_USED else Bank.A_USED)

/-- A_LOST, and B_LOST for feed B (R153): a declared feed below LOSS_V for LOSS_T. -/
def Mach.feedLost (k : Nat) (b : Bool) (v ms : Nat) (m : Mach) : Mach :=
  let n := pgBank k
  let m := m.setFeed k b v
  if m.feedUsed k b && decide (v < m.fld n Bank.LOSS_V) && decide (m.fld n Bank.LOSS_T ≤ ms) then
    let st := if b then Bank.B_LOST else Bank.A_LOST
    let m := if m.flag n st then m else m.incSat n (if b then Bank.B_LOSSES else Bank.A_LOSSES)
    (m.setFlag n st true).raise n (if b then 1 else 0)
  else m

/-- FEED_RETURN (R153): feeds and rail read again; a feed above LOSS_V + 5 % for LOSS_T is no longer lost, a rail at or above SAG_V no
longer sags, feeds not above OV_V are no longer over-voltage; the page is ACTIVE again with its rail. -/
def Mach.feedReturn (k vA vB vR ms : Nat) (m : Mach) : Mach :=
  let n := pgBank k
  let m := ((m.setFeed k false vA).setFeed k true vB).setRail k vR
  let back := fun (v : Nat) => decide (m.fld n Bank.LOSS_V * 105 < v * 100) && decide (m.fld n Bank.LOSS_T ≤ ms)
  let m := if back vA then (m.setFlag n Bank.A_LOST false).clearSrc n 1 else m
  let m := if back vB then (m.setFlag n Bank.B_LOST false).clearSrc n 2 else m
  let m := if decide (m.fld n Bank.SAG_V ≤ vR) then m.setFlag n Bank.SAG false else m
  if decide (vA ≤ m.fld n Bank.OV_V) && decide (vB ≤ m.fld n Bank.OV_V) then m.setFlag n Bank.OV false else m

/-- At least one feed of the bank is declared used (R153). -/
def Mach.anyUsed (m : Mach) (k : Nat) : Bool := m.feedUsed k false || m.feedUsed k true

/-- The rail of a bank with a feed declared used reads below LOSS_V (R153). -/
def Mach.railDown (m : Mach) (k : Nat) : Bool := m.anyUsed k && decide (m.rail k < m.fld (pgBank k) Bank.LOSS_V)

/-- RAIL_LOST (R153). -/
def Mach.railLost (k v ms : Nat) (m : Mach) : Mach :=
  let n := pgBank k
  let m := m.setRail k v
  if m.anyUsed k && decide (v < m.fld n Bank.LOSS_V) && decide (m.fld n Bank.LOSS_T ≤ ms) then m.raise n 2 else m

/-- SAG (R153): STATUS.SAG follows the rail against SAG_V. -/
def Mach.railSag (k v ms : Nat) (m : Mach) : Mach :=
  let n := pgBank k
  let m := m.setRail k v
  if m.anyUsed k && decide (v < m.fld n Bank.SAG_V) then
    if decide (m.fld n Bank.SAG_T ≤ ms) then (m.setFlag n Bank.SAG true).raise n 3 else m
  else m.setFlag n Bank.SAG false

/-- OVERVOLT (R153): STATUS.OV follows the feed against OV_V. -/
def Mach.overvolt (k : Nat) (b : Bool) (v ms : Nat) (m : Mach) : Mach :=
  let n := pgBank k
  let m := m.setFeed k b v
  if decide (m.fld n Bank.OV_V < m.fld n Bank.VA) || decide (m.fld n Bank.OV_V < m.fld n Bank.VB) then
    if decide (m.fld n Bank.OV_T ≤ ms) then (m.setFlag n Bank.OV true).raise n 4 else m
  else m.setFlag n Bank.OV false

/-- BANK_OC (R153): the 1 s mean of the bank current, 100 mA, against LIM; `now` is its last 1 ms mean in 10 mA. -/
def Mach.bankOc (k : Nat) (i now : Int) (m : Mach) : Mach :=
  let n := pgBank k
  let m := m.setSFld n Bank.IR now
  if decide ((m.fld n Bank.LIM : Int) < i) then (m.setFlag n Bank.OC true).raise n 5 else m.setFlag n Bank.OC false

/-- BP_WARN (R153): the baseplate, 0.1 °C, above BP_WARN, with 2 °C hysteresis. -/
def Mach.bpWarn (k : Nat) (t : Int) (m : Mach) : Mach :=
  let n := pgBank k
  let m := m.setSFld n Bank.TEMP t
  let w : Int := 10 * m.fld n Bank.BP_WARN
  if decide (w < t) then (m.setFlag n Bank.BP_WARN_64 true).raise n 7
  else if decide (t < w - 20) then m.setFlag n Bank.BP_WARN_64 false
  else m

/-- The baseplate reads at or above 100 °C (R153). -/
def Mach.bpHot (m : Mach) (k : Nat) : Bool := decide ((1000 : Int) ≤ m.sfld (pgBank k) Bank.TEMP)

/-- A feed reads above the rail by more than 0.5 V while its ideal diode reads off (R153). -/
def Mach.diodeHeld (m : Mach) (k : Nat) : Bool :=
  [(Bank.VA, Bank.A_ON), (Bank.VB, Bank.B_ON)].any fun p =>
    decide (m.rail k + 50 < m.fld (pgBank k) p.1) && !m.flag (pgBank k) p.2

/-- DIODE (R153): a feed above the rail by more than 0.5 V for 10 ms while its ideal diode reads off. -/
def Mach.diodeFault (k : Nat) (b : Bool) (v ms : Nat) (m : Mach) : Mach :=
  let n := pgBank k
  let m := m.readFeed k b v
  if !m.flag n (if b then Bank.B_ON else Bank.A_ON) && decide (m.rail k + 50 < v) && decide (10 ≤ ms) then m.raise n 9 else m

/-- A feed declared unused reads above 5 V (R153). -/
def Mach.liveUnused (m : Mach) (k : Nat) : Bool :=
  [(false, Bank.VA), (true, Bank.VB)].any fun p => !m.feedUsed k p.1 && decide (500 < m.fld (pgBank k) p.2)

/-- UNUSED_LIVE (R153): a feed declared unused reads above 5 V. -/
def Mach.unusedLive (k : Nat) (b : Bool) (v : Nat) (m : Mach) : Mach :=
  let n := pgBank k
  let m := m.setFeed k b v
  if !m.feedUsed k b && decide (500 < v) then (m.setFlag n Bank.UNUSED_LIVE true).raise n 10
  else if m.liveUnused k then m else m.setFlag n Bank.UNUSED_LIVE false

/-- The feeds are declared anew (R153): what is evaluated only for a feed declared used, or only for one declared unused, ends with it. -/
def Mach.feedsDeclared (k : Nat) (m : Mach) : Mach :=
  let n := pgBank k
  let off := fun (f : Fld) (b : Bool) (m : Mach) => if b then m else m.setFlag n f false
  (((m |> off Bank.A_LOST (m.feedUsed k false)) |> off Bank.B_LOST (m.feedUsed k true)) |> off Bank.SAG (m.anyUsed k))
    |> off Bank.UNUSED_LIVE (m.liveUnused k)

/-- IDEAL_DIODE_OFF (R17): the feed's current reverses and its diode turns off. -/
def Mach.diodeOff (k : Nat) (b : Bool) (i : Int) (m : Mach) : Mach :=
  let n := pgBank k
  let f := if b then Bank.IB else Bank.IA
  if i < 0 then (m.setFlag n (if b then Bank.B_ON else Bank.A_ON) false).setFld n f 0 else m.setSFld n f i

/-- Default thresholds of a bank class, 10 mV: LOSS_V, SAG_V, OV_V (R156). -/
def bankDefaults (cls : Nat) : Nat × Nat × Nat :=
  match cls with | 0 => (1400, 1800, 3600) | 1 => (3600, 5040, 10800) | _ => (5500, 7700, 15400)

/-- The power units of a bank (R21). -/
def bankUnits (k : Nat) : List Nat :=
  ((List.range 128).map pgOut ++ (List.range 8).map pgBridge ++ (List.range 24).map pgRat ++ (List.range 8).map pgValve).filter
    fun n => bankOf n == k

/-- A CFG write that changes CLASS is accepted only with every OUT, BRIDGE, RAT and VALVE of the bank OFF or ABSENT, channels held by
BOOT_ON aside, and no ILIM above the new rating (R156). -/
def Mach.bankClassOk (m : Mach) (k cls : Nat) : Bool :=
  (bankUnits k).all fun n =>
    (m.st n == 0 || m.st n == 6 || (clsOf n == .out && m.flag n Out.BOOT_HELD))
      && (clsOf n != .out || decide (m.fld n Out.ILIM ≤ ratingOf (outClass (n - 0x20)) cls))

end Sys2Proof.Machine
end

