-- ==== Sys2Proof/Machine/Bridges.lean ====
section
/-! DEFINITION. Motor bridges (06_motor_bridges.md): drive and ramp, ripple counting, stops, anti-pinch, learning and wipers. Currents in
mA, voltages in mV, E in µV, intervals in ns. -/

namespace Sys2Proof.Machine

/-- What a bridge holds at reset. -/
def bridgeReset : BridgeAux :=
  ⟨.coast, 0, false, false, false, false, false, false, 0, [], [], 0, 0, false, [], false, none, 0, 0, 0, false, 0, 0, 0, false, 0, []⟩

def Mach.br (m : Mach) (b : Nat) : BridgeAux := tget m.bridges bridgeReset b
def Mach.setBr (b : Nat) (a : BridgeAux) (m : Mach) : Mach := { m with bridges := tput m.bridges bridgeReset b a }
def Mach.modBr (b : Nat) (g : BridgeAux → BridgeAux) (m : Mach) : Mach := m.setBr b (g (m.br b))

/-- Rated current at a bank class, mA (R184). -/
def bridgeRating (cls : Nat) : Nat := if cls = 0 then 12000 else 5000

/-- Short-circuit threshold at a bank class, mA (R184). -/
def bridgeShortMa (cls : Nat) : Nat := 2 * bridgeRating cls

/-- POS as a signed count (R190). -/
def Mach.brPos (m : Mach) (b : Nat) : Int := m.sfld (pgBridge b) Bridge.POS

/-- POS takes a value; SEAL_ZONE shows whether it lies within 0 to SEAL. -/
def Mach.setBrPos (b : Nat) (p : Int) (m : Mach) : Mach :=
  let n := pgBridge b
  (m.setSFld n Bridge.POS p).setFlag n Bridge.SEAL_ZONE (decide (0 ≤ p) && decide (p ≤ m.fld n Bridge.SEAL))

/-- Profile bin `k`, mA. -/
def Mach.profile (m : Mach) (b k : Nat) : Nat :=
  m.fld (pgBridge b) (if k % 2 = 1 then Bridge.PROFILE_HI (k / 2) else Bridge.PROFILE_LO (k / 2))

/-- Set profile bin `k`. -/
def Mach.setProfile (b k v : Nat) (m : Mach) : Mach :=
  m.setFld (pgBridge b) (if k % 2 = 1 then Bridge.PROFILE_HI (k / 2) else Bridge.PROFILE_LO (k / 2)) v

/-- Demand of a bridge (R200). -/
def Mach.brDemand (m : Mach) (b : Nat) : Bool :=
  let n := pgBridge b
  (m.unit n).enabled && m.fld n Bridge.MODE != 0 && !(m.br b).done

/-- A pinch reversal runs (R196). -/
def Mach.reversing (m : Mach) (b : Nat) : Bool := m.flag (pgBridge b) Bridge.REVERSING

/-- The magnitude of the live DUTY. -/
def Mach.brAbsDuty (m : Mach) (b : Nat) : Nat := (m.sfld (pgBridge b) Bridge.DUTY).natAbs

/-- The duty the live registers ask for, signed (R186). -/
def Mach.brWant (m : Mach) (b : Nat) : Int :=
  let n := pgBridge b
  match m.fld n Bridge.MODE with
  | 1 => m.sfld n Bridge.DUTY
  | 3 => if (m.br b).aimUp then m.brAbsDuty b else -(m.brAbsDuty b : Int)
  | 4 => m.brAbsDuty b
  | 5 => m.brAbsDuty b
  | 6 => m.brAbsDuty b
  | _ => 0

/-- Copy POS, HOMED, UNCERT and PROFILE to MRAM (R202). -/
def Mach.brStore (b : Nat) (m : Mach) : Mach :=
  let n := pgBridge b
  let p := m.reg n Bridge.POS.off
  let h := m.flag n Bridge.HOMED
  let u := m.fld n Bridge.UNCERT
  let l := (List.range 32).map fun i => m.reg n (0x100 + 4 * i)
  m.modBr b fun a => { a with posStored := p, homedStored := h, uncertStored := u, profileStored := l }

/-- Restore the MRAM copies at a start (R202). -/
def Mach.brRestore (b : Nat) (m : Mach) : Mach :=
  let n := pgBridge b
  let a := m.br b
  let m := (m.setBrPos b a.posStored.toInt).setFlag n Bridge.HOMED a.homedStored
  let m := m.setFld n Bridge.UNCERT a.uncertStored
  (a.profileStored.zip (List.range 32)).foldl (fun m p => m.setReg n (0x100 + 4 * p.2) p.1) m

/-- All switches off: the marks of driving and braking clear. What it cuts short of a stop's brake or a reversal has ended demand as its
end would have (R193, R196, R200). -/
def Mach.brCoast (b : Nat) (m : Mach) : Mach :=
  let n := pgBridge b
  let cut := m.reversing b || (m.br b).phase = .stopBrake || (m.br b).phase = .pinchHold
  let m := ((m.setFlag n Bridge.BRAKING false).setFlag n Bridge.REVERSING false).setFlag n Bridge.WAIT false
  let m := (m.setFlag n Bridge.LIMITING false).setFlag n Bridge.RAMPING false
  m.modBr b fun a => { a with phase := .coast, duty := 0, done := a.done || cut }

/-- Both low-side switches on, for the reason `ph`. -/
def Mach.brBrake (b : Nat) (ph : BrPhase) (m : Mach) : Mach :=
  let n := pgBridge b
  let m := ((m.setFlag n Bridge.BRAKING true).setFlag n Bridge.LIMITING false).setFlag n Bridge.RAMPING false
  m.modBr b fun a => { a with phase := ph, duty := 0 }

/-- The ramp is not at the live duty yet: the magnitude is below it, or the direction is still the other (R187). -/
def rampShort (d w : Int) : Bool := decide (d.natAbs < w.natAbs) || decide (d * w < 0)

/-- A POSITION drive is taken up towards the side TARGET lies on (R186). -/
def Mach.brAim (b : Nat) (m : Mach) : Mach :=
  let up := decide (m.brPos b ≤ m.sfld (pgBridge b) Bridge.TARGET)
  m.modBr b fun a => { a with aimUp := up }

/-- A motion starts from the present position: what R195 and R197 count from its start begins again. -/
def Mach.brBegin (b : Nat) (m : Mach) : Mach :=
  let n := pgBridge b
  let p := m.brPos b
  let m := (m.setFlag n Bridge.AT_OPEN false).setFlag n Bridge.AT_CLOSED false
  m.modBr b fun a => { a with since := 0, startPos := p, train := true, bins := [], exceeded := false, peak := none }

/-- The live drive is ramped up (R187), and a park request counts from here (R198). -/
def Mach.brMotion (b : Nat) (m : Mach) : Mach :=
  let n := pgBridge b
  let m := (((m.setFlag n Bridge.BRAKING false).setFlag n Bridge.PARKED false).setFlag n Bridge.WAIT false).brAim b
  let m := m.modBr b fun a => { a with phase := .drive, parkRipples := 0, parkEdge := false }
  let w := m.brWant b
  let m := if (m.br b).duty = 0 && w != 0 then m.brBegin b else m
  m.setFlag n Bridge.RAMPING (rampShort (m.br b).duty (w * 32768))

/-- The drive asked for would reverse a turning motor that has not had its brake (R187). -/
def Mach.mustTurn (m : Mach) (b : Nat) : Bool :=
  let n := pgBridge b
  let w := m.brWant b
  m.flag n Bridge.MOVING && w != 0 && (decide (0 < w) != m.flag n Bridge.DIR) && !(m.br b).turned

/-- Take up the live drive (R186, R187): a turning motor is braked for DEAD_REV before the other direction. The last closing duty is kept
for a reversal (R196). -/
def Mach.brStart (b : Nat) (m : Mach) : Mach :=
  let n := pgBridge b
  let m := m.brAim b
  let w := m.brWant b
  let onward := decide (0 < w) == m.flag n Bridge.DIR
  let m := m.modBr b fun a => { a with closeDuty := if w < 0 then w.natAbs else a.closeDuty, turned := a.turned && !onward }
  if m.fld n Bridge.MODE = 2 then m.brBrake b .brake
  else if m.mustTurn b then (if (m.br b).phase = .turnBrake then m else m.brBrake b .turnBrake)
  else if (m.br b).phase = .drive && (m.fld n Bridge.MODE == 1 || m.fld n Bridge.MODE == 3 || m.fld n Bridge.MODE == 4) then
    m.setFlag n Bridge.RAMPING (rampShort (m.br b).duty (w * 32768))
  else m.brMotion b

/-- A set faulting source keeps every switch off in every state (R204). -/
def Mach.brFaultOff (m : Mach) (b : Nat) : Bool := (m.reg (pgBridge b) 0x018) &&& 0xB01 != 0

/-- A brake that runs to its own end: a stop's, LIMIT_LONG's, a reversal's. -/
def Mach.brBraking (m : Mach) (b : Nat) : Bool :=
  let p := (m.br b).phase
  m.reversing b || p = .stopBrake || p = .limitBrake || p = .pinchHold

/-- The motor is driven by nothing that a deferral would have to interrupt (R307). -/
def BrPhase.still (p : BrPhase) : Bool := p = .coast || p = .brake || p = .stopBrake || p = .limitBrake

/-- ACTIVE by demand or motion (R200), then the drive the state asks for; `fresh` where new drive registers are to be taken up. A
running reversal stands whatever the live registers hold (R196); a withheld drive waits for TJ (R189); shed holds act as R307 gives. -/
def Mach.brSettle (b : Nat) (fresh : Bool) (m : Mach) : Mach :=
  let n := pgBridge b
  let dem := m.brDemand b
  let m := m.settle n (dem || m.flag n Bridge.MOVING)
  if (m.br b).hot || m.brFaultOff b then m.brCoast b
  else match m.st n with
  | 1 => if m.brBraking b || (m.br b).phase = .brake && !fresh then m else m.brCoast b
  | 2 =>
    if m.reversing b || m.brBraking b && !fresh then m
    else if m.fld n Bridge.MODE = 0 || !(m.unit n).enabled then m.brCoast b
    else if (m.br b).ended then m
    else
      let h := m.holdOn n
      if h.off then m.brCoast b
      else if h.defer && (m.br b).phase.still then (if fresh then m.brCoast b else m)
      else if fresh || (m.br b).phase = .coast then m.brStart b
      else if (m.br b).phase = .drive && m.mustTurn b then m.brBrake b .turnBrake
      else m
  | 3 => if m.fld n Hdr.SAFE_STATE = 3 && m.flag n Hdr.SAFE_LEVEL then (m.brCoast b).brBrake b .brake else m.brCoast b
  | _ => m.brCoast b

/-- Class part of APPLY (R189, R196, R200): new live registers give demand again; a reversal in progress is not disturbed. -/
def Mach.brApplied (b : Nat) (m : Mach) : Mach :=
  if m.reversing b then m else (m.modBr b fun a => { a with done := false, ended := false }).brSettle b true

/-- A Snub, Slack expiry or DISABLE: a wiper stops where it stands and PARKED reads 0 (R199). -/
def Mach.brUnparked (b : Nat) (m : Mach) : Mach := (m.setFlag (pgBridge b) Bridge.PARKED false).brSettle b false

/-- Class part of CLEAR_FAULTS: the counters return to 0. -/
def Mach.brCleared (b : Nat) (m : Mach) : Mach := (m.setReg (pgBridge b) 0x080 0).setReg (pgBridge b) 0x084 0

/-- Demand has ended (R200), and the bridge acts only on its next APPLY. -/
def Mach.brDone (b : Nat) (m : Mach) : Mach := m.modBr b fun a => { a with done := true, ended := true }

/-- A stop under R193: the 100 ms brake, at whose end demand ends; MRAM takes the position (R202), and the last 10 ms held no ripple. -/
def Mach.brStop (b : Nat) (m : Mach) : Mach :=
  let m := (m.brBrake b .stopBrake).modBr b fun a => { a with ended := true }
  (m.setFld (pgBridge b) Bridge.SPEED 0).brStore b

/-- The brake of LIMIT_LONG and PARK_FAIL, which ends in coast (R188, R198): a reversal ends at once (R196), and the bridge acts only on
its next APPLY; demand stands (R200). -/
def Mach.brGiveUp (b : Nat) (m : Mach) : Mach :=
  let cut := m.reversing b
  let m := (m.setFlag (pgBridge b) Bridge.REVERSING false).brBrake b .limitBrake
  m.modBr b fun a => { a with ended := true, done := a.done || cut }

/-- UNCERT grows by one; beyond UNC_LIM, HOMED clears and RIPPLE_LOST sets (R191, R192). -/
def Mach.brUncertain (b : Nat) (m : Mach) : Mach :=
  let n := pgBridge b
  let m := m.incSat n Bridge.UNCERT
  if m.fld n Bridge.UNC_LIM < m.fld n Bridge.UNCERT then
    ((m.setFlag n Bridge.HOMED false).raise n 6).modBr b fun a => { a with train := false }
  else m

/-- POS moves one ripple; a wiper parked by ripples wraps from CYCLE − 1 to 0, which ends a cycle (R190, R198). -/
def Mach.brCount (b : Nat) (up : Bool) (m : Mach) : Mach :=
  let n := pgBridge b
  let p := m.brPos b + (if up then 1 else -1)
  let wrap := m.flag n Bridge.WIPER && m.fld n Bridge.PARK_IN == 0xFFFF && p == (m.fld n Bridge.CYCLE : Int)
  let m := m.setBrPos b (if wrap then 0 else p)
  m.modBr b fun a => { a with since := a.since + 1, parkRipples := a.parkRipples + 1
                              lastCycNs := if wrap then a.cycNs else a.lastCycNs, cycNs := if wrap then 0 else a.cycNs }

/-- The entries of a list of intervals that fill `win` ns, newest first. -/
def ripplesWithin : Nat → List (Nat × Nat) → List (Nat × Nat)
  | _, [] => []
  | win, (e, t) :: l => if t ≤ win then (e, t) :: ripplesWithin (win - t) l else []

/-- The gaps behind a ripple whose ripples lie less than `win` ns back, newest first. -/
def gapsWithin : Nat → List Nat → List Nat
  | _, [] => []
  | win, t :: l => if t < win then t :: gapsWithin (win - t) l else []

/-- τ from the speed estimate E / KE (R191): KE is mean |E| over the mean rate of the last moving second. 0 where nothing has been
measured. -/
def tauFromE (e : Nat) (l : List (Nat × Nat)) : Nat :=
  let k := l.length
  if k = 0 || e = 0 then 0 else (l.foldl (fun a p => a + p.1) 0) * (l.foldl (fun a p => a + p.2) 0) / (k * k * e)

/-- The back-EMF estimate E = V_AB − I × R_ARM, µV (R190). -/
def Mach.backEmf (m : Mach) (b : Nat) (v i : Int) : Int := 1000 * v - i * m.fld (pgBridge b) Bridge.R_ARM

/-- The motor stands (R190): SPEED and τ are 0, and MRAM takes the position (R202). -/
def Mach.brStands (b : Nat) (m : Mach) : Mach :=
  let n := pgBridge b
  (((m.setFlag n Bridge.MOVING false).setFld n Bridge.SPEED 0).brStore b).modBr b fun a => { a with tau := 0, turned := false }

/-- The motor is taken as turning while |E| exceeds 0.5 V, and as stopped below that (R190). -/
def Mach.brTurning (b : Nat) (e : Int) (m : Mach) : Mach :=
  let n := pgBridge b
  if decide (500000 < e.natAbs) then m.setFlag n Bridge.MOVING true
  else if m.flag n Bridge.MOVING && decide (e.natAbs < 500000) then m.brStands b
  else m

/-- A ripple is counted (R190, R191): `t` ns after the last, at back-EMF `e`; `first` where the motor stood. -/
def Mach.brAccept (b : Nat) (t : Nat) (e : Int) (first : Bool) (m : Mach) : Mach :=
  let n := pgBridge b
  let a := m.br b
  let up := if e = 0 then decide (0 ≤ a.duty) else decide (0 < e)
  let m := (m.modBr b fun a => { a with cycNs := if first then a.cycNs else a.cycNs + t }).brCount b up
  let l := if first then a.recent else ripplesWithin 1000000000 ((e.natAbs, t) :: a.recent)
  let g := gapsWithin 10000000 (t :: a.gaps)
  let onward := decide (0 < m.brWant b) == up
  let m := m.modBr b fun a => { a with
    tau := if first then tauFromE e.natAbs a.recent else t, recent := l, gaps := g, turned := a.turned && !onward }
  let rate : Int := 100 * (g.length + 1)
  (m.setSFld n Bridge.SPEED (if up then rate else -rate)).setFlag n Bridge.DIR up

/-- RIPPLE (R190, R191): a ripple `t` ns after the last accepted one, with terminal voltage `v` and motor current `i`. -/
def Mach.ripple (b : Nat) (t : Nat) (v i : Int) (m : Mach) : Mach :=
  let n := pgBridge b
  let e := m.backEmf b v i
  let first := !m.flag n Bridge.MOVING
  let tau := (m.br b).tau
  let m := m.brTurning b e
  (if !first && decide (2 * t < tau) then (m.incSat n Bridge.REJECTED).brUncertain b else m.brAccept b t e first).brSettle b false

/-- RIPPLE_INSERT (R191): nothing within 1.6 τ while the motor turns. -/
def Mach.rippleInsert (b : Nat) (t : Nat) (m : Mach) : Mach :=
  let n := pgBridge b
  let a := m.br b
  if m.flag n Bridge.MOVING && a.tau ≠ 0 && decide (16 * a.tau ≤ 10 * t) then
    ((m.brCount b (m.flag n Bridge.DIR)).incSat n Bridge.INSERTED).brUncertain b
  else m

/-- A POS write (R192): taken in OFF or IDLE, else refused with REASON 3. -/
def Mach.brPosWrite (b : Nat) (w : Word) (m : Mach) : Mach :=
  let n := pgBridge b
  if m.st n = 0 || m.st n = 1 then
    ((m.setBrPos b w.toInt).setFlag n Bridge.HOMED true).setFld n Bridge.UNCERT 0
  else m.refuse n 0x070 3

/-- The duty at the motor drives towards closed; wipers have no closed end (R185, R198). -/
def Mach.closing (m : Mach) (b : Nat) : Bool :=
  decide ((m.br b).duty < 0 || ((m.br b).duty = 0 ∧ m.brWant b < 0)) && !m.flag (pgBridge b) Bridge.WIPER

/-- POS lies in the seal zone (R195). -/
def Mach.inSeal (m : Mach) (b : Nat) : Bool := decide (0 ≤ m.brPos b) && decide (m.brPos b ≤ m.fld (pgBridge b) Bridge.SEAL)

/-- A pinch (R195, R196): PINCH, PINCHES and REVERSING; PPOS is kept; a REV of 0 goes straight to the last brake. -/
def Mach.brPinch (b : Nat) (m : Mach) : Mach :=
  let n := pgBridge b
  let p := m.brPos b
  let m := ((m.raise n 5).incSat n Bridge.PINCHES).setFlag n Bridge.REVERSING true
  let m := m.modBr b fun a => { a with ppos := p, ended := true, train := false }
  m.brBrake b (if m.fld n Bridge.REV = 0 then .pinchHold else .pinchBrake)

/-- One bin's training (R197): the mean is `sum / cnt`, exact until the one truncation. -/
def Mach.trainBin (b k : Nat) (sum cnt : Nat) (m : Mach) : Mach :=
  let n := pgBridge b
  let old := m.profile b k
  let v : Int := (old : Int) + Int.tdiv ((sum : Int) - old * cnt) (cnt * 2 ^ m.fld n Bridge.PTAU)
  let lo := m.fld n Bridge.PMIN
  let hi := m.fld n Bridge.PMAX
  let new := (max (lo : Int) (min v hi)).toNat
  let m := (m.setProfile b k new).adapt 4 n k old new
  if v < lo || (hi : Int) < v then m.raise n 10 else m

/-- A closing motion has ended at the closed end (R197): every bin passed in full, from the motion's first
position to its last, trains when the motion qualifies. -/
def Mach.brTrain (b : Nat) (m : Mach) : Mach :=
  let n := pgBridge b
  let a := m.br b
  if a.train && m.flag n Bridge.LEARN && !m.isFrozen n && m.flag n Bridge.SPAN then
    a.bins.foldl (fun m p =>
      if p.2.2 ≠ 0 && decide (((p.1 : Int) + 1) * m.fld n Bridge.SPAN ≤ a.startPos * 64)
          && (p.1 == 0 || decide (m.brPos b * 64 ≤ p.1 * m.fld n Bridge.SPAN)) then m.trainBin b p.1 p.2.1 p.2.2 else m) m
  else m

/-- STOP_RECOGNITION (R193): no ripple for `ms` with the motor current at `i`; the first matching row of the table. -/
def Mach.brRecognise (b : Nat) (ms : Nat) (i : Int) (m : Mach) : Mach :=
  let n := pgBridge b
  let a := m.br b
  if a.phase = .drive && m.brAbsDuty b ≠ 0 && decide (m.fld n Bridge.STALL_T ≤ ms) && decide (m.fld n Bridge.ILIM ≤ 2 * i.natAbs) then
    let p := m.brPos b
    let win := m.fld n Bridge.END_WIN
    let close := m.closing b
    let homed := m.flag n Bridge.HOMED
    if close && (!homed || decide (p.natAbs ≤ win)) then
      let m := if homed then m.brTrain b else m
      let m := ((m.setBrPos b 0).setFlag n Bridge.HOMED true).setFld n Bridge.UNCERT 0
      (m.setFlag n Bridge.AT_CLOSED true).brStop b
    else if !close && !m.flag n Bridge.WIPER && homed && decide ((p - m.fld n Bridge.SPAN).natAbs ≤ win) then
      (m.setFlag n Bridge.AT_OPEN true).brStop b
    else if close && m.flag n Bridge.PINCH_EN && !m.inSeal b then m.brPinch b
    else ((m.raise n 4).incSat n Bridge.STALLS).brStop b
  else m

/-- The profile bin of a position (R195). -/
def binOf (pos : Int) (span : Nat) : Nat := (max 0 (min (pos * 64 / span) 63)).toNat

/-- What a bin's profile leaves of a motor current (R195): x = I − P. -/
def Mach.pinchExcess (m : Mach) (b : Nat) (i : Int) : Int :=
  (i.natAbs : Int) - m.profile b (binOf (m.brPos b) (m.fld (pgBridge b) Bridge.SPAN))

/-- The check runs (R195): a homed, driven closing motion with a span. -/
def Mach.pinchWatch (m : Mach) (b : Nat) : Bool :=
  let n := pgBridge b
  (m.br b).phase = .drive && m.closing b && m.flag n Bridge.HOMED && m.flag n Bridge.SPAN

/-- A window counts for training (R197): its current in its bin, on a rail near PROF_V and not sagging. -/
def Mach.pinchNote (b : Nat) (i : Int) (m : Mach) : Mach :=
  let n := pgBridge b
  let k := binOf (m.brPos b) (m.fld n Bridge.SPAN)
  let rail := m.rail (bankOf n)
  let v := m.fld n Bridge.PROF_V
  let ok := decide (v * 9 ≤ rail * 10) && decide (rail * 10 ≤ v * 11) && !m.flag (pgBank (bankOf n)) Bank.SAG
  let (s, c) := tget (m.br b).bins (0, 0) k
  m.modBr b fun a => { a with bins := tput a.bins (0, 0) k (s + i.natAbs, c + 1), train := a.train && ok }

/-- LAST_PEAK and LAST_PBIN keep the largest excess of the motion (R195). -/
def Mach.peakNote (b : Nat) (i : Int) (m : Mach) : Mach :=
  let n := pgBridge b
  let x := m.pinchExcess b i
  let best := match (m.br b).peak with | some y => decide (y < x) | none => true
  if best then
    ((m.setSFld n Bridge.LAST_PEAK (max (-32768) (min x 32767))).setFld n Bridge.LAST_PBIN (binOf (m.brPos b) (m.fld n Bridge.SPAN))).modBr b
      fun a => { a with peak := some x }
  else m

/-- A window exceeds (R195): outside the seal zone, after ENTRY ripples, by more than MARGIN. -/
def Mach.pinchOver (m : Mach) (b : Nat) (i : Int) : Bool :=
  let n := pgBridge b
  decide ((m.fld n Bridge.SEAL : Int) < m.brPos b) && decide (m.fld n Bridge.ENTRY ≤ (m.br b).since)
    && decide ((m.fld n Bridge.MARGIN : Int) < m.pinchExcess b i)

/-- A window with PINCH_EN is seen: training, the peak, and whether it exceeds. -/
def Mach.pinchSeen (b : Nat) (i : Int) (m : Mach) : Mach :=
  ((m.pinchNote b i).peakNote b i).modBr b fun a => { a with exceeded := m.pinchOver b i }

/-- PINCH_CHECK (R195): a 1 ms window of a closing motion with mean motor current `i`; two windows in succession that exceed are a pinch. -/
def Mach.pinchCheck (b : Nat) (i : Int) (m : Mach) : Mach :=
  let n := pgBridge b
  let m := m.setSFld n Bridge.I_MOT i
  if !m.pinchWatch b then m
  else if !m.flag n Bridge.PINCH_EN then m.pinchNote b i
  else if m.pinchOver b i && (m.br b).exceeded then (m.pinchSeen b i).brPinch b
  else m.pinchSeen b i

/-- REVERSE_DRIVE_START (R196, step 3): DEAD_REV ms after the brake, reverse drive without ramp. -/
def Mach.reverseStart (b ms : Nat) (m : Mach) : Mach :=
  let n := pgBridge b
  if (m.br b).phase = .pinchBrake && decide (m.fld n Bridge.DEAD_REV ≤ ms) then
    (m.modBr b fun a => { a with phase := .pinchBack, duty := a.closeDuty * 32768 }).setFlag n Bridge.BRAKING false
  else m

/-- REVERSAL_END (R196, step 4): POS has reached PPOS + REV, or the motor has stopped at the open end: `ms` without a ripple at current `i`
(R193). MRAM takes the position (R202). -/
def Mach.reversalEnd (b ms : Nat) (i : Int) (m : Mach) : Mach :=
  let n := pgBridge b
  let open_ := decide (m.fld n Bridge.STALL_T ≤ ms) && decide (m.fld n Bridge.ILIM ≤ 2 * i.natAbs) && m.flag n Bridge.HOMED
    && decide ((m.brPos b - m.fld n Bridge.SPAN).natAbs ≤ m.fld n Bridge.END_WIN)
  if (m.br b).phase = .pinchBack && (open_ || decide ((m.br b).ppos + m.fld n Bridge.REV ≤ m.brPos b)) then
    ((if open_ then m.setFlag n Bridge.AT_OPEN true else m).brBrake b .pinchHold).brStore b
  else m

/-- BRAKE_END (R188, R193, R196 step 5): the 100 ms brake ends in coast, and with a stop's or a reversal's demand ends; MOVING by E. -/
def Mach.brakeEnd (b ms : Nat) (v i : Int) (m : Mach) : Mach :=
  let p := (m.br b).phase
  if (p = .stopBrake || p = .pinchHold || p = .limitBrake) && decide (100 ≤ ms) then
    ((m.brCoast b).brTurning b (m.backEmf b v i)).brSettle b false
  else m

/-- MOTOR_STOPPED (R190, R200, R202): the back-EMF has fallen below 0.5 V; the position is stored and the bridge is IDLE without
demand. -/
def Mach.motorStopped (b : Nat) (v i : Int) (m : Mach) : Mach :=
  if decide ((m.backEmf b v i).natAbs < 500000) then (m.brStands b).brSettle b false else m

/-- REVERSE_BRAKE_END (R187): DEAD_REV ms have passed; the ramp starts from 0 in the new direction. -/
def Mach.turnBrakeEnd (b ms : Nat) (m : Mach) : Mach :=
  if (m.br b).phase = .turnBrake && decide (m.fld (pgBridge b) Bridge.DEAD_REV ≤ ms) then
    (m.modBr b fun a => { a with turned := true }).brMotion b
  else m

/-- The current limit in force: a homing run is limited by HOME_I as well (R188, R194). -/
def Mach.brLimit (m : Mach) (b : Nat) : Nat :=
  let n := pgBridge b
  let l := m.fld n Bridge.ILIM
  if m.closing b && !m.flag n Bridge.HOMED then min l (100 * m.fld n Bridge.HOME_I) else l

/-- LIMITING (R188): the current has reached the limit; the motion no longer trains. -/
def Mach.brLimiting (b : Nat) (i : Int) (m : Mach) : Mach :=
  if (m.br b).duty ≠ 0 && decide (m.brLimit b ≤ i.natAbs) then
    (m.setFlag (pgBridge b) Bridge.LIMITING true).modBr b fun a => { a with train := false }
  else m

/-- LIMIT_LONG (R188): 2 s at the limit; brake 100 ms, then coast. -/
def Mach.brLimitLong (b ms : Nat) (m : Mach) : Mach :=
  if (m.br b).duty ≠ 0 && decide (2000 ≤ ms) then (m.raise (pgBridge b) 1).brGiveUp b else m

/-- OPEN_LOAD (R189): |DUTY| of 25 % or more with the motor current below 50 mA for 100 ms. -/
def Mach.brOpenLoad (b : Nat) (i : Int) (ms : Nat) (m : Mach) : Mach :=
  let p := (m.br b).phase
  if (p = .drive || p = .pinchBack) && decide (32767 ≤ 4 * m.brAbsDuty b) && decide (i.natAbs < 50) && decide (100 ≤ ms) then
    (m.raise (pgBridge b) 8).brSettle b false
  else m

/-- POSITION_TARGET_REACHED (R186): the brake goes on LEAD ripples before TARGET, and demand ends. -/
def Mach.targetReached (b : Nat) (m : Mach) : Mach :=
  let n := pgBridge b
  let p := m.brPos b
  let t := m.sfld n Bridge.TARGET
  let lead : Int := m.fld n Bridge.LEAD
  let up := (m.br b).aimUp
  if m.fld n Bridge.MODE = 3 && (m.br b).phase = .drive && (if up then decide (t - lead ≤ p) else decide (p ≤ t + lead)) then
    (((m.brBrake b .brake).brDone b).brStore b).brSettle b false
  else m

/-- PARK_INPUT_EDGE (R198): the park input's debounced edge to PARK_POL sets POS to 0 and ends a cycle. -/
def Mach.parkEdge (b : Nat) (rising : Bool) (m : Mach) : Mach :=
  let n := pgBridge b
  if m.flag n Bridge.WIPER && m.fld n Bridge.PARK_IN != 0xFFFF && m.flag n Bridge.PARK_POL == rising then
    (m.setBrPos b 0).modBr b fun a => { a with parkEdge := true, lastCycNs := a.cycNs, cycNs := 0 }
  else m

/-- The pause T of an INTERVAL (R199), 0.1 s. -/
def Mach.wipePause (m : Mach) (b : Nat) : Nat :=
  let n := pgBridge b
  let c := pgCap (m.fld n Hdr.BASE_CAP)
  let base := m.fld n Bridge.IV_BASE
  let vr := m.fld n Bridge.V_REF
  if vr = 0 || m.fld c Cap.TYPE ≠ 2 then base
  else if m.flag c Cap.STANDSTILL then m.fld n Bridge.IV_MAX
  else max (m.fld n Bridge.IV_MIN) (min (base * vr * 100 / max (m.axleSpeed (m.fld n Hdr.BASE_CAP)) 100) (m.fld n Bridge.IV_MAX))

/-- PARKED (R198, R199): the wiper has reached its park position in PARK or INTERVAL; the brake goes on, and an INTERVAL pauses. -/
def Mach.parked (b : Nat) (m : Mach) : Mach :=
  let n := pgBridge b
  let a := m.br b
  let mode := m.fld n Bridge.MODE
  let cyc := max 1 (m.fld n Bridge.CYCLE)
  let ofs := m.fld n Bridge.PARK_OFS
  let lead := m.fld n Bridge.LEAD
  let here := if m.fld n Bridge.PARK_IN = 0xFFFF then
      m.brPos b == ((ofs : Int) - lead) % cyc && (mode != 5 || decide (lead < a.parkRipples))
    else a.parkEdge && decide ((ofs : Int) ≤ m.brPos b)
  if a.phase = .drive && (mode = 5 || mode = 6) && here then
    let m := ((m.brBrake b .brake).setFlag n Bridge.PARKED true).brStore b
    if mode = 6 then (m.brDone b).brSettle b false
    else (m.setFld n Bridge.INTERVAL (m.wipePause b)).setFlag n Bridge.WAIT true
  else m

/-- PARK_FAIL (R198): `ns` since the park request; no park position within two cycles by ripples or by time. -/
def Mach.parkFail (b : Nat) (ns : Nat) (m : Mach) : Mach :=
  let n := pgBridge b
  let a := m.br b
  let mode := m.fld n Bridge.MODE
  if a.phase = .drive && (mode = 5 || mode = 6)
      && (decide (2 * m.fld n Bridge.CYCLE ≤ a.parkRipples) || (a.lastCycNs ≠ 0 && decide (2 * a.lastCycNs ≤ ns)))
  then (m.raise n 7).brGiveUp b else m

/-- INTERVAL_WAIT_END (R199): `t` × 0.1 s since PARKED; the next wipe starts. -/
def Mach.intervalEnd (b t : Nat) (m : Mach) : Mach :=
  let n := pgBridge b
  if m.flag n Bridge.WAIT && decide (m.fld n Bridge.INTERVAL ≤ t) && m.st n == 2 && !(m.br b).hot && !(m.holdOn n).defer
    && !(m.holdOn n).off then m.brMotion b else m

/-- SHORT_CIRCUIT of a bridge (R184): above the class threshold every switch turns off. -/
def Mach.brShort (b : Nat) (i : Int) (m : Mach) : Mach :=
  let n := pgBridge b
  if decide (bridgeShortMa (m.bankClass (bankOf n)) < i.natAbs) then (m.raise n 0).brSettle b false else m

/-- The junction reads `tj` (R189): at 170 °C the bridge coasts and the drive is withheld; below 150 °C a withheld drive starts. -/
def Mach.brThermal (b : Nat) (tj : Int) (m : Mach) : Mach :=
  let n := pgBridge b
  let m := m.setSFld n Bridge.TJ tj
  if decide (1700 ≤ tj) then
    ((m.raise n 2).modBr b fun a => { a with hot := true }).brSettle b false
  else if (m.br b).hot && decide (tj < 1500) then (m.modBr b fun a => { a with hot := false }).brSettle b true
  else m

/-- TJ_WARN of a bridge (R189), with 5 °C hysteresis as on the outputs. -/
def Mach.brTjWarn (b : Nat) (tj : Int) (m : Mach) : Mach :=
  let n := pgBridge b
  let th : Int := 10 * m.fld n Bridge.TJ_WARN
  let m := m.setSFld n Bridge.TJ tj
  if !(m.br b).warm && decide (th < tj) then (m.modBr b fun a => { a with warm := true }).raise n 3
  else if decide (tj < th - 50) then m.modBr b fun a => { a with warm := false }
  else m

/-- A PWM period starts: LIMITING stood for the rest of the last one (R188). -/
def Mach.brPeriodStart (b : Nat) (m : Mach) : Mach := m.setFlag (pgBridge b) Bridge.LIMITING false

/-- One Reckoner tick of the ramp (R187): SLOPE units per ms towards the wanted duty. A motion starts where the duty leaves 0 or changes its
sign; a motor found turning the other way is braked first. -/
def Mach.brRamp (b : Nat) (m : Mach) : Mach :=
  let a := m.br b
  if a.phase = .drive then
    if m.mustTurn b then m.brBrake b .turnBrake
    else
      let n := pgBridge b
      let w := m.brWant b * 32768
      let s : Int := 1000 * m.fld n Bridge.SLOPE
      let d := if a.duty < w then min w (a.duty + s) else max w (a.duty - s)
      let m := if d ≠ 0 && d.sign ≠ a.duty.sign then m.brBegin b else m
      (m.modBr b fun a => { a with duty := d }).setFlag n Bridge.RAMPING (rampShort d w)
  else m

/-- What a set source asks of the bridge (R204). -/
def Mach.brAct (b s : Nat) (m : Mach) : Mach :=
  match s with
  | 1 => m.brGiveUp b
  | 2 => (m.modBr b fun a => { a with hot := true }).brSettle b false
  | 4 => m.brStop b
  | 5 => m.brPinch b
  | 6 => m.setFlag (pgBridge b) Bridge.HOMED false
  | 7 => m.brGiveUp b
  | _ => m.brSettle b false

/-- A bridge's MODE and PINCH_EN conditions (R186, R203): whether a DRIVE word may stand. -/
def Mach.brModeOk (m : Mach) (b : Nat) (mode : Nat) : Bool :=
  let n := pgBridge b
  match mode with
  | 3 => m.flag n Bridge.HOMED && !m.flag n Bridge.WIPER && m.flag n Bridge.SPAN
  | 4 => m.flag n Bridge.WIPER && m.flag n Bridge.CYCLE
  | 5 => m.flag n Bridge.WIPER && m.flag n Bridge.CYCLE
  | 6 => m.flag n Bridge.WIPER && m.flag n Bridge.CYCLE
  | _ => true

end Sys2Proof.Machine
end

