-- ==== Sys2Proof/Machine/Ratline.lean ====
section
/-! DEFINITION. Ratline ports (07_ratline_lighting.md, R205 to R230): hybrid dimming, rung turns, Eases, feed-forward, string faults
and failed LEDs. Levels in 1/655,360; voltages in 10 mV; currents in 0.1 mA; times in ms, rung ticks of 62.5 ns. -/

namespace Sys2Proof.Machine

/-- What a port holds at reset. -/
def ratReset : RatAux :=
  { ease := none, target := 0, want := none, flight := none, ready := none, divAsked := 0, hadDim := false, turnDue := false, turnTicks := 0
    pattern := 0, edge := 0, lit := true, ffV := 0, ffBad := 0, ffGood := 0, clamped := [], retests := [], released := [], cap := none
    hot := false, noAlign := false, bypassStored := [] }

def Mach.rat (m : Mach) (p : Nat) : RatAux := tget m.rats ratReset p
def Mach.setRat (p : Nat) (a : RatAux) (m : Mach) : Mach := { m with rats := tput m.rats ratReset p a }
def Mach.modRat (p : Nat) (g : RatAux → RatAux) (m : Mach) : Mach := m.setRat p (g (m.rat p))

def Mach.chain (m : Mach) (c : Nat) : ChainAux := tget m.chains chainReset c
def Mach.setChain (c : Nat) (a : ChainAux) (m : Mach) : Mach := { m with chains := tput m.chains chainReset c a }
def Mach.modChain (c : Nat) (g : ChainAux → ChainAux) (m : Mach) : Mach := m.setChain c (g (m.chain c))

/-- The chain of a port: six ports to a connector (R35, R36). -/
def chainOf (p : Nat) : Nat := p / 6

/-- The nodes of chain `c` that belong to port `p`, ascending. -/
def Mach.nodesOf (m : Mach) (c p : Nat) : List Nat :=
  (List.range (m.chain c).found.length).filter fun k => m.fld (pgSat c k) Sat.PORT == p

/-- An item for a node in the next frame, replacing an earlier one of the same NREG (R246, R247). -/
def Mach.pushItem (c k nreg v : Nat) (m : Mach) : Mach :=
  m.modChain c fun a =>
    { a with due := true
             items := tput a.items [] k ((tget a.items [] k).filter (fun i => i.1 != nreg) ++ [(nreg, v % 65536)]) }

/-- An item for every node of a port. -/
def Mach.pushPort (p nreg v : Nat) (m : Mach) : Mach :=
  (m.nodesOf (chainOf p) p).foldl (fun m k => m.pushItem (chainOf p) k nreg v) m

/-- The items of a target (R247): level, curve and Ease time where an Ease starts, and the periods of a turn. -/
def RatTarget.items (t : RatTarget) : List (Nat × Nat) :=
  (if t.fresh then [(1, t.level % 65536), (2, t.curve % 4 * 16 + t.level / 65536 % 16), (3, t.easeT)] else []) ++ [(4, t.div)]

/-- A target for the nodes of a port. -/
def Mach.pushTarget (p : Nat) (t : RatTarget) (m : Mach) : Mach := t.items.foldl (fun m i => m.pushPort p i.1 i.2) m

/-- The position of a node that carries rung `r` of port `p` (R254). -/
def Mach.rungPlace (m : Mach) (p r : Nat) : Option (Nat × Nat) :=
  ((m.nodesOf (chainOf p) p).find? fun k =>
    let n := pgSat (chainOf p) k
    decide (m.fld n Sat.RUNG0 ≤ r) && decide (r < m.fld n Sat.RUNG0 + m.fld n Sat.POSITIONS)).map
      fun k => (k, r - m.fld (pgSat (chainOf p) k) Sat.RUNG0)

/-- The positions of a node whose rungs satisfy `q`, as bits [3:0]. -/
def Mach.placeBits (m : Mach) (c k : Nat) (q : Nat → Bool) : Nat :=
  (List.range (m.fld (pgSat c k) Sat.POSITIONS)).foldl (fun a i => if q (m.fld (pgSat c k) Sat.RUNG0 + i) then a + 2 ^ i else a) 0

/-- Whether a Mark is a periodic Heave Mark with PERIOD 65,536 on base `b` for chain `c` (R211). -/
def Mark.heaves (q : Mark) (c b : Nat) : Bool :=
  q.armed && q.action == 4 && q.target == pgMsg c && q.period == 65536#32 && q.base == b

/-- Such a Mark is armed. -/
def Mach.heaveMark (m : Mach) (c b : Nat) : Bool := m.marks.any fun p => p.2.heaves c b

/-- The chain has delivered two consecutive Heaves of such a Mark (R211). -/
def Mach.heaveRun (m : Mach) (c b : Nat) : Bool := m.marks.any fun p => p.2.heaves c b && decide (2 ≤ tget (m.chain c).runs 0 p.1)

/-- Any Heave Mark is armed on chain `c` (R248). -/
def Mach.anyHeaveMark (m : Mach) (c : Nat) : Bool :=
  m.marks.any fun p => p.2.armed && p.2.action == 4 && p.2.target == pgMsg c

/-- Rung dimming is available (R211). -/
def Mach.dimAvail (m : Mach) (p : Nat) : Bool :=
  let n := pgRat p
  m.flag n Rat.RUNG_EN && m.flag n Rat.RUNGS && m.heaveMark (chainOf p) (m.fld n Hdr.BASE_CAP) && m.flag n Rat.CHAIN_READY

/-! ## Curves (R220) -/

/-- Integer square root. -/
def isqrt (x : Nat) : Nat := searchMax (fun d => decide (d * d ≤ x)) 21 0

/-- P of the QUAD curve. -/
def easeP (x : Nat) : Nat := isqrt (x * 655360)

/-- G of the EXP curve. -/
def easeG (x : Nat) : Int :=
  let k := Nat.log2 (max x 1)
  65536 * k + 65536 * ((x : Int) - 2 ^ k) / 2 ^ k

/-- H of the EXP curve. -/
def easeH (y : Int) : Nat :=
  let q := y / 65536
  let r := (y % 65536).toNat
  if 0 ≤ q then 2 ^ q.toNat * (65536 + r) / 65536 else (65536 + r) / (65536 * 2 ^ (-q).toNat)

/-- A linear step with fl rounding towards minus infinity. -/
def easeLin (a b : Int) (u : Nat) : Int := a + (b - a) * u / 65536

/-- u of an Ease after `ms` whole ms; an EASE_T of 0 is at its end at once (R77). -/
def Ease.u (e : Ease) (ms : Nat) : Nat := if e.total = 0 then 65536 else min (ms * 65536 / e.total) 65536

/-- The level of an Ease after `ms` whole ms. -/
def Ease.level (e : Ease) (ms : Nat) : Nat :=
  let u := e.u ms
  if u = 65536 then e.b
  else match e.curve with
    | 0 => (easeLin e.a e.b u).toNat
    | 1 => let p := (easeLin (easeP e.a) (easeP e.b) u).toNat; p * p / 655360
    | _ => easeH (easeLin (easeG e.a) (easeG e.b) u)

/-! ## The regulator -/

/-- λ in force under the shed holds (R307): a LEVEL hold caps it; OFF, and DEFER on a port not driving, give 0. -/
def Mach.ratLambda (m : Mach) (p : Nat) : Nat :=
  let n := pgRat p
  let lvl := m.fld n Rat.LEVEL_NOW
  match m.st n with
  | 2 =>
    let h := m.holdOn n
    if h.off || (h.defer && !m.flag n Rat.REGULATING) then 0
    else match h.level with
      | some l => min lvl (l * 655360 / 255)
      | none => lvl
  | 3 => if m.fld n Hdr.SAFE_STATE = 0 then 0 else lvl
  | _ => 0

/-- The row of R210 with pulsed or full rungs is in force: rung dimming is available, and the pattern has been taken up at a turn start, is
not needed, or follows a safe state (R216, R227); else the analogue row of R211. -/
def Mach.rungRow (m : Mach) (p : Nat) : Bool :=
  m.dimAvail p && ((m.rat p).pattern != 0 || decide (65536 ≤ m.ratLambda p) || m.st (pgRat p) == 3)

/-- The current setpoint in 0.1 mA (R210, R211). -/
def Mach.ratSetpoint (m : Mach) (p : Nat) : Nat :=
  let l := m.ratLambda p
  let imax := m.fld (pgRat p) Rat.IMAX
  if l = 0 || (m.rat p).hot then 0
  else if m.rungRow p then if l < 65536 then imax else imax * 10 * l / 655360
  else max (imax * 10 * l / 655360) 20

/-- The current the regulator gives: its setpoint, or less where a limit holds it (R207). -/
def Mach.ratCurrent (m : Mach) (p : Nat) : Nat :=
  match (m.rat p).cap with
  | some i => min i (m.ratSetpoint p)
  | none => m.ratSetpoint p

/-- The periods per turn that the live DIV and RATE ask for, and whether they are thinned (R215). RATE is in 1/65,536 turns/s. -/
def Mach.ratDivWant (m : Mach) (p : Nat) : Nat × Bool :=
  let n := pgRat p
  let rate := m.fld (pgCap (m.fld n Hdr.BASE_CAP)) Cap.RATE
  let d := m.fld n Rat.DIV
  if 4000 * 65536 < rate * d then (4000 * 65536 / rate, true) else (d, false)

/-- DIV_NOW takes a value; NO_ALIGN and F_RUNG follow (R215, R219). -/
def Mach.divTake (p d : Nat) (m : Mach) : Mach :=
  let n := pgRat p
  let rate := m.fld (pgCap (m.fld n Hdr.BASE_CAP)) Cap.RATE
  let m := (m.setFld n Rat.DIV_NOW d).setFlag n Rat.NO_ALIGN ((m.ratDivWant p).2 || (m.rat p).noAlign)
  m.setFld n Rat.F_RUNG (min 65535 (rate * d / 65536))

/-- The rungs stand open: no pattern, and the feed-forward at the open voltage (R210, R211). -/
def Mach.rungsOpen (p : Nat) (m : Mach) : Mach :=
  let v := m.fld (pgRat p) Rat.V_EXP
  m.modRat p fun a => { a with pattern := 0, edge := 0, lit := true, ffV := v }

/-- STATUS and NOW follow the level in force. A regulator that is off draws nothing and no limit acts; without rung dimming the rungs
stand open and DIV_NOW follows at once (R207, R210, R211, R216). -/
def Mach.ratShow (p : Nat) (m : Mach) : Mach :=
  let n := pgRat p
  let l := m.ratLambda p
  let on := decide (0 < m.ratSetpoint p)
  let m := if m.dimAvail p then m else m.divTake p (m.ratDivWant p).1
  let m := if m.dimAvail p && on then m else m.rungsOpen p
  let m := if on then m else
    (((((m.setFlag n Rat.P_LIMIT false).setFlag n Rat.V_LIMIT false).setFld n Rat.I_STR 0).setFld n Rat.P_OUT 0).modRat p
      fun a => { a with cap := none })
  let d := (m.rat p).pattern
  let m := (m.setFlag n Rat.REGULATING on).setFlag n Rat.RUNG_MODE (d != 0)
  let m := m.setFlag n Rat.DIM_FLOOR (on && !m.rungRow p && decide (m.fld n Rat.IMAX * l < 2 * 655360))
  let m := m.setFld n Rat.DUTY_NOW (if !on then 0 else if d = 0 then 65536 else if m.fld n Rat.DIV_NOW = 0 then 0 else d)
  m.setFlag n Rat.EASING (m.rat p).ease.isSome

/-- The level in force becomes `l`. -/
def Mach.ratLevel (p l : Nat) (m : Mach) : Mach := m.setFld (pgRat p) Rat.LEVEL_NOW l

/-- A target that starts an Ease and has not been taken up, the newest first. -/
def RatAux.pending (a : RatAux) : Option RatTarget := ([a.want, a.flight, a.ready].filterMap id).find? (·.fresh)

/-- Targets not taken up are dropped. -/
def RatAux.forget (a : RatAux) : RatAux := { a with want := none, flight := none, ready := none }

/-- An Ease ends at once (R221). -/
def Mach.easeEnd (p : Nat) (m : Mach) : Mach := m.modRat p fun a => { a.forget with ease := none }

/-- A new Ease from the level in force to a target (R220). -/
def Mach.easeStart (p : Nat) (t : RatTarget) (m : Mach) : Mach :=
  if t.easeT = 0 then (m.modRat p fun a => { a with ease := none }).ratLevel p t.level
  else
    let e : Ease := ⟨m.fld (pgRat p) Rat.LEVEL_NOW, t.level, t.easeT, t.curve, 0⟩
    m.modRat p fun a => { a with ease := some e }

/-- The running Ease advances by `ticks` rung ticks and is evaluated (R220). -/
def Mach.easeEval (p ticks : Nat) (m : Mach) : Mach :=
  match (m.rat p).ease with
  | none => m
  | some e =>
    let e := { e with ticks := e.ticks + ticks }
    let ms := e.ticks / 16000
    let m := m.ratLevel p (e.level ms)
    m.modRat p fun a => { a with ease := if e.u ms = 65536 then none else some e }

/-- A target is handed to the nodes by the next frame, and waits for it (R216): what an unsent one asked for is replaced, its level kept
where only the periods change. -/
def Mach.askTarget (p : Nat) (lvl easeT curve : Nat) (fresh : Bool) (m : Mach) : Mach :=
  let d := (m.ratDivWant p).1
  let t : RatTarget := ⟨lvl, easeT, curve, d, fresh⟩
  let t := match (m.rat p).want with | some w => if fresh then t else { w with div := d } | none => t
  (m.modRat p fun a => { a with want := some t, divAsked := d, target := if fresh then lvl else a.target }).pushTarget p t

/-- The periods of a turn are handed to the nodes where they changed (R215, R216). -/
def Mach.askDiv (p : Nat) (m : Mach) : Mach :=
  if (m.ratDivWant p).1 = (m.rat p).divAsked then m else m.askTarget p 0 0 0 false

/-- MODE of a node: rung dimming is available on its port, and its own page is not in SAFE (R247, R260). -/
def Mach.pushMode (c k p : Nat) (m : Mach) : Mach :=
  m.pushItem c k 5 (if (m.rat p).hadDim && m.st (pgSat c k) != 3 then 1 else 0)

/-- Clear fault sources of a port that end by themselves. -/
def Mach.ratClear (p srcs : Nat) (m : Mach) : Mach := m.clearSrc (pgRat p) srcs

/-- CHAIN_READY and what follows rung dimming (R211, R212, R247): a change reaches the nodes as MODE; lost with the chain while the level
in force is below 65,536, DIM_LOST sets, and it clears when rung dimming is available again. -/
def Mach.dimFollow (p : Nat) (m : Mach) : Mach :=
  let n := pgRat p
  let c := chainOf p
  let m := m.setFlag n Rat.CHAIN_READY (m.heaveRun c (m.fld n Hdr.BASE_CAP))
  let av := m.dimAvail p
  let was := m.flag n Rat.DIM_LOST
  let low := !m.flag n Rat.CHAIN_READY && decide (m.fld n Rat.LEVEL_NOW < 65536)
  if av = (m.rat p).hadDim then m
  else
    let m := (m.nodesOf c p).foldl (fun m k => m.pushMode c k p) (m.modRat p fun a => { a with hadDim := av })
    if av then (if was then (m.setFlag n Rat.DIM_LOST false).ratClear p (2 ^ 8) else m)
    else if low then (m.setFlag n Rat.DIM_LOST true).raise n 8
    else m

/-- The live level is taken up (R216, R220): at once without rung dimming, unless an Ease runs, which then starts anew at its next
evaluation (R221); a port that stands at another level with nothing asked for asks for the live one. -/
def Mach.ratTake (p : Nat) (m : Mach) : Mach :=
  let n := pgRat p
  let a := m.rat p
  let m := if a.ease.isNone && a.pending.isNone && m.fld n Rat.LEVEL_NOW != m.fld n Rat.LEVEL then
      m.askTarget p (m.fld n Rat.LEVEL) 0 0 true else m
  if m.dimAvail p || a.ease.isSome then m
  else match (m.rat p).pending with
    | some t => (m.modRat p RatAux.forget).easeStart p t
    | none => m

/-- IDLE or ACTIVE by demand (R227), then the regulator: off states end the Ease and the level in force; a thermal turn-off waits for TJ
(R209). -/
def Mach.ratCarry (p : Nat) (m : Mach) : Mach :=
  let n := pgRat p
  let m := m.settle n ((m.unit n).enabled && (m.flag n Rat.LEVEL_NOW || m.flag n Rat.LEVEL))
  let m :=
    if m.running n then (if (m.rat p).hot then m else m.ratTake p)
    else if m.st n = 3 then m
    else (m.easeEnd p).ratLevel p 0
  let m := m.settle n ((m.unit n).enabled && (m.flag n Rat.LEVEL_NOW || m.flag n Rat.LEVEL))
  m.ratShow p

/-- The port follows its chain, then its state and level (R211, R212, R227). -/
def Mach.ratSettle (p : Nat) (m : Mach) : Mach := (m.dimFollow p).ratCarry p

/-- Class part of APPLY (R220, R221, R216): a changed LEVEL starts an Ease, carried by the next frame. -/
def Mach.ratApplied (p : Nat) (m : Mach) : Mach :=
  let n := pgRat p
  let l := m.fld n Rat.LEVEL
  if !m.running n then (if m.st n = 3 then (m.askDiv p).ratShow p else m)
  else if (m.rat p).target = l then (m.askDiv p).ratSettle p
  else (m.askTarget p l (m.fld n Rat.EASE_T) (m.fld n Rat.CURVE) true).ratSettle p

/-- A port enters SAFE (R227): the Ease ends, the regulator takes the safe state's level at once, and it reaches the nodes through the
chain; the rungs follow at the next turn start. -/
def Mach.ratEnterSafe (p : Nat) (snub : Bool) (m : Mach) : Mach :=
  let n := pgRat p
  let lvl := match m.fld n Hdr.SAFE_STATE with
    | 0 => 0
    | 1 => 655360
    | 2 => m.fld n Rat.LEVEL_NOW
    | _ => m.fld n Hdr.SAFE_LEVEL * 655360 / 255
  let m := ((m.easeEnd p).setSt n 3).ratLevel p lvl
  let m := if snub then m.setFlag n Rat.SNUBBED true else m.setFlag n Rat.SLACK_7C true
  (m.pushTarget p ⟨lvl, 0, 0, (m.ratDivWant p).1, true⟩).ratShow p

/-- A port leaves SAFE or FAULTED: the marks of what held it clear; the live level is asked for as it settles. -/
def Mach.ratReleased (p : Nat) (m : Mach) : Mach :=
  let n := pgRat p
  (m.setFlag n Rat.SNUBBED false).setFlag n Rat.SLACK_7C false

/-- The RETEST item of a node: the positions to open once (R223, R247). -/
def Mach.pushRetest (p r : Nat) (m : Mach) : Mach :=
  match m.rungPlace p r with
  | some (k, _) =>
    let c := chainOf p
    m.pushItem c k 7 (m.placeBits c k fun q => tget (m.rat p).retests 0 q == 1 || (m.rat p).released.contains q)
  | none => m

/-- Class part of CLEAR_FAULTS (R229, R224): counters return to 0; while the unit is frozen a clamped rung returns to the pattern at the
next turn start. -/
def Mach.ratCleared (p : Nat) (m : Mach) : Mach :=
  let n := pgRat p
  let m := (m.setFld n Rat.FF_ERRS 0).setFld n Rat.CLAMPS 0
  let l := (m.rat p).clamped
  if m.isFrozen n then
    l.foldl (fun m r => m.pushRetest p r) (m.modRat p fun a => { a with released := a.released ++ a.clamped, clamped := [], retests := [] })
  else m

/-- Sources set in a port; the regulator follows its state. -/
def Mach.ratRaise (p srcs : Nat) (m : Mach) : Mach := (m.raiseMask (pgRat p) srcs).ratSettle p

/-! ## Pattern of a turn (R213) -/

/-- The on-edge and the lit ticks of period `j` of a turn of `t` ticks at level `d65` with `d` periods. -/
def rungPeriod (t d65 d j : Nat) : Nat × Nat :=
  let l := d65 * t / 65536
  (j * t / d, (j + 1) * l / d - j * l / d)

/-- The tick of edge `i` of a turn. -/
def rungTick (t d65 d i : Nat) : Nat :=
  let q := rungPeriod t d65 d (i / 2)
  if i % 2 = 0 then q.1 else q.1 + q.2

/-- The next edge of a turn from `e` on: rungs that are closed open at the next on-edge; open ones close at the next off-edge whose period
is not lit throughout. -/
def nextEdge (t d65 d e : Nat) (lit : Bool) : Option Nat :=
  ((List.range (2 * d)).drop e).find? fun i =>
    let q := rungPeriod t d65 d (i / 2)
    if lit then i % 2 == 1 && q.1 + q.2 != (i / 2 + 1) * t / d else i % 2 == 0

/-- A rung stands closed: bypassed, clamped, not yet returned, or by the pattern of the turn (R213, R214, R222, R223, R225). -/
def Mach.rungClosed (m : Mach) (p r : Nat) : Bool :=
  let a := m.rat p
  (m.reg (pgRat p) (0x100 + 4 * (r / 32))).getLsbD (r % 32) || (a.clamped.contains r && tget a.retests 0 r != 4) || a.released.contains r
    || !a.lit

/-- The level of the running Ease at the next turn start is 0, so that the frame before it carries LEAVE (R251). -/
def Mach.endsDark (m : Mach) (p : Nat) : Bool :=
  let a := m.rat p
  match a.ease with
  | some e => m.dimAvail p && e.b == 0 && e.level ((e.ticks + a.turnTicks) / 16000) == 0
  | none => false

/-- The pattern of the turn that opens: the rungs open at its start, and stay closed where it has no period (R213, R215). -/
def Mach.turnPattern (p : Nat) (m : Mach) : Mach :=
  let n := pgRat p
  let l := m.ratLambda p
  if l = 0 || 65536 ≤ l then m.rungsOpen p
  else
    let on := m.fld n Rat.DIV_NOW != 0
    let v := if on then m.fld n Rat.V_EXP else m.fld n Rat.V_CLOSED
    m.modRat p fun a => { a with pattern := l, edge := if on then 1 else 0, lit := on, ffV := v }

/-- Retests over a turn start (R223): a delivered one opens its rung in the turn that starts; one open through the last turn without a new
clamp was transient, and its rung is in the pattern again. -/
def Mach.turnRetests (p : Nat) (m : Mach) : Mach :=
  m.modRat p fun a =>
    { a with released := [], clamped := a.clamped.filter fun r => tget a.retests 0 r != 4
             retests := (a.retests.filter fun q => q.2 != 4).map fun q => (q.1, if q.2 = 3 then 4 else q.2) }

/-- A turn opens, `ticks` after the one before; what is left of the old turn is dropped (R213). -/
def Mach.turnOpened (p ticks : Nat) (m : Mach) : Mach :=
  (m.modRat p fun a => { a with turnDue := false, turnTicks := ticks }).turnRetests p

/-- The level of a turn: the target delivered is latched, and the running Ease is evaluated (R216, R220). -/
def Mach.turnEase (p ticks : Nat) (ready : Option RatTarget) (m : Mach) : Mach :=
  let m := m.easeEval p ticks
  match ready with
  | some t => if t.fresh then m.easeStart p t else m
  | none => m

/-- The periods and the pattern of a turn, and what the next frame has to carry (R213, R215, R216, R251). -/
def Mach.turnRow (p d : Nat) (m : Mach) : Mach :=
  let m := ((m.divTake p d).turnPattern p).askDiv p
  if m.endsDark p then m.modChain (chainOf p) fun c => { c with due := true } else m

/-- RUNG_TURN_START (R213, R216, R220, R225): a Heave delivered to the port opens a turn. The target delivered is latched, the running Ease
is evaluated, DIV_NOW and the row of R210 follow, and released rungs return. -/
def Mach.turnStart (p ticks : Nat) (m : Mach) : Mach :=
  let n := pgRat p
  let ready := (m.rat p).ready
  let hot := (m.rat p).hot
  if !(m.rat p).turnDue then m
  else
    let m := m.turnOpened p ticks
    let run := m.running n
    if !m.dimAvail p || !(run || m.st n == 3) then m
    else
      let m := m.modRat p fun a => { a with ready := none }
      let m := if run && !hot then m.turnEase p ticks ready else m
      let m := m.turnRow p (match ready with | some t => t.div | none => m.fld n Rat.DIV_NOW)
      if run then m.ratSettle p else m.ratShow p

/-- EASE_STEP (R220, R221): without rung dimming the level is evaluated every 1 ms, 16,000 rung ticks; an APPLY since starts a new Ease
from the level then in force. -/
def Mach.easeStep (p : Nat) (m : Mach) : Mach :=
  if m.dimAvail p || !m.running (pgRat p) || (m.rat p).hot then m
  else
    let m := m.easeEval p 16000
    (match (m.rat p).pending with
      | some t => (m.modRat p RatAux.forget).easeStart p t
      | none => m).ratSettle p

/-- The expected step of an edge: V_EXP − V_CLOSED (R217). -/
def Mach.ffStep (m : Mach) (p : Nat) : Nat := m.fld (pgRat p) Rat.V_EXP - m.fld (pgRat p) Rat.V_CLOSED

/-- The feed-forward check of an edge (R218): 16 edges out of tolerance in succession set FF_MISMATCH, 256 within it clear it. -/
def Mach.ffCheck (p step : Nat) (m : Mach) : Mach :=
  let n := pgRat p
  let e := m.ffStep p
  let a := m.rat p
  if decide (m.fld n Rat.FF_TOL * e < 100 * ((step : Int) - e).natAbs) then
    let k := (a.ffBad + 1) % 16
    let m := m.modRat p fun a => { a with ffBad := k, ffGood := 0 }
    if k = 0 && !m.src n 7 then (m.incSat n Rat.FF_ERRS).ratRaise p (2 ^ 7) else m
  else
    let k := min 256 (a.ffGood + 1)
    let m := m.modRat p fun a => { a with ffBad := 0, ffGood := k }
    if k = 256 then m.ratClear p (2 ^ 7) else m

/-- RUNG_EDGE (R213, R217, R218): `ns` after the turn start the next edge's feed-forward is due, FF.LEAD × 10 ns ahead of its tick: the
regulator's voltage steps by V_EXP − V_CLOSED, the rungs switch, and the measured voltage step `step` is checked. -/
def Mach.rungEdge (p ns step : Nat) (m : Mach) : Mach :=
  let n := pgRat p
  let a := m.rat p
  if a.pattern = 0 then m
  else match nextEdge a.turnTicks a.pattern (m.fld n Rat.DIV_NOW) a.edge a.lit with
    | none => m
    | some i =>
      if 625 * rungTick a.turnTicks a.pattern (m.fld n Rat.DIV_NOW) i ≤ 10 * ns + 100 * m.fld n Rat.LEAD then
        let up := i % 2 == 0
        let e := m.ffStep p
        (m.modRat p fun a => { a with edge := i + 1, lit := up, ffV := if up then a.ffV + e else a.ffV - e }).ffCheck p step
      else m

/-! ## Limits and string faults -/

/-- The string reads `v` and `i`. -/
def Mach.ratMeasure (p v i : Nat) (m : Mach) : Mach :=
  let n := pgRat p
  ((m.setSat n Rat.V_STR v).setSat n Rat.I_STR i).setSat n Rat.P_OUT (v * i / 10000)

/-- P_LIMIT and V_LIMIT (R207): unlimited, the string would stand at `v` with current `i`; the lowered current puts it at `vl` with `il`,
kept to the limits. Each source sets on the first page clock its limit acts. -/
def Mach.ratLimits (p v i vl il : Nat) (m : Mach) : Mach :=
  let n := pgRat p
  let on := m.flag n Rat.REGULATING
  let pl := on && decide (m.fld n Rat.PMAX * 10000 < v * i)
  let vlim := on && decide (m.fld n Rat.VMAX * 10 < v)
  let newP := pl && !m.flag n Rat.P_LIMIT
  let newV := vlim && !m.flag n Rat.V_LIMIT
  let m := (m.setFlag n Rat.P_LIMIT pl).setFlag n Rat.V_LIMIT vlim
  let volt := if vlim then min vl (m.fld n Rat.VMAX * 10) else vl
  let cur := if pl then min il (m.fld n Rat.PMAX * 10000 / max 1 volt) else il
  let m := if pl || vlim then (m.modRat p fun a => { a with cap := some cur }).ratMeasure p volt cur
    else (m.modRat p fun a => { a with cap := none }).ratMeasure p v i
  m.ratRaise p ((if newP then 2 ^ 3 else 0) + (if newV then 2 ^ 4 else 0))

/-- OPEN_STRING (R208). -/
def Mach.openString (p v i ms : Nat) (m : Mach) : Mach :=
  let n := pgRat p
  let m := m.ratMeasure p v i
  if m.flag n Rat.REGULATING && decide (m.fld n Rat.VMAX * 10 ≤ v) && decide (2 * i < m.ratSetpoint p) && decide (2 ≤ ms) then
    m.ratRaise p (2 ^ 0)
  else m

/-- SHORT_STRING (R208). -/
def Mach.shortString (p v i ms : Nat) (m : Mach) : Mach :=
  let n := pgRat p
  let m := m.ratMeasure p v i
  let e := m.fld n Rat.V_EXP
  if m.flag n Rat.REGULATING && decide (600 ≤ e) && decide (4 * v < e) && decide (1 ≤ ms) then m.ratRaise p (2 ^ 1) else m

/-- The regulator turns off until TJ has fallen (R209): as a fault action it ends the Ease (R221); a safe state's level waits. -/
def Mach.ratHot (p : Nat) (m : Mach) : Mach :=
  let m := (m.modRat p fun a => { a with hot := true }).easeEnd p
  if m.st (pgRat p) = 3 then m.ratShow p else (m.ratLevel p 0).ratSettle p

/-- THERMAL of a port (R209). -/
def Mach.ratThermal (p : Nat) (tj : Int) (m : Mach) : Mach :=
  let n := pgRat p
  let m := m.setSFld n Rat.TJ tj
  if decide (1700 ≤ tj) then (m.ratHot p).ratRaise p (2 ^ 2) else m

/-- REGULATOR_RESUME (R209): TJ has fallen below 150 °C. -/
def Mach.ratResume (p : Nat) (tj : Int) (m : Mach) : Mach :=
  let n := pgRat p
  let m := m.setSFld n Rat.TJ tj
  if (m.rat p).hot && decide (tj < 1500) then (m.modRat p fun a => { a with hot := false }).ratSettle p else m

/-- REG_FAULT (R230): the current differs from its setpoint by more than 20 % for 10 ms with neither limit acting. -/
def Mach.regFault (p i ms : Nat) (m : Mach) : Mach :=
  let n := pgRat p
  let s := m.ratSetpoint p
  let m := m.setSat n Rat.I_STR i
  if m.flag n Rat.REGULATING && !m.flag n Rat.P_LIMIT && !m.flag n Rat.V_LIMIT && decide (s < 5 * ((i : Int) - s).natAbs)
      && decide (10 ≤ ms) then m.ratRaise p (2 ^ 11) else m

/-- DIM_LOST (R212): CHAIN_READY is judged again; rung dimming lost with the chain below 65,536 sets the source, and the port dims
analogue. -/
def Mach.dimLost (p : Nat) (m : Mach) : Mach := m.ratSettle p

/-! ## Failed LEDs -/

/-- Whether rung `r` is permanently bypassed (R225). -/
def Mach.bypassed (m : Mach) (p r : Nat) : Bool := (m.reg (pgRat p) (0x100 + 4 * (r / 32))).getLsbD (r % 32)

/-- The BYPASS words go to MRAM (R223, R225). -/
def Mach.bypassStore (p : Nat) (m : Mach) : Mach :=
  let l := (List.range 8).map fun i => m.reg (pgRat p) (0x100 + 4 * i)
  m.modRat p fun a => { a with bypassStored := l }

/-- BYPASSED counts the set bits; beyond MAXBYP, BYPASS_LIMIT (R225). -/
def Mach.bypassCount (p : Nat) (m : Mach) : Mach :=
  let n := pgRat p
  let k := ((List.range 256).filter fun r => m.bypassed p r).length
  let m := ((m.setFld n Rat.BYPASSED k).refreshHealth n).bypassStore p
  if m.fld n Rat.MAXBYP < k then m.raise n 6 else m

/-- V_EXP and V_CLOSED from the drops the nodes reported (R217, R226): every non-bypassed rung open, and closed. A bypassed rung
counts its closed drop in both. -/
def Mach.ratExpect (p : Nat) (m : Mach) : Mach :=
  let n := pgRat p
  let c := chainOf p
  let pos := (m.nodesOf c p).flatMap fun k =>
    (List.range (m.fld (pgSat c k) Sat.POSITIONS)).map fun i =>
      (m.fld (pgSat c k) Sat.RUNG0 + i, m.fld (pgSat c k) (Sat.OPEN_i_ i), m.fld (pgSat c k) (Sat.CLOSED_i_ i))
  let e := pos.foldl (fun a q => a + if m.bypassed p q.1 then q.2.2 else q.2.1) 0
  let z := pos.foldl (fun a q => a + q.2.2) 0
  (m.setFld n Rat.V_EXP (min 65535 e)).setFld n Rat.V_CLOSED (min 65535 z)

/-- LED_CLAMP (R222): the node closes the open rung `r`; the port regulates again at `v`, `i`. The report follows in a reply. -/
def Mach.ledClamp (p r v i : Nat) (m : Mach) : Mach :=
  if m.rungClosed p r then m else (m.modRat p fun a => { a with clamped := insertUp r a.clamped }).ratMeasure p v i

/-- The BYPASS item of the node that carries rung `r`: its permanently closed positions (R225, R247). -/
def Mach.pushBypass (p r : Nat) (m : Mach) : Mach :=
  match m.rungPlace p r with
  | some (k, _) => m.pushItem (chainOf p) k 6 (m.placeBits (chainOf p) k (m.bypassed p))
  | none => m

/-- A rung's bypass becomes permanent (R223, R225, R321): BYPASS, BYPASSED, MRAM, the Trouble log and the node. -/
def Mach.bypassSet (p r : Nat) (m : Mach) : Mach :=
  let n := pgRat p
  let off := 0x100 + 4 * (r / 32)
  let m := m.modRat p fun a => { a with clamped := a.clamped.filter (· != r), retests := tput a.retests 0 r 0 }
  let m := m.setReg n off (m.reg n off ||| BitVec.ofNat 32 (2 ^ (r % 32)))
  ((((m.bypassCount p).relog fun k => k == adaptKey 10 n r).adapt 10 n r 0 1).ratExpect p).pushBypass p r

/-- RUNG_RETEST (R223, R224): RETEST_T s after the clamp the rung is to be opened once, from the turn after the frame that says so. Of a
rung open in this turn: clamped again, its bypass becomes permanent. A frozen unit runs no retest and records no bypass. -/
def Mach.rungRetest (p r s : Nat) (again : Bool) (m : Mach) : Mach :=
  let n := pgRat p
  let stage := tget (m.rat p).retests 0 r
  if !(m.rat p).clamped.contains r || decide (256 ≤ r) then m
  else if stage = 4 then
    if !again then m
    else if m.isFrozen n then m.modRat p fun a => { a with retests := tput a.retests 0 r 0 }
    else m.bypassSet p r
  else if stage = 0 && decide (m.fld n Rat.RETEST_T ≤ s) && !m.isFrozen n then
    (m.modRat p fun a => { a with retests := tput a.retests 0 r 1 }).pushRetest p r
  else m

/-- BYPASS_RELEASE (R225): bits written 1 leave the bypass map; their rungs return at the next turn start. -/
def Mach.bypassRelease (p i : Nat) (w : Word) (m : Mach) : Mach :=
  let n := pgRat p
  let off := 0x100 + 4 * i
  let out := m.reg n off &&& w
  let m := m.setReg n off (m.reg n off &&& ~~~w)
  let l := ((List.range 32).filter out.getLsbD).map (32 * i + ·)
  l.foldl (fun m r => m.pushBypass p r) (((m.modRat p fun a => { a with released := a.released ++ l }).bypassCount p).ratExpect p)

/-- What a set source asks of the port (R230). -/
def Mach.ratAct (p s : Nat) (m : Mach) : Mach :=
  match s with
  | 2 => m.ratHot p
  | 8 => (m.setFlag (pgRat p) Rat.DIM_LOST true).ratSettle p
  | _ => m.ratSettle p

/-- Restore what a port keeps in MRAM (R225). -/
def Mach.ratRestore (p : Nat) (m : Mach) : Mach :=
  let m := ((m.rat p).bypassStored.zip (List.range 8)).foldl (fun m q => m.setReg (pgRat p) (0x100 + 4 * q.2) q.1) m
  m.bypassCount p

end Sys2Proof.Machine
end

