-- ==== Sys2Proof/Machine/Sinks.lean ====
section
/-! DEFINITION. Linear sinks and the JB4410 image (07_ratline_lighting.md, R231 to R238). Pin voltages in 10 mV, currents in 10 µA. -/

namespace Sys2Proof.Machine

/-- What a sink holds at reset. -/
def sinkReset : SinkAux := ⟨driveOff, pulseNone, 0, driveOff, 0⟩

def Mach.sink (m : Mach) (k : Nat) : SinkAux := tget m.sinks sinkReset k
def Mach.setSink (k : Nat) (a : SinkAux) (m : Mach) : Mach := { m with sinks := tput m.sinks sinkReset k a }
def Mach.modSink (k : Nat) (g : SinkAux → SinkAux) (m : Mach) : Mach := m.setSink k (g (m.sink k))

/-- A sink's current in 10 µA (R231). -/
def sinkCurrent (gl cur : Nat) : Nat := 150000 * gl * cur / 65025 / 10

/-- Demand of a sink (R234). -/
def Mach.sinkDemand (m : Mach) (k : Nat) : Bool :=
  let n := pgSink k
  (m.unit n).enabled && m.flag n Sink.ON && m.flag n Sink.CURRENT && m.flag pgCompat Compat.GLOBAL
    && (m.fld n Sink.PWM_MODE == 0 || m.flag n Sink.DUTY)

/-- The live drive of a sink. -/
def Mach.sinkLive (m : Mach) (k : Nat) : Drive :=
  let n := pgSink k
  ⟨m.flag n Sink.ON, m.fld n Sink.PWM_MODE, m.fld n Sink.DUTY, m.fld n Sink.PERIOD, m.fld n Sink.DIV, m.fld n Sink.PHASE⟩

/-- The drive and current the sink's state asks for (R234, R307). -/
def Mach.sinkWant (m : Mach) (k : Nat) : Drive × Nat :=
  let n := pgSink k
  let cur := m.fld n Sink.CURRENT
  match m.st n with
  | 2 =>
    let h := m.holdOn n
    if h.off || (h.defer && !m.flag n Sink.SINKING) then (driveOff, 0)
    else match h.level with
      | some l => ((m.sinkLive k).capped l, cur)
      | none => (m.sinkLive k, cur)
  | 3 => match m.fld n Hdr.SAFE_STATE with
    | 0 => (driveOff, 0)
    | 1 => (⟨true, m.fld n Sink.PWM_MODE, 65535, m.fld n Sink.PERIOD, m.fld n Sink.DIV, m.fld n Sink.PHASE⟩, cur)
    | 2 => ((m.sink k).hold, (m.sink k).holdCur)
    | _ => (⟨m.flag n Hdr.SAFE_LEVEL, 1, m.fld n Hdr.SAFE_LEVEL * 257, m.fld n Sink.PERIOD, 0, 0⟩, cur)
  | _ => (driveOff, 0)

/-- The current of a sink at its setting: what keeps V_PIN × I at 0.6 W while it is folded back (R231, R232), 10 µA. -/
def Mach.sinkNow (m : Mach) (k cur : Nat) : Nat :=
  let n := pgSink k
  let i := sinkCurrent (m.fld pgCompat Compat.GLOBAL) cur
  if m.flag n Sink.FOLDBACK && decide (6000000 < m.fld n Sink.V_PIN * i) then 6000000 / m.fld n Sink.V_PIN else i

/-- A sink carries on with a current setting: SINKING, I_SINK and FOLDBACK follow (R231, R232). -/
def Mach.sinkCarry (k cur : Nat) (on : Bool) (m : Mach) : Mach :=
  let n := pgSink k
  let i := if on then m.sinkNow k cur else 0
  let folded := on && i != sinkCurrent (m.fld pgCompat Compat.GLOBAL) cur
  let m := (m.modSink k fun a => { a with cur := cur }).setFlag n Sink.SINKING (decide (0 < i))
  (m.setFld n Sink.I_SINK (min 65535 i)).setFlag n Sink.FOLDBACK folded

/-- A sink takes a drive with a new period (R233): on- and off-times of 200 ns at least and 25 kHz at most as in R128, R129. -/
def Mach.sinkTake (k : Nat) (d : Drive) (cur : Nat) (m : Mach) : Mach :=
  let n := pgSink k
  let q := if d.conducts then m.pulseAt n 200 25000 (m.sink k).pulse d else pulseNone
  let lost := d.conducts && d.mode == 2 && m.baseLost n
  let m := m.modSink k fun a => { a with drive := d, pulse := q }
  let m := ((m.setFlag n Sink.PWM_CLAMP (d.conducts && q.clamped d)).setFlag n Sink.SYNC_LOST lost).sinkCarry k cur d.conducts
  if lost then m.raise n 3 else m

/-- IDLE or ACTIVE by demand, then the drive: off, on, a static drive and a safe state at once; new PWM values at the next period
(R233). -/
def Mach.sinkSettle (k : Nat) (m : Mach) : Mach :=
  let n := pgSink k
  let m := m.settle n (m.sinkDemand k)
  let (d, cur) := m.sinkWant k
  let now := (m.sink k).drive
  if !d.conducts then m.sinkTake k driveOff 0
  else if !now.conducts || now.mode = 0 || d.mode = 0 || m.st n = 3 then (if d = now then m.sinkCarry k cur true else m.sinkTake k d cur)
  else m.sinkCarry k cur true

/-- PWM_PERIOD_START of a sink (R233): pending values take effect with a new period. -/
def Mach.sinkPeriodStart (k : Nat) (m : Mach) : Mach :=
  let (d, cur) := m.sinkWant k
  if d.conducts && d.mode ≠ 0 && (m.sink k).drive.conducts then m.sinkTake k d cur else m

/-- A sink enters SAFE (R234). -/
def Mach.sinkEnterSafe (k : Nat) (snub : Bool) (m : Mach) : Mach :=
  let n := pgSink k
  let m := m.modSink k fun a => { a with hold := a.drive, holdCur := a.cur }
  let m := m.setSt n 3
  (if snub then m.setFlag n Sink.SNUBBED true else m.setFlag n Sink.SLACK_5C true).sinkSettle k

/-- A sink leaves SAFE or FAULTED. -/
def Mach.sinkReleased (k : Nat) (m : Mach) : Mach :=
  let n := pgSink k
  (m.setFlag n Sink.SNUBBED false).setFlag n Sink.SLACK_5C false

/-- The pin reads `v`; LOW_HEAD shows a pin below 0.4 V + I × 7.3 Ω while sinking (R231). -/
def Mach.sinkPin (k v : Nat) (m : Mach) : Mach :=
  let n := pgSink k
  let i := m.fld n Sink.I_SINK
  (m.setSat n Sink.V_PIN v).setFlag n Sink.LOW_HEAD (m.flag n Sink.SINKING && decide (v * 10000 < 400000 + 73 * i))

/-- SINK_OPEN (R234): the pin below 0.25 V for 1 ms of on-time while current is demanded. -/
def Mach.sinkOpen (k v us : Nat) (m : Mach) : Mach :=
  let m := m.sinkPin k v
  if m.flag (pgSink k) Sink.SINKING && decide (v < 25) && decide (1000 ≤ us) then (m.raise (pgSink k) 0).sinkSettle k else m

/-- HIGH_V (R234): the pin above VHIGH for 10 ms of on-time. -/
def Mach.sinkHigh (k v ms : Nat) (m : Mach) : Mach :=
  let n := pgSink k
  let m := m.sinkPin k v
  if m.flag n Sink.SINKING && decide (m.fld n Sink.VHIGH < v) && decide (10 ≤ ms) then (m.raise n 1).sinkSettle k else m

/-- FOLDBACK (R232): at pin voltage `v` the set current would dissipate more than 0.6 W; the current is reduced to it, and the flag and the
source set. The set current returns when the pin allows it. -/
def Mach.foldback (k v : Nat) (m : Mach) : Mach :=
  let n := pgSink k
  let i := sinkCurrent (m.fld pgCompat Compat.GLOBAL) (m.sink k).cur
  let folded := m.flag n Sink.SINKING && decide (6000000 < v * i)
  let m := ((m.setFlag n Sink.FOLDBACK folded).setSat n Sink.V_PIN v).sinkCarry k (m.sink k).cur (m.flag n Sink.SINKING)
  (if folded then m.raise n 2 else m).sinkPin k v

/-- SYNC_LOST of a sink (R129, R234). -/
def Mach.sinkSyncLost (k : Nat) (m : Mach) : Mach :=
  let n := pgSink k
  if m.fld n Sink.PWM_MODE == 2 && m.flag n Sink.SINKING && m.baseLost n then
    (m.setFlag n Sink.SYNC_LOST true).raise n 3
  else m

/-! ## The JB4410 image (R237, R238) -/

/-- DUTY of a PWM12 value (R238). -/
def dutyOfPwm12 (p : Nat) : Nat := p * 16 + p / 256

/-- The PWM12 of a sink's shadow DUTY (R238). -/
def Mach.pwm12 (m : Mach) (k : Nat) : Nat := m.shFld (pgSink k) Sink.DUTY / 16

/-- A sink's shadow field is written; SHADOW_DIRTY sets (R70). -/
def Mach.sinkShadow (k : Nat) (f : Fld) (v : Nat) (m : Mach) : Mach :=
  (m.setShFld (pgSink k) f v).setFlag (pgSink k) Hdr.SHADOW_DIRTY true

/-- Write JB4410 register `a` with byte `v`, MODE and LATCH aside (R237): the SINK shadows follow at once. -/
def Mach.imageWrite (a v : Nat) (m : Mach) : Mach :=
  if a = 1 then (m.setShFld pgCompat Compat.GLOBAL v).setFlag pgCompat Hdr.SHADOW_DIRTY true
  else if 2 ≤ a ∧ a < 0x12 then m.sinkShadow (a - 2) Sink.CURRENT v
  else if 0x12 ≤ a ∧ a < 0x22 then
    let k := a - 0x12
    m.sinkShadow k Sink.DUTY (dutyOfPwm12 (v * 16 + m.pwm12 k % 16))
  else if 0x22 ≤ a ∧ a < 0x2A then
    let k := 2 * (a - 0x22)
    let m := m.sinkShadow k Sink.DUTY (dutyOfPwm12 (m.pwm12 k / 16 * 16 + v % 16))
    m.sinkShadow (k + 1) Sink.DUTY (dutyOfPwm12 (m.pwm12 (k + 1) / 16 * 16 + v / 16))
  else m

/-- Eight status bits from sink `k` up. -/
def imageBits (k : Nat) (p : Nat → Bool) : Nat :=
  (List.range 8).foldl (fun a i => a + if p (k + i) then 2 ^ i else 0) 0

/-- Read JB4410 register `a` (R237). -/
def Mach.imageRead (m : Mach) (a : Nat) : Nat :=
  if a = 0 then (m.reg pgCompat 0x100).toNat % 256
  else if a = 1 then m.shFld pgCompat Compat.GLOBAL
  else if a < 0x12 then m.shFld (pgSink (a - 2)) Sink.CURRENT
  else if a < 0x22 then m.pwm12 (a - 0x12) / 16
  else if a < 0x2A then m.pwm12 (2 * (a - 0x22)) % 16 + m.pwm12 (2 * (a - 0x22) + 1) % 16 * 16
  else match a with
    | 0x2B => imageBits 0 fun k => m.src (pgSink k) 0
    | 0x2C => imageBits 8 fun k => m.src (pgSink k) 0
    | 0x2D => imageBits 0 fun k => m.flag (pgSink k) Sink.FOLDBACK
    | 0x2E => imageBits 8 fun k => m.flag (pgSink k) Sink.FOLDBACK
    | 0x2F => 0x41
    | _ => 0

end Sys2Proof.Machine
end

