-- ==== Sys2Proof/Machine/Messenger.lean ====
section
/-! DEFINITION. Messenger chains and satellite pages (08_messenger_line.md): frames, Heaves, the awake set, enumeration, echoes. -/

namespace Sys2Proof.Machine

/-! ## Frames (R244, R245) -/

/-- One byte into a CRC-16 of polynomial 0x1021, most significant bit first (R245). -/
def crc16Byte (crc b : Nat) : Nat :=
  (List.range 8).foldl (fun c _ => if 32768 ≤ c then ((c * 2) % 65536) ^^^ 0x1021 else c * 2) (crc ^^^ (b % 256 * 256))

/-- The CRC-16 of a list of bytes from an initial value. -/
def crc16 (init : Nat) (l : List Nat) : Nat := l.foldl crc16Byte (init % 65536)

/-- A share for a node (R245): header, payload, CRC with the node's UID. -/
def shareBytes (uid kind : Nat) (rpl : Bool) (payload : List Nat) : List Nat :=
  let body := (kind * 64 + (if rpl then 32 else 0) + payload.length % 32) :: payload
  let c := crc16 uid body
  body ++ [c / 256, c % 256]

/-- The bytes of WRITE items (R246). -/
def itemBytes (l : List (Nat × Nat)) : List Nat := l.flatMap fun i => [i.1 % 256, i.2 / 256 % 256, i.2 % 256]

/-- The trailer with its TAG, HOP 0 (R244). -/
def trailerBytes (tag : Nat) : List Nat := [0xC0, tag / 256 % 256, tag % 256, 0, 0]

/-! ## The chain -/

/-- A source that stops the chain is set: CHANGED, DUP_UID or LINE_SHORT (R259). -/
def Mach.chainStopped (m : Mach) (c : Nat) : Bool := m.src (pgMsg c) 2 || m.src (pgMsg c) 3 || m.src (pgMsg c) 4

/-- A reply's CRC over its 16-bit header and payload (R249). -/
def replyCrc (init h : Nat) (unsol : Bool) (payload : List Nat) : Nat :=
  let w := h % 1024 * 64 + (if unsol then 32 else 0) + payload.length % 32
  crc16 init (w / 256 :: w % 256 :: payload)

/-- The bytes of the drops of a reply, most significant first (R249). -/
def dropBytes (l : List (BitVec 16 × BitVec 16)) : List Nat :=
  l.flatMap fun d => [d.1.toNat / 256, d.1.toNat % 256, d.2.toNat / 256, d.2.toNat % 256]

/-- The CRC of a reply passes with the UID of the node its h names (R249, R256). -/
def Mach.replyOk (m : Mach) (c : Nat) (r : NodeReply) : Bool :=
  match (m.chain c).awake[r.h]? with
  | some k =>
    r.crc.toNat == replyCrc (m.reg (pgSat c k) Sat.UID.off).toNat r.h r.unsol (r.status.toNat :: dropBytes r.drops)
  | none => false

/-- The CRC of the reply of node `k` to a discovery frame passes (R253). -/
def foundOk (d : NodeFound) (k : Nat) : Bool :=
  d.crc.toNat == replyCrc 0xFFFF k false (((List.range 4).map fun i => d.uid.toNat / 256 ^ (3 - i) % 256) ++ d.info.toNat :: d.status.toNat :: dropBytes d.drops)

/-- The chain sends: enabled, nodes expected, not stopped (R259); in SAFE it keeps sending. -/
def Mach.chainOn (m : Mach) (c : Nat) : Bool :=
  let n := pgMsg c
  (m.st n == 1 || m.st n == 2 || m.st n == 3) && m.flag n Msg.NODES && !m.chainStopped c

/-- IDLE or ACTIVE: with NODES = 0 the chain is disabled and the unit IDLE (R259). -/
def Mach.msgSettle (c : Nat) (m : Mach) : Mach := m.settle (pgMsg c) (m.flag (pgMsg c) Msg.NODES && (m.unit (pgMsg c)).enabled)

/-- The awake set becomes `l`: AWAKE counts it, and each satellite page is ACTIVE while its node is in it (R259, R260). -/
def Mach.setAwake (c : Nat) (l : List Nat) (m : Mach) : Mach :=
  let m := (m.modChain c fun a => { a with awake := l }).setFld (pgMsg c) Msg.AWAKE l.length
  (List.range (m.chain c).found.length).foldl (fun m k =>
    let n := pgSat c k
    let on := l.contains k
    (m.setFlag n Sat.AWAKE on).settle n on) m

/-- CHAIN_READY of the chain's ports is judged again (R211). -/
def Mach.chainReady (c : Nat) (m : Mach) : Mach :=
  (List.range 6).foldl (fun m i =>
    let p := 6 * c + i
    if m.flag (pgRat p) Rat.CHAIN_READY == m.heaveRun c (m.fld (pgRat p) Hdr.BASE_CAP) then m else m.ratSettle p) m

/-- A Heave of a Mark counts as delivered (R211, R256). -/
def Mach.heaveDone (c e : Nat) (m : Mach) : Mach :=
  (m.modChain c fun a => { a with runs := tput a.runs 0 e (min 2 (tget a.runs 0 e + 1)) }).chainReady c

/-- The Heaves of a Mark count from the start again: it is armed anew (R211). -/
def Mach.heaveForget (c e : Nat) (m : Mach) : Mach := m.modChain c fun a => { a with runs := tput a.runs 0 e 0 }

/-- Sources set in a MSG unit; a stopping one ends the frame and the Heaves (R259). -/
def Mach.msgRaise (c srcs : Nat) (m : Mach) : Mach :=
  let m := m.raiseMask (pgMsg c) srcs
  if m.chainStopped c then (m.modChain c fun a => { a with inFrame := false, runs := [], awaiting := none }).chainReady c else m

/-- What a node that has just joined is sent, having powered up without any of it: its port's level, periods, MODE, bypasses and SYNC
(DESIGN CHOICE, notes/assumptions/165.md). -/
def Mach.greetNode (c k : Nat) (m : Mach) : Mach :=
  let n := pgSat c k
  let p := m.fld n Sat.PORT
  if 24 ≤ p then m
  else
    let a := m.rat p
    let lvl := if m.st (pgRat p) = 3 then m.fld (pgRat p) Rat.LEVEL_NOW else a.target
    let t : RatTarget := ⟨lvl, 0, 0, (m.ratDivWant p).1, true⟩
    let m := t.items.foldl (fun m i => m.pushItem c k i.1 i.2) m
    let m := (m.pushMode c k p).pushItem c k 6 (m.placeBits c k (m.bypassed p))
    if m.flag n Sat.SYNC then m.pushItem c k 0x10 1 else m

/-- The frame in progress is over: nodes that were sent JOIN are awake from the next frame, and the ports' targets and retests are
delivered (R216, R223, R251). -/
def Mach.frameEnd (c : Nat) (m : Mach) : Mach :=
  let a := m.chain c
  let m := m.modChain c fun a => { a with inFrame := false, joinSent := [] }
  let m := if a.joinSent.isEmpty then m else
    a.joinSent.foldl (fun m k => m.greetNode c k) (m.setAwake c (a.joinSent.foldr insertUp a.awake))
  (List.range 6).foldl (fun m i => m.modRat (6 * c + i) fun r => { r with
    ready := r.flight <|> r.ready, flight := none, retests := r.retests.map fun q => (q.1, if q.2 = 2 then 3 else q.2) }) m

/-- Whether node `k` leaves with this frame (R251): its port's level in force goes to 0 with the target the frame carries or at the end
of the Ease at the next turn start, or is 0 with the regulator off. -/
def Mach.leavesNow (m : Mach) (c k : Nat) : Bool :=
  let p := m.fld (pgSat c k) Sat.PORT
  let n := pgRat p
  let a := m.rat p
  decide (p < 24) &&
    ((match a.want with | some t => t.fresh && t.level == 0 && t.easeT == 0 | none => false)
      || (a.pending.isNone && m.endsDark p)
      || (!m.flag n Rat.LEVEL_NOW && !m.flag n Rat.REGULATING && (match a.pending with | some t => t.level == 0 | none => true)))

/-- A frame is sent (R244 to R248, R251, R259): JOIN, LEAVE, WRITE or empty shares in chain order, then the trailer. A share holds at
most ten items; the rest wait. -/
def Mach.sendFrame (c : Nat) (m : Mach) : Mach :=
  if !m.chainOn c || (m.chain c).inFrame then m
  else
    let n := pgMsg c
    let (v, m) := m.free
    let tag := v % 65536
    let a := m.chain c
    let order := a.joining.foldr insertUp a.awake
    let shares := order.flatMap fun k =>
      let uid := (m.reg (pgSat c k) Sat.UID.off).toNat
      let rpl := a.ask.contains k
      if a.joining.contains k then shareBytes uid 2 false [1]
      else if m.leavesNow c k then shareBytes uid 2 rpl [2]
      else
        let l := (tget a.items [] k).take 10
        if l.isEmpty then shareBytes uid 0 rpl [] else shareBytes uid 1 rpl (itemBytes l)
    let gone := a.awake.filter fun k => m.leavesNow c k
    let sync := order.any fun k => Sat.SYNC.of (m.shd (pgSat c k) Sat.SYNC.off) != 0
    let left := a.awake.foldl (fun t k => if gone.contains k then t else tput t [] k ((tget t [] k).drop 10)) a.items
    let m := m.modChain c fun a => { a with
      inFrame := true, tag := tag, frame := shares ++ trailerBytes tag, items := left
      asked := a.awake.filter a.ask.contains, ask := [], joinSent := a.joining, joining := []
      leaving := gone.foldr insertUp a.leaving, syncShare := sync, due := false }
    let m := (List.range 6).foldl (fun m i => m.modRat (6 * c + i) fun r => { r with
      flight := r.want <|> r.flight, want := none, retests := r.retests.map fun q => (q.1, if q.2 = 1 then 2 else q.2) }) m
    let m := m.setReg n Msg.FRAMES.off (m.reg n Msg.FRAMES.off + 1)
    if m.flag n Msg.RETURN then m else m.frameEnd c

/-- MESSENGER_FRAME (R244, R259): after an APPLY that changed items, a JOIN, a poll or a CFG item. -/
def Mach.messengerFrame (c : Nat) (m : Mach) : Mach := if (m.chain c).due then m.sendFrame c else m

/-- REFRESH (R259): REFRESH ms without a frame. -/
def Mach.refreshFrame (c ms : Nat) (m : Mach) : Mach :=
  if m.fld (pgMsg c) Msg.REFRESH ≤ ms then m.sendFrame c else m

/-- A Heave goes out on the chain (R250, R247, R251): nodes sent LEAVE turn transparent, and every port of the chain has a turn to
open. `mark` is the entry of the Mark it is of. Without a return wire it counts as delivered when sent; else when its echo arrives, and a
Heave of a Mark that still awaits its echo was not delivered (R256). -/
def Mach.heave (c : Nat) (mark : Option Nat) (m : Mach) : Mach :=
  if !m.chainOn c then m
  else
    let a := m.chain c
    let m := if a.leaving.isEmpty then m else
      (m.modChain c fun a => { a with leaving := [] }).setAwake c (a.awake.filter fun k => !a.leaving.contains k)
    let m := (List.range 6).foldl (fun m i => m.modRat (6 * c + i) fun r => { r with turnDue := true }) m
    let m := match a.awaiting with
      | some e => (m.heaveForget c e).chainReady c
      | none => m
    if m.flag (pgMsg c) Msg.RETURN then m.modChain c fun a => { a with awaiting := mark }
    else match mark with
      | some e => m.heaveDone c e
      | none => m

/-- SYNC_HEAVE (R248): the frame carried a share for a SYNC node and no Heave Mark is armed. -/
def Mach.syncHeave (c : Nat) (m : Mach) : Mach :=
  if (m.chain c).syncShare && !m.anyHeaveMark c then (m.modChain c fun a => { a with syncShare := false }).heave c none else m

/-! ## Replies and echoes (R249, R256) -/

/-- What a node reports of itself (R249, R253, R260): STATUS and drops go to its page, with the sources they set. -/
def Mach.nodeReport (c k : Nat) (status : BitVec 8) (drops : List (BitVec 16 × BitVec 16)) (m : Mach) : Mach :=
  let n := pgSat c k
  let s := status.toNat
  let new := s % 16 &&& (15 - m.fld n Sat.CLAMPED)
  let m := ((m.setFld n Sat.CLAMPED (s % 16)).setFlag n Sat.CRC_SEEN (Nat.testBit s 5)).setFlag n Sat.RESET_SEEN (Nat.testBit s 6)
  let m := (drops.take 4).zip (List.range 4) |>.foldl (fun m d =>
    (m.setFld n (Sat.OPEN_i_ d.2) d.1.1.toNat).setFld n (Sat.CLOSED_i_ d.2) d.1.2.toNat) m
  let m := m.raiseMask n ((if Nat.testBit s 5 then 2 else 0) + (if new = 0 then 0 else 4) + (if Nat.testBit s 6 then 8 else 0))
  let m := if Nat.testBit s 5 then m.incSat (pgMsg c) Msg.CRC_REPORTS else m
  let p := m.fld n Sat.PORT
  if 24 ≤ p then m
  else
    let r0 := m.fld n Sat.RUNG0
    let l := ((List.range 4).filter fun i => Nat.testBit new i).map (r0 + ·)
    let m := if new = 0 then m else
      ((m.modRat p fun a => { a with clamped := l.foldl (fun l r => insertUp r l) a.clamped }).addSat (pgRat p) Rat.CLAMPS l.length).ratRaise p (2 ^ 5)
    let short := decide (20 ≤ m.ratCurrent p) && (drops.take (m.fld n Sat.POSITIONS)).any fun d => decide (d.1.toNat < 100)
    (if short then m.ratRaise p (2 ^ 9) else m).ratExpect p

/-- A reply in a frame (R249, R256): H of the page, and the node no longer misses replies. -/
def Mach.reply (c : Nat) (r : NodeReply) (m : Mach) : Mach :=
  match (m.chain c).awake[r.h]? with
  | none => m
  | some k =>
    let m := (m.setFld (pgSat c k) Sat.H r.h).modChain c fun a => { a with missed := tput a.missed 0 k 0 }
    m.nodeReport c k r.status r.drops

/-- Nodes asked and silent in two frames in succession set NO_REPLY (R256). -/
def Mach.missReplies (c : Nat) (got : List Nat) (m : Mach) : Mach :=
  let a := m.chain c
  let m := (a.asked.filter fun k => !got.contains k).foldl (fun m k =>
    let v := min 2 (tget (m.chain c).missed 0 k + 1)
    let m := m.modChain c fun a => { a with missed := tput a.missed 0 k v }
    if v = 2 then m.raise (pgSat c k) 0 else m) m
  m.modChain c fun a => { a with asked := [] }

/-- ECHO (R256): the echo of a frame, or of a Heave, has come back. A reply whose CRC fails makes the echo fail and counts as missing; the
others are taken. -/
def Mach.echo (c : Nat) (ofHeave : Bool) (tag hop : Nat) (replies : List NodeReply) (m : Mach) : Mach :=
  let n := pgMsg c
  if !m.flag n Msg.RETURN || !m.chainOn c then m
  else if ofHeave then
    match (m.chain c).awaiting with
    | some e => (m.modChain c fun a => { a with awaiting := none }).heaveDone c e
    | none => m
  else if !(m.chain c).inFrame then m
  else
    let a := m.chain c
    let good := replies.filter fun r => m.replyOk c r
    let ok := tag == a.tag && hop == a.awake.length && good.length == replies.length
    let m := (m.setFld n Msg.LAST_HOP hop).setFlag n Msg.ECHO_OK ok
    let m := if ok then m else (m.incSat n Msg.ECHO_ERRS).msgRaise c 2
    let m := good.foldl (fun m r => m.reply c r) m
    (m.missReplies c (good.filterMap fun r => a.awake[r.h]?)).frameEnd c

/-- NO_ECHO (R256): the trailer has not begun on contact 14 within 20 µs and 0.25 µs a node of the awake set, or contact 14 is low for 4 µs before
END; no Heave counts as delivered until the next echo. -/
def Mach.noEcho (c : Nat) (begun : Bool) (ns lowNs : Nat) (m : Mach) : Mach :=
  let n := pgMsg c
  let a := m.chain c
  let late := (!begun && decide (20000 + 250 * a.awake.length < ns)) || decide (4000 ≤ lowNs)
  if !m.flag n Msg.RETURN || !m.chainOn c || !a.inFrame || !late then m
  else
    let m := ((m.setFlag n Msg.ECHO_OK false).msgRaise c 1).missReplies c []
    ((m.modChain c fun a => { a with runs := [], awaiting := none }).chainReady c).frameEnd c

/-! ## The awake set (R251, R252) -/

/-- NODE_INSERTION (R251): the port has regulated for 5 ms. -/
def Mach.nodeInsertion (p ms : Nat) (m : Mach) : Mach :=
  let c := chainOf p
  if m.flag (pgRat p) Rat.REGULATING && decide (5 ≤ ms) then
    let l := (m.nodesOf c p).filter fun k => !(m.chain c).awake.contains k && !(m.chain c).joinSent.contains k
    if l.isEmpty then m else m.modChain c fun a => { a with joining := l.foldr insertUp a.joining, due := true }
  else m

/-- NODE_REMOVAL (R251, R252): the nodes of a port that no longer regulates leave the awake set. -/
def Mach.nodeRemoval (p : Nat) (m : Mach) : Mach :=
  let c := chainOf p
  if m.flag (pgRat p) Rat.REGULATING then m
  else
    let l := m.nodesOf c p
    let a := m.chain c
    (m.modChain c fun a => { a with joining := a.joining.filter fun k => !l.contains k }).setAwake c
      (a.awake.filter fun k => !l.contains k)

/-! ## Enumeration (R253 to R255, R258) -/

/-- Frames that an operation sends, counted in FRAMES (R259). -/
def Mach.framesSent (c k : Nat) (m : Mach) : Mach :=
  m.setReg (pgMsg c) Msg.FRAMES.off (m.reg (pgMsg c) Msg.FRAMES.off + BitVec.ofNat 32 k)

/-- A frame with no shares goes out (R253, R254). -/
def Mach.bareFrame (c : Nat) (m : Mach) : Mach :=
  let (v, m) := m.free
  (m.modChain c fun a => { a with tag := v % 65536, frame := trailerBytes (v % 65536) }).framesSent c 1

/-- An ENUM.OP write of DISCOVER, MAP, ACCEPT or LOCATE (R259): refused with REASON 3 while ENUM_BUSY is 1. DISCOVER sends RESET and a
frame with no shares where a return wire is fitted (R253). -/
def Mach.enumOp (c op : Nat) (m : Mach) : Mach :=
  let n := pgMsg c
  if op = 0 then m
  else if m.flag n Msg.ENUM_BUSY then m.refuse n 0x048 3
  else
    let m := (m.modChain c fun a => { a with op := op }).setFlag n Msg.ENUM_BUSY true
    if op = 1 && m.flag n Msg.RETURN then m.bareFrame c else m

/-- A node's satellite page from the map (R260). -/
def Mach.writeSat (c k : Nat) (d : ChainNode) (m : Mach) : Mach :=
  let n := pgSat c k
  let m := ((m.setReg n Sat.UID.off d.uid).setFld n Sat.PORT d.port).setFld n Sat.LEDS d.leds
  (m.setFld n Sat.POSITIONS d.positions).setFld n Sat.RUNG0 d.rung0

/-- Every satellite page from the map; the ports' RUNGS and expected voltages follow. -/
def Mach.showMap (c : Nat) (m : Mach) : Mach :=
  let l := (m.chain c).found
  let m := (l.zip (List.range l.length)).foldl (fun m q => m.writeSat c q.2 q.1) m
  (List.range 6).foldl (fun m i =>
    let p := 6 * c + i
    let k := l.foldl (fun a d => if d.port = p then a + d.positions else a) 0
    ((m.setFld (pgRat p) Rat.RUNGS k).ratExpect p).ratSettle p) m

/-- The map in MRAM is loaded at a start (R253, R259, R260). -/
def Mach.mapRestore (c : Nat) (m : Mach) : Mach :=
  let a := m.chain c
  if a.stored.isEmpty then m
  else ((m.modChain c fun a => { a with found := a.stored }).setFlag (pgMsg c) Msg.MAP_VALID a.mapValid).showMap c

/-- The map with nodes given to ports: rungs number from 0 in ascending node index, then in position order (R254). -/
def mapPorts (c : Nat) : List ChainNode → List Nat → Table Nat → List ChainNode
  | [], _, _ => []
  | d :: l, ps, t =>
    let p := ps.headD 31
    let p := if 6 * c ≤ p ∧ p < 6 * c + 6 then p else 31
    let r := tget t 0 p
    { d with port := p, rung0 := if p = 31 then 0 else r } :: mapPorts c l ps.tail (tput t 0 p (r + d.positions))

/-- The node position a rung of a port names in a map. -/
def rungName (l : List ChainNode) (p r : Nat) : Option (Word × Nat) :=
  (l.find? fun d => d.port == p && decide (d.rung0 ≤ r) && decide (r < d.rung0 + d.positions)).map fun d => (d.uid, r - d.rung0)

/-- DISCOVER completes (R253, R255, R259): the nodes that replied, or with RETURN = 0 the map in MRAM, fill the satellite pages. -/
def Mach.discovered (c : Nat) (nodes : List NodeFound) (m : Mach) : Mach :=
  let n := pgMsg c
  let a := m.chain c
  if !m.flag n Msg.RETURN then
    ((m.modChain c fun a => { a with found := a.stored }).setFld n Msg.FOUND a.stored.length).showMap c
  else
    let l := ((nodes.zip (List.range nodes.length)).filter fun q => foundOk q.1 q.2).map (·.1) |>.take 1024
    let same := l.map (·.uid) == a.stored.map (·.uid)
    let found := if same then a.stored else
      l.map fun d => ⟨d.uid, min 4 (max 1 (d.info.toNat % 8)), d.info.toNat / 8 % 4, 31, 0⟩
    let lows := l.map fun d => d.uid.toNat % 65536
    let dup := (List.range lows.length).any fun i => (lows.drop (i + 1)).contains (lows.getD i 0)
    let m := (m.modChain c fun a => { a with found := found, items := [], joining := [], joinSent := [], leaving := [] }).showMap c
    let m := (m.setFld n Msg.FOUND l.length).setAwake c (List.range l.length)
    let m := (l.zip (List.range l.length)).foldl (fun m q => m.nodeReport c q.2 q.1.status q.1.drops) m
    let m := m.setFlag n Msg.CHANGED (!same)
    m.msgRaise c ((if same then 0 else 4) + (if dup then 8 else 0) + (if l.length = m.fld n Msg.NODES then 0 else 32))

/-- The enabled ports of a chain, in turn (R254). -/
def Mach.mapTurns (m : Mach) (c : Nat) : List Nat := ((List.range 6).map (6 * c + ·)).filter fun p => (m.unit (pgRat p)).enabled

/-- MAP completes (R254): `heard` says which nodes replied while each enabled port was stopped in turn; a node belongs to the first port
without which it is silent. A node of a stopped port has powered up anew and is pending (R251). -/
def Mach.mapped (c : Nat) (heard : List (List Nat)) (m : Mach) : Mach :=
  let turns := (m.mapTurns c).zip heard
  let found := (m.chain c).found
  let ports := (List.range found.length).map fun k => ((turns.find? fun q => !q.2.contains k).map (·.1)).getD 31
  let l := mapPorts c found ports []
  let same := l.map (·.uid) == (m.chain c).stored.map (·.uid)
  let m := (m.mapTurns c).foldl (fun m _ => m.bareFrame c) m
  let m := (m.modChain c fun a => { a with found := l, stored := if same then l else a.stored }).showMap c
  m.setAwake c ((m.chain c).awake.filter fun k => ports.getD k 31 == 31)

/-- ACCEPT completes (R255): the map is stored and mapped; a bypass whose rung names another position now is cleared. -/
def Mach.accepted (c : Nat) (heard : List (List Nat)) (m : Mach) : Mach :=
  let n := pgMsg c
  let old := (m.chain c).stored
  let m := m.mapped c heard
  let new := (m.chain c).found
  let m := m.modChain c fun a => { a with stored := new, mapValid := true }
  let m := (m.setFlag n Msg.MAP_VALID true).setFlag n Msg.CHANGED false
  (List.range 6).foldl (fun m i =>
    let p := 6 * c + i
    let bad := (List.range 256).filter fun r => m.bypassed p r && rungName old p r != rungName new p r
    if bad.isEmpty then m else
      ((bad.foldl (fun m r => m.setReg (pgRat p) (0x100 + 4 * (r / 32))
        (m.reg (pgRat p) (0x100 + 4 * (r / 32)) &&& ~~~BitVec.ofNat 32 (2 ^ (r % 32)))) m).bypassCount p).ratExpect p) m

/-- The fall of the port voltage that a test of node `k` asks for: its open drops less its closed ones, 10 mV (R258). -/
def Mach.testFall (m : Mach) (c k : Nat) : Int :=
  (List.range (m.fld (pgSat c k) Sat.POSITIONS)).foldl (fun a i =>
    a + (m.fld (pgSat c k) (Sat.OPEN_i_ i) : Int) - m.fld (pgSat c k) (Sat.CLOSED_i_ i)) 0

/-- The binary search of LOCATE over a list of nodes (R258): `lo` to `hi - 1` are still in question, and each test takes the next fall. It
answers the first place whose test fails and the tests made. -/
def searchBreak (pass : Nat → Nat → Bool) : Nat → Nat → Nat → List Nat → Nat × List Nat
  | 0, lo, _, _ => (lo, [])
  | fuel + 1, lo, hi, falls =>
    if hi ≤ lo then (lo, [])
    else
      let mid := (lo + hi - 1) / 2
      let r := if pass mid (falls.headD 0) then searchBreak pass fuel (mid + 1) hi falls.tail else searchBreak pass fuel lo mid falls.tail
      (r.1, mid :: r.2)

/-- LOCATE completes (R258): each test is a frame with TEST to one node, passed when its port's voltage falls by the node's open less its
closed drops, within 20 %; BREAK_AT takes the first node whose test fails. -/
def Mach.located (c : Nat) (falls : List Nat) (m : Mach) : Mach :=
  let a := (m.chain c).awake
  let pass := fun (i v : Nat) =>
    let e := m.testFall c (a.getD i 0)
    decide (5 * ((v : Int) - e).natAbs ≤ e.natAbs)
  let r := searchBreak pass 11 0 a.length falls
  let test := fun (m : Mach) (i : Nat) =>
    let (v, m) := m.free
    let share := fun (k : Nat) =>
      let uid := (m.reg (pgSat c k) Sat.UID.off).toNat
      if k = a.getD i 0 then shareBytes uid 1 false (itemBytes [(0x11, 2 ^ m.fld (pgSat c k) Sat.POSITIONS - 1)]) else shareBytes uid 0 false []
    (m.modChain c fun b => { b with tag := v % 65536, frame := a.flatMap share ++ trailerBytes (v % 65536) }).framesSent c 1
  (r.2.foldl test m).setFld (pgMsg c) Msg.BREAK_AT (a.getD r.1 0xFFFF)

/-- Every enabled port of a chain regulates, as MAP needs (R254). -/
def Mach.mapRuns (m : Mach) (c : Nat) : Bool := (m.mapTurns c).all fun p => m.flag (pgRat p) Rat.REGULATING

/-- ENUM_COMPLETE (R259): the running operation ends with what it found; MAP and ACCEPT run with every enabled port regulating, and not
before (R254, R255). -/
def Mach.enumComplete (c : Nat) (nodes : List NodeFound) (heard : List (List Nat)) (falls : List Nat) (m : Mach) : Mach :=
  let n := pgMsg c
  let op := (m.chain c).op
  if !m.flag n Msg.ENUM_BUSY || ((op = 2 || op = 3) && !m.mapRuns c) then m
  else
    let m := (m.setFlag n Msg.ENUM_BUSY false).modChain c fun a => { a with op := 0 }
    match op with
    | 1 => m.discovered c nodes
    | 2 => m.mapped c heard
    | 3 => m.accepted c heard
    | _ => m.located c falls

/-- LINE_SHORT (R259): the driver in current limit for 1 ms. -/
def Mach.lineShort (c ms : Nat) (m : Mach) : Mach :=
  if decide (1 ≤ ms) && m.chainOn c then m.msgRaise c 16 else m

/-- POLL (R259): POLL_T ms since the node was last asked. -/
def Mach.poll (c k ms : Nat) (m : Mach) : Mach :=
  if decide (m.fld (pgMsg c) Msg.POLL_T ≤ ms) && (m.chain c).awake.contains k then
    m.modChain c fun a => { a with ask := insertUp k a.ask, due := true }
  else m

/-- A write to a satellite's SYNC becomes a CFG item of the next frame (R260). -/
def Mach.satSync (c k : Nat) (v : Nat) (m : Mach) : Mach := m.pushItem c k 0x10 (v % 2)

/-- A satellite enters SAFE (R260): its rungs are opened through the next frame. -/
def Mach.satEnterSafe (c k : Nat) (m : Mach) : Mach := (m.setSt (pgSat c k) 3).pushItem c k 5 0

/-- A satellite leaves SAFE: its MODE is its port's again. -/
def Mach.satReleased (c k : Nat) (m : Mach) : Mach :=
  let p := m.fld (pgSat c k) Sat.PORT
  m.pushItem c k 5 (if decide (p < 24) && (m.rat p).hadDim then 1 else 0)

/-- What a set source asks of a MSG unit. -/
def Mach.msgAct (c : Nat) (m : Mach) : Mach := m.msgRaise c 0

/-- A chain off: no Heave is delivered and no frame is in progress. -/
def Mach.chainOff (c : Nat) (m : Mach) : Mach :=
  if m.chainOn c then m else (m.modChain c fun a => { a with inFrame := false, runs := [], awaiting := none }).chainReady c

end Sys2Proof.Machine
end

