-- ==== Sys2Proof/Machine/Valves.lean ====
section
/-! DEFINITION. Valves, shared switches and the boost converter (09_valve_drivers.md), and a bank's class change (R156), which the boost
follows. Currents in mA, voltages in 10 mV, energies in mJ. -/

namespace Sys2Proof.Machine

/-- What a valve, and a switch, holds at reset. -/
def valveReset : ValveAux :=
  ⟨false, false, 0, false, false, false, false, false, false, 0, [], 0, 0, 0, 0, 0, 0, 0, 0, none, false, none⟩
def vhsReset : VhsAux := ⟨false, false⟩

def Mach.valve (m : Mach) (v : Nat) : ValveAux := tget m.valves valveReset v
def Mach.setValve (v : Nat) (a : ValveAux) (m : Mach) : Mach := { m with valves := tput m.valves valveReset v a }
def Mach.modValve (v : Nat) (g : ValveAux → ValveAux) (m : Mach) : Mach := m.setValve v (g (m.valve v))
def Mach.vhs (m : Mach) (k : Nat) : VhsAux := tget m.switches vhsReset k
def Mach.modVhs (k : Nat) (g : VhsAux → VhsAux) (m : Mach) : Mach := { m with switches := tput m.switches vhsReset k (g (m.vhs k)) }

/-- The other valve of the switch, and the switch (R275). -/
def partner (v : Nat) : Nat := if v % 2 = 0 then v + 1 else v - 1
def switchOf (v : Nat) : Nat := v / 2

/-- PHASE: 0 OFF, 1 WAIT, 2 PEAK, 3 HOLD, 4 PROP, 5 DECAY (R267). -/
def Mach.vPhase (m : Mach) (v : Nat) : Nat := m.fld (pgValve v) Valve.PHASE
def Mach.setPhase (v k : Nat) (m : Mach) : Mach := m.setFld (pgValve v) Valve.PHASE k

/-- In PEAK, HOLD or PROP: a driving phase. -/
def Mach.driving (m : Mach) (v : Nat) : Bool := m.vPhase v == 2 || m.vPhase v == 3 || m.vPhase v == 4

/-- Bank 3 is in the 24 V class (R263). -/
def Mach.boosted (m : Mach) : Bool := m.bankClass 3 == 0

/-! ## Switch and boost -/

/-- The switch can serve its valves: enabled, not faulted, not withheld by its junction; in SAFE it keeps serving (R264, R277, R281). -/
def Mach.switchOk (m : Mach) (k : Nat) : Bool :=
  let n := pgVhs k
  (m.unit n).enabled && (m.st n == 1 || m.st n == 2 || m.st n == 3) && !(m.vhs k).hot

/-- The mode and setpoint the valve's state asks for; mode 0 none (R264, R277, R307). A pulse valve's demand has ended after its PEAK
(R267). -/
def Mach.valveWant (m : Mach) (v : Nat) : Nat × Nat :=
  let n := pgValve v
  let a := m.valve v
  let live := (m.fld n Valve.MODE, m.fld n Valve.I_SET)
  let some_ := fun (q : Nat × Nat) => if q.1 = 1 || (q.1 = 2 && q.2 ≠ 0) then q else (0, 0)
  if !m.switchOk (switchOf v) || a.hot then (0, 0)
  else match m.st n with
    | 1 => if !(m.unit n).enabled || a.done || (m.holdOn n).off then (0, 0) else some_ live
    | 2 => if !(m.unit n).enabled || a.done || (m.holdOn n).off then (0, 0) else some_ live
    | 3 =>
      if a.safeDone then (0, 0)
      else match m.fld n Hdr.SAFE_STATE with
        | 0 => (0, 0)
        | 1 => some_ live
        | 2 => some_ (a.holdMode, a.holdSet)
        | _ => some_ (2, m.fld n Hdr.SAFE_LEVEL * 4000 / 255)
    | _ => (0, 0)

/-- The setpoint a driving valve regulates to, mA. -/
def Mach.valveSet (m : Mach) (v : Nat) : Nat :=
  let n := pgValve v
  match m.vPhase v with
  | 2 => m.fld n Valve.I_PEAK
  | 3 => m.fld n Valve.I_HOLD
  | 4 => (m.valveWant v).2
  | _ => 0

/-- What an interval of R271 must not change: the setpoint of HOLD or PROP and the rail. -/
def Mach.coilSteady (m : Mach) (v : Nat) : Option (Nat × Bool) :=
  if m.vPhase v = 3 || m.vPhase v = 4 then some (m.valveSet v, m.flag (pgVhs (switchOf v)) Vhs.RAIL) else none

/-- The interval of R271 that runs is spoiled once the setpoint, the phase or the rail changes in it. -/
def Mach.coilWatch (v : Nat) (m : Mach) : Mach :=
  let q := m.coilSteady v
  if q = (m.valve v).steady then m else m.modValve v fun a => { a with steady := q, touched := true }

/-- The BANK3 rail, 10 mV (R263). -/
def Mach.rail3 (m : Mach) : Nat := m.rail 3

/-- I_HS and V_HS of a switch (R281): its driving valves' coil currents, and the rail it conducts. -/
def Mach.vhsRead (k : Nat) (m : Mach) : Mach :=
  let n := pgVhs k
  let cur (v : Nat) : Nat := if m.driving v then m.fld (pgValve v) Valve.I_COIL else 0
  (m.setSat n Vhs.I_HS (cur (2 * k) + cur (2 * k + 1))).setSat n Vhs.V_HS
    (if m.flag n Vhs.ON then (if m.flag n Vhs.RAIL then m.fld pgBoost Boost.V_C else m.rail3) else 0)

/-- STATUS of a switch: on while a valve drives, the rail choice, the PEAK owner (R263, R275, R281), and its readings. -/
def Mach.vhsShow (k : Nat) (m : Mach) : Mach :=
  let n := pgVhs k
  let a := 2 * k
  let b := a + 1
  let on := m.driving a || m.driving b
  let peakA := m.vPhase a == 2
  let peak := peakA || m.vPhase b == 2
  let up := ((m.valve a).railUp && m.driving a) || ((m.valve b).railUp && m.driving b)
  let rail := m.boosted && m.flag pgBoost Boost.READY && (peak || up)
  let m := ((m.setFlag n Vhs.ON on).setFlag n Vhs.PEAK peak).setFlag n Vhs.RAIL (on && rail)
  let m := if peak then m.setFlag n Vhs.OWNER (!peakA) else m
  let m := (m.setFlag n Vhs.RAIL_UP (up && rail)).setFlag n Vhs.DUTY_WAIT (m.vhs k).dutyHold
  (((m.settle n on).coilWatch a).coilWatch b).vhsRead k

/-- The boost converter may run. -/
def Mach.boostOk (m : Mach) : Bool :=
  (m.unit pgBoost).enabled && (m.st pgBoost == 1 || m.st pgBoost == 2 || m.st pgBoost == 3) && !m.boostHot

/-- BYPASS, BOOSTING, READY and the state of BOOST (R263, R282). Bypassed, the capacitor sits on the rail and nothing is recovered; a
converter that stands still draws nothing. -/
def Mach.boostSettle (m : Mach) : Mach :=
  let n := pgBoost
  let by_ := !m.boosted
  let m := if by_ then ((m.setSat n Boost.V_C m.rail3).setFlag n Boost.RECOVERING false).setFlag n Boost.CLAMP false else m
  let fwd := !by_ && m.boostOk
  let near := decide (((m.fld n Boost.V_C : Int) - 10 * m.fld n Boost.V_SET).natAbs ≤ 200)
  let m := ((m.setFlag n Boost.BYPASS by_).setFlag n Boost.BOOSTING fwd).setFlag n Boost.READY (by_ || (fwd && near))
  let m := if fwd || m.flag n Boost.RECOVERING then m else m.setFld n Boost.I_IN 0
  let m := m.settle n (fwd || (by_ && (m.unit n).enabled && decide (m.fld (pgBank 3) Bank.LOSS_V ≤ m.rail3)))
  (List.range 4).foldl (fun m k => m.vhsShow k) m

/-- E_REC counts `mj` mJ returned to the rail (R270): in joules, wrapping, the part below one joule kept. -/
def Mach.recovered (mj : Nat) (m : Mach) : Mach :=
  let q := m.recMj + mj
  { m.setReg pgBoost Boost.E_REC.off (m.reg pgBoost Boost.E_REC.off + BitVec.ofNat 32 (q / 1000)) with recMj := q % 1000 }

/-- The energy of the 220 µF capacitor at `v` × 10 mV, mJ (R261). -/
def capEnergy (v : Nat) : Nat := 11 * v * v / 1000000

/-- BOOST returns its capacitor's charge to the rail: at a change of bank 3's class, and at COMMIT (R156, R278). -/
def Mach.boostReturn (m : Mach) : Mach :=
  let v := m.fld pgBoost Boost.V_C
  (((m.setFld pgBoost Boost.V_C 0).setFlag pgBoost Boost.RECOVERING false).setFlag pgBoost Boost.CLAMP false).recovered (capEnergy v)

/-- The boost takes bank 3's new class (R156, R263): leaving the 24 V class, the charge goes back first. -/
def Mach.boostRemode (was : Nat) (m : Mach) : Mach := (if was = 0 then m.boostReturn else m).boostSettle

/-- The capacitor reads `v` (R282). -/
def Mach.boostVc (v : Nat) (m : Mach) : Mach := (m.setSat pgBoost Boost.V_C v).boostSettle

/-- The capacitor and the converter current read, 10 mV and 10 mA (R282). -/
def Mach.boostRead (v : Nat) (i : Int) (m : Mach) : Mach := (m.setSFld pgBoost Boost.I_IN i).boostVc v

/-! ## Duty and energy windows (R273, R274) -/

/-- On-time, µs, and PEAK energy, mJ, over the last `win` seconds of a valve's bins. -/
def Mach.winOn (m : Mach) (v win : Nat) : Nat := ((m.valve v).bins.take (100 * win)).foldl (fun a b => a + b.1) 0
def Mach.winPk (m : Mach) (v win : Nat) : Nat :=
  ((m.valve v).bins.take (100 * win)).foldl (fun a b => a + b.2) 0

/-- Duty of a window in 0.1 %. -/
def dutyOf (us win : Nat) : Nat := us / (1000 * max 1 win)

/-- The windows' readings of a switch and its valves. -/
def Mach.showDuty (k : Nat) (m : Mach) : Mach :=
  let a := 2 * k
  let b := a + 1
  let one := fun (v : Nat) (m : Mach) =>
    let w := m.fld (pgValve v) Valve.WIN
    (m.setFld (pgValve v) Valve.DUTY_NOW (min 1000 (dutyOf (m.winOn v w) w))).setFld (pgValve v) Valve.PK_NOW
      (min 65535 (m.winPk v w / 10))
  let m := one b (one a m)
  let w := m.fld (pgVhs k) Vhs.WIN
  (m.setFld (pgVhs k) Vhs.DUTY_NOW (min 2000 (dutyOf (m.winOn a w) w + dutyOf (m.winOn b w) w))).setFld (pgVhs k) Vhs.PK_NOW
    (min 65535 ((m.winPk a w + m.winPk b w) / 10))

/-- A PEAK would take the valve past its cap, or its switch past its own (R274). -/
def Mach.capValve (m : Mach) (v : Nat) : Bool :=
  let n := pgValve v
  decide (10 * m.fld n Valve.PK_CAP < m.winPk v (m.fld n Valve.WIN) + m.fld n Valve.PK_LAST)
def Mach.capSwitch (m : Mach) (v : Nat) : Bool :=
  let n := pgVhs (switchOf v)
  let w := m.fld n Vhs.WIN
  decide (10 * m.fld n Vhs.PK_CAP < m.winPk v w + m.winPk (partner v) w + m.fld (pgValve v) Valve.PK_LAST)

/-! ## Phases (R264 to R268, R275) -/

/-- A PEAK has ended with none detected: NO_PULLIN and its count (R265). -/
def Mach.pullMissed (v : Nat) (m : Mach) : Mach :=
  let n := pgValve v
  if m.flag n Valve.PI_DET && !m.flag n Valve.PULLED then (m.incSat n Valve.NO_PULLS).raise n 2 else m

/-- A phase that regulates begins; the dither starts at phase 0 with the live frequency (R266, R267). -/
def Mach.toProp (v : Nat) (m : Mach) : Mach :=
  (m.setPhase v 4).modValve v fun a => { a with dPhase := 0, dFreq := m.fld (pgValve v) Valve.F_DITH }

/-- The low-side opens and the coil decays along the path of R268; a turn-off in PEAK ends that PEAK (R265). -/
def Mach.valveOff (v : Nat) (m : Mach) : Mach :=
  let n := pgValve v
  let cut := m.vPhase v == 2
  let m := if cut then m.pullMissed v else m
  let q := partner v
  let path :=
    if m.boosted then
      if !m.driving q then 1
      else if (m.vPhase q == 3 || m.vPhase q == 4) && !m.flag (pgVhs (switchOf v)) Vhs.RAIL then 2 else 3
    else if !m.driving q then 4 else 5
  let m := (m.setPhase v 5).setFlag n Valve.CLAMPING (path == 3 || path == 5)
  m.modValve v fun a => { a with path := path, railUp := false, peakCut := cut || a.peakCut }

/-- Two valves of one switch that turn off in one page clock leave the switch off: each decays along the first or fourth path (R268,
R277). -/
def Mach.bothOff (before : Mach) (m : Mach) : Mach :=
  (List.range 4).foldl (fun (m : Mach) (k : Nat) =>
    let v := 2 * k
    let w := v + 1
    if before.driving v && before.driving w && m.vPhase v == 5 && m.vPhase w == 5 then
      let one (x : Nat) (m : Mach) : Mach :=
        (m.setFlag (pgValve x) Valve.CLAMPING false).modValve x fun a => { a with path := if m.boosted then 1 else 4 }
      one w (one v m)
    else m) m

/-- A valve with demand and no phase, or waiting, starts or waits (R267, R274, R275); a DEFER hold starts no PEAK (R307). -/
def Mach.valveStart (v mode : Nat) (m : Mach) : Mach :=
  let n := pgValve v
  let from_ := m.vPhase v
  let held := (m.valve v).dutyHold
  let pulls := m.fld n Valve.T_PEAK ≠ 0
  let capV := pulls && m.capValve v
  let capS := pulls && m.capSwitch v
  let waits := pulls && m.vPhase (partner v) == 2
  let limited := held || capV || capS
  if !held && !pulls then (if mode = 1 then m.setPhase v 3 else m.toProp v).setFlag n Valve.DUTY_WAIT false
  else if !limited && m.running n && (m.holdOn n).defer then m
  else if limited || waits then
    let m := if waits && !(from_ = 1 && m.flag n Valve.OVERLAP_DELAYED) then
        (m.incSat n Valve.OVL_DELAYS).setFlag n Valve.OVERLAP_DELAYED true else m
    let m := if capV && !m.src n 5 then m.raise n 5 else m
    let m := if capS && !m.src (pgVhs (switchOf v)) 3 then m.raise (pgVhs (switchOf v)) 3 else m
    (m.setPhase v 1).setFlag n Valve.DUTY_WAIT limited
  else
    let m := if from_ = 1 then m else m.setFlag n Valve.OVERLAP_DELAYED false
    let m := ((m.setPhase v 2).setFlag n Valve.DUTY_WAIT false).setFlag n Valve.PULLED false
    m.modValve v fun a => { a with pullAt := 0, peakCut := false }

/-- One valve follows what its state asks for (R267). -/
def Mach.valveStep (v : Nat) (m : Mach) : Mach :=
  let n := pgValve v
  let mode := (m.valveWant v).1
  let m := match m.vPhase v with
    | 0 => if mode = 0 then m else m.valveStart v mode
    | 1 => if mode = 0 then m.setPhase v 0 else m.valveStart v mode
    | 2 => if mode = 0 then m.valveOff v else m
    | 3 => if mode = 0 then m.valveOff v else if mode = 2 then m.toProp v else m
    | 4 => if mode = 0 then m.valveOff v else if mode = 1 then m.setPhase v 3 else m
    | _ => m
  m.settle n (m.vPhase v != 0)

/-- Both valves of the switch follow, the one named first, then the even one's precedence shows in the partner's wait (R275). -/
def Mach.valveSettle (v : Nat) (m : Mach) : Mach := ((m.valveStep v).valveStep (partner v)).vhsShow (switchOf v)

/-- Class part of APPLY: a pulse valve has demand again. -/
def Mach.valveApplied (v : Nat) (m : Mach) : Mach := (m.modValve v fun a => { a with done := false }).valveSettle v

/-- DISABLE of a valve or of its switch ends the demand, so that a pulse valve has demand again at the next ENABLE (R264, R267). -/
def Mach.valveStopped (v : Nat) (m : Mach) : Mach := (m.modValve v fun a => { a with done := false }).valveSettle v

/-- A valve enters SAFE (R277): the present mode, setpoint and dither are kept for HOLD. -/
def Mach.valveEnterSafe (v : Nat) (snub : Bool) (m : Mach) : Mach :=
  let n := pgValve v
  let q := m.valveWant v
  let on := m.driving v || m.vPhase v == 1
  let m := m.modValve v fun a => { a with holdMode := if on then q.1 else 0, holdSet := q.2, holdAmp := m.fld n Valve.A_DITH, safeDone := false }
  let m := m.setSt n 3
  (if snub then m.setFlag n Valve.SNUBBED true else m.setFlag n Valve.SLACK_74 true).valveSettle v

/-- A valve leaves SAFE or FAULTED. -/
def Mach.valveReleased (v : Nat) (m : Mach) : Mach :=
  (m.setFlag (pgValve v) Valve.SNUBBED false).setFlag (pgValve v) Valve.SLACK_74 false

/-- Class part of CLEAR_FAULTS: the counters return to 0. -/
def Mach.valveCleared (v : Nat) (m : Mach) : Mach := (m.setReg (pgValve v) 0x078 0).setReg (pgValve v) 0x07C 0

/-- Sources set in a valve, then the valve follows its state. -/
def Mach.valveRaise (v s : Nat) (m : Mach) : Mach := (m.raise (pgValve v) s).valveSettle v

/-- PEAK_END (R265): at T_PEAK, or PI_EXT after pull-in; `mj` is the energy of the PEAK, recorded also of one that a turn-off ended. -/
def Mach.peakEnd (v ms mj : Nat) (m : Mach) : Mach :=
  let n := pgValve v
  let a := m.valve v
  let pulled := m.flag n Valve.PULLED
  if m.vPhase v = 2 && (decide (m.fld n Valve.T_PEAK ≤ ms) || (pulled && decide (a.pullAt + 100 * m.fld n Valve.PI_EXT ≤ 100 * ms))) then
    let m := (m.setSat n Valve.PK_LAST mj).pullMissed v
    let mode := (m.valveWant v).1
    let m := if mode = 2 then m.toProp v
      else if mode = 1 && m.flag n Valve.I_HOLD then m.setPhase v 3
      else
        let safe := m.st n == 3
        let m := m.modValve v fun a => { a with done := a.done || !safe, safeDone := a.safeDone || safe }
        let m := m.setPhase v 3
        m.valveOff v
    m.valveSettle v
  else if a.peakCut && m.vPhase v ≠ 2 then (m.setSat n Valve.PK_LAST mj).modValve v fun a => { a with peakCut := false }
  else m

/-- PULL_IN (R265): `t` × 10 µs after the start of PEAK the coil current has fallen to `cur` from its running maximum `top`, both in mA,
while it was still rising towards I_PEAK. -/
def Mach.pullIn (v t top cur : Nat) (m : Mach) : Mach :=
  let n := pgValve v
  let m := m.setSat n Valve.I_COIL cur
  if m.vPhase v = 2 && m.flag n Valve.PI_DET && !m.flag n Valve.PULLED && decide (top < m.fld n Valve.I_PEAK)
      && decide (cur + 10 * m.fld n Valve.PI_DIP ≤ top) then
    let m := ((m.setSat n Valve.T_PULL t).setFlag n Valve.PULLED true).incSat n Valve.PULLINS
    m.modValve v fun a => { a with pullAt := t }
  else m

/-- VALVE_TURN_OFF (R268): the low-side of a driving valve opens. -/
def Mach.valveTurnOff (v : Nat) (m : Mach) : Mach :=
  if m.driving v then ((m.valveOff v).valveStep (partner v)).vhsShow (switchOf v) else m

/-- DECAY_END (R267): the coil current is below 10 mA. -/
def Mach.decayEnd (v i : Nat) (m : Mach) : Mach :=
  if m.vPhase v = 5 && decide (i < 10) then
    let m := (m.setPhase v 0).setFlag (pgValve v) Valve.CLAMPING false
    (m.modValve v fun a => { a with path := 0 }).valveSettle v
  else m

/-- RAIL_UP (R263): a duty of 100 %, here in 0.1 %, and more than 5 % below setpoint for 10 ms on the bank rail. -/
def Mach.railUp (v duty i ms : Nat) (m : Mach) : Mach :=
  let k := switchOf v
  let m := m.setSat (pgValve v) Valve.I_COIL i
  if m.boosted && m.flag pgBoost Boost.READY && (m.vPhase v == 3 || m.vPhase v == 4) && !m.flag (pgVhs k) Vhs.RAIL
      && decide (1000 ≤ duty) && decide (100 * i < 95 * m.valveSet v) && decide (10 ≤ ms) then
    (m.modValve v fun a => { a with railUp := true }).vhsShow k
  else m

/-- RECOVERING (R270): charge above V_SET + 2 V returns to the rail until V_SET + 1 V; `mj` mJ have gone back since the last reading. -/
def Mach.recovering (vc : Nat) (i : Int) (mj : Nat) (m : Mach) : Mach :=
  let n := pgBoost
  let was := m.boosted && m.flag n Boost.RECOVERING
  let set_ := 10 * m.fld n Boost.V_SET
  let m := if was then m.recovered mj else m
  let m := m.setFlag n Boost.RECOVERING
    (m.boosted && (decide (set_ + 200 < vc) || (was && decide (set_ + 100 < vc))))
  m.boostRead vc i

/-- BOOST_OV (R270): the clamp holds V_C at 65 V. -/
def Mach.boostOv (vc : Nat) (m : Mach) : Mach :=
  let m := m.boostVc vc
  if m.boosted && decide (6500 < vc) then (m.setFlag pgBoost Boost.CLAMP true).raise pgBoost 0 else m.setFlag pgBoost Boost.CLAMP false

/-- A PEAK runs somewhere in the block. -/
def Mach.anyPeak (m : Mach) : Bool := (List.range 8).any fun v => m.vPhase v == 2

/-- BOOST_UV (R270). -/
def Mach.boostUv (vc ms : Nat) (m : Mach) : Mach :=
  let m := m.boostVc vc
  if m.boosted && m.anyPeak && decide (vc + 600 < 10 * m.fld pgBoost Boost.V_SET) && decide (10 ≤ ms) then m.raise pgBoost 1 else m

/-- BOOST_FAULT (R282): V_C has not reached READY within 20 ms of ENABLE. -/
def Mach.boostFault (vc ms : Nat) (m : Mach) : Mach :=
  let m := m.boostVc vc
  if m.boosted && m.boostOk && !m.flag pgBoost Boost.READY && decide (20 ≤ ms) then (m.raise pgBoost 3).boostSettle else m

/-- T_COIL in 0.1 °C (R271); the spec states no rounding, so a value between two steps takes one of them freely. -/
def coilTemp (rest rref : Nat) : Int :=
  let num : Int := ((rest : Int) - rref) * 1000000
  let den : Int := 393 * max 1 rref
  200 + num / den + (if num % den ≠ 0 && Config.coilRound rest rref then 1 else 0)

/-- T_COIL follows R_EST; COIL_HOT with 5 °C hysteresis (R272). -/
def Mach.coilShow (v : Nat) (m : Mach) : Mach :=
  let n := pgValve v
  let t := coilTemp (m.fld n Valve.R_EST) (m.fld n Valve.R_REF)
  let m := m.setSFld n Valve.T_COIL (max (-32768) (min t 32767))
  let h : Int := 10 * m.fld n Valve.T_HOT
  if !(m.valve v).warm && decide (h < t) then (m.modValve v fun a => { a with warm := true }).raise n 3
  else if decide (t < h - 50) then m.modValve v fun a => { a with warm := false }
  else m

/-- The means of 100 ms are shown, and the next interval starts (R271, R279). -/
def Mach.coilMeasured (v : Nat) (vm : Int) (im : Nat) (m : Mach) : Mach :=
  let n := pgValve v
  (((m.setSat n Valve.I_COIL im).setSFld n Valve.V_COIL vm).vhsRead (switchOf v)).modValve v fun a => { a with touched := false }

/-- R_EST after R_m = `vm` / `im`, before its bounds (R271). -/
def Mach.coilEstimate (m : Mach) (v : Nat) (vm : Int) (im : Nat) : Int :=
  let old := m.fld (pgValve v) Valve.R_EST
  (old : Int) + Int.tdiv (1000 * vm - old * im) (im * 2 ^ m.fld (pgValve v) Valve.RTAU)

/-- R_EST takes an estimate within its bounds; one outside them sets the source (R271). -/
def Mach.coilTake (v : Nat) (x : Int) (m : Mach) : Mach :=
  let n := pgValve v
  let old := m.fld n Valve.R_EST
  let lo := m.fld n Valve.R_MIN
  let hi := m.fld n Valve.R_MAX
  let new := (max (lo : Int) (min x hi)).toNat
  let out := decide (x < lo) || decide ((hi : Int) < x)
  let m := ((m.setFld n Valve.R_EST new).adapt 5 n 0 old new).modValve v fun a => { a with bound := out }
  if out then m.raise n 6 else m

/-- COIL_RESISTANCE_UPDATE (R271): at the end of each 100 ms, the mean voltage, 10 mV, and current, mA. R_m = V / I counts for an interval
spent wholly in HOLD or PROP with nothing changed. -/
def Mach.coilUpdate (v : Nat) (vm : Int) (im : Nat) (m : Mach) : Mach :=
  let ok := (m.coilSteady v).isSome && !(m.valve v).touched && decide (100 ≤ im)
  let m := m.coilMeasured v vm im
  if ok then (if m.isFrozen (pgValve v) then m else m.coilTake v (m.coilEstimate v vm im)).coilShow v else m

/-- The regulator starts a setpoint step at the duty i_ref × R_EST / V_HS, here in 0.1 %, at most 100 % (R266). -/
def Mach.feedForward (m : Mach) (v i : Nat) : Nat :=
  let r := m.fld (pgVhs (switchOf v)) Vhs.V_HS
  if r = 0 then 1000 else min 1000 (i * m.fld (pgValve v) Valve.R_EST / r)

/-- i_ref of PROP (R266) at the dither phase `p`/20,000, with amplitude `a` in 0.1 %. -/
def ditherRef (iset a p : Nat) : Nat :=
  let tri : Int := if p < 10000 then 4 * p - 20000 else 60000 - 4 * p
  (max 0 (min ((iset : Int) + Int.fdiv ((iset : Int) * a * tri) 20000000) 4000)).toNat

/-- One regulator period of 50 µs of a valve (R266): its reference, and the dither's next phase; a new F_DITH waits for phase 0. -/
def Mach.valvePeriod (v : Nat) (m : Mach) : Mach :=
  if !m.driving v then m
  else
    let n := pgValve v
    let a := m.valve v
    let set_ := m.valveSet v
    let kept := m.st n == 3 && m.fld n Hdr.SAFE_STATE == 2
    let amp := if kept then a.holdAmp else m.fld n Valve.A_DITH
    let ref := if m.vPhase v = 4 then ditherRef set_ amp a.dPhase else set_
    let p := a.dPhase + a.dFreq
    let a := { a with iRef := ref, lastSet := set_, duty := if set_ = a.lastSet then a.duty else m.feedForward v ref }
    m.setValve v (if m.vPhase v ≠ 4 then a
      else if p < 20000 then { a with dPhase := p }
      else { a with dPhase := p - 20000, dFreq := if kept then a.dFreq else m.fld n Valve.F_DITH })

/-- The regulators' periods over one page clock: 3,200 page clocks each (R261, R266). -/
def Mach.regulatorsOn (m : Mach) : Mach :=
  if m.regClk + 1 < 3200 then { m with regClk := m.regClk + 1 }
  else (List.range 8).foldl (fun (m : Mach) (v : Nat) => m.valvePeriod v) { m with regClk := 0 }

/-- New bounds of R_EST clamp it (R320). -/
def Mach.coilBounds (v : Nat) (m : Mach) : Mach :=
  let n := pgValve v
  let old := m.fld n Valve.R_EST
  let new := max (m.fld n Valve.R_MIN) (min old (m.fld n Valve.R_MAX))
  if new = old then m else ((m.setFld n Valve.R_EST new).adapt 5 n 0 old new).coilShow v

/-- OPEN_COIL (R272): a duty of 100 % on the highest rail with less than half the setpoint for 10 ms, or R_m = `vm` / `im` above 4 × R_MAX
for 1 s. -/
def Mach.openCoil (v duty i ms vm im rmMs : Nat) (m : Mach) : Mach :=
  let n := pgValve v
  let m := m.setSat n Valve.I_COIL i
  let top := if m.boosted then m.flag (pgVhs (switchOf v)) Vhs.RAIL else true
  if m.driving v && ((decide (1000 ≤ duty) && top && decide (2 * i < m.valveSet v) && decide (10 ≤ ms))
      || (decide (100 ≤ im) && decide (4 * m.fld n Valve.R_MAX * im < 1000 * vm) && decide (1000 ≤ rmMs))) then m.valveRaise v 1 else m

/-- REG_FAULT of a valve (R272): more than 20 % from setpoint for 100 ms with no other source set. -/
def Mach.valveRegFault (v i ms : Nat) (m : Mach) : Mach :=
  let n := pgValve v
  let m := m.setSat n Valve.I_COIL i
  let s := m.valveSet v
  if m.driving v && m.reg n 0x018 == 0 && decide (s < 5 * ((i : Int) - s).natAbs) && decide (100 ≤ ms) then m.valveRaise v 9 else m

/-- The valve's limit stands withheld until every duty is 10 points below its limit (R274). -/
def Mach.dutyFree (m : Mach) (v : Nat) : Bool :=
  let n := pgValve v
  let k := pgVhs (switchOf v)
  let low := fun (now max_ top : Nat) => max_ == top || decide (now ≤ 10 * max_ - 100)
  low (m.fld n Valve.DUTY_NOW) (m.fld n Valve.DUTY_MAX) 100 && low (m.fld k Vhs.DUTY_NOW) (m.fld k Vhs.DUTY_MAX) 200

/-- A bin joins a valve's windows, which hold 60 s (R273). -/
def Mach.binPush (v us mj : Nat) (m : Mach) : Mach :=
  m.modValve v fun q => { q with bins := ((min us 10000, mj) :: q.bins).take 6000 }

/-- A driving valve that has reached its own duty limit turns off (R274). -/
def Mach.dutyHit (v : Nat) (m : Mach) : Mach :=
  let n := pgValve v
  if m.driving v && decide (m.fld n Valve.DUTY_MAX < 100) && decide (10 * m.fld n Valve.DUTY_MAX ≤ m.fld n Valve.DUTY_NOW) then
    (((m.modValve v fun q => { q with dutyHold := true }).raise n 4).incSat n Valve.DUTY_HITS).valveOff v
  else m

/-- A driving valve turns off with its switch's duty limit (R274). -/
def Mach.dutyCut (v : Nat) (m : Mach) : Mach :=
  if m.driving v then (m.modValve v fun q => { q with dutyHold := true }).valveOff v else m

/-- A switch that has reached its duty limit turns its valves off (R274). -/
def Mach.vhsHit (k : Nat) (m : Mach) : Mach :=
  let n := pgVhs k
  if decide (m.fld n Vhs.DUTY_MAX < 200) && decide (10 * m.fld n Vhs.DUTY_MAX ≤ m.fld n Vhs.DUTY_NOW)
      && (m.driving (2 * k) || m.driving (2 * k + 1)) then
    ((((m.dutyCut (2 * k)).dutyCut (2 * k + 1)).modVhs k fun q => { q with dutyHold := true })).raise n 2
  else m

/-- A valve's withheld demand returns below its limits, and a switch's (R274). -/
def Mach.dutyReturn (v : Nat) (m : Mach) : Mach :=
  if (m.valve v).dutyHold && m.dutyFree v then m.modValve v fun q => { q with dutyHold := false } else m
def Mach.vhsReturn (k : Nat) (m : Mach) : Mach :=
  let n := pgVhs k
  if (m.vhs k).dutyHold && decide (m.fld n Vhs.DUTY_NOW ≤ 10 * m.fld n Vhs.DUTY_MAX - 100) then
    m.modVhs k fun q => { q with dutyHold := false }
  else m

/-- DUTY_BIN (R273, R274): one 10 ms bin of a switch's valves ends with `a` and `b` µs in a driving phase and `ea` and `eb` mJ of PEAK;
limits act, then release. -/
def Mach.dutyBin (k a b ea eb : Nat) (m : Mach) : Mach :=
  let v := 2 * k
  let w := v + 1
  let m := ((m.binPush v a ea).binPush w b eb).showDuty k
  let m := (((m.dutyHit v).dutyHit w).vhsHit k)
  (((m.dutyReturn v).dutyReturn w).vhsReturn k).valveSettle v

/-- VHS_STUCK (R281): the switch conducts while commanded off for 1 ms. -/
def Mach.vhsStuck (k ms : Nat) (m : Mach) : Mach :=
  if !m.flag (pgVhs k) Vhs.ON && decide (1 ≤ ms) then (m.raise (pgVhs k) 4).valveSettle (2 * k) else m

/-- SHORT_CIRCUIT of a valve's low-side, 6 A, and of a switch, 12 A (R261). -/
def Mach.valveShort (v i : Nat) (m : Mach) : Mach := if 6000 < i then m.valveRaise v 0 else m
def Mach.vhsShort (k i : Nat) (m : Mach) : Mach :=
  let m := m.setSat (pgVhs k) Vhs.I_HS i
  if 12000 < i then (m.raise (pgVhs k) 0).valveSettle (2 * k) else m

/-- THERMAL of a valve, a switch and the boost (R280, R281, R282): off at 170 °C until below 150 °C. -/
def Mach.valveThermal (v : Nat) (tj : Int) (m : Mach) : Mach :=
  let m := m.setSFld (pgValve v) Valve.TJ tj
  if decide (1700 ≤ tj) then (m.modValve v fun a => { a with hot := true }).valveRaise v 7
  else if decide (tj < 1500) then (m.modValve v fun a => { a with hot := false }).valveSettle v
  else m
def Mach.vhsThermal (k : Nat) (tj : Int) (m : Mach) : Mach :=
  let m := m.setSFld (pgVhs k) Vhs.TJ tj
  if decide (1700 ≤ tj) then ((m.modVhs k fun a => { a with hot := true }).raise (pgVhs k) 1).valveSettle (2 * k)
  else if decide (tj < 1500) then (m.modVhs k fun a => { a with hot := false }).valveSettle (2 * k)
  else m
def Mach.boostThermal (tj : Int) (m : Mach) : Mach :=
  let m := m.setSFld pgBoost Boost.TJ tj
  if decide (1700 ≤ tj) then ({ m with boostHot := true }.raise pgBoost 2).boostSettle
  else if decide (tj < 1500) then { m with boostHot := false }.boostSettle
  else m

/-- A clamp event of a valve (R269): above 400 mJ sets CLAMP. -/
def Mach.valveClamp (v mj : Nat) (m : Mach) : Mach := if 400 < mj then m.valveRaise v 10 else m

/-- What a set source asks of a valve and of a switch (R280, R281). -/
def Mach.valveAct (v s : Nat) (m : Mach) : Mach :=
  match s with
  | 4 => ((if m.driving v then (m.modValve v fun a => { a with dutyHold := true }).valveOff v else m)).valveSettle v
  | 7 => (m.modValve v fun a => { a with hot := true }).valveSettle v
  | _ => m.valveSettle v
def Mach.vhsAct (k s : Nat) (m : Mach) : Mach :=
  (if s = 1 then m.modVhs k fun a => { a with hot := true } else m).valveSettle (2 * k)

/-- R_EST goes to MRAM (R271), and comes back at a start. -/
def Mach.coilStore (v : Nat) (m : Mach) : Mach :=
  let r := m.fld (pgValve v) Valve.R_EST
  m.modValve v fun a => { a with rStored := some r }
def Mach.coilRestore (v : Nat) (m : Mach) : Mach :=
  let n := pgValve v
  (m.setFld n Valve.R_EST (((m.valve v).rStored).getD (m.fld n Valve.R_REF))).coilShow v

/-- With nothing in MRAM, R_EST starts at the R_REF the configuration gives, within its bounds (R271, R279). -/
def Mach.coilFresh (v : Nat) (m : Mach) : Mach :=
  let n := pgValve v
  if (m.valve v).rStored.isSome then m
  else (m.setFld n Valve.R_EST (max (m.fld n Valve.R_MIN) (min (m.fld n Valve.R_REF) (m.fld n Valve.R_MAX)))).coilShow v

/-- BANK_CLASS_WRITE (R156): the CFG word `w` of bank `k`, its CLASS code already found admitted. -/
def Mach.bankCfg (k : Nat) (w : Word) (m : Mach) : Mach :=
  let n := pgBank k
  let cls := Bank.CLASS.of w
  if cls = m.bankClass k then (m.setReg n 0x040 (w &&& 0x33#32)).feedsDeclared k
  else if m.bankClassOk k cls then
    let was := m.bankClass k
    let (l, s, o) := bankDefaults cls
    let m := (m.setReg n 0x040 (w &&& 0x33#32)).feedsDeclared k
    let m := ((m.setFld n Bank.LOSS_V l).setFld n Bank.SAG_V s).setFld n Bank.OV_V o
    let m := ((List.range 128).filter fun c => bankOf (pgOut c) == k).foldl (fun (m : Mach) (c : Nat) => m.showLed c) (m.bankSettle k)
    if k = 3 then m.boostRemode was else m
  else m.refuse n 0x040 3

/-- A bank's rail has moved: BOOST follows bank 3 (R282). -/
def Mach.bankAfter (k : Nat) (m : Mach) : Mach := if k = 3 then m.boostSettle else m

end Sys2Proof.Machine
end

