-- ==== Sys2Proof/Machine/Inputs.lean ====
section
/-! DEFINITION. Field inputs and touch channels (10_inputs_and_touch.md). Currents in 10 µA, capacitances in 0.01 pF. -/

namespace Sys2Proof.Machine

/-- What an input, and a touch channel, holds at reset. -/
def inReset : InAux := ⟨4, 0, 4, false, 0, 0, false, 0, false, 0, false, 0, false, false, 0, 0, none⟩
def touchReset : TouchAux := ⟨true, 0, 0, 0, 0, 0⟩

def Mach.inp (m : Mach) (i : Nat) : InAux := tget m.ins inReset i
def Mach.setInp (i : Nat) (a : InAux) (m : Mach) : Mach := { m with ins := tput m.ins inReset i a }
def Mach.modInp (i : Nat) (g : InAux → InAux) (m : Mach) : Mach := m.setInp i (g (m.inp i))
def Mach.touch (m : Mach) (t : Nat) : TouchAux := tget m.touches touchReset t
def Mach.modTouch (t : Nat) (g : TouchAux → TouchAux) (m : Mach) : Mach :=
  { m with touches := tput m.touches touchReset t (g (m.touch t)) }

/-- The band of a window (R285): 0 BROKEN, 1 OPEN, 2 CLOSED, 3 SHORT, 4 INDET. `lim`: the sink is in limit. -/
def bandOf (network : Bool) (i : Nat) (lim : Bool) : Nat :=
  if network then
    if lim || 1800 ≤ i then 3
    else if i < 30 then 0
    else if 40 ≤ i && i ≤ 200 then 1
    else if 500 ≤ i && i ≤ 1600 then 2
    else 4
  else if i < 150 then 1
  else if 250 ≤ i then 2
  else 4

/-- An event of an input: its counter, LAST_EDGE, and the interrupt where enabled (R301). -/
def Mach.inEvent (i : Nat) (cnt irq : Fld) (m : Mach) : Mach :=
  let n := pgIn i
  let m := (m.incWrap n cnt).setReg n Inp.LAST_EDGE.off (BitVec.ofNat 32 m.rk)
  if m.flag n irq then m.irq (m.fld n Inp.CORE) (m.fld n Inp.VECTOR) else m

/-- The logical state becomes `b`; a change posts PRESS or RELEASE (R301). -/
def Mach.inActive (i : Nat) (b : Bool) (m : Mach) : Mach :=
  let n := pgIn i
  if m.flag n Inp.ACTIVE == b then m
  else
    let m := (m.setFlag n Inp.ACTIVE b).modInp i fun a => { a with longDone := false, activeAt := m.rk }
    if b then m.inEvent i Inp.PRESSES Inp.IRQ_PRESS else m.inEvent i Inp.RELEASES Inp.IRQ_REL

/-- ACTIVE while enabled (R291). -/
def Mach.inSettle (i : Nat) (m : Mach) : Mach := m.settle (pgIn i) (m.unit (pgIn i)).enabled

/-- DISABLE ends what runs: the debounce count, the closing attempt and the cleaning train (R287, R288, R289). -/
def Mach.inStopped (i : Nat) (m : Mach) : Mach :=
  let n := pgIn i
  let m := m.modInp i fun a => { a with count := 0, attempt := false, train := false, recheck := false, bad := 0 }
  ((m.setFlag n Inp.COUNTING false).setFlag n Inp.CLEANING false).inSettle i

/-- LONG at a decision (R302): the first after a wake that finds the input active posts a LONG whose time has passed meanwhile. -/
def Mach.longLate (i : Nat) (m : Mach) : Mach :=
  let n := pgIn i
  let a := m.inp i
  if m.flag n Inp.ACTIVE && m.flag n Inp.LONG_T && !a.longDone && decide (m.fld n Inp.LONG_T * 32768 ≤ (m.rk - a.activeAt) * 1000) then
    (m.modInp i fun a => { a with longDone := true }).inEvent i Inp.LONGS Inp.IRQ_LONG
  else m

/-- The class fault action: the logical state goes to FAIL_STATE, and a cleaning train ends (R286, R288, R293). -/
def Mach.inFail (i : Nat) (m : Mach) : Mach :=
  let n := pgIn i
  let m := (m.setFlag n Inp.FAILED true).modInp i fun a => { a with train := false, count := 0 }
  let m := m.setFlag n Inp.COUNTING false
  match m.fld n Inp.FAIL_STATE with
  | 0 => m.inActive i false
  | 1 => m.inActive i true
  | _ => m

/-- CT_NOW adapts to the chatter `c` of a closing (R289). -/
def Mach.ctAdapt (i c : Nat) (m : Mach) : Mach :=
  let n := pgIn i
  let m := m.setFld n Inp.C_LAST (min 255 c)
  let hi := decide (m.fld n Inp.CHAT_HI ≤ c)
  let old := m.fld n Inp.CT_NOW
  let m :=
    if m.isFrozen n then m
    else if hi then (m.setFld n Inp.CT_NOW (min (2 * old) (m.fld n Inp.CT_MAX))).setFld n Inp.GOOD 0
    else if c = 0 then
      if m.fld n Inp.GOOD + 1 = 16 then (m.setFld n Inp.CT_NOW (max (old / 2) (m.fld n Inp.CT_MIN))).setFld n Inp.GOOD 0
      else m.incSat n Inp.GOOD
    else m.setFld n Inp.GOOD 0
  let new := m.fld n Inp.CT_NOW
  let m := if new = old then m else (m.incSat n Inp.CT_STEPS).adapt 6 n 0 old new
  if hi && new = m.fld n Inp.CT_MAX then m.raise n 3 else m

/-- New bounds of CT_NOW clamp it (R320). -/
def Mach.ctBounds (i : Nat) (m : Mach) : Mach :=
  let n := pgIn i
  let old := m.fld n Inp.CT_NOW
  let new := max (m.fld n Inp.CT_MIN) (min old (m.fld n Inp.CT_MAX))
  if new = old then m else ((m.setFld n Inp.CT_NOW new).incSat n Inp.CT_STEPS).adapt 6 n 0 old new

/-- The debounced band becomes `band` (R287, R288, R289). -/
def Mach.inDecide (i band : Nat) (active : Bool) (m : Mach) : Mach :=
  let n := pgIn i
  let a := m.inp i
  let change := m.flag n Inp.ACTIVE != active
  let trainEnds := a.train && a.trainClosed && band ≠ 2
  let m := m.modInp i fun a => { a with
    deb := band, count := 0, attempt := false, recheck := false, train := a.train && !trainEnds, trainClosed := a.trainClosed || band = 2 }
  let m := (m.setFlag n Inp.COUNTING false).setFlag n Inp.FAILED false
  let m := m.inActive i active
  let m := if a.recheck then m.longLate i else m
  if change && band = 2 then m.ctAdapt i (if a.attempt then a.chatter else 0) else m

/-- A window's readings and band (R285, R291); conditions of R286 that the band ends. -/
def Mach.windowRead (i cur : Nat) (lim : Bool) (v : Nat) (m : Mach) : Mach :=
  let n := pgIn i
  let band := bandOf (m.flag n Inp.NETWORK) cur lim
  let m := ((m.setSat n Inp.I_MEAS cur).setSat n Inp.V_PIN v).setFld n Inp.BAND band
  (m.setFlag n Inp.CLEANING false).modInp i fun a => { a with
    bad := if band = 1 || band = 2 then 0 else a.bad, indet := a.indet && band = 4 }

/-- The closing attempt and its chatter (R289). -/
def Mach.windowChatter (i band : Nat) (m : Mach) : Mach :=
  let a := m.inp i
  if band = 2 && a.deb ≠ 2 && !a.attempt then m.modInp i fun a => { a with attempt := true, chatter := 0, openRun := 0 }
  else if a.attempt && (band = 0 || band = 1) then
    m.modInp i fun a => { a with chatter := a.chatter + 1, openRun := a.openRun + 1
                                 attempt := decide (a.openRun + 1 < max (m.fld (pgIn i) Inp.DEB_OFF) 1) }
  else m.modInp i fun a => { a with openRun := 0 }

/-- A cleaning train begins with a closing (R288). -/
def Mach.windowTrain (i band : Nat) (m : Mach) : Mach :=
  let a := m.inp i
  if band = 2 && a.deb ≠ 2 && !a.train && m.flag (pgIn i) Inp.CLEAN_EN && m.st (pgIn i) ≠ 4 then
    m.modInp i fun a => { a with train := true, pulses := 0, trainClosed := false }
  else m

/-- A window counts towards a decision (R287); `a` the input's record as the window found it. -/
def Mach.windowCount (i band : Nat) (a : InAux) (m : Mach) : Mach :=
  let n := pgIn i
  if (band = 1 || band = 2) && m.st n ≠ 4 then
    let active := (band = 2) != m.flag n Inp.INVERT
    if a.recheck || band ≠ a.deb || active != m.flag n Inp.ACTIVE then
      let need := max 1 (m.fld n (if active then Inp.DEB_ON else Inp.DEB_OFF))
      let k := if a.countBand = band then a.count + 1 else 1
      if need ≤ k then m.inDecide i band active
      else (m.modInp i fun a => { a with count := k, countBand := band }).setFlag n Inp.COUNTING true
    else (m.modInp i fun a => { a with count := 0, countBand := band }).setFlag n Inp.COUNTING false
  else m

/-- IN_WINDOW (R283 to R289): a window reads current `cur` (the sink in limit: `lim`) and pin voltage `v`. -/
def Mach.inWindow (i cur : Nat) (lim : Bool) (v : Nat) (m : Mach) : Mach :=
  let n := pgIn i
  if !(m.unit n).enabled || m.st n = 0 || m.st n = 5 then m
  else
    let band := bandOf (m.flag n Inp.NETWORK) cur lim
    (((m.windowRead i cur lim v).windowChatter i band).windowTrain i band).windowCount i band (m.inp i)

/-- LONG (R301, R302): the logical state has been active for `ms`. -/
def Mach.inLong (i ms : Nat) (m : Mach) : Mach :=
  let n := pgIn i
  if m.flag n Inp.ACTIVE && m.flag n Inp.LONG_T && decide (m.fld n Inp.LONG_T ≤ ms) && !(m.inp i).longDone
      && !(m.inp i).recheck then
    (m.modInp i fun a => { a with longDone := true }).inEvent i Inp.LONGS Inp.IRQ_LONG
  else m

/-- BAND_ERR (R286): INDET for 50 ms. -/
def Mach.bandErr (i ms : Nat) (m : Mach) : Mach :=
  let n := pgIn i
  if (m.running n || m.st n == 3 || m.st n == 4) && m.fld n Inp.BAND = 4 && decide (50 ≤ ms) then
    (m.modInp i fun a => { a with indet := true }).raise n 2
  else m

/-- BROKEN (R286): BROKEN or SHORT held for 20 ms. -/
def Mach.inBroken (i ms : Nat) (m : Mach) : Mach :=
  let n := pgIn i
  let b := m.fld n Inp.BAND
  if (m.running n || m.st n == 3 || m.st n == 4) && (b = 0 || b = 3) && decide (20 ≤ ms) then
    let s := if b = 0 then 0 else 1
    ((m.modInp i fun a => { a with bad := a.bad ||| 2 ^ s }).raise n s).inFail i
  else m

/-- CLEANING_PULSE (R288): `ms` after the train's first pulse a pulse falls due; it is given when the last window read CLOSED. A train
whose band has not become CLOSED within CLEAN_T ends. -/
def Mach.cleaningPulse (i ms : Nat) (m : Mach) : Mach :=
  let n := pgIn i
  let a := m.inp i
  let t := m.fld n Inp.CLEAN_T
  if !a.train || !m.flag n Inp.CLEAN_EN || decide (ms < a.pulses * t) then m
  else if !a.trainClosed && a.pulses ≠ 0 && decide (t ≤ ms) then m.modInp i fun a => { a with train := false }
  else (m.modInp i fun a => { a with pulses := a.pulses + 1, pulseEnd := m.rk + (m.fld n Inp.CT_NOW * 32768 + 9999) / 10000 }).setFlag n
    Inp.CLEANING (m.fld n Inp.BAND == 2)

/-- A pulse ends CT_NOW after it began, found at the Reckoner's ticks (R288). -/
def Mach.pulsesEnd (m : Mach) : Mach :=
  m.ins.foldl (fun (m : Mach) (q : Nat × InAux) =>
    if m.flag (pgIn q.1) Inp.CLEANING && decide (q.2.pulseEnd ≤ m.rk) then m.setFlag (pgIn q.1) Inp.CLEANING false else m) m

/-- Class part of CLEAR_FAULTS. -/
def Mach.inCleared (i : Nat) (m : Mach) : Mach := (m.setFld (pgIn i) Inp.CT_STEPS 0).setFlag (pgIn i) Inp.FAILED false

/-- What a set source asks of an input (R293). -/
def Mach.inAct (i s : Nat) (m : Mach) : Mach := if s = 0 || s = 1 || s = 4 then m.inFail i else m

/-- CT_NOW goes to MRAM (R289), and comes back at a start. -/
def Mach.ctStore (i : Nat) (m : Mach) : Mach :=
  let c := m.fld (pgIn i) Inp.CT_NOW
  m.modInp i fun a => { a with ctStored := some c }
def Mach.ctRestore (i : Nat) (m : Mach) : Mach :=
  m.setFld (pgIn i) Inp.CT_NOW (((m.inp i).ctStored).getD (m.fld (pgIn i) Inp.CT_MIN))

/-- With nothing in MRAM, CT_NOW starts at the CT_MIN the configuration gives (R292). -/
def Mach.ctFresh (i : Nat) (m : Mach) : Mach := if (m.inp i).ctStored.isSome then m else m.ctRestore i

/-- The sources of an input whose conditions persist (R62, R286). -/
def Mach.inPersisting (m : Mach) (i : Nat) : Nat := (m.inp i).bad % 4 + (if (m.inp i).indet then 4 else 0)

/-- After a wake the next decision is the first (R302). -/
def Mach.inWoken (i : Nat) (m : Mach) : Mach := m.modInp i fun a => { a with recheck := true, count := 0, attempt := false, train := false }

/-! ## Touch (R294 to R300) -/

/-- An event of a touch channel (R301). -/
def Mach.touchEvent (t : Nat) (cnt irq : Fld) (m : Mach) : Mach :=
  let n := pgTouch t
  let m := (m.incWrap n cnt).setReg n Touch.LAST_EDGE.off (BitVec.ofNat 32 m.rk)
  if m.flag n irq then m.irq (m.fld n Touch.CORE) (m.fld n Touch.VECTOR) else m

/-- A baseline value within BASE0 ± BDRIFT (R295). -/
def baseClamp (v : Int) (base0 drift : Nat) : Nat := (max ((base0 : Int) - drift) (min v ((base0 : Int) + drift))).toNat

/-- DELTA_D and DELTA_G follow the readings and the baselines (R294). -/
def Mach.touchDelta (t : Nat) (m : Mach) : Mach :=
  let n := pgTouch t
  (m.setSFld n Touch.DELTA_D ((m.fld n Touch.RAW_D : Int) - m.fld n Touch.BASE_D)).setSFld n Touch.DELTA_G
    ((m.fld n Touch.RAW_G : Int) - m.fld n Touch.BASE_G)

/-- Water joins electrode and shield (R296); a WK of 0 turns water rejection off. -/
def isWater (th wk : Nat) (dd dg : Int) : Bool := wk != 0 && decide ((th : Int) ≤ dg) && decide (dd * 16 < dg * wk)

/-- Both baselines take values, clamped; a clamped one sets BASE_BOUND (R295, R319). -/
def Mach.setBases (t : Nat) (d g : Int) (m : Mach) : Mach :=
  let n := pgTouch t
  let a := m.touch t
  let dr := m.fld n Touch.BDRIFT
  let oldD := m.fld n Touch.BASE_D
  let oldG := m.fld n Touch.BASE_G
  let newD := baseClamp d a.base0D dr
  let newG := baseClamp g a.base0G dr
  let bound := decide ((newD : Int) ≠ d ∨ (newG : Int) ≠ g)
  let m := ((m.setFld n Touch.BASE_D newD).setFld n Touch.BASE_G newG).setFlag n Touch.BOUND bound
  let m := ((m.adapt 11 n 0 oldD newD).adapt 11 n 1 oldG newG).touchDelta t
  if bound then m.raise n 2 else m

/-- New bounds of the baselines clamp them (R320). -/
def Mach.touchBounds (t : Nat) (m : Mach) : Mach :=
  let n := pgTouch t
  if (m.touch t).capture then m else m.setBases t (m.fld n Touch.BASE_D) (m.fld n Touch.BASE_G)

/-- One channel of a TOUCH_SCAN (R294 to R297). The first scan after ENABLE captures BASE0 and starts the baselines there. -/
def Mach.touchScan (t d g : Nat) (m : Mach) : Mach :=
  let n := pgTouch t
  if !(m.unit n).enabled || m.st n = 0 || m.st n = 5 then m
  else
    let m := if (m.touch t).capture then
        ((m.modTouch t fun a => { a with capture := false, base0D := d, base0G := g }).setFld n Touch.BASE_D d).setFld n Touch.BASE_G g
      else m
    let m := ((m.setFld n Touch.RAW_D d).setFld n Touch.RAW_G g).touchDelta t
    let dd : Int := (d : Int) - m.fld n Touch.BASE_D
    let dg : Int := (g : Int) - m.fld n Touch.BASE_G
    let th := m.fld n Touch.TOUCH_TH
    let rel := m.fld n Touch.REL_TH
    let water := isWater th (m.fld n Touch.WK) dd dg
    let press := decide ((th : Int) ≤ dd) && !water
    let release := decide (dd < rel)
    let m := m.setFlag n Touch.WATER water
    let m := if release && m.flag n Touch.STUCK_HELD then m.setFlag n Touch.STUCK_HELD false else m
    let p := if press then (m.touch t).pressRun + 1 else 0
    let r := if release then (m.touch t).relRun + 1 else 0
    let m := m.modTouch t fun a => { a with pressRun := min p 16, relRun := min r 16 }
    let need := max 1 (m.fld n Touch.DEB)
    let m :=
      if m.src n 3 then m
      else if !m.flag n Touch.TOUCHED && press && decide (need ≤ p) && !m.flag n Touch.STUCK_HELD then
        (m.setFlag n Touch.TOUCHED true).touchEvent t Touch.TOUCHES Touch.IRQ_TOUCH
      else if m.flag n Touch.TOUCHED && release && decide (need ≤ r) then
        (m.setFlag n Touch.TOUCHED false).touchEvent t Touch.RELEASES Touch.IRQ_REL
      else m
    if m.isFrozen n then m
    else if decide (dd ≤ -(rel : Int)) then m.setBases t d g
    else if !m.flag n Touch.TOUCHED && !water && decide (dd.natAbs < rel) then
      let tau := 2 ^ m.fld n Touch.BTAU
      let bd := m.fld n Touch.BASE_D
      let bg := m.fld n Touch.BASE_G
      m.setBases t (bd + Int.tdiv ((d : Int) - bd) tau) (bg + Int.tdiv ((g : Int) - bg) tau)
    else m

/-- TOUCH_SCAN (R294): all channels in both modes, in ascending index. -/
def Mach.touchScanAll (l : List (BitVec 16 × BitVec 16)) (m : Mach) : Mach :=
  ((l.take 16).zip (List.range 16)).foldl (fun m q => m.touchScan q.2 q.1.1.toNat q.1.2.toNat) m

/-- STUCK (R297): a touch lasting STUCK_T s ends with a STUCK event. -/
def Mach.touchStuck (t s : Nat) (m : Mach) : Mach :=
  let n := pgTouch t
  if m.flag n Touch.TOUCHED && m.flag n Touch.STUCK_EN && decide (m.fld n Touch.STUCK_T ≤ s) then
    let m := ((m.setFlag n Touch.TOUCHED false).touchEvent t Touch.STUCKS Touch.IRQ_STUCK).raise n 0
    if m.isFrozen n then m.setFlag n Touch.STUCK_HELD true
    else ((m.setBases t (m.fld n Touch.RAW_D) (m.fld n Touch.RAW_G)).setFlag n Touch.STUCK_HELD false).modTouch t fun a =>
      { a with pressRun := 0 }
  else m

/-- WATER (R296): water held for 10 s. -/
def Mach.touchWater (t s : Nat) (m : Mach) : Mach :=
  if m.flag (pgTouch t) Touch.WATER && decide (10 ≤ s) then m.raise (pgTouch t) 1 else m

/-- SHIELD (R300): a shield drive in current limit for 10 ms. -/
def Mach.touchShield (t ms : Nat) (m : Mach) : Mach := if 10 ≤ ms then m.raise (pgTouch t) 3 else m

/-- ENABLE captures BASE0 anew (R295). -/
def Mach.touchCapture (t : Nat) (m : Mach) : Mach := m.modTouch t fun a => { a with capture := true }

/-- CLEAR_FAULTS captures the readings that stand as BASE0 (R295). -/
def Mach.touchCleared (t : Nat) (m : Mach) : Mach :=
  m.modTouch t fun a => { a with base0D := m.fld (pgTouch t) Touch.RAW_D, base0G := m.fld (pgTouch t) Touch.RAW_G }

/-- DISABLE ends a touch in progress without an event, and the runs of scans. -/
def Mach.touchStopped (t : Nat) (m : Mach) : Mach :=
  let n := pgTouch t
  (((m.setFlag n Touch.TOUCHED false).setFlag n Touch.STUCK_HELD false).setFlag n Touch.WATER false).modTouch t fun a =>
    { a with pressRun := 0, relRun := 0 }

/-- The sources of a touch channel whose conditions persist (R62, R295, R296). -/
def Mach.touchPersisting (m : Mach) (t : Nat) : Nat :=
  let n := pgTouch t
  (if m.src n 1 && m.flag n Touch.WATER then 2 else 0) + (if m.flag n Touch.BOUND then 4 else 0)

/-- ACTIVE while enabled and scanning (R298). -/
def Mach.touchSettle (t : Nat) (m : Mach) : Mach := m.settle (pgTouch t) (m.unit (pgTouch t)).enabled

end Sys2Proof.Machine
end

