-- ==== Sys2Proof/Machine/Capstan.lean ====
section
/-! DEFINITION. Capstan bases (03_capstan_bases_and_marks.md): positions, jumps, signals, loss and relock. Firing a Mark stands in
Marks.lean: here a crossed Mark becomes due with the status it will fire with. Positions are 32-bit words of 1/65,536 turn. -/

namespace Sys2Proof.Machine

/-- What a base, and a Mark entry, holds at reset. -/
def capReset : CapAux := ⟨0, 0, false, 0, 0, none, 0, [], 0, false, 0, 0, 0⟩
def markReset : Mark := ⟨0, 0, 0, 0, 0, false, false, 0, false, 0, none⟩

def Mach.cap (m : Mach) (k : Nat) : CapAux := tget m.caps capReset k
def Mach.modCap (k : Nat) (g : CapAux → CapAux) (m : Mach) : Mach := { m with caps := tput m.caps capReset k (g (m.cap k)) }
def Mach.mark (m : Mach) (e : Nat) : Mark := tget m.marks markReset e
def Mach.setMark (e : Nat) (q : Mark) (m : Mach) : Mach := { m with marks := tput m.marks markReset e q }

/-! ## Positions (R90 to R94) -/

/-- The signed difference a − b of two positions (R91). -/
def posDiff (a b : Word) : Int := (a - b).toInt

/-- Base types: 0 TICK, 1 FREE, 2 AXLE, 3 MAINS, 4 LINE, 5 SLOT (R93). -/
def Mach.capType (m : Mach) (k : Nat) : Nat := m.fld (pgCap k) Cap.TYPE

/-- A base that takes its position from PTP time: SLOT, LINE synthesis, or a LINE base on FALLBACK (R93, R97). -/
def Mach.capPtp (m : Mach) (k : Nat) : Bool :=
  m.capType k == 5 || (m.capType k == 4 && (m.fld (pgCap k) Cap.SRC == 2 || m.flag (pgCap k) Cap.FALLBACK))

/-- A base that follows pulses: MAINS, or LINE with CSYNC (R98). -/
def Mach.capPulsed (m : Mach) (k : Nat) : Bool :=
  m.capType k == 3 || (m.capType k == 4 && decide (m.fld (pgCap k) Cap.SRC < 2))

/-- PTP is synchronised (R432). -/
def Mach.ptpSync (m : Mach) : Bool := m.flag pgReckon Reckon.PTP_LOCK

/-- A base that runs: not OFF, FAULTED or absent (R112, R115). -/
def Mach.capRuns (m : Mach) (k : Nat) : Bool :=
  let s := m.st (pgCap k)
  s == 1 || s == 2 || s == 3 || s == 5

def Mach.pos (m : Mach) (k : Nat) : Word := m.reg (pgCap k) Cap.POS.off

/-- ORIGIN of a base. -/
def Mach.origin (m : Mach) (k : Nat) : Nat :=
  (m.reg (pgCap k) Cap.ORIGIN_LO.off).toNat + (m.reg (pgCap k) Cap.ORIGIN_HI.off).toNat * 2 ^ 32

/-- Set ORIGIN, live and shadow. -/
def Mach.setOrigin (k : Nat) (o : Nat) (m : Mach) : Mach :=
  let n := pgCap k
  let lo := BitVec.ofNat 32 o
  let hi := BitVec.ofNat 32 (o / 2 ^ 32)
  (((m.setReg n Cap.ORIGIN_LO.off lo).setReg n Cap.ORIGIN_HI.off hi).setShd n Cap.ORIGIN_LO.off lo).setShd n Cap.ORIGIN_HI.off hi

/-- TRIM, signed. -/
def Mach.trim (m : Mach) (k : Nat) : Int := m.sfld (pgCap k) Cap.TRIM

/-- The signed difference a − b of two counts of `w` bits: ORIGIN may lie on either side of the count (R94, R102). -/
def countDiff (w a b : Nat) : Int := (BitVec.ofNat w a - BitVec.ofNat w b).toInt

/-- floor(x × 65,536 / PERIOD), x being what has passed since ORIGIN (R94). -/
def capUnits (x : Int) (period : Nat) : Int := x * 65536 / (max 1 period)

/-- The Reckoner count less ORIGIN of a TICK base, in 1/15,625 of a Reckoner tick: the count carries the fraction of a tick that the page
clock counts (R94). -/
def Mach.tickTime (m : Mach) (k : Nat) : Int := countDiff 48 m.rk (m.origin k) * 15625 + m.clk

/-- The units of a TICK base since ORIGIN, before TRIM (R94). -/
def Mach.tickUnits (m : Mach) (k : Nat) : Int := capUnits (m.tickTime k) ((m.reg (pgCap k) Cap.PERIOD.off).toNat * 15625)

/-- The frame or cycle length of a base on PTP time: PERIOD, or on FALLBACK the present rate's (R94, R97). -/
def Mach.ptpPeriod (m : Mach) (k : Nat) : Nat :=
  if m.flag (pgCap k) Cap.FALLBACK && (m.cap k).fbPeriod ≠ 0 then (m.cap k).fbPeriod else (m.reg (pgCap k) Cap.PERIOD.off).toNat

/-- The position an AXLE base has at edge count `e` (R94). -/
def Mach.edgePos (m : Mach) (k : Nat) (e : Int) : Word :=
  wordOfInt (e * 65536 / (4 * (m.reg (pgCap k) Cap.PERIOD.off).toNat) + m.trim k)

/-- The position a base derives from its source at this moment; its present one where the source gives none (R94, R95). FALLBACK runs on
the switch's PTP time, synchronised or not (R119). -/
def Mach.derived (m : Mach) (k : Nat) : Word :=
  if (m.reg (pgCap k) Cap.PERIOD.off).toNat = 0 then m.pos k
  else if m.capType k = 0 then wordOfInt (m.tickUnits k + m.trim k)
  else if m.capType k = 2 then m.edgePos k (m.cap k).edges
  else if m.capPtp k && (m.ptpSync || m.flag (pgCap k) Cap.FALLBACK) then
    wordOfInt (capUnits (countDiff 64 (m.ptp / 64) (m.origin k)) (m.ptpPeriod k) + m.trim k)
  else m.pos k

/-- RATE in 1/65,536 turns/s: a turn takes `num`/`den` seconds. -/
def rateOf (num den : Nat) : Nat := min 0xFFFFFFFF (65536 * den / max 1 num)

/-- RATE of the bases whose rate their registers give (R112, R113): TICK, SLOT and PTP-synthesised LINE. -/
def Mach.showRate (k : Nat) (m : Mach) : Mach :=
  let n := pgCap k
  let p := (m.reg n Cap.PERIOD.off).toNat
  if p = 0 then m.setFld n Cap.RATE 0
  else if m.capType k = 0 then m.setFld n Cap.RATE (rateOf p 32768)
  else if m.capPtp k then m.setFld n Cap.RATE (rateOf p 1000000000)
  else if m.capType k = 1 then m.setFld n Cap.RATE 0
  else m

/-- AUX (R113): QUAD_ERR and SPEED of an AXLE base, the amplitude of a MAINS base, the present line of a LINE base; 0 on the others. -/
def Mach.capAux (m : Mach) (k : Nat) : Word :=
  let n := pgCap k
  match m.capType k with
  | 2 => BitVec.ofNat 32 (m.fld n Cap.AUX / 65536 * 65536 + m.axleSpeed k)
  | 3 => BitVec.ofNat 32 (m.fld n Cap.AUX % 65536)
  | 4 => BitVec.ofNat 32 ((m.pos k).toNat % 65536 * (m.reg n Cap.SCALE.off).toNat / 65536)
  | _ => 0

/-- STATUS as it reads: DEGRADED of a TICK base is CLK_DEGRADED (R123). -/
def Mach.capStatus (m : Mach) (k : Nat) : Word :=
  Cap.DEGRADED.put (m.reg (pgCap k) Cap.LOCKED.off) (if m.capType k = 0 && m.flag pgReckon Reckon.DEGRADED then 1 else 0)

/-- POS takes a value. -/
def Mach.setPos (k : Nat) (p : Word) (m : Mach) : Mach := m.setReg (pgCap k) Cap.POS.off p

/-! ## Marks crossed (R103, R108) -/

/-- The status a Mark fires with while the base tracks or coasts (R97, R109). -/
def Mach.firedStatus (m : Mach) (k : Nat) : Nat := if m.flag (pgCap k) Cap.COAST then 7 else 1

/-- Whether a Mark of base `k` lies in (old, old + d]. -/
def Mark.within (q : Mark) (k : Nat) (old : Word) (d : Int) : Bool :=
  q.armed && q.base == k && decide (0 < posDiff q.pos old) && decide (posDiff q.pos old ≤ d)

/-- The first position of a periodic Mark's series that lies ahead of `p` (R103, R108). -/
def nextAhead (pos period p : Word) : Word :=
  let d := posDiff p pos
  if d < 0 then pos else pos + period * BitVec.ofNat 32 (d.toNat / max 1 period.toNat + 1)

/-- A missed position (R108): counted, its source set; a one-shot Mark is not armed any more, a periodic one goes on ahead of `p`. -/
def Mach.missMark (e : Nat) (p : Word) (m : Mach) : Mach :=
  let q := m.mark e
  let m := (m.incSat (pgCap q.base) Cap.MISSED).raise (pgCap q.base) 2
  if q.period = 0 then m.setMark e { q with armed := false, status := 3, due := none }
  else m.setMark e { q with pos := nextAhead q.pos q.period p, status := 3, due := none }

/-- Continuous movement forward to `p`: every armed Mark it reaches becomes due (R101, R104). A movement that is not forward only sets
the position. -/
def Mach.moveTo (k : Nat) (p : Word) (m : Mach) : Mach :=
  let old := m.pos k
  let d := posDiff p old
  let m := m.setPos k p
  if d ≤ 0 then m
  else
    let s := m.firedStatus k
    m.marks.foldl (fun m q => if q.2.within k old d && q.2.due.isNone then m.setMark q.1 { q.2 with due := some s } else m) m

/-- A jump to `p` (R102, R103): GAP sets; forward, the Marks between sweep with status JUMPED or are skipped as MISSED. A base that is OFF
or FAULTED fires none. -/
def Mach.jumpTo (k : Nat) (p : Word) (m : Mach) : Mach :=
  let n := pgCap k
  let old := m.pos k
  let d := posDiff p old
  let m := ((m.setPos k p).setFlag n Cap.GAP true).raise n 5
  if d ≤ 0 || !m.capRuns k then m
  else
    let skip := m.flag n Cap.JUMP
    m.marks.foldl (fun m q =>
      if q.2.within k old d && q.2.due.isNone then
        if skip then m.missMark q.1 p else m.setMark q.1 { q.2 with due := some 4 }
      else m) m

/-! ## States (R95, R112) -/

/-- A PERIOD of 0 holds the base (R95); a FREE base does not use PERIOD (R113). -/
def Mach.capHeld (m : Mach) (k : Nat) : Bool := m.capType k ≠ 1 && m.reg (pgCap k) Cap.PERIOD.off == 0

/-- ACTIVE from lock on, and while the base coasts or runs on FALLBACK; IDLE while a PERIOD of 0 holds it (R112). -/
def Mach.capSettle (k : Nat) (m : Mach) : Mach :=
  let n := pgCap k
  m.settle n (!m.capHeld k && (m.st n == 2 || m.flag n Cap.LOCKED || m.flag n Cap.COAST || m.flag n Cap.FALLBACK))

/-- Class start-up (R98, R112): TICK, FREE and AXLE bases track at once, PTP bases while PTP is synchronised, pulsed bases once they
lock. The step from the held position to the derived one counts as continuous motion: R102 lists no jump for it (DEDUCED,
notes/assumptions/24.md). -/
def Mach.capStart (k : Nat) (m : Mach) : Mach :=
  let n := pgCap k
  let m := m.modCap k fun a =>
    { a with everLocked := false, pulses := 0, interval := 0, relock := none, slew := 0, resume := false, coasted := 0, fbPeriod := 0 }
  let m := (m.setFlag n Cap.COAST false).setFlag n Cap.FALLBACK false
  let lock := m.capType k ≤ 2 || (m.capPtp k && m.ptpSync)
  let m := (m.setFlag n Cap.LOCKED lock).setFlag n Cap.LOS_68 false
  ((m.moveTo k (m.derived k)).showRate k).capSettle k

/-- Class turn-off: the position holds (R92, R115). -/
def Mach.capStop (k : Nat) (m : Mach) : Mach :=
  let n := pgCap k
  let m := (m.setFlag n Cap.LOCKED false).setFlag n Cap.COAST false
  ((m.setFlag n Cap.FALLBACK false).setFlag n Cap.STANDSTILL false).setFld n Cap.RATE 0

/-- What a change of PERIOD from `was` to `now` does to a base (R95 to R97): one that FALLBACK keeps takes the new frame period; the RATE
of an AXLE base is in the new revolutions; a pulsed base that a PERIOD of 0 holds loses its lock. -/
def Mach.capPeriod (k : Nat) (was now : Nat) (m : Mach) : Mach :=
  let n := pgCap k
  if was = now then m
  else
    let m := m.modCap k fun a => { a with fbPeriod := 0, sub := 0 }
    if m.capType k = 2 then (if now = 0 then m.setFld n Cap.RATE 0 else m.setFld n Cap.RATE (min 0xFFFFFFFF (m.fld n Cap.RATE * was / now)))
    else if m.capPulsed k && now = 0 then
      (((m.modCap k fun a => { a with everLocked := false, pulses := 0, interval := 0, slew := 0 }).setFlag n Cap.LOCKED false).setFld
        n Cap.RATE 0)
    else m

/-- Class part of APPLY (R95, R102): changed PERIOD, SCALE, ORIGIN or TRIM is a jump to the position they give. `old` holds the five live
words before. A base that does not run holds its position (R92), and the jump sets GAP all the same. -/
def Mach.capApplied (k : Nat) (old : List Word) (m : Mach) : Mach :=
  let n := pgCap k
  let now := [0x044, 0x048, 0x04C, 0x050, 0x054].map fun o => m.reg n o
  if now = old then m
  else
    let m := m.capPeriod k (old.getD 0 0).toNat (now.getD 0 0).toNat
    if !m.capRuns k || m.capHeld k then ((m.jumpTo k (m.pos k)).showRate k).capSettle k
    else
      let dtrim := Cap.TRIM.sof (now.getD 4 0) - Cap.TRIM.sof (old.getD 4 0)
      let p := if m.capType k = 1 then m.pos k
        else if m.capPulsed k && !m.flag n Cap.FALLBACK then m.pos k + wordOfInt dtrim
        else m.derived k
      ((m.jumpTo k p).showRate k).capSettle k

/-- Class part of CLEAR_FAULTS (R98, R112): the counts return to 0. -/
def Mach.capCleared (k : Nat) (m : Mach) : Mach := m.setReg (pgCap k) 0x078 0

/-- A base leaves FAULTED (R98, R102): it takes the relocked position, or its derived one, as a jump. A base whose signal it has not got
waits for it. -/
def Mach.capResumed (k : Nat) (m : Mach) : Mach :=
  let n := pgCap k
  let p := (m.cap k).relock
  let lock := p.isSome || m.capType k ≤ 2 || (m.capPtp k && m.ptpSync)
  let m := (m.modCap k fun a => { a with relock := none, slew := 0, everLocked := p.isSome, resume := !lock }).setFlag n Cap.LOCKED lock
  if lock then ((m.jumpTo k (p.getD (m.derived k))).showRate k).capSettle k else m.capSettle k

/-! ## FREE and TICK writes (R102, R104) -/

/-- An ADVANCE write (R100, R104). In OFF or FAULTED a base holds its position (R115), and the write is accepted and changes nothing: whether
it moves the held position the spec does not say (DESIGN CHOICE, notes/assumptions/134.md). -/
def Mach.advance (k : Nat) (w : Word) (m : Mach) : Mach :=
  let n := pgCap k
  let signed := m.flag n Cap.DIR
  if m.capType k ≠ 1 || (!signed && decide (0x80000000 ≤ w.toNat)) then m.refuse n 0x05C 3
  else if w = 0 || !m.capRuns k then m
  else if signed && decide (0x80000000 ≤ w.toNat) then (m.setFlag n Cap.REVERSE true).setPos k (m.pos k + w)
  else
    let b := min (m.fld n Cap.BACKLOG) w.toNat
    let m := (m.setFld n Cap.BACKLOG (m.fld n Cap.BACKLOG - b)).setFlag n Cap.REVERSE false
    m.moveTo k (m.pos k + (w - BitVec.ofNat 32 b))

/-- A SETPOS write (R102): FREE and TICK jump; on TICK, ORIGIN is recomputed to match. -/
def Mach.setpos (k : Nat) (w : Word) (m : Mach) : Mach :=
  let n := pgCap k
  if m.capType k = 1 then m.jumpTo k w
  else if m.capType k = 0 then
    let p := (m.reg n Cap.PERIOD.off).toNat
    let v := (w - wordOfInt (m.trim k)).toNat
    let ticks : Int := (((v * p * 15625 / 65536 : Nat) : Int) - m.clk) / 15625
    (m.setOrigin k (BitVec.ofInt 48 ((m.rk : Int) - ticks)).toNat).jumpTo k w
  else m.refuse n 0x060 3

/-! ## AXLE (R94, R99, R100) -/

/-- An edge moves an AXLE base (R94, R100): both ways with DIR, else forward once the backward edges are made good. -/
def Mach.axleStep (k : Nat) (fwd : Bool) (m : Mach) : Mach :=
  if m.flag (pgCap k) Cap.DIR then
    let m := m.modCap k fun c => { c with edges := c.edges + (if fwd then 1 else -1) }
    if fwd then m.moveTo k (m.derived k) else m.setPos k (m.derived k)
  else if !fwd then m.modCap k fun c => { c with back := c.back + 1 }
  else if 0 < (m.cap k).back then m.modCap k fun c => { c with back := c.back - 1 }
  else
    let m := m.modCap k fun c => { c with edges := c.edges + 1 }
    m.moveTo k (m.derived k)

/-- What an edge shows (R99, R100): movement in its direction, at the rate of the time since the last. -/
def Mach.axleSeen (k : Nat) (fwd : Bool) (ns : Nat) (m : Mach) : Mach :=
  let n := pgCap k
  let p := (m.reg n Cap.PERIOD.off).toNat
  let m := ((m.setFlag n Cap.STANDSTILL false).setFlag n Cap.REVERSE (!fwd)).setFld n Cap.RATE (rateOf (ns * 4 * p) 1000000000)
  m.modCap k fun c => { c with sub := 0 }

/-- BACKLOG, in position units (R100). -/
def Mach.showBacklog (k : Nat) (m : Mach) : Mach :=
  let n := pgCap k
  m.setFld n Cap.BACKLOG (min 0xFFFFFFFF ((m.cap k).back * 65536 / (4 * (m.reg n Cap.PERIOD.off).toNat)))

/-- AXLE_EDGE (R94, R99, R100): one quadrature edge, `fwd` its direction, `ns` after the last; `both` when both tracks changed within a
sample period. -/
def Mach.axleEdge (k : Nat) (fwd both : Bool) (ns : Nat) (m : Mach) : Mach :=
  let n := pgCap k
  let p := (m.reg n Cap.PERIOD.off).toNat
  if m.capType k ≠ 2 || !m.capRuns k || p = 0 then m
  else if both then
    let m := m.setFld n Cap.AUX (min 0xFFFF (m.fld n Cap.AUX / 65536 + 1) * 65536)
    let l := m.rk :: withinSecond m.rk (m.cap k).quadAt
    let m := m.modCap k fun c => { c with quadAt := l.take 17 }
    if 16 < l.length then m.raise n 1 else m
  else ((m.axleSeen k fwd ns).axleStep k fwd).showBacklog k

/-- STANDSTILL (R99): no edge for STILL ms; a STILL of 0 never sets it. -/
def Mach.standstill (k ms : Nat) (m : Mach) : Mach :=
  let n := pgCap k
  let t := m.fld n Cap.STILL
  if m.capType k = 2 && m.capRuns k && t ≠ 0 && decide (t ≤ ms) then
    (m.setFlag n Cap.STANDSTILL true).setFld n Cap.RATE 0
  else m

/-! ## Pulsed bases (R94, R96, R98) -/

/-- The position ahead of `p`, by less than one turn, with fraction `f` (R98). -/
def forwardTo (p : Word) (f : Nat) : Word := p + BitVec.ofNat 32 ((f + 65536 - p.toNat % 65536) % 65536)

/-- The position nearest `p` with fraction `f`; a tie goes forward (R98). -/
def nearestTo (p : Word) (f : Nat) : Word :=
  let d := (f + 65536 - p.toNat % 65536) % 65536
  if d ≤ 32768 then p + BitVec.ofNat 32 d else p - BitVec.ofNat 32 (65536 - d)

/-- The start of the next turn strictly after `p`, TRIM included. -/
def nextTurn (p : Word) (trim : Int) : Word :=
  let t := wordOfInt trim
  let q := p - t
  q + BitVec.ofNat 32 (65536 - q.toNat % 65536) + t

/-- A turn of a locked base begins at the pulse: the position reaches the turn start, less what is still to be slewed, which shrinks by at
most 256 units a turn (R98). -/
def Mach.pulseTurn (k : Nat) (m : Mach) : Mach :=
  let s := (m.cap k).slew
  let s' := if 0 < s then max 0 (s - 256) else min 0 (s + 256)
  let p := nextTurn (m.pos k + wordOfInt s) (m.trim k) - wordOfInt s'
  (m.modCap k fun c => { c with slew := s', sub := 0 }).moveTo k p

/-- A pulsed base locks (R98): first after ENABLE by a jump forward to the signal's phase; after that a RELOCK does it. -/
def Mach.firstLock (k : Nat) (m : Mach) : Mach :=
  let n := pgCap k
  let m := m.modCap k fun c => { c with everLocked := true }
  ((m.setFlag n Cap.LOCKED true).jumpTo k (forwardTo (m.pos k) ((m.trim k) % 65536).toNat)).capSettle k

/-- The start of a turn while a FAULTED base waits for CLEAR_FAULTS with its signal back: the position it will take follows (R98). -/
def Mach.relockPulse (k : Nat) (m : Mach) : Mach :=
  if (m.cap k).relock.isSome then m.modCap k fun c => { c with relock := some (nearestTo (m.pos k) ((m.trim k) % 65536).toNat) } else m

/-- A frame pulse of a base that follows its signal (R94, R96, R98): the run of good pulses, RATE, and a turn, or the first lock. -/
def Mach.frameTaken (k ns : Nat) (m : Mach) : Mach :=
  let n := pgCap k
  let c := m.cap k
  let good := decide (8333334 ≤ ns) && decide (ns ≤ 100000000)
  let close := c.interval ≠ 0 && decide (100 * ((ns : Int) - c.interval).natAbs ≤ c.interval)
  let k' := if !good then 0 else if close then min 3 (c.pulses + 1) else 1
  let m := m.modCap k fun c => { c with pulses := k', interval := if good then ns else 0 }
  let m := if good then m.setFld n Cap.RATE (rateOf ns 1000000000) else m
  if m.flag n Cap.LOCKED then m.pulseTurn k
  else if 2 ≤ k' && !c.everLocked then m.firstLock k
  else m

/-- FRAME_PULSE (R94, R96): a CSYNC frame pulse `ns` after the one before. LOCKED at the third pulse whose two intervals lie in range and
within 1 % of each other. A pulse that a FAULTED base sees after its signal came back brings its relocked position to the present phase (R98). -/
def Mach.framePulse (k ns : Nat) (m : Mach) : Mach :=
  let n := pgCap k
  if m.capType k ≠ 4 || !m.capPulsed k || m.capHeld k then m
  else if m.st n = 4 then m.relockPulse k
  else if !m.capRuns k || m.flag n Cap.LOS_68 || m.flag n Cap.COAST || m.flag n Cap.FALLBACK then m
  else m.frameTaken k ns

/-- A zero crossing of a base that follows the mains (R94, R96, R98): the run of good cycles, RATE, and a turn, or the first lock. -/
def Mach.mainsTaken (k ns amp : Nat) (locked : Bool) (m : Mach) : Mach :=
  let n := pgCap k
  let c := m.cap k
  let good := decide (14285714 ≤ ns) && decide (ns ≤ 66666667) && decide (100 ≤ amp) && decide (amp ≤ 3000)
  let k' := if good then min 8 (c.pulses + 1) else 0
  let m := m.modCap k fun c => { c with pulses := k', interval := ns }
  let m := if good then m.setFld n Cap.RATE (rateOf ns 1000000000) else m
  if m.flag n Cap.LOCKED then m.pulseTurn k
  else if good && (locked || k' = 8) && !c.everLocked then m.firstLock k
  else m

/-- MAINS_ZERO_CROSSING (R94, R96): a positive-going zero crossing, `ns` after the one before, at amplitude `amp` × 10 mV rms; the loop says
whether it has locked, which it has within 8 cycles. -/
def Mach.mainsCrossing (k ns amp : Nat) (locked : Bool) (m : Mach) : Mach :=
  let n := pgCap k
  if m.capType k ≠ 3 then m
  else
    let m := m.setFld n Cap.AUX (min 0xFFFF amp)
    if m.capHeld k then m
    else if m.st n = 4 then m.relockPulse k
    else if !m.capRuns k || m.flag n Cap.LOS_68 || m.flag n Cap.COAST then m
    else m.mainsTaken k ns amp locked

/-! ## Loss and relock (R96 to R98) -/

/-- The base holds (R97): LOS sets, as status and as the faulting source. -/
def Mach.capHold (k : Nat) (m : Mach) : Mach :=
  let n := pgCap k
  let m := ((m.setFlag n Cap.LOS_68 true).setFlag n Cap.COAST false).setFlag n Cap.LOCKED false
  let m := m.modCap k fun c => { c with coasted := 0, slew := 0 }
  ((m.setFlag n Cap.FALLBACK false).setFld n Cap.RATE 0).raise n 0

/-- The loss R96 detects after `t`: ms of a bad generator supply on AXLE, half-cycles on MAINS, ns without a pulse on CSYNC; PTP bases lose
their signal with the synchronisation. -/
def Mach.lossSeen (m : Mach) (k t : Nat) : Bool :=
  match m.capType k with
  | 2 => decide (10 ≤ t)
  | 3 => decide (2 ≤ t)
  | 4 =>
    if m.capPulsed k then
      let i := (m.cap k).interval
      decide (3 * (if i = 0 then (m.reg (pgCap k) Cap.PERIOD.off).toNat else i) ≤ 2 * t)
    else !m.ptpSync
  | 5 => !m.ptpSync
  | _ => false

/-- FALLBACK (R97): PTP synthesis continues from the present position and rate. -/
def Mach.capFallback (k : Nat) (m : Mach) : Mach :=
  let n := pgCap k
  let i := (m.cap k).interval
  let p := if i = 0 then (m.reg n Cap.PERIOD.off).toNat else i
  let v := (m.pos k - wordOfInt (m.trim k)).toNat
  let m := (m.modCap k fun c => { c with fbPeriod := p, slew := 0 }).setOrigin k
    (BitVec.ofInt 64 (((m.ptp / 64 : Nat) : Int) - ((v * p + 65535) / 65536 : Nat))).toNat
  (((m.setFlag n Cap.FALLBACK true).setFlag n Cap.LOCKED false).setFlag n Cap.LOS_68 true).setFld n Cap.RATE (rateOf p 1000000000)

/-- LOS (R97): the reaction CFG.LOS selects. A base that has not locked has no last rate: it holds, or falls back at PERIOD's. -/
def Mach.capLos (k t : Nat) (m : Mach) : Mach :=
  let n := pgCap k
  if !m.capRuns k || m.flag n Cap.LOS_68 || m.capHeld k || !m.lossSeen k t then m
  else
    match m.fld n Cap.LOS with
    | 1 =>
      if m.fld n Cap.HOLDOVER = 0 || !m.flag n Cap.LOCKED then m.capHold k
      else
        let m := m.modCap k fun c => { c with coasted := 0, sub := 0 }
        ((m.setFlag n Cap.COAST true).setFlag n Cap.LOCKED false).setFlag n Cap.LOS_68 true
    | 2 => if m.capPulsed k && m.capType k = 4 then m.capFallback k else m.capHold k
    | _ => m.capHold k

/-- A coasting base advances by `u` units, HOLDOVER turns in all (R97). -/
def Mach.coastBy (k u : Nat) (m : Mach) : Mach :=
  let c := m.cap k
  let u := min u (m.fld (pgCap k) Cap.HOLDOVER * 65536 - c.coasted)
  (m.modCap k fun c => { c with coasted := c.coasted + u }).moveTo k (m.pos k + BitVec.ofNat 32 u)

/-- Whether HOLDOVER turns have been coasted. -/
def Mach.coastOver (m : Mach) (k : Nat) : Bool := decide (m.fld (pgCap k) Cap.HOLDOVER * 65536 ≤ (m.cap k).coasted)

/-- The signal is back at position `p` (R98): LOCKED; a difference of at most 1/64 turn is slewed, a larger one is a jump. -/
def Mach.relockTo (k : Nat) (p : Word) (fb resume : Bool) (m : Mach) : Mach :=
  let n := pgCap k
  let m := (m.setFlag n Cap.COAST false).setFlag n Cap.LOCKED true
  let d := posDiff p (m.pos k)
  let m := m.modCap k fun c =>
    { c with everLocked := true, slew := 0, resume := false, coasted := 0, fbPeriod := 0, interval := if fb then 0 else c.interval }
  if 3 ≤ m.capType k && decide (d.natAbs ≤ 1024) && !resume then ((m.modCap k fun c => { c with slew := d }).showRate k).capSettle k
  else ((m.jumpTo k p).showRate k).capSettle k

/-- RELOCK (R98): the signal is back with fraction `phase`. A FAULTED base keeps the relocked position for CLEAR_FAULTS; else a
difference of at most 1/64 turn is slewed and a larger one is a jump. -/
def Mach.relock (k phase : Nat) (m : Mach) : Mach :=
  let n := pgCap k
  let resume := (m.cap k).resume
  if !(m.flag n Cap.LOS_68 || m.flag n Cap.COAST || m.flag n Cap.FALLBACK || resume) || (4 ≤ m.capType k && !m.capPulsed k && !m.ptpSync)
  then m
  else
    let fb := m.flag n Cap.FALLBACK
    let m := (m.setFlag n Cap.LOS_68 false).setFlag n Cap.FALLBACK false
    let p := if m.capPulsed k then nearestTo (m.pos k) (phase % 65536) else m.derived k
    if m.st n = 4 then m.modCap k fun c => { c with relock := some p }
    else if !m.capRuns k then m
    else m.relockTo k p fb resume

/-! ## Time -/

/-- The units a base advances in one page clock of 15.625 ns at its RATE; what is below a unit is carried on. -/
def Mach.unitsNow (m : Mach) (k : Nat) : Nat := ((m.cap k).sub + m.fld (pgCap k) Cap.RATE) / 64000000

/-- The remainder after those units. -/
def Mach.carrySub (k : Nat) (m : Mach) : Mach :=
  m.modCap k fun c => { c with sub := (c.sub + m.fld (pgCap k) Cap.RATE) % 64000000 }

/-- The furthest position a base may take before its next edge or pulse (R94): an AXLE base stops 1 unit short of the next edge's position,
and does not move at all after a backward edge or while BACKLOG stands; a locked pulsed base stops short of the next turn. -/
def Mach.capLimit (m : Mach) (k : Nat) : Word :=
  let c := m.cap k
  if m.capType k = 2 then
    (if c.back ≠ 0 || m.flag (pgCap k) Cap.REVERSE then m.pos k else m.edgePos k (c.edges + 1) - 1#32)
  else if m.capPulsed k && m.flag (pgCap k) Cap.LOCKED then nextTurn (m.pos k + wordOfInt c.slew) (m.trim k) - wordOfInt c.slew - 1#32
  else m.pos k

/-- The position moves on to `p`, never backwards (R94). -/
def Mach.onTo (k : Nat) (p : Word) (m : Mach) : Mach := if posDiff p (m.pos k) ≤ 0 then m else m.moveTo k p

/-- A base on PTP time follows it, less what is still to be slewed, which shrinks by at most 256 units a turn (R94, R98). -/
def Mach.ptpFollow (k : Nat) (m : Mach) : Mach :=
  let s := (m.cap k).slew
  let old := m.pos k
  let m := m.onTo k (m.derived k - wordOfInt s)
  if s = 0 || (m.pos k).toNat / 65536 = old.toNat / 65536 then m
  else m.modCap k fun c => { c with slew := if 0 < s then max 0 (s - 256) else min 0 (s + 256) }

/-- One page clock of a base (R92, R94, R97): a coasting base advances at its last rate, and at the end of HOLDOVER holds; TICK bases and
those on PTP time follow their clocks; AXLE and pulsed bases interpolate. -/
def Mach.capTick (k : Nat) (m : Mach) : Mach :=
  let n := pgCap k
  if !m.capRuns k || m.capHeld k then m
  else if m.flag n Cap.COAST then
    let m := (m.coastBy k (m.unitsNow k)).carrySub k
    if m.coastOver k then m.capHold k else m
  else if m.capType k = 0 then m.onTo k (m.derived k)
  else if m.capPtp k then (if m.flag n Cap.LOCKED || m.flag n Cap.FALLBACK then m.ptpFollow k else m)
  else if m.capType k = 1 then m
  else
    let u := m.unitsNow k
    let m := m.carrySub k
    let d := posDiff (m.capLimit k) (m.pos k)
    m.onTo k (if (u : Int) ≤ d then m.pos k + BitVec.ofNat 32 u else m.capLimit k)

/-- A step of PTP time is a jump of every base that follows it (R102, R432). -/
def Mach.ptpStepped (m : Mach) : Mach :=
  (List.range 8).foldl (fun m k => if m.capPtp k && m.capRuns k && !m.capHeld k && (m.flag (pgCap k) Cap.LOCKED || m.flag (pgCap k) Cap.FALLBACK) then m.jumpTo k (m.derived k) else m) m

/-- PTP is no longer synchronised: the bases on its time lose their signal (R96). -/
def Mach.ptpLosses (m : Mach) : Mach :=
  (List.range 8).foldl (fun m k => if m.capPtp k && !m.capPulsed k then m.capLos k 0 else m) m

/-- PTP has become synchronised: bases that lost it relock, and those that wait for it lock (R94, R98). A base that waited since ENABLE
takes its derived position as continuous motion (DEDUCED, notes/assumptions/24.md); one that resumes after sleep takes it as a jump. -/
def Mach.ptpGained (m : Mach) : Mach :=
  (List.range 8).foldl (fun m k =>
    let n := pgCap k
    if m.capPtp k && !m.capPulsed k && m.flag n Cap.LOS_68 then m.relock k 0
    else if m.capPtp k && !m.flag n Cap.FALLBACK && m.capRuns k && !m.flag n Cap.LOCKED && !m.flag n Cap.LOS_68 then
      let m := m.setFlag n Cap.LOCKED true
      if (m.cap k).resume then ((m.modCap k fun c => { c with resume := false }).jumpTo k (m.derived k)).capSettle k
      else (m.moveTo k (m.derived k)).capSettle k
    else m) m

/-- The bases at a wake (R102, R122): TICK and AXLE resume at once, as a jump; bases that follow a signal relock. -/
def Mach.capsWake (m : Mach) : Mach :=
  (List.range 8).foldl (fun m k =>
    let n := pgCap k
    let t := m.capType k
    if !m.capRuns k || t = 1 then m
    else if t = 0 || t = 2 then m.jumpTo k (if t = 0 then m.derived k else m.pos k)
    else
      let m := ((m.setFlag n Cap.LOCKED false).setFlag n Cap.COAST false).setFlag n Cap.FALLBACK false
      (m.modCap k fun c => { c with pulses := 0, interval := 0, slew := 0, coasted := 0, fbPeriod := 0, resume := c.everLocked || m.capPtp k }).capSettle k) m

/-- Every Mark that targets a unit disarms with status CANCELLED: its BASE.CAP has changed (R107). -/
def Mach.disarmTarget (n : Nat) (m : Mach) : Mach :=
  m.marks.foldl (fun (m : Mach) (q : Nat × Mark) =>
    if q.2.armed && q.2.target == n then m.setMark q.1 { q.2 with armed := false, status := 5, due := none } else m) m

end Sys2Proof.Machine
end

