-- ==== Sys2Proof/Machine/Logs.lean ====
section
/-! DEFINITION. The Reckoner, UTC, the Trouble log and the Logline (13_trouble_log_and_logline.md). -/

namespace Sys2Proof.Machine

/-! ## The Reckoner (R343) -/

/-- CLK_DEGRADED (R343): no crystal edge for 4 LF-RC cycles. -/
def Mach.clkDegraded (cycles : Nat) (m : Mach) : Mach :=
  if cycles < 4 || m.flag pgReckon Reckon.DEGRADED then m
  else ((m.setFlag pgReckon Reckon.XTAL_OK false).setFlag pgReckon Reckon.DEGRADED true).raise pgReckon 0

/-- CRYSTAL_RETURN (R343): the crystal has run steadily for 1 s; the count does not step. -/
def Mach.crystalReturn (ms : Nat) (m : Mach) : Mach :=
  if ms < 1000 then m else (m.setFlag pgReckon Reckon.XTAL_OK true).setFlag pgReckon Reckon.DEGRADED false

/-- RECKON_CALIBRATION (R343): once per second the LF-RC is measured against the running crystal. -/
def Mach.reckonCal (units : Word) (m : Mach) : Mach :=
  if m.flag pgReckon Reckon.XTAL_OK then m.setReg pgReckon Reckon.CAL.off units else m

/-! ## UTC (R344, R345). UTC and PTP time are kept in 1/64 ns. -/

/-- UTC in ns. -/
def Mach.utcNs (m : Mach) : Nat := m.log.utc / 64

/-- UTC steps (R345): a backward step, a forward one above 1 s and the first set or lock since the cold start increment EPOCH and STEPS,
set the STEP source and write a CLOCK entry before any other. Causes: 0 PTP step, 1 software set, 2 UTC offset change (R349). -/
def Mach.utcStep (ns cause : Nat) (m : Mach) : Mach :=
  let old := m.utcNs
  let valid := m.flag pgReckon Reckon.UTC_VALID
  let m := { m with log := { m.log with utc := ns * 64, slew := 0 } }.setFlag pgReckon Reckon.UTC_VALID true
  if valid && old ≤ ns && decide (ns - old ≤ 1000000000) then m
  else
    let m := ((m.incWrap pgReckon Reckon.EPOCH).incSat pgReckon Reckon.STEPS).raise pgReckon 2
    m.tlogWrite 3 pgReckon (m.fld pgReckon Reckon.EPOCH * 256 + cause) (BitVec.ofNat 32 (old / 1000000000))
      (BitVec.ofNat 32 (ns / 1000000000))

/-- The UTC that PTP time gives: PTP time less the grandmaster's UTC offset (R344). -/
def Mach.utcTarget (m : Mach) : Nat := ((m.ptp / 64 : Int) - (m.eth.utcOff.getD 0) * 1000000000).toNat

/-- UTC is brought to PTP time (R344): an offset of 1 ms or less by slewing, a larger one as a step. -/
def Mach.utcFollow (m : Mach) : Mach :=
  let t := m.utcTarget
  let d : Int := (t : Int) - m.utcNs
  if m.flag pgReckon Reckon.UTC_VALID && d.natAbs ≤ 1000000 then { m with log := { m.log with slew := d * 64 } } else m.utcStep t 0

/-- The comparison at a Sync accepted while synchronised, while SRC is 0 (R344): a change of the grandmaster's UTC offset is a step of
that size; the rest is removed by slewing or as a step. -/
def Mach.utcCompare (utcOff : Int) (m : Mach) : Mach :=
  let before := m.eth.utcOff
  let m := { m with eth := { m.eth with utcOff := some utcOff } }
  if m.flag pgReckon Reckon.SRC then m
  else
    let m := match before with
      | some o => if o = utcOff then m else m.utcStep ((m.utcNs : Int) - (utcOff - o) * 1000000000).toNat 2
      | none => m
    m.utcFollow

/-- UTC_SET (R344): a write of SET is a step to SET_S and SET_NS; refused with REASON 3 while SRC is 0 and PTP is synchronised. -/
def Mach.utcSet (m : Mach) : Mach :=
  if !m.flag pgReckon Reckon.SRC && m.flag pgReckon Reckon.PTP_LOCK then m.refuse pgReckon 0x068 3
  else m.utcStep (m.fld pgReckon Reckon.SET_S * 1000000000 + m.fld pgReckon Reckon.SET_NS) 1

/-- The effect of a write of SRC (R344, R362): from 1 to 0 while PTP is synchronised, UTC is brought to PTP time. -/
def Mach.srcWrite (v : Nat) (m : Mach) : Mach :=
  let was := m.flag pgReckon Reckon.SRC
  let m := m.setFld pgReckon Reckon.SRC v
  if was && v == 0 && m.flag pgReckon Reckon.PTP_LOCK then m.utcFollow else m

/-! ## Operating time (R346) -/

/-- The operating time in MRAM is brought up to date (R346). -/
def Mach.storeTop (m : Mach) : Mach := { m with log := { m.log with topStored := m.log.topMs } }

/-- TOP_STORE (R346): every 10 s. -/
def Mach.topStore (m : Mach) : Mach := if m.log.topMs < m.log.topStored + 10000 then m else m.storeTop

/-! ## Trouble log (R347 to R354) -/

/-- A Trouble-log entry never written. -/
def entryNone : TEntry := ⟨0, 0, 0, 0, 0, 0, 0, 0⟩

/-- The words of an entry, 0x00 to 0x1C (R348). -/
def TEntry.words (e : TEntry) : List Word := [e.seq, e.utcS, e.utcN, e.rkLo, e.kind, e.unit, e.d0, e.d1]

/-- Write consecutive words into registers. -/
def Mach.setRegs (n off : Nat) : List Word → Mach → Mach
  | [], m => m
  | w :: l, m => (m.setReg n off w).setRegs n (off + 4) l

/-- FAULT_ENTRY (R349): the firmware writes the entry of the first source that waits for one, and for a SPLICE source that of kind SPLICE
(R469). -/
def Mach.faultEntry (m : Mach) : Mach :=
  match m.lay.notes with
  | [] => m
  | a :: l =>
    let m := { m with lay := { m.lay with notes := l } }
    let m := m.tlogWrite 1 a.unit ((if a.brk then 2 ^ 15 else 0) + a.reaction * 2 ^ 13 + a.bit) (m.reg a.unit 0x018) (m.reg a.unit 0x00C)
    if a.unit = pgSplice && !a.brk then
      m.tlogWrite 6 pgSplice a.bit (BitVec.ofNat 32 (m.fld pgSplice Splice.PEER_DEV))
        (BitVec.ofNat 32 (if a.bit = 5 then m.splice.misUnit else if a.bit = 2 then m.fld pgSplice Splice.LAST_GAP else 0))
    else m

/-- TLOG READ (R352): entry SEL in RD0 to RD7, or zeros with RD_VALID 0 when its slot no longer holds it. -/
def Mach.tlogRead (m : Mach) : Mach :=
  let sel := m.reg pgTlog Tlog.SEL.off
  let age := (m.reg pgTlog Tlog.HEAD_SEQ.off - sel).toNat
  let held := decide (1 ≤ age) && decide (age ≤ m.fld pgTlog Tlog.COUNT)
  let e := if held then tget m.log.ring entryNone (sel.toNat % 4096) else entryNone
  (m.setFlag pgTlog Tlog.RD_VALID held).setRegs pgTlog 0x070 e.words

/-- TLOG APPEND (R354): an application core appends an entry of its kind, at most APPMAX in a second; any other source is refused. -/
def Mach.tlogAppend (src : Src) (m : Mach) : Mach :=
  match src with
  | .core k =>
    if k.val < 2 then (m.refuse pgTlog 0x064 3).incSat pgTlog Tlog.APP_DROPS
    else
      let recent := withinSecond m.rk (tget m.log.appAt [] k.val)
      if m.fld pgTlog Tlog.APPMAX ≤ recent.length then
        ((m.refuse pgTlog 0x064 3).incSat pgTlog Tlog.APP_DROPS).raise pgTlog 0
      else
        let m := { m with log := { m.log with appAt := tput m.log.appAt [] k.val (m.rk :: recent) } }
        m.tlogWrite (10 + k.val) (m.fld pgTlog Tlog.APP_UNIT) (m.fld pgTlog Tlog.APP_ARG) (m.reg pgTlog Tlog.APP_D0.off)
          (m.reg pgTlog Tlog.APP_D1.off)
  | _ => (m.refuse pgTlog 0x064 3).incSat pgTlog Tlog.APP_DROPS

/-! ## Logline (R355 to R359) -/

/-- One bit of the reflected CRC-32C (R356). -/
def crcBit (c : Nat) : Nat := if c % 2 = 1 then (c / 2) ^^^ 0x82F63B78 else c / 2

/-- One byte of the CRC-32C. -/
def crcByte (c b : Nat) : Nat := (List.range 8).foldl (fun a _ => crcBit a) (c ^^^ b)

/-- CRC-32C of bytes (R356). -/
def crc32c (bs : List Byte) : Word := BitVec.ofNat 32 (bs.foldl (fun c b => crcByte c b.toNat) 0xFFFFFFFF ^^^ 0xFFFFFFFF)

/-- The words 0x00 to 0x38 of a record (R356). -/
def LRec.body (r : LRec) (seq : Word) (lost : Bool) : List Word :=
  [seq, r.opsec, r.pcyc, r.kind ||| (if lost then 0x20000#32 else 0), r.arg, r.d0, r.d1, r.tseq, r.ext0, r.ext1, 0, 0, 0, 0, 0]

/-- The bytes of words, little-endian. -/
def bytesOf (ws : List Word) : List Byte := ws.flatMap fun w => leBytes 4 w.toNat

/-- A record as it stands in MRAM: its words and their CRC (R356). -/
def sealed (ws : List Word) : List Word := ws ++ [crc32c (bytesOf ws)]

/-- A FAULT record takes the first-fault words of LAY at its writing (R356). -/
def Mach.stampFirst (m : Mach) (r : LRec) : LRec :=
  if r.kind.toNat / 2 ^ 24 = 1 then { r with ext0 := m.reg pgLay 0x048, ext1 := m.reg pgLay 0x04C } else r

/-- LOGLINE_RECORD_WRITE (R358, R365): the first queued record takes SEQ and CRC and goes to its slot; a failed read-back sets LL_WRITE
and stops the recorder, and the head stands. -/
def Mach.loglineWrite (good : Bool) (m : Mach) : Mach :=
  if m.log.stopped then m
  else match m.log.queue with
  | [] => m
  | r :: l =>
    let seq := m.reg pgLogline Logline.HEAD_SEQ.off
    let slot := seq.toNat % 32768
    let m := { m with log := { m.log with
      queue := l, slots := tput m.log.slots ⟨[]⟩ slot ⟨sealed ((m.stampFirst r).body seq m.log.lost)⟩, lost := false } }
    let m := m.setFld pgLogline Logline.QDEPTH l.length
    if !good then
      let m := { m with log := { m.log with stopped := true } }
      m.raise pgLogline 1
    else
      let m := (m.setReg pgLogline Logline.HEAD_SEQ.off (seq + 1)).setFld pgLogline Logline.HEAD ((slot + 1) % 32768)
      let tail := m.reg pgLogline Logline.TAIL_SEQ.off
      if (seq + 1 - tail).toNat ≤ 32768 then m
      else (m.setReg pgLogline Logline.TAIL_SEQ.off (tail + 1)).setFld pgLogline Logline.TAIL ((tail.toNat + 1) % 32768)

/-- Whether a slot holds a record that passes its CRC and sits at its own slot (R359). -/
def slotGood (slot : Nat) (s : LSlot) : Bool :=
  decide (s.words.length = 16) && s.words == sealed (s.words.take 15) && (s.words.headD 0).toNat % 32768 == slot

/-- The scan at start-up (R359): HEAD_SEQ one above the highest valid SEQ, TAIL at the lowest, BAD counts the slots within the ring that
fail. -/
def Mach.loglineScan (m : Mach) : Mach :=
  let seqs := (m.log.slots.filter fun s => slotGood s.1 s.2).map fun s => (s.2.words.headD 0).toNat
  let bad := (m.log.slots.filter fun s => !slotGood s.1 s.2).length
  let m := m.setFld pgLogline Logline.BAD bad
  match seqs with
  | [] => (((m.setReg pgLogline Logline.HEAD_SEQ.off 0).setReg pgLogline Logline.TAIL_SEQ.off 0).setFld pgLogline Logline.HEAD 0).setFld
      pgLogline Logline.TAIL 0
  | q :: l =>
    let hi := l.foldl max q
    let lo := l.foldl min q
    ((((m.setReg pgLogline Logline.HEAD_SEQ.off (BitVec.ofNat 32 (hi + 1))).setReg pgLogline Logline.TAIL_SEQ.off (BitVec.ofNat 32 lo)).setFld
      pgLogline Logline.HEAD ((hi + 1) % 32768)).setFld pgLogline Logline.TAIL (lo % 32768))

/-! ## Memory seen by the cores -/

/-- The byte of the Trouble-log or Logline region at an address, where the address lies in one of them (R347, R355). -/
def Mach.logByte (m : Mach) (a : Nat) : Option Byte :=
  let pick (ws : List Word) (i : Nat) : Byte := BitVec.ofNat 8 ((ws.getD (i / 4) 0).toNat / 256 ^ (i % 4))
  if 0x30060000 ≤ a && decide (a < 0x30080000) then
    some (pick (tget m.log.ring entryNone ((a - 0x30060000) / 32)).words ((a - 0x30060000) % 32))
  else if 0x40900000 ≤ a && decide (a < 0x40B00000) then
    some (pick (tget m.log.slots ⟨[]⟩ ((a - 0x40900000) / 64)).words ((a - 0x40900000) % 64))
  else none

end Sys2Proof.Machine
end

