-- ==== Sys2Proof/Machine/Access.lean ====
section
/-! DEFINITION. The Strand address map and its access rights (02_units_and_pages.md R89; 14_strand_architecture.md R385): which region an
address lies in, which core may read or write it, and the bytes as a core sees them. -/

namespace Sys2Proof.Machine

/-- The regions of R89, divided as R385 divides their rights. -/
inductive Region where
  | im | dm | sharedLow | shared | retained | retainedLow | tlog | firmware | logline | app | reserve | page
  deriving DecidableEq, Repr

/-- The region of an address, if any. -/
def regionOf (a : Nat) : Option Region :=
  if a < 0x10000 then some .im
  else if a < 0x20000 then some .dm
  else if a < 0x20000000 then none
  else if a < 0x20080000 then some .sharedLow
  else if a < 0x20400000 then some .shared
  else if a < 0x30000000 then none
  else if a < 0x30040000 then some .retained
  else if a < 0x30060000 then some .retainedLow
  else if a < 0x30080000 then some .tlog
  else if a < 0x40000000 then none
  else if a < 0x40900000 then some .firmware
  else if a < 0x40B00000 then some .logline
  else if a < 0x40F00000 then some .app
  else if a < 0x41000000 then some .reserve
  else if a < 0x60000000 then none
  else if a < 0x68000000 then some .page
  else none

/-- Where the image of core `c` sits (R386). -/
def imageBase (c : Nat) : Nat := 0x40B00000 + (c - 2) * 0x100000

/-- Whether core `c` may read, or write, address `a` of region `r` (R385). -/
def allowed (c : Nat) (r : Region) (a : Nat) (write : Bool) : Bool :=
  let fw := decide (c < 2)
  match r with
  | .im => false
  | .dm => true
  | .sharedLow => fw
  | .shared => true
  | .retained => true
  | .retainedLow => fw
  | .tlog => fw || !write
  | .firmware => fw
  | .logline => !write
  | .app => fw || (!write && decide (imageBase c ≤ a) && decide (a < imageBase c + 0x100000))
  | .reserve => false
  | .page => true

/-- The key of the byte memory for an address as core `c` sees it. -/
def memKey (c a : Nat) : Nat := if a < 0x20000 then 0x100000000 + c * 0x20000 + a else a

/-- A byte of memory as core `c` reads it: the logs are views of their tables. -/
def peekByte (m : Mach) (mem : Memory) (c a : Nat) : Byte := (m.logByte a).getD (readByte mem (memKey c a))

/-- The bytes at rising addresses, as numbers. -/
def peekBytes (m : Mach) (mem : Memory) (c a k : Nat) : List Nat := (List.range k).map fun i => (peekByte m mem c (a + i)).toNat

/-- An entry with one of its words replaced. -/
def TEntry.setWord (e : TEntry) (i : Nat) (w : Word) : TEntry :=
  match i with
  | 0 => { e with seq := w }
  | 1 => { e with utcS := w }
  | 2 => { e with utcN := w }
  | 3 => { e with rkLo := w }
  | 4 => { e with kind := w }
  | 5 => { e with unit := w }
  | 6 => { e with d0 := w }
  | _ => { e with d1 := w }

/-- A byte written in the Trouble-log region (R385: S0 and S1 may). -/
def Mach.logPoke (a : Nat) (b : Byte) (m : Mach) : Mach :=
  let slot := (a - 0x30060000) / 32
  let i := (a - 0x30060000) % 32
  let e := tget m.log.ring entryNone slot
  let old := (e.words.getD (i / 4) 0).toNat
  let p := 256 ^ (i % 4)
  let w := BitVec.ofNat 32 (old - old / p % 256 * p + b.toNat * p)
  { m with log := { m.log with ring := tput m.log.ring entryNone slot (e.setWord (i / 4) w) } }

/-- Bytes written at rising addresses by core `c`. -/
def pokeBytes (c : Nat) : Nat → List Byte → Mach → Memory → Mach × Memory
  | _, [], m, mem => (m, mem)
  | a, b :: l, m, mem =>
    if regionOf a = some .tlog then pokeBytes c (a + 1) l (m.logPoke a b) mem
    else pokeBytes c (a + 1) l m (writeByte (memKey c a) b mem)

/-- A buffer that core `c` may read, or write, as a whole: in one region that is memory, not a page (R494). -/
def bufferOk (c a k : Nat) (write : Bool) : Bool :=
  k = 0 || match regionOf a with
    | some r => r != .page && regionOf (a + k - 1) == some r && allowed c r a write && allowed c r (a + k - 1) write
    | none => false

end Sys2Proof.Machine
end

