-- ==== Sys2Proof/Machine/Crypto.lean ====
section
/-! DEFINITION. The published algorithms of the Locker (20_locker_security.md R487, R495; notes/assumptions/6.md): SHA-256, AES with CMAC,
GCM and KW, the SP 800-108 derivation, and ECDSA on P-256, over bytes as numbers below 256. -/

namespace Sys2Proof.Machine

/-- The big-endian bytes of a number, `k` of them, and the number that bytes spell. -/
def beBytes (k v : Nat) : List Nat := (List.range k).map fun i => v / 256 ^ (k - 1 - i) % 256
def beNat (l : List Nat) : Nat := l.foldl (fun a b => a * 256 + b) 0

/-- The largest r below 2^`bits` with p r, for p downward closed. -/
def bitSearch (p : Nat → Bool) : Nat → Nat → Nat
  | 0, r => r
  | b + 1, r => bitSearch p b (if p (r + 2 ^ b) then r + 2 ^ b else r)

/-- Exclusive or of byte lists, as long as the first. -/
def xorBytes (a b : List Nat) : List Nat := a.zipWith (fun x y => x ^^^ y) (b ++ List.replicate a.length 0)

/-! ## SHA-256 (FIPS 180-4) -/

/-- The first 64 primes. -/
def shaPrimes : List Nat :=
  ((List.range 312).filter fun n => decide (2 ≤ n) && ((List.range n).all fun d => decide (d < 2) || n % d != 0)).take 64

/-- The round constants: the fractions of the cube roots of the primes; the initial hash: those of the square roots. -/
def shaK : List Nat := shaPrimes.map fun p => bitSearch (fun r => decide (r * r * r ≤ p * 2 ^ 96)) 36 0 % 2 ^ 32
def shaInit : List Nat := (shaPrimes.take 8).map fun p => bitSearch (fun r => decide (r * r ≤ p * 2 ^ 64)) 38 0 % 2 ^ 32

def rotr32 (x k : Nat) : Nat := x / 2 ^ k + x % 2 ^ k * 2 ^ (32 - k)

/-- The message padded to whole blocks of 64 bytes. -/
def shaPad (msg : List Nat) : List Nat :=
  msg ++ [0x80] ++ List.replicate ((119 - msg.length % 64) % 64) 0 ++ beBytes 8 (8 * msg.length)

/-- The message schedule, newest word first. -/
def shaExpand : Nat → List Nat → List Nat
  | 0, w => w
  | n + 1, w =>
    let g (i : Nat) : Nat := w.getD i 0
    let s0 := rotr32 (g 14) 7 ^^^ rotr32 (g 14) 18 ^^^ (g 14 / 2 ^ 3)
    let s1 := rotr32 (g 1) 17 ^^^ rotr32 (g 1) 19 ^^^ (g 1 / 2 ^ 10)
    shaExpand n (((g 15 + s0 + g 6 + s1) % 2 ^ 32) :: w)

/-- The eight working variables after one round with constant-plus-schedule word `kw`. -/
def shaRound (h : List Nat) (kw : Nat) : List Nat :=
  let g (i : Nat) : Nat := h.getD i 0
  let s1 := rotr32 (g 4) 6 ^^^ rotr32 (g 4) 11 ^^^ rotr32 (g 4) 25
  let ch := (g 4 &&& g 5) ^^^ ((2 ^ 32 - 1 - g 4) &&& g 6)
  let t1 := (g 7 + s1 + ch + kw) % 2 ^ 32
  let s0 := rotr32 (g 0) 2 ^^^ rotr32 (g 0) 13 ^^^ rotr32 (g 0) 22
  let maj := (g 0 &&& g 1) ^^^ (g 0 &&& g 2) ^^^ (g 1 &&& g 2)
  [(t1 + s0 + maj) % 2 ^ 32, g 0, g 1, g 2, (g 3 + t1) % 2 ^ 32, g 4, g 5, g 6]

/-- Lists of `k` elements each, `n` of them. -/
def chunks (k : Nat) : Nat → List Nat → List (List Nat)
  | 0, _ => []
  | n + 1, l => l.take k :: chunks k n (l.drop k)

def shaBlock (ks h blk : List Nat) : List Nat :=
  let w := (shaExpand 48 ((chunks 4 16 blk).map beNat).reverse).reverse
  let r := (ks.zipWith (fun a b => (a + b) % 2 ^ 32) w).foldl shaRound h
  h.zipWith (fun a b => (a + b) % 2 ^ 32) r

/-- SHA-256 of a message: 32 bytes. -/
def sha256 (msg : List Nat) : List Nat :=
  let p := shaPad msg
  ((chunks 64 (p.length / 64) p).foldl (shaBlock shaK) shaInit).flatMap (beBytes 4)

/-! ## AES (FIPS 197) -/

def xtime (x : Nat) : Nat := if x < 128 then 2 * x else (2 * x - 256) ^^^ 0x1B

/-- A product in the field of AES. -/
def gfMul (x y : Nat) : Nat :=
  ((List.range 8).foldl (fun (a : Nat × Nat) i => (if Nat.testBit y i then a.1 ^^^ a.2 else a.1, xtime a.2)) (0, x)).1

def gfSq (x : Nat) : Nat := gfMul x x

/-- The inverse, x^254; 0 for 0. -/
def gfInv (x : Nat) : Nat :=
  let x2 := gfSq x
  let x3 := gfMul x2 x
  let x12 := gfSq (gfSq x3)
  let x15 := gfMul x12 x3
  let x240 := gfSq (gfSq (gfSq (gfSq x15)))
  gfMul (gfMul x240 x12) x2

def rotl8 (x k : Nat) : Nat := x * 2 ^ k % 256 + x / 2 ^ (8 - k)

/-- The S-box and its inverse. -/
def sbox (x : Nat) : Nat :=
  let i := gfInv x
  i ^^^ rotl8 i 1 ^^^ rotl8 i 2 ^^^ rotl8 i 3 ^^^ rotl8 i 4 ^^^ 0x63
def sboxInv (x : Nat) : Nat := gfInv (rotl8 x 1 ^^^ rotl8 x 3 ^^^ rotl8 x 6 ^^^ 0x05)

/-- The key schedule: words of 4 bytes, newest first, `nk` words of key, `n` more to make; `i` words stand. -/
def aesExpand (nk : Nat) : Nat → Nat → Nat → List (List Nat) → List (List Nat)
  | 0, _, _, w => w
  | n + 1, i, rc, w =>
    let t := w.headD []
    let q := i % nk
    let t' := if q = 0 then xorBytes ((t.drop 1 ++ t.take 1).map sbox) [rc, 0, 0, 0]
      else if 6 < nk && q = 4 then t.map sbox else t
    aesExpand nk n (i + 1) (if q = 0 then xtime rc else rc) (xorBytes (w.getD (nk - 1) []) t' :: w)

/-- The round keys of a 16- or 32-byte key, first round first. -/
def aesKeys (key : List Nat) : List (List Nat) :=
  let nk := key.length / 4
  let rounds := nk + 6
  let w := (aesExpand nk (4 * (rounds + 1) - nk) nk 1 (chunks 4 nk key).reverse).reverse
  (List.range (rounds + 1)).map fun r => (w.drop (4 * r)).take 4 |>.flatten

/-- Row r of the state moves left by r columns; and back. -/
def shiftRows (s : List Nat) : List Nat := (List.range 16).map fun i => s.getD ((i + 4 * (i % 4)) % 16) 0
def shiftRowsInv (s : List Nat) : List Nat := (List.range 16).map fun i => s.getD ((i + 12 * (i % 4)) % 16) 0

/-- Each column times a fixed circulant column. -/
def mixWith (a b c d : Nat) (s : List Nat) : List Nat :=
  (chunks 4 4 s).flatMap fun q => (List.range 4).map fun r =>
    gfMul (q.getD (r % 4) 0) a ^^^ gfMul (q.getD ((r + 1) % 4) 0) b ^^^ gfMul (q.getD ((r + 2) % 4) 0) c ^^^ gfMul (q.getD ((r + 3) % 4) 0) d

/-- One block encrypted, and decrypted, under a key. -/
def aesEnc (key blk : List Nat) : List Nat :=
  let ks := aesKeys key
  let s := ((ks.drop 1).dropLast).foldl (fun s k => xorBytes (mixWith 2 3 1 1 (shiftRows (s.map sbox))) k) (xorBytes blk (ks.headD []))
  xorBytes (shiftRows (s.map sbox)) (ks.getLastD [])
def aesDec (key blk : List Nat) : List Nat :=
  let ks := aesKeys key
  let s := (shiftRowsInv (xorBytes blk (ks.getLastD []))).map sboxInv
  let s := ((ks.drop 1).dropLast).reverse.foldl
    (fun s k => (shiftRowsInv (mixWith 14 11 13 9 (xorBytes s k))).map sboxInv) s
  xorBytes s (ks.headD [])

/-! ## CMAC, KDF, GCM, KW (SP 800-38B, SP 800-108, SP 800-38D, SP 800-38F) -/

/-- Doubling in the field of CMAC. -/
def cmacDouble (l : List Nat) : List Nat :=
  let v := beNat l
  let d := beBytes 16 (v * 2 % 2 ^ 128)
  if 2 ^ 127 ≤ v then xorBytes d (List.replicate 15 0 ++ [0x87]) else d

/-- The AES-CMAC of a message: 16 bytes. -/
def cmac (key msg : List Nat) : List Nat :=
  let k1 := cmacDouble (aesEnc key (List.replicate 16 0))
  let n := max 1 ((msg.length + 15) / 16)
  let last := msg.drop (16 * (n - 1))
  let m := if last.length = 16 then xorBytes last k1
    else xorBytes (last ++ [0x80] ++ List.replicate (15 - last.length) 0) (cmacDouble k1)
  aesEnc key (xorBytes ((chunks 16 (n - 1) msg).foldl (fun c b => aesEnc key (xorBytes c b)) (List.replicate 16 0)) m)

/-- The derivation of R495: `bits` bits under a parent key. -/
def kdf (key label ctx : List Nat) (bits : Nat) : List Nat :=
  ((List.range ((bits + 127) / 128)).flatMap fun i =>
    cmac key (beBytes 4 (i + 1) ++ label ++ [0] ++ ctx ++ beBytes 4 bits)).take (bits / 8)

/-- A product in the field of GHASH, blocks as numbers. -/
def ghashMul (x y : Nat) : Nat :=
  ((List.range 128).foldl (fun (a : Nat × Nat) i =>
    (if Nat.testBit x (127 - i) then a.1 ^^^ a.2 else a.1,
     if a.2 % 2 = 1 then (a.2 / 2) ^^^ (0xE1 * 2 ^ 120) else a.2 / 2)) (0, y)).1

/-- Pad with zeros to whole blocks. -/
def pad16 (l : List Nat) : List Nat := l ++ List.replicate ((16 - l.length % 16) % 16) 0

def ghash (h : Nat) (l : List Nat) : Nat := (chunks 16 (l.length / 16) l).foldl (fun y b => ghashMul (y ^^^ beNat b) h) 0

/-- The counter stream of GCM over data, from block number 2. -/
def gcmStream (key iv data : List Nat) : List Nat :=
  xorBytes data ((List.range ((data.length + 15) / 16)).flatMap fun i => aesEnc key (iv ++ beBytes 4 (i + 2)))

/-- The tag of a ciphertext with its associated data. -/
def gcmTag (key iv aad ct : List Nat) : List Nat :=
  let h := beNat (aesEnc key (List.replicate 16 0))
  let s := ghash h (pad16 aad ++ pad16 ct ++ beBytes 8 (8 * aad.length) ++ beBytes 8 (8 * ct.length))
  xorBytes (aesEnc key (iv ++ [0, 0, 0, 1])) (beBytes 16 s)

/-- One step of KW on register A and the semiblocks R, number `t`. -/
def kwStep (key : List Nat) (n : Nat) (s : List Nat × List (List Nat)) (t : Nat) : List Nat × List (List Nat) :=
  let i := (t - 1) % n
  let b := aesEnc key (s.1 ++ s.2.getD i [])
  (xorBytes (b.take 8) (beBytes 8 t), s.2.set i (b.drop 8))
def kwStepInv (key : List Nat) (n : Nat) (s : List Nat × List (List Nat)) (t : Nat) : List Nat × List (List Nat) :=
  let i := (t - 1) % n
  let b := aesDec key (xorBytes s.1 (beBytes 8 t) ++ s.2.getD i [])
  (b.take 8, s.2.set i (b.drop 8))

/-- A key wrapped under KW, and unwrapped; none where the check value is wrong. -/
def kwWrap (key data : List Nat) : List Nat :=
  let n := data.length / 8
  let s := ((List.range (6 * n)).map (· + 1)).foldl (kwStep key n) (List.replicate 8 0xA6, chunks 8 n data)
  s.1 ++ s.2.flatten
def kwUnwrap (key ct : List Nat) : Option (List Nat) :=
  let n := ct.length / 8 - 1
  let s := ((List.range (6 * n)).map (· + 1)).reverse.foldl (kwStepInv key n) (ct.take 8, chunks 8 n (ct.drop 8))
  if s.1 = List.replicate 8 0xA6 then some s.2.flatten else none

/-! ## ECDSA on P-256 (FIPS 186-5) -/

def p256 : Nat := 2 ^ 256 - 2 ^ 224 + 2 ^ 192 + 2 ^ 96 - 1
def p256b : Nat := 0x5AC635D8AA3A93E7B3EBBD55769886BC651D06B0CC53B0F63BCE3C3E27D2604B
def p256n : Nat := 0xFFFFFFFF00000000FFFFFFFFFFFFFFFFBCE6FAADA7179E84F3B9CAC2FC632551
def p256g : Nat × Nat :=
  (0x6B17D1F2E12C4247F8BCE6E563A440F277037D812DEB33A0F4A13945D898C296, 0x4FE342E2FE1A7F9B8EE7EB4A7C0F9E162BCE33576B315ECECBB6406837BF51F5)

/-- A power modulo `q`, over the exponent's low `k` bits. -/
def powMod (q : Nat) : Nat → Nat → Nat → Nat
  | 0, _, _ => 1 % q
  | k + 1, x, e => let r := powMod q k (x * x % q) (e / 2); if e % 2 = 1 then r * x % q else r

/-- The inverse modulo a prime below 2^256. -/
def invMod (q x : Nat) : Nat := powMod q 256 (x % q) (q - 2)

/-- The sum of two points; none is the point at infinity. -/
def ecAdd (a b : Option (Nat × Nat)) : Option (Nat × Nat) :=
  match a, b with
  | none, q => q
  | q, none => q
  | some (x1, y1), some (x2, y2) =>
    if x1 = x2 && (y1 + y2) % p256 = 0 then none
    else
      let l := if x1 = x2 then (3 * x1 * x1 + (p256 - 3)) * invMod p256 (2 * y1) % p256
        else (y2 + p256 - y1) * invMod p256 (x2 + p256 - x1) % p256
      let x3 := (l * l + 2 * p256 - x1 - x2) % p256
      some (x3, (l * (x1 + p256 - x3) + (p256 - y1)) % p256)

/-- A multiple of a point, over the low `k` bits of the factor. -/
def ecMul : Nat → Nat → Option (Nat × Nat) → Option (Nat × Nat)
  | 0, _, _ => none
  | k + 1, n, q => let r := ecMul k (n / 2) (ecAdd q q); if n % 2 = 1 then ecAdd r q else r

/-- The public point X ‖ Y of a private key; zeros for none. -/
def ecPublic (d : List Nat) : List Nat :=
  match ecMul 256 (beNat d) (some p256g) with
  | some (x, y) => beBytes 32 x ++ beBytes 32 y
  | none => List.replicate 64 0

/-- A point of the curve. -/
def ecOnCurve (x y : Nat) : Bool :=
  decide (x < p256) && decide (y < p256) && (y * y % p256 == (x * x * x + (p256 - 3) * x + p256b) % p256)

/-- The signature r ‖ s of a message with the per-message number `k`; none where `k` must be drawn again. -/
def ecdsaSign (d msg : List Nat) (k : Nat) : Option (List Nat) :=
  let e := beNat (sha256 msg)
  match ecMul 256 k (some p256g) with
  | none => none
  | some (x, _) =>
    let r := x % p256n
    let s := invMod p256n k * (e + r * beNat d) % p256n
    if r = 0 || s = 0 then none else some (beBytes 32 r ++ beBytes 32 s)

/-- Whether r ‖ s is a signature of a message under the public key X ‖ Y. -/
def ecdsaVerify (pub msg sig : List Nat) : Bool :=
  let x := beNat (pub.take 32)
  let y := beNat (pub.drop 32)
  let r := beNat (sig.take 32)
  let s := beNat (sig.drop 32)
  let e := beNat (sha256 msg)
  let w := invMod p256n s
  ecOnCurve x y && decide (0 < r) && decide (r < p256n) && decide (0 < s) && decide (s < p256n) &&
    match ecAdd (ecMul 256 (e * w % p256n) (some p256g)) (ecMul 256 (r * w % p256n) (some (x, y))) with
    | some (px, _) => px % p256n == r
    | none => false

end Sys2Proof.Machine
end

