-- ==== Sys2Proof/Machine/Views.lean ====
section
/-! DEFINITION. What a read of a page register returns (R70, R82 to R84, R448): the live register, the shadow of an RWS register, the
aggregates of a Bight, the clock registers and the image of SINKCOMPAT. -/

namespace Sys2Proof.Machine

/-- The rank of a STATE in a Bight's aggregate (R83). -/
def stRank (s : Nat) : Nat := match s with | 4 => 6 | 3 => 5 | 5 => 4 | 0 => 3 | 1 => 2 | 2 => 1 | _ => 0

/-- The direct members that count in the aggregate (R83). -/
def Mach.counted (m : Mach) (b : Nat) : List Nat := (m.members b).filter fun n => !m.absent n

/-- STATE and HEALTH of a unit or Bight; `fuel` bounds the depth of the tree (R83). -/
def Mach.aggregate (m : Mach) : Nat → Nat → Nat × Nat
  | 0, n => (m.st n, m.fld n Hdr.HEALTH)
  | fuel + 1, n =>
    if clsOf n == .bight then
      match (m.counted n).map (m.aggregate fuel) with
      | [] => (1, 0)
      | p :: l => l.foldl (fun a q => (if stRank a.1 < stRank q.1 then q.1 else a.1, max a.2 q.2)) p
    else (m.st n, m.fld n Hdr.HEALTH)

/-- The class every leaf shares, if there is one (R82). -/
def Mach.leafClass (m : Mach) (b : Nat) : Option Cls :=
  match m.leaves b with
  | [] => none
  | n :: l => if l.all (fun k => clsOf k == clsOf n) then some (clsOf n) else none

/-- The class code of a page: for a proxy, that of the remote unit (R61, R448). -/
def Mach.classCode (m : Mach) (n : Nat) : Nat := m.fld n Hdr.CLASS

/-- LEAF_CLASS: the class code shared by every leaf, 0 when they differ or there are none (R82). -/
def Mach.leafCode (m : Mach) (b : Nat) : Nat :=
  match m.leaves b with
  | [] => 0
  | n :: l => if l.all (fun k => m.classCode k == m.classCode n) then m.classCode n else 0

/-- Whether a unit's CAPS.ADAPTIVE is 1. -/
def Mach.isAdaptive (m : Mach) (n : Nat) : Bool := m.flag n Hdr.ADAPTIVE

/-- The STATE word of a Bight (R81). -/
def Mach.bightState (m : Mach) (b : Nat) : Word :=
  let ls := m.leaves b
  let a := m.aggregate m.depth b
  let ad := ls.filter m.isAdaptive
  let frozen := if ad.isEmpty then !ls.isEmpty && ls.all m.isFrozen else ad.all m.isFrozen
  let any (f : Fld) : Nat := if ls.any (m.flag · f) then 1 else 0
  BitVec.ofNat 32 (m.fld b Hdr.LAST_SEQ * 2 ^ 16 + (if frozen then 2 ^ 11 else 0) + any Hdr.SHADOW_DIRTY * 2 ^ 10
    + m.fld b Hdr.REJECT * 2 ^ 9 + any Hdr.BUSY * 2 ^ 8 + a.2 * 2 ^ 4 + a.1)

/-- CAPS of a Bight (R81). -/
def Mach.bightCaps (m : Mach) (b : Nat) : Word :=
  let ls := m.leaves b
  BitVec.ofNat 32 ((if !ls.isEmpty && ls.all (m.flag · Hdr.GUARDABLE) then 4 else 0) + (if ls.any m.isAdaptive then 2 else 0) + 9)

/-- The lowest present leaf of a Bight. -/
def Mach.firstLeaf (m : Mach) (b : Nat) : Option Nat := (m.presentLeaves b).head?

/-- Whether a register has RWS fields: a read then returns the shadow (R70). -/
def isRws (c : Cls) (off : Nat) : Bool :=
  match regDef c off with
  | some r => r.flds.any fun f => f.acc == .rws
  | none => false

/-- The bits of a register a read returns from its shadow. -/
def rwsBits (c : Cls) (off : Nat) : Nat :=
  match regDef c off with
  | some r => r.bits (· == .rws)
  | none => 0

/-- The armed Marks of a base (R112). -/
def Mach.armedOn (m : Mach) (k : Nat) : List (Nat × Mark) := m.marks.filter fun q => q.2.armed && q.2.base == k

/-- NEXT of a base: the Mark that fires next, due ones first, in ascending position and then entry (R110, R112). -/
def Mach.nextMark (m : Mach) (k : Nat) : Option Nat :=
  let p := m.pos k
  let dist := fun (q : Nat × Mark) => if q.2.due.isSome then -((p - q.2.pos).toNat : Int) else ((q.2.pos - p).toNat : Int)
  ((m.armedOn k).foldl (fun (a : Option (Nat × Mark)) q =>
    match a with
    | none => some q
    | some b => if dist q < dist b then some q else some b) none).map (·.1)

/-- The readings of a CAP page that the Mark table gives (R112), STATUS and AUX (R113, R123), and the slots of a base that is not MAINS
(R116). -/
def Mach.capView (m : Mach) (k off : Nat) : Option Word :=
  if off = 0x098 then some (match m.nextMark k with | some e => BitVec.ofNat 32 (2 ^ 31 + e) | none => 0)
  else if off = 0x09C then
    some (BitVec.ofNat 32 ((4096 - (m.marks.filter fun q => q.2.armed).length) * 65536 + (m.armedOn k).length))
  else if off = 0x068 then some (m.capStatus k)
  else if off = 0x07C then some (m.capAux k)
  else if 0x100 ≤ off && m.fld (pgCap k) Cap.TYPE ≠ 3 then some 0
  else none

/-- The registers an OUT follower reads from its head (R145): SAFE, DRIVE, PWM_PERIOD, PWM_SYNC, LIMIT, INRUSH, START, RETRY and
THERM. -/
def headOffs : List Nat := [0x020, 0x044, 0x048, 0x04C, 0x050, 0x054, 0x058, 0x05C, 0x060]

/-- An OUT follower's register that stands in its head (R145). -/
def Mach.ofHead (m : Mach) (n off : Nat) : Bool :=
  clsOf n == .out && headOffs.contains off && m.head (n - 0x20) != n - 0x20

/-- The page a register's value stands in: the head's for a follower's shared register, else its own. -/
def Mach.viewPage (m : Mach) (n off : Nat) : Nat := if m.ofHead n off then m.outCfg (n - 0x20) else n

/-- A register of a page that is no Bight: the write-only bits read 0, RWS bits read the shadow (R7, R70); an
absent unit keeps its header, reads ABSENT and no class register (R5). -/
def Mach.peekUnit (m : Mach) (n off : Nat) : Word :=
  let c := clsOf n
  if !m.occupied n then 0
  else if m.absent n then
    (if off = 0x004 then Hdr.PRESENT.put (m.reg n off) 0 else if off = 0x00C then Hdr.STATE.put (m.reg n off) 6
      else if off < 0x040 then m.reg n off else 0)
  else match c, off with
  | .reckon, 0x040 => BitVec.ofNat 32 m.rk
  | .reckon, 0x050 => BitVec.ofNat 32 (m.utcNs / 1000000000)
  | .logline, 0x054 => BitVec.ofNat 32 (m.log.topMs / 1000)
  | .logline, 0x058 => BitVec.ofNat 32 m.log.pcyc
  | .proxy, _ =>
    let p := tget m.proxies proxyReset (n - 0x4000)
    if off < 0x040 || (decide (p.ofs ≤ off) && decide (off < p.ofs + 4 * p.len)) then m.reg n off else 0
  | _, _ =>
    if c == .cap && (m.capView (n - 0x10) off).isSome then (m.capView (n - 0x10) off).getD 0
    else if c == .compat && decide (0x100 ≤ off) then BitVec.ofNat 32 (m.imageRead ((off - 0x100) / 4))
    else
    let s := rwsBits c off
    let p := m.viewPage n off
    if s = 0 then m.reg p off
    else BitVec.ofNat 32 ((m.shd p off).toNat &&& s) ||| (m.reg p off &&& BitVec.ofNat 32 (0xFFFFFFFF - s))

/-- A read of a page register, without its side effects. -/
def Mach.peek (m : Mach) (n off : Nat) : Word :=
  if clsOf n == .bight then
    match off with
    | 0x004 => m.bightCaps n
    | 0x00C => m.bightState n
    | 0x014 => 0
    | 0x018 => 0
    | 0x01C => 0
    | 0x020 => match m.firstLeaf n with | some k => m.peekUnit k off | none => 0
    | 0x028 => match m.firstLeaf n with | some k => m.peekUnit k off | none => 0
    | 0xF00 => BitVec.ofNat 32 (m.leafCode n * 2 ^ 16 + (m.members n).length)
    | 0xF08 =>
      match (m.members n)[m.fld n Bight.CURSOR]? with
      | some k => BitVec.ofNat 32 (2 ^ 31 + k)
      | none => 0
    | 0xF10 => BitVec.ofNat 32 ((m.leaves n).filter fun k => (m.unit k).direct).length
    | _ =>
      if 0x040 ≤ off && decide (off < 0xF00) then
        match m.firstLeaf n with | some k => m.peekUnit k off | none => 0
      else m.reg n off
  else m.peekUnit n off

/-- The side effects of a read: COUNT_LO latches COUNT_HI, and UTC_S latches UTC_NS (R362). -/
def Mach.readEffect (n off : Nat) (m : Mach) : Mach :=
  if n = pgReckon && off = 0x040 then m.setFld pgReckon Reckon.COUNT_HI (m.rk / 2 ^ 32)
  else if n = pgReckon && off = 0x050 then m.setFld pgReckon Reckon.UTC_NS (m.utcNs % 1000000000)
  else m

end Sys2Proof.Machine
end

