-- ==== Sys2Proof/Machine/Routing.lean ====
section
/-! DEFINITION. The Hitch table: its entries, the arithmetic of a result, the hash walk, the fields of frames, the queue of lookups and
the filling of outgoing frames (17_backbone_hitch_and_fid.md, R437 to R441). -/

namespace Sys2Proof.Machine

/-! ## Entries (R437) -/

def HEntry.v (e : HEntry) : Bool := e.w0.getLsbD 31
def HEntry.sk (e : HEntry) : Nat := (⟨0, 30, 28⟩ : Fld).of e.w0
def HEntry.dk (e : HEntry) : Nat := (⟨0, 27, 25⟩ : Fld).of e.w0
def HEntry.ssign (e : HEntry) : Bool := e.w0.getLsbD 24
def HEntry.dsign (e : HEntry) : Bool := e.w0.getLsbD 23
def HEntry.smsb (e : HEntry) : Bool := e.w0.getLsbD 22
def HEntry.dmsb (e : HEntry) : Bool := e.w0.getLsbD 21
def HEntry.trig (e : HEntry) : Bool := e.w0.getLsbD 20
def HEntry.chg (e : HEntry) : Bool := e.w0.getLsbD 19
def HEntry.sat (e : HEntry) : Bool := e.w0.getLsbD 18
def HEntry.gap (e : HEntry) : Nat := e.w0.toNat % 65536
def HEntry.skeyB (e : HEntry) : Nat := e.w2.toNat / 2 ^ 20
def HEntry.swidth (e : HEntry) : Nat := (⟨0, 19, 14⟩ : Fld).of e.w2
def HEntry.spos (e : HEntry) : Nat := e.w2.toNat % 2 ^ 14
def HEntry.dkeyB (e : HEntry) : Nat := e.w4.toNat / 2 ^ 20
def HEntry.dwidth (e : HEntry) : Nat := (⟨0, 19, 14⟩ : Fld).of e.w4
def HEntry.dpos (e : HEntry) : Nat := e.w4.toNat % 2 ^ 14
def HEntry.mul (e : HEntry) : Int := (⟨0, 31, 16⟩ : Fld).sof e.w5
def HEntry.shift (e : HEntry) : Nat := (⟨0, 15, 11⟩ : Fld).of e.w5
def HEntry.ofs (e : HEntry) : Int := e.w6.toInt

/-- The payload bits of a kind of frame: CAN 64 bytes, LIN 8, TRDP 1,432; a unit register 32 bits (R437). -/
def kindBits (k : Nat) : Nat := match k with | 0 => 512 | 1 => 64 | 2 => 11456 | _ => 32

/-- The kind a destination kind shares with the source kinds. -/
def destKind (dk : Nat) : Nat := match dk with | 0 => 3 | 1 => 0 | 2 => 1 | _ => 2

/-- Whether a key fits its kind (R437): a controller or channel that exists, a word-aligned offset, a local index. -/
def keyOk (k keyA keyB : Nat) (dest : Bool) : Bool :=
  match k with
  | 0 => if dest then keyB / 128 < 6 else keyB < 6
  | 1 => keyB < 4
  | 2 => keyB == 0
  | _ => decide (keyB ≤ 0xEFC) && keyB % 4 == 0 && (!dest || decide (keyA ≤ 0x5FFF))

/-- Why WRITE refuses an entry: REASON 1 for reserved bits or codes, REASON 3 for a key out of range or a field that does not fit
(R437). -/
def HEntry.bad (e : HEntry) : Option Nat :=
  if 3 < e.sk || 3 < e.dk || (⟨0, 17, 16⟩ : Fld).of e.w0 != 0 || e.w5.toNat % 2048 != 0 then some 1
  else if 32 < e.swidth || 32 < e.dwidth then some 3
  else if !keyOk e.sk e.w1.toNat e.skeyB false || !keyOk (destKind e.dk) e.w3.toNat e.dkeyB true then some 3
  else if kindBits e.sk < e.spos + e.swidth || kindBits (destKind e.dk) < e.dpos + e.dwidth then some 3
  else none

/-- Whether a valid entry has a source with these keys. -/
def HEntry.fits (e : HEntry) (sk : Nat) (keyA : Word) (keyB : Nat) : Bool :=
  e.v && e.sk == sk && e.w1 == keyA && e.skeyB == keyB

/-! ## Fields of frames (R437) -/

/-- Bit `n` of a payload, most significant bit of each byte first when `msb`. -/
def payBit (p : List Byte) (msb : Bool) (n : Nat) : Bool :=
  (p.getD (n / 8) 0).getLsbD (if msb then 7 - n % 8 else n % 8)

/-- The field of `w` bits from bit `pos`: numbered upwards from its least significant bit, or from its most significant when `msb`. -/
def payField (p : List Byte) (msb : Bool) (pos w : Nat) : Nat :=
  (List.range w).foldl (fun a i => if msb then 2 * a + (payBit p msb (pos + i)).toNat else a + (payBit p msb (pos + i)).toNat * 2 ^ i) 0

/-- Set bit `n` of a payload. -/
def paySet (p : List Byte) (msb : Bool) (n : Nat) (b : Bool) : List Byte :=
  let i := if msb then 7 - n % 8 else n % 8
  let o := p.getD (n / 8) 0
  p.set (n / 8) (if b then o ||| BitVec.ofNat 8 (2 ^ i) else o &&& BitVec.ofNat 8 (255 - 2 ^ i))

/-- Write a field of `w` bits at bit `pos`. -/
def payPut (p : List Byte) (msb : Bool) (pos w v : Nat) : List Byte :=
  (List.range w).foldl (fun p i => paySet p msb (pos + i) (Nat.testBit v (if msb then w - 1 - i else i))) p

/-! ## Results (R438) -/

/-- A field value as SSIGN reads it. -/
def HEntry.source (e : HEntry) (raw : Nat) : Int :=
  if e.ssign && decide (0 < e.swidth) && Nat.testBit raw (e.swidth - 1) then (raw : Int) - 2 ^ e.swidth else raw

/-- The result before it is cut to the destination field: ((v × MUL) >> SHIFT) + OFS, clamped when SAT (R438). -/
def HEntry.value (e : HEntry) (v : Int) : Int :=
  let r := (v * e.mul) / (2 ^ e.shift : Nat) + e.ofs
  if e.sat then
    if e.dsign then (if e.dwidth = 0 then 0 else max (-(2 ^ (e.dwidth - 1) : Nat)) (min r ((2 ^ (e.dwidth - 1) : Nat) - 1)))
    else max 0 (min r ((2 ^ e.dwidth : Nat) - 1))
  else r

/-- The low DWIDTH bits of the result. -/
def HEntry.out (e : HEntry) (v : Int) : Nat := (e.value v % (2 ^ e.dwidth : Nat)).toNat

/-! ## The table -/

/-- A slot of the table. -/
def Mach.hentry (m : Mach) (i : Nat) : HEntry := tget m.hitch.table hitchReset i

/-- Replace a slot of the table. -/
def Mach.setHentry (i : Nat) (e : HEntry) (m : Mach) : Mach :=
  { m with hitch := { m.hitch with table := tput m.hitch.table hitchReset i e } }

/-- The home slot of a key (R439). -/
def homeSlot (sk : Nat) (keyA : Word) (keyB : Nat) : Nat :=
  let x := keyA.toNat ^^^ (keyB * 65536) % 2 ^ 32 ^^^ (sk * 2 ^ 29) % 2 ^ 32
  (x ^^^ (x / 2 ^ 14) ^^^ (x / 2 ^ 28)) % 16384

/-- The slots a lookup walks: from the home slot up to the first invalid one or 32 slots (R439), with whether all 32 were walked. -/
def Mach.walk (m : Mach) : Nat → Nat → List Nat × Bool
  | 0, _ => ([], true)
  | k + 1, h => if (m.hentry h).v then let r := m.walk k ((h + 1) % 16384); (h :: r.1, r.2) else ([], false)

/-- The registers watched: those a valid entry names as a source (R440). -/
def Mach.watched (m : Mach) : List (Nat × Nat) :=
  (m.hitch.table.filter fun p => p.2.v && p.2.sk == 3).foldl
    (fun l p => let k := (p.2.w1.toNat % 65536, p.2.skeyB); if l.contains k then l else l ++ [k]) []

/-- A lookup request joins the FIFO; one that finds 256 waiting is dropped, counted in DROPS and sets HITCH_DROP (R441). -/
def Mach.hitchQueue (q : HReq) (m : Mach) : Mach :=
  if 256 ≤ m.hitch.fifo.length then (m.incSat pgHitch Hitch.DROPS).raise pgHitch 0
  else { m with hitch := { m.hitch with fifo := m.hitch.fifo ++ [q] } }

/-- The watched registers that a step changed each start a lookup (R440). -/
def Mach.watchChanges (m before : Mach) : Mach :=
  if m.hitch.table.isEmpty then m
  else m.watched.foldl (fun m k =>
    if before.peek k.1 k.2 = m.peek k.1 k.2 then m else m.hitchQueue ⟨3, BitVec.ofNat 32 k.1, k.2, []⟩) m

/-- The raw source field an entry has now: a register's field, or the frame field it saw last (R440). -/
def Mach.rawNow (m : Mach) (e : HEntry) : Option Nat :=
  if e.sk = 3 then some ((m.peek (e.w1.toNat % 65536) e.skeyB).toNat / 2 ^ e.spos % 2 ^ e.swidth) else e.seen

/-- An outgoing frame takes the fields of every entry whose destination it is, from the present source values (R440). Keys as W3 and
DKEY_B hold them. -/
def Mach.hitchFill (dk : Nat) (keyA : Word) (keyB : Nat) (p : List Byte) (m : Mach) : List Byte × Mach :=
  m.hitch.table.foldl (fun a q =>
    let e := q.2
    if e.v && e.dk == dk && e.w3 == keyA && e.dkeyB == keyB && decide (0 < e.swidth) then
      match m.rawNow e with
      | some raw =>
        let r := e.out (e.source raw)
        (payPut a.1 e.dmsb e.dpos e.dwidth r, a.2.setHentry q.1 { e with hits := min (e.hits + 1) 65535 })
      | none => a
    else a) (p, m)

end Sys2Proof.Machine
end

