-- ==== Sys2Proof/Machine/Can.lean ====
section
/-! DEFINITION. The CAN FD controllers and their message objects (16_can_and_lin.md, R409 to R424). -/

namespace Sys2Proof.Machine

/-! ## Objects -/

def CanObj.en (o : CanObj) : Bool := o.ctl.getLsbD 31
def CanObj.sends (o : CanObj) : Bool := o.ctl.getLsbD 30
def CanObj.ide (o : CanObj) : Bool := o.ctl.getLsbD 29
def CanObj.fdf (o : CanObj) : Bool := o.ctl.getLsbD 28
def CanObj.rtr (o : CanObj) : Bool := o.ctl.getLsbD 26
def CanObj.abortAlone (o : CanObj) : Bool := o.ctl.getLsbD 25
def CanObj.j1939 (o : CanObj) : Bool := o.ctl.getLsbD 24
def CanObj.ovw (o : CanObj) : Bool := o.ctl.getLsbD 23
def CanObj.dlc (o : CanObj) : Nat := o.ctl.toNat % 16
/-- STATUS PENDING. -/
def CanObj.pending (o : CanObj) : Bool := o.status == 1

/-- Controller state behind page CANc. -/
def Mach.can (m : Mach) (c : Nat) : CanAux := tget m.cans canReset c

/-- Change what a controller holds. -/
def Mach.modCan (c : Nat) (g : CanAux → CanAux) (m : Mach) : Mach := { m with cans := tput m.cans canReset c (g (m.can c)) }

/-- Object `o` of controller `c`. -/
def Mach.canObj (m : Mach) (c o : Nat) : CanObj := tget m.canObjs canObjReset (c * 128 + o)

/-- Set or clear bit `i` of a register. -/
def Mach.setRegBit (n off i : Nat) (b : Bool) (m : Mach) : Mach :=
  let w := m.reg n off
  m.setReg n off (if b then w ||| BitVec.ofNat 32 (2 ^ i) else w &&& BitVec.ofNat 32 (0xFFFFFFFF - 2 ^ i))

/-- Replace an object; PEND and NEWMAP follow (R423). -/
def Mach.setCanObj (c o : Nat) (x : CanObj) (m : Mach) : Mach :=
  let m := { m with canObjs := tput m.canObjs canObjReset (c * 128 + o) x }
  (m.setRegBit (pgCan c) (0x080 + 4 * (o / 32)) (o % 32) x.pending).setRegBit (pgCan c) (0x090 + 4 * (o / 32)) (o % 32) x.fresh

/-- The bytes a length code carries (R414). -/
def dlcBytes (fd : Bool) (d : Nat) : Nat :=
  if d ≤ 8 then d
  else if !fd then 8
  else match d with | 9 => 12 | 10 => 16 | 11 => 20 | 12 => 24 | 13 => 32 | 14 => 48 | _ => 64

/-- The identifier an object sends: under J1939 the source address is replaced (R415). -/
def Mach.canTxId (m : Mach) (c : Nat) (x : CanObj) : Nat :=
  if x.j1939 then x.id.toNat / 256 * 256 + x.sa.getD (m.fld (pgCan c) Can.J1939_SA) else x.id.toNat

/-- The arbitration field of a frame, as a number: the lower wins (R413). -/
def arbKey (ide rtr : Bool) (id : Nat) : Nat :=
  if ide then id / 2 ^ 18 * 2 ^ 21 + 2 ^ 20 + 2 ^ 19 + id % 2 ^ 18 * 2 + rtr.toNat else id % 2048 * 2 ^ 21 + rtr.toNat * 2 ^ 20

/-- The PENDING object whose frame would win arbitration, the lowest number at equal identifiers (R413). FD frames are sent with FD_EN 1
only (R423). -/
def Mach.canBest (m : Mach) (c : Nat) : Option Nat :=
  let fd := m.flag (pgCan c) Can.FD_EN
  (m.canObjs.foldl (fun (a : Option (Nat × Nat)) p =>
    if p.1 / 128 = c && p.2.pending && (fd || !p.2.fdf) then
      let k := arbKey p.2.ide p.2.rtr (m.canTxId c p.2)
      match a with
      | some b => if k < b.1 then some (k, p.1 % 128) else a
      | none => some (k, p.1 % 128)
    else a) none).map (·.2)

/-! ## The controller -/

/-- Whether the controller operates on its bus (R423): IDLE, ACTIVE, or SAFE where it was on; a SELFTEST is disconnected from the bus. -/
def Mach.canOperates (m : Mach) (c : Nat) : Bool :=
  let s := m.st (pgCan c)
  s == 1 || s == 2 || (s == 3 && (m.unit (pgCan c)).enabled)

/-- ACTIVE once integrated, IDLE before that (R423). -/
def Mach.canSettle (c : Nat) (m : Mach) : Mach := m.settle (pgCan c) (m.flag (pgCan c) Can.SYNC)

/-- The next frame goes on the bus: the choice of R413, made when no frame of this controller is on the bus; the frame takes its Hitch
fields as it is built (R440). A controller that is not integrated, bus-off or restricted sends nothing (R417, R419, R423). -/
def Mach.canKick (c : Nat) (m : Mach) : Mach :=
  let n := pgCan c
  if (m.can c).onBus.isSome || !m.canOperates c || !m.flag n Can.SYNC || m.flag n Can.BUS_OFF || m.flag n Can.RESTRICTED then m
  else match m.canBest c with
    | none => m
    | some o =>
      let x := m.canObj c o
      let key := BitVec.ofNat 32 ((if x.ide then 2 ^ 31 else 0) + x.id.toNat)
      let r := if x.sa.isSome then (x.data, m) else m.hitchFill 1 key (c * 128 + o) x.data
      let m := r.2.setCanObj c o { x with data := r.1 }
      let ts := m.reg (pgCap (m.fld n Hdr.BASE_CAP)) Cap.POS.off
      (m.modCan c fun a => { a with onBus := some o, startTs := ts }).setFlag n Can.TX true

/-- Whether an object may be requested: an enabled send object (R412). -/
def Mach.canSendable (m : Mach) (c o : Nat) : Bool := (m.canObj c o).en && (m.canObj c o).sends

/-- A request for a send object takes effect here (R412): it becomes PENDING; one whose frame is on the bus sends once more after it. -/
def Mach.canRequestNow (c o : Nat) (m : Mach) : Mach :=
  let x := m.canObj c o
  if !m.canSendable c o then m
  else if (m.can c).onBus == some o then m.setCanObj c o { x with again := true }
  else (m.setCanObj c o { x with status := 1 }).canKick c

/-- The content of a frame with the counter of its guard entry advanced by 1 (R462). -/
def counterOn (g : Guard) (p : List Byte) : List Byte :=
  if g.ctrW = 0 then p else payPut p false g.ctrPos g.ctrW ((payField p false g.ctrPos g.ctrW + 1) % 2 ^ g.ctrW)

/-- A request for a send object (R412, R462): of a mirrored object, the Lead's goes out as an EDGE frame and takes effect at T_APPLY in both
modules; the Second's own counts for nothing. -/
def Mach.canRequest (c o : Nat) (m : Mach) : Mach :=
  if !m.canSendable c o then m
  else match m.mirror 1 (c * 256 + o) with
    | none => (m.setCanObj c o { m.canObj c o with sa := none }).canRequestNow c o
    | some _ =>
      if m.leadPair then
        let x := m.canObj c o
        let r := m.hitchFill 1 (BitVec.ofNat 32 ((if x.ide then 2 ^ 31 else 0) + x.id.toNat)) (c * 128 + o) x.data
        r.2.edgeSend (c * 256 + o) (.request 1 (m.fld (pgCan c) Can.J1939_SA) r.1) 3
      else if m.secondPair || m.mirrorsStopped then m
      else (m.setCanObj c o { m.canObj c o with sa := none }).canRequestNow c o

/-- A Mark's request (R462): the Second of a pair makes a periodic one itself, with the counter advanced, when no EDGE frame has brought it. -/
def Mach.canRequestMark (c o : Nat) (periodic : Bool) (m : Mach) : Mach :=
  let k := mirrorKey 1 (c * 256 + o)
  match m.mirror 1 (c * 256 + o) with
  | some g =>
    if m.secondPair && periodic then
      if m.splice.arrived.contains k then m.setArrived k false
      else
        let x := m.canObj c o
        (m.setCanObj c o { x with data := counterOn g x.data, sa := some (x.sa.getD (m.fld (pgCan c) Can.J1939_SA)) }).canRequestNow c o
    else m.canRequest c o
  | none => m.canRequest c o

/-- BUS_INTEGRATION (R411, R423): a controller that operates with the PLL locked is integrated and becomes ACTIVE. -/
def Mach.canIntegrate (c : Nat) (m : Mach) : Mach :=
  let n := pgCan c
  if m.canOperates c && m.flag pgClk Clk.LOCKED && !m.flag n Can.BUS_OFF then
    ((m.setFlag n Can.SYNC true).canSettle c).canKick c
  else m

/-- Integration starts afresh, at ENABLE or when the PLL is lost (R411, R423): the controller is IDLE until BUS_INTEGRATION. -/
def Mach.canUnsync (c : Nat) (m : Mach) : Mach :=
  (((m.setFlag (pgCan c) Can.SYNC false).setFlag (pgCan c) Can.TX false).modCan c fun a => { a with onBus := none }).canSettle c

/-- The controller is off: no frame of it is on the bus. -/
def Mach.canOff (c : Nat) (m : Mach) : Mach :=
  let n := pgCan c
  ((m.setFlag n Can.SYNC false).setFlag n Can.TX false).modCan c fun a => { a with onBus := none }

/-- Every PENDING object that is not on the bus is aborted (R423). -/
def Mach.canAbortAll (c : Nat) (m : Mach) : Mach :=
  m.canObjs.foldl (fun m p =>
    if p.1 / 128 = c && p.2.pending && (m.can c).onBus != some (p.1 % 128) then
      m.setCanObj c (p.1 % 128) { p.2 with status := 3, again := false }
    else m) m

/-- Class turn-off at DISABLE (R423): a frame on the bus completes, every other PENDING object is aborted. -/
def Mach.canStop (c : Nat) (m : Mach) : Mach :=
  let m := m.canAbortAll c
  if (m.can c).onBus.isSome then m else m.canOff c

/-- CLEAR_FAULTS clears the counters (R423). -/
def Mach.canCleared (c : Nat) (m : Mach) : Mach := (m.setFld (pgCan c) Can.BUSOFFS 0).setFld (pgCan c) Can.OVERRUNS 0

/-! ## Error counters (R417 to R419) -/

/-- ERR_WARN and ERR_PASSIVE follow the counters; a source sets when its bit does. -/
def Mach.canCounters (c : Nat) (m : Mach) : Mach :=
  let n := pgCan c
  let t := m.fld n Can.TEC
  let r := m.fld n Can.REC
  let warn := decide (96 ≤ t) || decide (96 ≤ r)
  let passive := (decide (128 ≤ t) || m.flag n Can.RP) && !m.flag n Can.BUS_OFF
  let newWarn := warn && !m.flag n Can.ERR_WARN
  let newPassive := passive && !m.flag n Can.ERR_PASSIVE
  let m := (m.setFlag n Can.ERR_WARN warn).setFlag n Can.ERR_PASSIVE passive
  let m := if newWarn then m.raise n 0 else m
  if newPassive then m.raise n 1 else m

/-- The first acknowledged frame or valid frame received ends ALONE (R418). -/
def Mach.canNotAlone (c : Nat) (m : Mach) : Mach :=
  (m.modCan c fun a => { a with ackRun := 0 }).setFlag (pgCan c) Can.ALONE false

/-- Bus-off (R417): the controller leaves the bus with its PENDING objects kept; recovery starts at once under AUTO_RECOVER. The
transmit error counter is beyond its field: what it reads is open (a free value). -/
def Mach.canBusOff (c : Nat) (m : Mach) : Mach :=
  let n := pgCan c
  let (v, m) := m.free
  let m := ((m.canOff c).setFlag n Can.BUS_OFF true).setFld n Can.TEC v
  let m := (m.incSat n Can.BUSOFFS).setFlag n Can.RECOVERING (m.flag n Can.AUTO_RECOVER)
  (m.raise n 2).canSettle c

/-- A failed attempt of the object on the bus (R416, R418): dropped when an abort waits for it or the unit is off, or when the bus is
alone and its policy is ABORT; otherwise it stays PENDING. -/
def Mach.canFailed (c o : Nat) (wasAlone : Bool) (m : Mach) : Mach :=
  let x := m.canObj c o
  let m := (m.modCan c fun a => { a with onBus := none }).setFlag (pgCan c) Can.TX false
  if x.aborting || m.st (pgCan c) == 0 then m.setCanObj c o { x with status := 3, again := false, aborting := false }
  else if wasAlone && x.abortAlone then m.setCanObj c o { x with status := 4, again := false, aborting := false }
  else m.setCanObj c o { x with again := false }

/-- CAN_ERROR (R417, R418, ISO 11898-1): an error of the frame this controller sends, or of a frame it receives. `kind` is the code of
LEC; `major` marks the receiver errors that count 8. -/
def Mach.canError (c : Nat) (tx : Bool) (kind : Nat) (major : Bool) (m : Mach) : Mach :=
  let n := pgCan c
  if kind = 0 || 6 < kind then m
  else if tx then
    match (m.can c).onBus with
    | none => m
    | some o =>
      let alone := m.flag n Can.ALONE
      let m := m.setFld n Can.LEC kind
      let run := if kind = 3 then min ((m.can c).ackRun + 1) 64 else 0
      let m := m.modCan c fun a => { a with ackRun := run }
      let m := if decide (64 ≤ run) && !alone then (m.setFlag n Can.ALONE true).raise n 3 else m
      let passive := m.flag n Can.ERR_PASSIVE
      let tec := if m.flag n Can.RESTRICTED || (kind = 3 && passive) then m.fld n Can.TEC else m.fld n Can.TEC + 8
      let m := m.canFailed c o alone
      if 256 ≤ tec then m.canBusOff c
      else
        let m := (m.setFld n Can.TEC tec).canCounters c
        if m.st n == 0 then m.canOff c else m.canKick c
  else if !m.canOperates c || !m.flag n Can.SYNC then m
  else
    let m := m.setFld n Can.LEC kind
    if m.flag n Can.RESTRICTED then m
    else
      let r := m.fld n Can.REC + (if major then 8 else 1)
      let m := if 128 ≤ r then (m.setFld n Can.REC 127).setFlag n Can.RP true else m.setFld n Can.REC r
      m.canCounters c

/-- A write of RECOVER (R417). -/
def Mach.canRecover (c : Nat) (m : Mach) : Mach :=
  if m.flag (pgCan c) Can.BUS_OFF then m.setFlag (pgCan c) Can.RECOVERING true else m

/-- BUS_OFF_RECOVERY (R417): 128 sequences of 11 recessive bits. -/
def Mach.canRecovered (c sequences : Nat) (m : Mach) : Mach :=
  let n := pgCan c
  if !m.flag n Can.RECOVERING || sequences < 128 || !m.canOperates c then m
  else
    let m := (m.setFlag n Can.RECOVERING false).setFlag n Can.BUS_OFF false
    let m := ((m.setFld n Can.TEC 0).setFld n Can.REC 0).setFlag n Can.RP false
    (m.canCounters c).canIntegrate c

/-- TXD_DOM (R424): TXD dominant for 4 ms releases the transmitter and turns the controller off. -/
def Mach.canTxdDom (c ms : Nat) (m : Mach) : Mach :=
  if ms < 4 || !m.canOperates c then m else (m.raise (pgCan c) 5).canOff c

/-! ## Frames (R412 to R416) -/

/-- Raise the interrupt an object asks for (R423). -/
def Mach.canIrq (x : CanObj) (m : Mach) : Mach :=
  if x.ctl.getLsbD 22 then m.irq ((⟨0, 16, 14⟩ : Fld).of x.ctl) ((⟨0, 21, 17⟩ : Fld).of x.ctl) else m

/-- CAN_FRAME_SENT (R413, R412, R418): the frame on the bus completes and its object is SENT; a request held for it makes it PENDING
again, and the next choice goes on the bus. -/
def Mach.canSent (c : Nat) (m : Mach) : Mach :=
  let n := pgCan c
  match (m.can c).onBus with
  | none => m
  | some o =>
    let x := m.canObj c o
    let off := m.st n == 0
    let again := x.again && !off && !x.aborting
    let m := m.setCanObj c o { x with status := if again then 1 else 2, ts := (m.can c).startTs, again := false, aborting := false }
    let m := (m.incWrap n Can.FRAMES_TX).setFld n Can.TEC (m.fld n Can.TEC - 1)
    let m := ((m.canNotAlone c).setFlag n Can.TX false).modCan c fun a => { a with onBus := none }
    let m := (m.canCounters c).canIrq x
    if off then (m.canAbortAll c).canOff c else m.canKick c

/-- Whether an object accepts a frame (R414, R415). -/
def Mach.canAccepts (m : Mach) (c : Nat) (x : CanObj) (f : CanFrame) : Bool :=
  let diff := f.id ^^^ x.id.toNat
  let mask := x.mask.toNat
  let sa := m.fld (pgCan c) Can.J1939_SA
  let ps := f.id / 256 % 256
  let pdu1 := decide (f.id / 65536 % 256 < 240)
  let mask := if x.j1939 then mask % 2 ^ 26 else mask
  let mask := if x.j1939 && pdu1 then mask - (mask / 256 % 256) * 256 else mask
  x.en && !x.sends && x.ide == f.ide && x.fdf == f.fdf && diff &&& mask == 0
    && (!(x.j1939 && pdu1) || ps == 255 || (ps == sa && sa != 254))

/-- The lowest-numbered object that accepts a frame (R414). -/
def Mach.canFilter (m : Mach) (c : Nat) (f : CanFrame) : Option Nat :=
  ((m.canObjs.filter fun p => p.1 / 128 == c).find? fun p => m.canAccepts c p.2 f).map fun p => p.1 % 128

/-- Replace the first bytes of a payload. -/
def overlay (old new : List Byte) : List Byte := new ++ old.drop new.length

/-- A frame of this controller that another node's frame overtakes has lost arbitration (R413): its object stays PENDING, is ABORTED where
an abort waits for it, and a controller whose DISABLE waited for it turns off (R416, R423). -/
def Mach.canLost (c : Nat) (m : Mach) : Mach :=
  match (m.can c).onBus with
  | none => m
  | some o =>
    let m := m.canFailed c o false
    if m.st (pgCan c) == 0 then m.canOff c else m

/-- A valid frame counts (R417 to R419): REC falls, from error-passive to a value of 119 to 127, which is open. -/
def Mach.canCounted (c : Nat) (m : Mach) : Mach :=
  let n := pgCan c
  let (v, m) := if m.flag n Can.RP && !m.flag n Can.RESTRICTED then m.free else (0, m)
  let m :=
    if m.flag n Can.RESTRICTED then m
    else if m.flag n Can.RP then (m.setFld n Can.REC (119 + v % 9)).setFlag n Can.RP false
    else m.setFld n Can.REC (m.fld n Can.REC - 1)
  ((m.canCounters c).canNotAlone c).incWrap n Can.FRAMES_RX

/-- The accepting object takes a frame, a NEW one under OVW, and a lookup starts (R414, R440). -/
def Mach.canStore (c o : Nat) (f : CanFrame) (m : Mach) : Mach :=
  let n := pgCan c
  let x := m.canObj c o
  let bytes := (f.data.take (if f.rtr then 0 else dlcBytes f.fdf f.dlc))
  let ts := m.reg (pgCap (m.fld n Hdr.BASE_CAP)) Cap.POS.off
  let stored := { x with data := overlay x.data bytes, ctl := Can.DLC.put x.ctl f.dlc, ts := ts, fresh := true }
  let m :=
    if x.fresh then
      let m := (m.incSat n Can.OVERRUNS).raise n 4
      m.setCanObj c o { (if x.ovw then stored else x) with status := 6 }
    else m.setCanObj c o { stored with status := 5 }
  let m := m.canIrq x
  m.hitchQueue ⟨0, BitVec.ofNat 32 ((if f.ide then 2 ^ 31 else 0) + f.id), c, bytes⟩

/-- CAN_FRAME_RECEIVED (R414): a valid frame of another node. A frame of this controller on the bus has lost arbitration.
With FD_EN 0 an FD frame is a format error (R423). The accepting object takes it, a NEW one under OVW; a lookup starts (R440). -/
def Mach.canReceived (c : Nat) (f : CanFrame) (m : Mach) : Mach :=
  let n := pgCan c
  let m := m.canLost c
  if !m.canOperates c || !m.flag n Can.SYNC || m.flag n Can.BUS_OFF then m
  else
    if f.fdf && !m.flag n Can.FD_EN then (m.canError c false 2 false).canKick c
    else
      let m := m.canCounted c
      (match m.canFilter c f with
        | none => m
        | some o => m.canStore c o f).canKick c

/-! ## The object window (R416) -/

/-- The words of a payload. -/
def wordsOf : List Byte → List Word
  | a :: b :: c :: d :: l => BitVec.ofNat 32 (leNat [a, b, c, d]) :: wordsOf l
  | _ => []

/-- OBJ_OP READ (R416): the object into the window; NEW clears. -/
def Mach.canObjRead (c : Nat) (m : Mach) : Mach :=
  let n := pgCan c
  let o := m.fld n Can.OBJ_SEL
  let x := m.canObj c o
  let m := m.setRegs n 0x068 [x.ctl, x.id, x.mask, BitVec.ofNat 32 (x.status * 2 ^ 24 + x.fresh.toNat), x.ts]
  (m.setRegs n 0x100 (wordsOf x.data)).setCanObj c o { x with fresh := false }

/-- OBJ_OP WRITE (R416): configuration and data replaced at once; refused with REASON 3 for a send object on the bus. A PENDING object
stays PENDING while it is an enabled send object. A base-format identifier has bits 28:11 at 0 (R423). -/
def Mach.canObjWrite (c : Nat) (m : Mach) : Mach :=
  let n := pgCan c
  let o := m.fld n Can.OBJ_SEL
  let x := m.canObj c o
  if (m.can c).onBus == some o then m.refuse n 0x07C 3
  else
    let ctl := m.reg n 0x068
    let id := m.reg n 0x06C
    let y := { x with ctl := ctl, id := if ctl.getLsbD 29 then id else id &&& 0x7FF#32, mask := m.reg n 0x070,
                      data := bytesOf ((List.range 16).map fun i => m.reg n (0x100 + 4 * i)) }
    m.setCanObj c o (if x.pending && !(y.en && y.sends) then { y with status := 0 } else y)

/-- OBJ_OP TX_REQ (R412). -/
def Mach.canTxReq (c : Nat) (m : Mach) : Mach :=
  let o := m.fld (pgCan c) Can.OBJ_SEL
  if m.canSendable c o then m.canRequest c o else m.refuse (pgCan c) 0x07C 3

/-- OBJ_OP ABORT (R416): a PENDING object is ABORTED; one on the bus is not sent again if its frame fails. -/
def Mach.canAbort (c : Nat) (m : Mach) : Mach :=
  let o := m.fld (pgCan c) Can.OBJ_SEL
  let x := m.canObj c o
  if (m.can c).onBus == some o then m.setCanObj c o { x with aborting := true, again := false }
  else if x.pending then m.setCanObj c o { x with status := 3, again := false }
  else m

/-- What a write of the window's configuration word must satisfy (R415, R423). -/
def canCtlOk (w : Word) : Bool :=
  !(w.getLsbD 27 && !w.getLsbD 28) && !(w.getLsbD 26 && w.getLsbD 28) && !(w.getLsbD 24 && !w.getLsbD 29)

/-- Whether a write to a CAN register is in range (R411, R422, R423): CFG, NBT and DBT only in OFF, the wake registers in OFF or IDLE,
bit times of 1 µs and 200 ns at least, PN_EN on CAN0 and CAN1 only. -/
def Mach.canWriteOk (m : Mach) (c off : Nat) (w : Word) : Bool :=
  let s := m.st (pgCan c)
  let clocks (a b d : Fld) : Nat := a.of w * (1 + b.of w + d.of w)
  match off with
  | 0x040 => s == 0 && !(Can.PN_EN.of w == 1 && decide (2 ≤ c))
  | 0x044 => s == 0 && decide (80 ≤ clocks Can.NBRP Can.NTSEG1 Can.NTSEG2)
  | 0x048 => s == 0 && decide (16 ≤ clocks Can.DBRP Can.DTSEG1 Can.DTSEG2)
  | 0x068 => canCtlOk w
  | 0x0A0 => s ≤ 1
  | 0x0A4 => s ≤ 1
  | 0x0A8 => s ≤ 1
  | 0x0AC => s ≤ 1
  | 0x0B0 => s ≤ 1
  | _ => true

/-! ## Bounds (R420, R421) -/

/-- Clocks of 12.5 ns in a nominal bit and in a data bit (R411). -/
def Mach.canBit (m : Mach) (c : Nat) (data : Bool) : Nat :=
  let f := fun (x : Fld) => m.fld (pgCan c) x
  if data then f Can.DBRP * (1 + f Can.DTSEG1 + f Can.DTSEG2) else f Can.NBRP * (1 + f Can.NTSEG1 + f Can.NTSEG2)

/-- T_F of a frame with `d` data bytes, in units of 10 µs, that is 800 clocks (R420). -/
def Mach.canFrameBound (m : Mach) (c : Nat) (fd : Bool) (d : Nat) : Nat :=
  let tn := m.canBit c false
  let nd := 5 + 8 * d + (4 + 8 * d) / 4 + (if d ≤ 16 then 27 else 32)
  let nc := 54 + 8 * d + (53 + 8 * d) / 4 + 13
  ((if fd then max (59 * tn + nd * m.canBit c true) (120 * tn) else max nc 120 * tn) + 799) / 800

/-- The bound of R421 in clocks of 12.5 ns: `dBus` the longest payload on the bus, `dOwn` the object's, `k` errors of 23 bits each and `j`
attempts made while error-passive. -/
def Mach.canLatency (m : Mach) (c : Nat) (fd : Bool) (dBus dOwn k j : Nat) : Nat :=
  let tn := m.canBit c false
  80 + 800 * m.canFrameBound c fd dBus + 800 * m.canFrameBound c fd dOwn + k * (23 * tn + 800 * m.canFrameBound c fd dOwn) + j * 8 * tn

end Sys2Proof.Machine
end

