-- ==== Sys2Proof/Machine/Lin.lean ====
section
/-! DEFINITION. The LIN channels (16_can_and_lin.md, R425 to R428). -/

namespace Sys2Proof.Machine

def LinFrame.en (f : LinFrame) : Bool := f.ctl.getLsbD 31
def LinFrame.type (f : LinFrame) : Nat := Lin.TYPE.of f.ctl
def LinFrame.publish (f : LinFrame) : Bool := f.ctl.getLsbD 28
def LinFrame.assoc (f : LinFrame) : Bool := f.ctl.getLsbD 26
def LinFrame.len (f : LinFrame) : Nat := Lin.LEN.of f.ctl
def LinFrame.ident (f : LinFrame) : Nat := Lin.ID.of f.ctl

/-- What channel `c` holds behind its page. -/
def Mach.lin (m : Mach) (c : Nat) : LinAux := tget m.lins linReset c

/-- Change what a channel holds. -/
def Mach.modLin (c : Nat) (g : LinAux → LinAux) (m : Mach) : Mach := { m with lins := tput m.lins linReset c (g (m.lin c)) }

/-- Frame entry `i` of channel `c`. -/
def Mach.linFrame (m : Mach) (c i : Nat) : LinFrame := tget m.linFrames linFrameReset (c * 64 + i)

/-- Replace a frame entry. -/
def Mach.setLinFrame (c i : Nat) (f : LinFrame) (m : Mach) : Mach :=
  { m with linFrames := tput m.linFrames linFrameReset (c * 64 + i) f }

/-- ACTIVE while the schedule runs or, as responder, while the bus is awake (R427). -/
def Mach.linSettle (c : Nat) (m : Mach) : Mach :=
  let n := pgLin c
  m.settle n (m.flag n Lin.RUNNING || (m.flag n Lin.ROLE && !m.flag n Lin.ASLEEP))

/-- LIN_START (R427): the commander's schedule starts at entry 0. -/
def Mach.linStart (c : Nat) (m : Mach) : Mach :=
  if m.flag (pgLin c) Lin.ROLE || !m.running (pgLin c) then m
  else
    let m := (m.modLin c fun _ => linReset).setFlag (pgLin c) Lin.RUNNING true
    (m.setFlag (pgLin c) Lin.ASLEEP false).linSettle c

/-- LIN_STOP (R427). -/
def Mach.linStop (c : Nat) (m : Mach) : Mach :=
  ((m.modLin c fun _ => linReset).setFlag (pgLin c) Lin.RUNNING false).linSettle c

/-- GO_TO_SLEEP (R426): the command goes out in the next slot, after which the schedule stops. -/
def Mach.linGoToSleep (c : Nat) (m : Mach) : Mach := m.modLin c fun a => { a with sleepDue := true }

/-- The bus is awake (R426). -/
def Mach.linAwake (c : Nat) (m : Mach) : Mach := (m.setFlag (pgLin c) Lin.ASLEEP false).linSettle c

/-- The bus sleeps. -/
def Mach.linAsleep (c : Nat) (m : Mach) : Mach := (m.setFlag (pgLin c) Lin.ASLEEP true).linSettle c

/-- A transmission request of a publish entry (R440, R425): its data counts as written. -/
def Mach.linRequest (c : Nat) (ident : Nat) (m : Mach) : Mach :=
  m.linFrames.foldl (fun m p =>
    if p.1 / 64 = c && p.2.publish && p.2.ident == ident then m.setLinFrame c (p.1 % 64) { p.2 with written := true } else m) m

/-- A failed frame is counted; NO_RESPONSE and CHECKSUM report (R427, R428). -/
def Mach.linFailed (c result : Nat) (m : Mach) : Mach :=
  let m := m.incSat (pgLin c) Lin.ERRORS
  if result = 2 then m.raise (pgLin c) 0 else if result = 3 then m.raise (pgLin c) 1 else m

/-- A byte added with the carry added back (ISO 17987-3). -/
def addCarry (a b : Nat) : Nat := if 255 < a + b then a + b - 255 else a + b

/-- The protected identifier: two parity bits above the identifier (ISO 17987-3). -/
def protectedId (i : Nat) : Nat :=
  let b := fun (k : Nat) => Nat.testBit i k
  i % 64 + 64 * (xor (b 0) (xor (b 1) (xor (b 2) (b 4)))).toNat + 128 * (!(xor (b 1) (xor (b 3) (xor (b 4) (b 5))))).toNat

/-- The checksum of a frame's data (R409, R427, ISO 17987-3): classic over the data, enhanced over the protected identifier as well; TYPE 3
is always classic. -/
def LinFrame.checksum (f : LinFrame) (data : List Byte) : Nat :=
  let classic := f.type == 3 || !f.ctl.getLsbD 27
  255 - data.foldl (fun a b => addCarry a b.toNat) (if classic then 0 else protectedId f.ident)

/-- Whether entry `i` puts a frame on the bus in its slot (R425). -/
def LinFrame.sends (f : LinFrame) : Bool := f.en && f.len != 0 && !(f.type == 2 && !f.written)

/-- The frame of entry `i` runs with `result` (codes of FRM_STAT) and the bytes and checksum a subscribed frame brought. A published frame takes its
Hitch fields (R440); a received one starts a lookup. An event-triggered frame no node answers is no failure (ISO 17987-3). -/
def Mach.linFrameRuns (c i result : Nat) (data : List Byte) (sum : Byte) (m : Mach) : Mach :=
  let f := m.linFrame c i
  let result := if result = 1 && !f.publish && decide (f.checksum (data.take f.len) ≠ sum.toNat) then 3 else result
  let key := BitVec.ofNat 32 f.ident
  if f.len = 0 then m.setLinFrame c i { f with stat := 1 }
  else if f.publish then
    let r := m.hitchFill 2 key c f.data
    let m := r.2.setLinFrame c i { f with data := r.1, stat := result, written := f.written && result != 1 }
    if result = 1 then m else m.linFailed c result
  else if result = 1 then
    let bytes := data.take f.len
    (m.setLinFrame c i { f with data := overlay f.data bytes, stat := 1 }).hitchQueue ⟨1, key, c, bytes⟩
  else
    let m := m.setLinFrame c i { f with stat := result }
    if f.type = 1 && (result = 2 || result = 6) then m else m.linFailed c result

/-- The first entry from `i` up to the schedule's end, then from 0, that is not reserved for resolving a collision (R425). -/
def Mach.linNext (m : Mach) (c len : Nat) : Nat → Nat → Option Nat
  | 0, _ => none
  | k + 1, i =>
    let i := if len ≤ i then 0 else i
    if (m.linFrame c i).assoc then m.linNext c len k (i + 1) else some i

/-- The unconditional ASSOC entries that follow entry `i` at once (R425). -/
def Mach.linAssoc (m : Mach) (c len : Nat) : Nat → Nat → List Nat
  | 0, _ => []
  | k + 1, i =>
    let f := m.linFrame c i
    if decide (i < len) && f.assoc && f.type == 0 then i :: m.linAssoc c len k (i + 1) else []

/-- The entry whose slot runs next: one to poll after a collision, else the schedule's next. -/
def Mach.linUpcoming (m : Mach) (c : Nat) : Option Nat :=
  match (m.lin c).polls with
  | i :: _ => some i
  | [] => let len := m.fld (pgLin c) Lin.SCHED_LEN; m.linNext c len len (m.lin c).next

/-- Whether the running schedule puts a frame on the bus (R426). -/
def Mach.linSends (m : Mach) (c : Nat) : Bool :=
  m.flag (pgLin c) Lin.RUNNING && ((m.lin c).sleepDue || match m.linUpcoming c with
    | some i => (m.linFrame c i).sends
    | none => false)

/-- LIN_SLOT (R425, R426): the slot that runs elapses, `ms` after it began, and the next entry's slot begins with its frame: the go-to-sleep
command, an entry to poll after a collision, or the schedule's next entry. A sporadic entry whose data has not been written sends nothing. -/
def Mach.linSlot (c ms result : Nat) (data : List Byte) (sum : Byte) (m : Mach) : Mach :=
  let n := pgLin c
  let a := m.lin c
  if !m.running n || ms < a.slot then m
  else if a.sleepDue then (m.linStop c).linAsleep c
  else if !m.flag n Lin.RUNNING || result = 0 || 6 < result then m
  else match m.linUpcoming c with
    | none => m
    | some i =>
      let f := m.linFrame c i
      let poll := !a.polls.isEmpty
      let m := m.modLin c fun a => { a with slot := Lin.SLOT_T.of f.ctl, polls := a.polls.drop 1, next := if poll then a.next else i + 1 }
      if !f.en || (f.type = 2 && !f.written) then m
      else
        let m := m.linFrameRuns c i result data sum
        if !poll && f.type = 1 && result = 6 then m.modLin c fun a => { a with polls := m.linAssoc c (m.fld n Lin.SCHED_LEN) 64 (i + 1) } else m

/-- LIN_HEADER (R425): as responder, the channel answers an enabled publish entry's identifier or stores a subscribed frame; the
go-to-sleep command puts the bus to sleep (R426). -/
def Mach.linHeader (c ident result : Nat) (data : List Byte) (sum : Byte) (m : Mach) : Mach :=
  let n := pgLin c
  if !m.flag n Lin.ROLE || !m.running n || result = 0 || 6 < result then m
  else
    let m := m.linAwake c
    let m := match (m.linFrames.find? fun p => p.1 / 64 == c && p.2.en && p.2.ident == ident) with
      | some p => m.linFrameRuns c (p.1 % 64) result data sum
      | none => m
    if ident = 0x3C && result = 1 && data == 0 :: List.replicate 7 0xFF then m.linAsleep c else m

/-- BUS_SHORT (R428): the bus dominant for 20 ms stops the schedule. -/
def Mach.linShort (c ms : Nat) (m : Mach) : Mach :=
  if ms < 20 then m else ((m.modLin c fun _ => linReset).setFlag (pgLin c) Lin.RUNNING false).raise (pgLin c) 2

/-- FRM_OP READ (R427): the entry into the window. -/
def Mach.linFrmRead (c : Nat) (m : Mach) : Mach :=
  let n := pgLin c
  let f := m.linFrame c (m.fld n Lin.FRM_SEL)
  (m.setRegs n 0x04C (f.ctl :: wordsOf f.data)).setFld n Lin.FRM_STAT f.stat

/-- FRM_OP WRITE (R427): the window into the entry; its data counts as written. -/
def Mach.linFrmWrite (c : Nat) (m : Mach) : Mach :=
  let n := pgLin c
  let i := m.fld n Lin.FRM_SEL
  m.setLinFrame c i { m.linFrame c i with ctl := m.reg n 0x04C, data := bytesOf [m.reg n 0x050, m.reg n 0x054], written := true }

/-- OP (R427): 1 START, 2 STOP, 3 GO_TO_SLEEP, 4 WAKE. -/
def Mach.linOp (c op : Nat) (m : Mach) : Mach :=
  match op with
  | 1 => m.linStart c
  | 2 => m.linStop c
  | 3 => m.linGoToSleep c
  | 4 => m.linAwake c
  | _ => m

end Sys2Proof.Machine
end

