-- ==== Sys2Proof/Machine/Switch.lean ====
section
/-! DEFINITION. The bridge of the backbone: which frames a port takes in, the ingress policer, the learning table, the traffic classes of
an egress port and the duplicates of PRP (17_backbone_hitch_and_fid.md, R429 to R431, R433). -/

namespace Sys2Proof.Machine

/-- Time on the wires, in units of 1/512,000 µs: the Reckoner's count and the page clocks since it. -/
def Mach.wire (m : Mach) : Nat := (m.rk * 15625 + m.clk) * 1000

/-- Change what the bridge holds. -/
def Mach.modNet (g : SwitchAux → SwitchAux) (m : Mach) : Mach := { m with net := g m.net }

/-- The switch runs: ETH is IDLE, ACTIVE or SAFE. -/
def Mach.ethOn (m : Mach) : Bool := m.st pgEth == 1 || m.st pgEth == 2 || m.st pgEth == 3

/-! ## Egress (R431) -/

/-- The time one byte takes on a port's wire: ETH0 and ETH1 run at 1 Gbit/s, the other ports at 100 Mbit/s (R429). -/
def byteTime (port : Nat) : Nat := if port < 2 then 4096 else 40960

/-- The frame a port sends next: the oldest of its highest class (R431). -/
def nextEgress (q : List Egress) (port : Nat) : Option Egress :=
  q.foldl (fun a e => if e.port ≠ port then a else match a with
    | some b => if b.cls < e.cls then some e else a
    | none => some e) none

/-- What a port's wire has taken by the time `now`: frames in strict priority, one at a time, each with 20 bytes of preamble and gap. -/
def SwitchAux.drain (now port : Nat) : Nat → SwitchAux → SwitchAux
  | 0, s => s
  | k + 1, s =>
    let free := tget s.busy 0 port
    match nextEgress s.queued port with
    | some e =>
      if now < free then s
      else ({ s with queued := s.queued.erase e, busy := tput s.busy 0 port (max free e.at_ + (e.bytes + 20) * byteTime port) }).drain now port k
    | none => s

/-- Every port's wire goes on to the present. -/
def Mach.egressOn (m : Mach) : Mach :=
  if m.net.queued.isEmpty then m
  else m.modNet fun s => [0, 1, 4, 5].foldl (fun s p => s.drain m.wire p s.queued.length) s

/-- The traffic class of a frame (R431): PTP in 7, the body VLAN in 6, other frames by their PCP in 0 to 5. -/
def Mach.trafficClass (m : Mach) (f : EthFrame) : Nat :=
  if f.ptp then 7 else if f.vid = m.fld pgEth Eth.BODY_VID then 6 else min f.pcp 5

/-- A frame joins a port's queue: the buffer holds 1 MiB, of which 128 KiB are reserved to classes 6 and 7 (R431). -/
def Mach.enqueue (port cls bytes : Nat) (m : Mach) : Mach :=
  let used := (m.net.queued.map (·.bytes)).sum
  let low := ((m.net.queued.filter fun e => decide (e.cls < 6)).map (·.bytes)).sum
  if 1048576 < used + bytes || (decide (cls < 6) && decide (917504 < low + bytes)) then m
  else (m.modNet fun s => { s with queued := s.queued ++ [⟨port, cls, bytes, m.wire⟩] }).egressOn

/-! ## Ingress (R430, R431, R433) -/

/-- Whether the policer of a port drops a frame of another VLAN (R431): beyond OTHER_MAX Mbit/s; with 0 it passes none. -/
def Mach.policed (m : Mach) (f : EthFrame) : Bool :=
  !f.ptp && decide (f.vid ≠ m.fld pgEth Eth.BODY_VID)
    && (decide (m.fld pgEth Eth.OTHER_MAX = 0) || decide (m.wire + Config.policeBurst < tget m.net.paid 0 f.port))

/-- A frame of another VLAN that passes is charged to its port. -/
def Mach.charge (f : EthFrame) (m : Mach) : Mach :=
  if f.ptp || f.vid = m.fld pgEth Eth.BODY_VID then m
  else
    let until_ := max (tget m.net.paid 0 f.port) m.wire + f.bytes * 4096000 / m.fld pgEth Eth.OTHER_MAX
    m.modNet fun s => { s with paid := tput s.paid 0 f.port until_ }

/-- PRP duplicate discard (R433): the numbers of the last 1,024 frames of each source for 400 ms. Answers whether the frame is a twin. -/
def Mach.prpSeen (mac seq : Nat) (m : Mach) : Bool × Mach :=
  let now := m.rk
  let fresh := m.eth.seen.filter fun e => decide ((now + 2 ^ 48 - e.2.2) % 2 ^ 48 < 13107)
  if fresh.any fun e => e.1 == mac && e.2.1 == seq then
    (true, { m with eth := { m.eth with seen := fresh } }.incWrap pgEth Eth.DUP_DISC)
  else
    let mine := (fresh.filter fun e => e.1 == mac).take 1023
    let others := fresh.filter fun e => e.1 != mac
    (false, { m with eth := { m.eth with seen := (mac, seq, now) :: mine ++ others } })

/-- LAN A and LAN B are no bridge ports (R430). -/
def lanPort (port : Nat) : Bool := port == 2 || port == 3

/-- A bridge port learns the source of a frame: 4,096 addresses, each for 300 s (R430). -/
def Mach.learn (f : EthFrame) (m : Mach) : Mach :=
  if lanPort f.port then m
  else m.modNet fun s => { s with fdb := ((f.src, f.port, m.rk) :: s.fdb.filter fun e =>
    e.1 != f.src && decide ((m.rk + 2 ^ 48 - e.2.2) % 2 ^ 48 < 300 * 32768)).take 4096 }

/-- A frame comes in on a port (R430, R431, R433): one of a port that is not enabled, or longer than 1,522 bytes, is none; the policer may
drop it; a PRP twin is discarded. Answers whether it goes on. -/
def Mach.ingress (f : EthFrame) (m : Mach) : Bool × Mach :=
  if !m.ethOn || !Nat.testBit (m.fld pgEth Eth.EN) f.port || 1522 < f.bytes then (false, m)
  else if m.policed f then (false, m.incSat pgEth Eth.POLICED)
  else
    let m := (m.charge f).learn f
    match f.prpSeq with
    | some q => if lanPort f.port then let r := m.prpSeen f.src q; (!r.1, r.2) else (true, m)
    | none => (true, m)

/-- The ports a bridged frame leaves by: its destination's, or every other enabled one where that is not learnt (R430). -/
def Mach.egressPorts (m : Mach) (f : EthFrame) : List Nat :=
  let out := [0, 1, 4, 5].filter fun p => p != f.port && Nat.testBit (m.fld pgEth Eth.EN) p
  match m.net.fdb.find? fun e => e.1 == f.dst && decide ((m.rk + 2 ^ 48 - e.2.2) % 2 ^ 48 < 300 * 32768) with
  | some e => out.filter fun p => p == e.2.1
  | none => out

/-- A frame passes through the bridge to other ports (R430, R431). -/
def Mach.bridged (f : EthFrame) (m : Mach) : Mach :=
  let r := m.egressOn.ingress f
  if !r.1 || lanPort f.port then r.2
  else (r.2.egressPorts f).foldl (fun (m : Mach) p => m.enqueue p (m.trafficClass f) f.bytes) r.2

end Sys2Proof.Machine
end

