-- ==== Sys2Proof/Machine/Eth.lean ====
section
/-! DEFINITION. The backbone: PTP time, links and TRDP process data (17_backbone_hitch_and_fid.md, R432 to R436, R449). -/

namespace Sys2Proof.Machine

/-- Traffic is processed: the module is ready and awake (R531). -/
def Mach.ready (m : Mach) : Bool := m.flag pgPwr Pwr.READY && m.pwr.asleep == 0

/-! ## PTP (R432) -/

/-- The grid points a publish entry has had: the PTP time, in 1/64 ns, by its CYCLE (R434); a CYCLE of 0 has none. -/
def Telegram.gridNow (t : Telegram) (ptp : Nat) : Nat := ptp / (Eth.CYCLE.of t.ctl * 64000000)

/-- Publish entries go on at the first grid point after a step of the time, or after synchronisation returns (R436). -/
def Mach.gridStepped (m : Mach) : Mach :=
  { m with eth := { m.eth with tels := m.eth.tels.map fun p => (p.1, { p.2 with grid := p.2.gridNow m.ptp, stepped := true }) } }

/-- The switch's PTP time is brought to the master's, as a step where SLOT and PTP-synthesised LINE bases take it as a jump (R432). -/
def Mach.ptpSet (ns : Nat) (jump : Bool) (m : Mach) : Mach :=
  let m := { m with ptp := ns * 64, eth := { m.eth with slew := 0 } }
  if jump then m.ptpStepped.gridStepped else m

/-- Synchronisation ends (R432): LOCK and PTP_LOCK clear, PTP_LOST sets, the count of good Syncs starts afresh, and the bases on PTP time
lose their signal (R96). -/
def Mach.ptpDrop (m : Mach) : Mach :=
  let m := { m with eth := { m.eth with good := 0 } }
  if m.ptpSync then (((m.setFlag pgEth Eth.LOCK false).setFlag pgReckon Reckon.PTP_LOCK false).raise pgEth 0).ptpLosses else m

/-- Synchronisation is forgotten at a start or a wake, and the switch's time counts from 0; the bridge starts with nothing learnt or queued,
and the PRP table is empty (R432, R436). -/
def Mach.ptpForget (m : Mach) : Mach :=
  ({ m with ptp := 0, net := switchReset, eth := { m.eth with good := 0, slew := 0, seen := [] } }.gridStepped.setFlag pgEth Eth.LOCK
    false).setFlag pgReckon Reckon.PTP_LOCK false

/-- PTP_LOST (R432): no Sync for 3 intervals ends synchronisation; an offset above 10 µs ends it and is applied as a step. -/
def Mach.ptpLost (intervals : Nat) (offset : Int) (m : Mach) : Mach :=
  if !m.ptpSync then m
  else if 10000 < offset.natAbs then (m.ptpSet ((m.ptp / 64 : Int) - offset).toNat true).ptpDrop
  else if 3 ≤ intervals then m.ptpDrop
  else m

/-- Whether Syncs of a port are followed (R432): ETH0, ETH1, ETH4, ETH5, and LAN A and LAN B when PTP.LAN is 1. -/
def Mach.ptpPort (m : Mach) (port : Nat) : Bool :=
  Nat.testBit (m.fld pgEth Eth.EN) port && m.flag pgEth Eth.PTP_EN && (!(port == 2 || port == 3) || m.flag pgEth Eth.LAN)

/-- The offset from a Sync and its distance are shown (R432, R449). -/
def Mach.ptpRead (offset : Int) (hops : Nat) (m : Mach) : Mach :=
  (m.setReg pgEth Eth.OFFSET.off (wordOfInt (max (-2147483648) (min offset 2147483647)))).setFld pgEth Eth.HOPS (min hops 255)

/-- PTP_SYNC (R432, R344): a Sync of the best master with its time in ns, stepsRemoved and UTC offset in seconds. The fourth in
succession below 1 µs gains synchronisation. A grandmaster change moves the time by slewing up to 1 ms and by a step above it. -/
def Mach.ptpSyncIn (port domain master hops : Nat) (utcOff : Int) (gmChange : Bool) (m : Mach) : Mach :=
  if !m.ethOn || !m.ptpPort port || domain != m.fld pgEth Eth.DOMAIN then m
  else
    let offset : Int := (m.ptp / 64 : Int) - master
    let m := m.ptpRead offset hops
    if m.ptpSync then
      if gmChange then
        let m := if offset.natAbs ≤ 1000000 then { m with eth := { m.eth with slew := -offset * 64 } } else m.ptpSet master true
        m.utcCompare utcOff
      else if m.eth.slew ≠ 0 && decide (offset.natAbs ≤ 1000000) then
        { m with eth := { m.eth with slew := -offset * 64 } }.utcCompare utcOff
      else if 10000 < offset.natAbs then m.ptpLost 0 offset
      else (m.ptpSet master false).utcCompare utcOff
    else
      let good := if offset.natAbs < 1000 then m.eth.good + 1 else 0
      let m := { m with eth := { m.eth with good := good } }.ptpSet master (decide (1000000 < offset.natAbs))
      if good < 4 then m
      else
        let m := (m.setFlag pgEth Eth.LOCK true).setFlag pgReckon Reckon.PTP_LOCK true
        m.ptpGained.gridStepped.utcCompare utcOff

/-! ## Links (R430, R449) -/

/-- ACTIVE while any port has link. -/
def Mach.ethSettle (m : Mach) : Mach := m.settle pgEth (m.fld pgEth Eth.LINK != 0)

/-- LINK_CHANGE (R449): a port gains or loses link; one PRP LAN without link sets LAN_DOWN. -/
def Mach.linkChange (port : Nat) (up : Bool) (m : Mach) : Mach :=
  let l := m.fld pgEth Eth.LINK
  let l' := if up then l ||| 2 ^ port else l &&& (63 - 2 ^ port)
  let m := m.setFld pgEth Eth.LINK l'
  let one := (Nat.testBit l' 2 != Nat.testBit l' 3) && !up && (port == 2 || port == 3)
  (if one then m.raise pgEth 2 else m).ethSettle

/-- PRP_SUPERVISION (R433): 2 s after the last, a frame on both LANs. -/
def Mach.prpSupervise (ms : Nat) (m : Mach) : Mach :=
  if m.ethOn && decide (2000 ≤ ms) then { m with eth := { m.eth with supervised := m.eth.supervised + 1 } } else m

/-! ## TRDP (R434 to R436) -/

def Telegram.en (t : Telegram) : Bool := t.ctl.getLsbD 31
def Telegram.publish (t : Telegram) : Bool := t.ctl.getLsbD 30
def Telegram.cycle (t : Telegram) : Nat := Eth.CYCLE.of t.ctl
def Telegram.len (t : Telegram) : Nat := Eth.LEN.of t.ctl

/-- Telegram entry `i`. -/
def Mach.tel (m : Mach) (i : Nat) : Telegram := tget m.eth.tels telReset i

/-- Replace a telegram entry. -/
def Mach.setTel (i : Nat) (t : Telegram) (m : Mach) : Mach :=
  { m with eth := { m.eth with tels := tput m.eth.tels telReset i t } }

/-- Whether TRDP runs: the module has an address and ETH runs (R449). -/
def Mach.trdpOn (m : Mach) : Bool := m.reg pgEth Eth.IP.off != 0 && m.ethOn

/-- A telegram leaves with a dataset and a sequence counter. -/
def Mach.telSendNow (i : Nat) (data : List Byte) (seq : Nat) (m : Mach) : Mach :=
  m.setTel i { m.tel i with data := data, txSeq := seq % 2 ^ 32, sentAt := some m.rk }

/-- A telegram is sent: its dataset takes its Hitch fields (R434, R440). Of a mirrored one, the Lead's goes out as an EDGE frame and leaves
both modules at T_APPLY; the Second's own counts for nothing (R462). -/
def Mach.telSend (i : Nat) (m : Mach) : Mach :=
  let t := m.tel i
  let r := m.hitchFill 3 t.comid 0 (List.replicate t.len 0)
  if (m.mirror 2 i).isSome && m.leadPair then r.2.edgeSend i (.request 2 ((t.txSeq + 1) % 2 ^ 32) r.1) 3
  else if (m.mirror 2 i).isSome && (m.secondPair || m.mirrorsStopped) then m
  else r.2.telSendNow i r.1 (t.txSeq + 1)

/-- TRDP_PUBLISH (R434, R436): when the PTP time has passed a grid point of CYCLE since the last one taken, a publish entry sends. At the
first after a step of the time it skips a point less than CYCLE / 2 after its previous telegram. -/
def Mach.trdpPublish (i : Nat) (m : Mach) : Mach :=
  let t := m.tel i
  let g := t.gridNow m.ptp
  let tooSoon := t.stepped && match t.sentAt with
    | some s => decide ((m.rk + 2 ^ 48 - s) % 2 ^ 48 * 2000 < t.cycle * 32768)
    | none => false
  if !m.trdpOn || !t.en || !t.publish || g ≤ t.grid then m
  else
    let m := m.setTel i { t with grid := g, stepped := false }
    if tooSoon then m
    else match m.mirror 2 i with
      | some gu =>
        if m.secondPair then
          let k := mirrorKey 2 i
          if m.splice.arrived.contains k then m.setArrived k false else m.telSendNow i (counterOn gu t.data) (t.txSeq + 1)
        else m.telSend i
      | none => m.telSend i

/-- PR_RECEIVED (R434): a Pr for a publish entry is answered by a Pp. -/
def Mach.prReceived (comid : Word) (m : Mach) : Mach :=
  if !m.trdpOn then m
  else match m.eth.tels.find? fun p => p.2.en && p.2.publish && p.2.comid == comid with
    | some p => m.telSend p.1
    | none => m

/-- PD_FRAME_RECEIVED (R430, R431, R433, R434): `passing` went through the bridge before it. A frame of a port that is off or policed, and
the twin of a frame, is discarded; an accepted frame records its LAN, ends a time-out and starts a lookup. -/
def Mach.pdReceived (passing : List EthFrame) (f : PdFrame) (m : Mach) : Mach :=
  let m := passing.foldl (fun (m : Mach) e => m.bridged e) m
  let (go, m) := m.ingress f.eth
  let topoOk (r : Nat) (w : Word) : Bool := m.reg pgEth r == 0 || m.reg pgEth r == w
  if !m.trdpOn || !m.ready || !go || !f.fcsOk || !topoOk 0x060 f.etb || !topoOk 0x064 f.optrn then m
  else match m.eth.tels.find? fun p => p.2.en && !p.2.publish && p.2.comid == f.comid with
    | none => m
    | some p =>
      if p.2.rxSeq == some f.seq then m
      else
        let ctl := (Eth.LAN_B.put p.2.ctl (decide (f.eth.port = 3)).toNat)
        (m.setTel p.1 { p.2 with rxSeq := some f.seq, ctl := Eth.TIMEOUT.put ctl 0 }).hitchQueue ⟨2, f.comid, 0, f.data⟩

/-- PD_TMO (R435): no accepted frame for TMO ms; under TMO_ACT 1 every entry of the ComID is evaluated once with a source value of 0. A
time-out that stands does not come again. -/
def Mach.pdTmo (i ms : Nat) (m : Mach) : Mach :=
  let t := m.tel i
  let tmo := t.tmo.toNat % 65536
  if !m.trdpOn || !t.en || t.publish || tmo = 0 || ms < tmo || t.ctl.getLsbD 27 then m
  else
    let m := (m.setTel i { t with ctl := Eth.TIMEOUT.put t.ctl 1 }).raise pgEth 1
    if t.ctl.getLsbD 29 then m.hitchQueue ⟨2, t.comid, 0, List.replicate 1432 0⟩ else m

/-- TEL_READ (R449). -/
def Mach.telRead (m : Mach) : Mach :=
  let t := m.tel (m.fld pgEth Eth.TEL_SEL)
  m.setRegs pgEth 0x06C [t.comid, t.dest, t.ctl, t.tmo]

/-- TEL_WRITE (R449): the window into the entry; LAN_B and TIMEOUT are the entry's own, a new ComID starts with none accepted, and the
entry sends from the next point of its grid. -/
def Mach.telWrite (m : Mach) : Mach :=
  let i := m.fld pgEth Eth.TEL_SEL
  let t := m.tel i
  let comid := m.reg pgEth 0x06C
  let own := t.ctl &&& 0x18000000#32
  let u : Telegram := { t with comid := comid, dest := m.reg pgEth 0x070, ctl := (m.reg pgEth 0x074 &&& 0xE7FFFFFF#32) ||| own,
                               tmo := m.reg pgEth 0x078, rxSeq := if comid = t.comid then t.rxSeq else none }
  m.setTel i { u with grid := u.gridNow m.ptp }

/-- The PTP time at a Reckoner tick (R432, R436): it removes a slew at no more than 100 ppm. -/
def Mach.ptpSlew (m : Mach) : Mach :=
  let s : Int := max (-195) (min m.eth.slew 195)
  { m with ptp := ((m.ptp : Int) + s).toNat, eth := { m.eth with slew := m.eth.slew - s } }

end Sys2Proof.Machine
end

