-- ==== Sys2Proof/Machine/Collector.lean ====
section
/-! DEFINITION. The collector of Lay: reactions, which sources assert, which groups are snubbed and which units are forced
(12_lay_fault_collection.md, R326 to R336). -/

namespace Sys2Proof.Machine

/-- The reaction-table entry of a unit (R330); none for a Bight, which is forced through its leaves. -/
def layEntry (n : Nat) : Option Nat :=
  if n < 0x180 then some n
  else match clsOf n with
    | .sat => some (0x180 + (n - 0x1000) / 0x400)
    | .proxy => some 0x184
    | _ => none

/-- The source bits defined for an entry (R330). -/
def entrySrcs (e : Nat) : Nat :=
  if e < 0x180 then (info (clsOf e)).srcs else if e < 0x184 then (info .sat).srcs else 0xFFFFFFFF

/-- A 2-bit reaction of 1 at each defined bit of a half. -/
def reportHalf (srcs : Nat) : Nat := (List.range 16).foldl (fun a i => if Nat.testBit srcs i then a + 4 ^ i else a) 0

/-- An entry at reset: every defined source REPORT, TGROUP 0, MEMBER 0 (R330). -/
def reactReset (e : Nat) : React :=
  ⟨BitVec.ofNat 32 (reportHalf (entrySrcs e)), BitVec.ofNat 32 (reportHalf (entrySrcs e / 65536)), 0, 0⟩

/-- An entry of the reaction table. -/
def Mach.react (m : Mach) (e : Nat) : React := (tget m.lay.react none e).getD (reactReset e)

/-- The reaction of source `b` of unit `n`: 0 NONE, 1 REPORT, 2 SNUB_GROUP, 3 SNUB_ALL (R329). -/
def Mach.reaction (m : Mach) (n b : Nat) : Nat :=
  match layEntry n with
  | none => 0
  | some e => if b < 16 then (m.react e).lo.toNat / 4 ^ b % 4 else (m.react e).hi.toNat / 4 ^ (b - 16) % 4

/-- The sources of a unit the collector counts as asserting: those it has taken while they stay set and unmasked, and break latches
(R326, R327). -/
def Mach.layLive (m : Mach) (n : Nat) : Word :=
  (tget m.lay.asserting 0 n &&& m.reg n 0x018 &&& m.reg n 0x01C) ||| tget m.lay.breaks 0 n

/-- The units with something at the collector. -/
def Mach.layUnits (m : Mach) : List Nat :=
  (m.lay.asserting.map (·.1)) ++ ((m.lay.breaks.map (·.1)).filter fun n => !(m.lay.asserting.map (·.1)).contains n)

/-- Whether some asserting source has a reaction the predicate admits. -/
def Mach.layAny (m : Mach) (p : Nat → Nat → Bool) : Bool :=
  m.layUnits.any fun n => (List.range 32).any fun b => (m.layLive n).getLsbD b && p n (m.reaction n b)

/-- A SNUB_ALL cause holds (R333). -/
def Mach.snubAll (m : Mach) : Bool := m.layAny fun _ r => r == 3

/-- The groups now snubbed (R333). -/
def Mach.snubbedNow (m : Mach) : Nat :=
  if m.snubAll then 0xFFFF
  else (List.range 16).foldl (fun a g =>
    if Nat.testBit (m.fld pgLay Lay.SOFT) g
      || m.layAny (fun n r => r == 2 && (match layEntry n with | some e => (m.react e).tgroup == g | none => false))
    then a + 2 ^ g else a) 0

/-- FAULT_N conducts (R336). -/
def Mach.faultN (m : Mach) : Bool := !m.lay.released || !m.lay.breaks.isEmpty || m.layAny fun _ r => decide (1 ≤ r)

/-- A drive unit of R333. -/
def isDrive (n : Nat) : Bool :=
  match clsOf n with
  | .out => true | .bridge => true | .valve => true | .vhs => true | .boost => true | .rat => true | .sink => true | .sat => true
  | _ => false

/-- Whether a unit is forced by the groups snubbed (R333). -/
def Mach.forced (m : Mach) (n : Nat) : Bool :=
  let s := m.fld pgLay Lay.SNUBBED
  (m.flag pgLay Lay.SNUB_ALL && isDrive n)
    || (match layEntry n with | some e => (m.react e).member &&& s != 0 | none => false)

/-- The collector's status follows its sources (R333, R336, R341): assertions that have ended leave it; SNUBBED, SNUB_ALL, BREAK_HELD
and FAULTN_ON are what now holds; the pin takes a changed command. -/
def Mach.layRefresh (m : Mach) : Mach :=
  let live := (m.lay.asserting.map fun p => (p.1, p.2 &&& m.reg p.1 0x018 &&& m.reg p.1 0x01C)).filter fun p => p.2 != 0
  let m := { m with lay := { m.lay with asserting := live } }
  let m := (m.setFld pgLay Lay.SNUBBED m.snubbedNow).setFlag pgLay Lay.SNUB_ALL m.snubAll
  let m := (m.setFlag pgLay Lay.BREAK_HELD (!m.lay.breaks.isEmpty)).setFlag pgLay Lay.HALTED (m.src pgLay 0)
  let f := m.faultN
  let m := if m.flag pgLay Lay.FAULTN_ON = f then m else (m.setFlag pgLay Lay.FAULTN_ON f).setFlag pgLay Lay.FAULTN_PIN f
  m.settle pgLay (f || m.fld pgLay Lay.SNUBBED != 0)

end Sys2Proof.Machine
end

