-- ==== Sys2Proof/Machine/Units.lean ====
section
/-! DEFINITION. The life of a unit that is no Bight (02_units_and_pages.md, R62 to R72): class start-up and turn-off, SAFE, the faults
and their clearing, APPLY, self-test, FREEZE. What a system unit adds stands with its own chapter's file. -/

namespace Sys2Proof.Machine

/-! ## What a unit drives -/

/-- Bring a unit's IDLE or ACTIVE, and what it drives, to what its registers ask for. -/
def Mach.settleUnit (n : Nat) (m : Mach) : Mach :=
  match clsOf n with
  | .cap => m.capSettle (n - 0x10)
  | .bank => m.bankSettle (n - 0x18)
  | .out => m.groupSettle (n - 0x20)
  | .bridge => m.brSettle (n - 0xA0) false
  | .valve => m.valveSettle (n - 0xA8)
  | .vhs => m.valveSettle (2 * (n - 0xB0))
  | .boost => (List.range 4).foldl (fun m k => m.valveSettle (2 * k)) m.boostSettle
  | .rat => m.ratSettle (n - 0xC0)
  | .msg => (m.msgSettle (n - 0xD8)).chainOff (n - 0xD8)
  | .sink => m.sinkSettle (n - 0xDC)
  | .inp => m.inSettle (n - 0x100)
  | .touch => m.touchSettle (n - 0x160)
  | .can => m.canSettle (n - 0x170)
  | .lin => m.linSettle (n - 0x176)
  | .sat => m.settle n (m.flag n Sat.AWAKE)
  | .clk => m.settle n (m.flag n Clk.LOCKED)
  | .eth => m.ethSettle
  | .lay => m.layRefresh
  | .splice =>
    let p := m.fld n Splice.PSTATE
    m.settle n (p == 2 || p == 3 || p == 4 || p == 5)
  | .fid => m.settle n (m.fid.peers.any fun p => p.2.pstate == 2)
  | .tether => m.settle n (m.flag n Tether.RELEASED)
  | .strandctl => m.settle n ((List.range 6).any fun c =>
      m.fld n (Strandctl.C_STATE c) == 2 || m.fld n (Strandctl.C_STATE c) == 3)
  | .watchseq => m.settle n false
  | .policy => m.settle n m.policy.up
  | .locker => m
  | _ => m.settle n true

/-- Class start-up (R69). The unit has just become IDLE. -/
def Mach.startUnit (n : Nat) (m : Mach) : Mach :=
  match clsOf n with
  | .cap => m.capStart (n - 0x10)
  | .touch => (m.touchCapture (n - 0x160)).touchSettle (n - 0x160)
  | .can => (m.canUnsync (n - 0x170)).canSettle (n - 0x170)
  | _ => m.settleUnit n

/-- Class turn-off (R69). The unit has just become OFF. -/
def Mach.stopUnit (n : Nat) (m : Mach) : Mach :=
  match clsOf n with
  | .cap => m.capStop (n - 0x10)
  | .out => (m.outDisabled (n - 0x20)).groupSettle (n - 0x20)
  | .bridge => m.brUnparked (n - 0xA0)
  | .can => m.canStop (n - 0x170)
  | .lin => m.linStop (n - 0x176)
  | .inp => m.inStopped (n - 0x100)
  | .touch => m.touchStopped (n - 0x160)
  | .valve => m.valveStopped (n - 0xA8)
  | .vhs => (m.valveStopped (2 * (n - 0xB0))).valveStopped (2 * (n - 0xB0) + 1)
  | _ => m.settleUnit n

/-- What a set source asks of its unit, beyond FAULTED: the class fault action. -/
def Mach.actUnit (n b : Nat) (m : Mach) : Mach :=
  match clsOf n with
  | .out =>
    let c := n - 0x20
    if b = 0 || b = 1 || b = 2 || b = 4 then m.outTrip c (2 ^ b) else m.outRaise c (2 ^ b)
  | .bridge => m.brAct (n - 0xA0) b
  | .rat => m.ratAct (n - 0xC0) b
  | .msg => m.msgAct (n - 0xD8)
  | .valve => m.valveAct (n - 0xA8) b
  | .vhs => m.vhsAct (n - 0xB0) b
  | .boost => (if b = 2 then { m with boostHot := true } else m).settleUnit n
  | .inp => m.inAct (n - 0x100) b
  | .can => if b = 5 || b = 6 then m.canOff (n - 0x170) else m
  | .lin => if b = 2 then m.linStop (n - 0x176) else m
  | .logline => if b = 1 then { m with log := { m.log with stopped := true } } else m
  | .sat => m
  | _ => m.settleUnit n

/-! ## SAFE (R69, R147, R148, R318) -/

/-- The SLACK field of a unit: the application cores whose silence takes it to SAFE, bit 0 S2 to bit 3 S5 (R148); none for a channel that
BOOT_ON holds (R149). -/
def Mach.slackOf (m : Mach) (n : Nat) : Nat :=
  match clsOf n with
  | .out => if m.flag n Out.BOOT_HELD then 0 else m.fld n Out.SLACK
  | .bridge => m.fld n Bridge.SLACK
  | .valve => m.fld n Valve.SLACK
  | .rat => m.fld n Rat.SLACK
  | .sink => m.fld n Sink.SLACK
  | _ => 0

/-- The units whose forcing puts a unit in SAFE: the members of an output's declared group (R146), else the unit alone. -/
def Mach.peersOf (m : Mach) (n : Nat) : List Nat := if clsOf n == .out then (m.group (n - 0x20)).map pgOut else [n]

/-- A Snub forces the unit, or a member of its group (R146, R333). -/
def Mach.snubHeld (m : Mach) (n : Nat) : Bool := (m.peersOf n).any m.forced

/-- Whether the cause of a unit's SAFE persists: a Snub forces it or a member of its group, or a core that one of them names is silent
(R146, R148, R333). -/
def Mach.safeCause (m : Mach) (n : Nat) : Bool :=
  m.snubHeld n || (m.peersOf n).any fun k => m.slackOf k &&& m.fld pgPolicy Policy.SILENT != 0

/-- The class part of entering SAFE. -/
def Mach.classSafe (n : Nat) (snub : Bool) (m : Mach) : Mach :=
  match clsOf n with
  | .out => m.outEnterSafe (n - 0x20) snub
  | .bridge => (m.setSt n 3).brUnparked (n - 0xA0)
  | .valve => m.valveEnterSafe (n - 0xA8) snub
  | .rat => m.ratEnterSafe (n - 0xC0) snub
  | .sink => m.sinkEnterSafe (n - 0xDC) snub
  | .sat => m.satEnterSafe ((n - 0x1000) / 0x400) ((n - 0x1000) % 0x400)
  | _ => (m.setSt n 3).settleUnit n

/-- STATUS shows what holds a unit: a Snub, or a Slack-window expiry (R147, R148, and the tables of chapters 07 and 09). -/
def Mach.markHeld (n : Nat) (snub : Bool) (m : Mach) : Mach :=
  match clsOf n with
  | .out => m.setFlag n (if snub then Out.SNUBBED else Out.SLACK_7C) true
  | .rat => m.setFlag n (if snub then Rat.SNUBBED else Rat.SLACK_7C) true
  | .sink => m.setFlag n (if snub then Sink.SNUBBED else Sink.SLACK_5C) true
  | .valve => m.setFlag n (if snub then Valve.SNUBBED else Valve.SLACK_74) true
  | _ => m

/-- Whether STATUS shows a unit held by a Snub; true for the classes that show none. -/
def Mach.showsSnub (m : Mach) (n : Nat) : Bool :=
  match clsOf n with
  | .out => m.flag n Out.SNUBBED
  | .rat => m.flag n Rat.SNUBBED
  | .sink => m.flag n Sink.SNUBBED
  | .valve => m.flag n Valve.SNUBBED
  | _ => true

/-- One unit enters SAFE from OFF, IDLE, ACTIVE or TEST, whose test is aborted with HEALTH unchanged; a unit already SAFE takes the
further cause, and a FAULTED one stays FAULTED and shows what holds it (R69, R147, R318). -/
def Mach.enterSafeOne (n : Nat) (snub : Bool) (m : Mach) : Mach :=
  let s := m.st n
  if s == 0 || s == 1 || s == 2 || s == 5 then
    let m := if s == 5 then (m.modUnit n fun u => { u with test := none }).setFlag n Hdr.BUSY false else m
    (m.modUnit n fun u => { u with slackOnly := !snub }).classSafe n snub
  else if s == 3 then (m.modUnit n fun u => { u with slackOnly := u.slackOnly && !snub }).markHeld n snub
  else if s == 4 then m.markHeld n snub
  else m

/-- A unit enters SAFE by a Snub or by a Slack-window expiry; an output takes its declared group with it (R145), and one with BOOT_HELD
ignores the expiry (R149). -/
def Mach.enterSafe (n : Nat) (snub : Bool) (m : Mach) : Mach :=
  if clsOf n == .out then
    (m.group (n - 0x20)).foldl (fun m c =>
      if !snub && m.flag (pgOut c) Out.BOOT_HELD then m else m.enterSafeOne (pgOut c) snub) m
  else m.enterSafeOne n snub

/-! ## Clearing faults (R62, R63, R69) -/

/-- Set a list of fields to 0. -/
def Mach.zero (n : Nat) : List Fld → Mach → Mach
  | [], m => m
  | f :: l, m => (m.setFld n f 0).zero n l

/-- The class part of CLEAR_FAULTS: the counters and latches that it clears. -/
def Mach.clearCounts (n : Nat) (m : Mach) : Mach :=
  match clsOf n with
  | .dev => m.setReg n 0x050 0
  | .pwr => m.zero n [Pwr.ROLLBACKS, Pwr.FALSE_WAKES, Pwr.SKIPS, Pwr.RACES]
  | .clk => m.zero n [Clk.UNLOCKS]
  | .reckon => m.zero n [Reckon.STEPS, Reckon.GAP]
  | .lay =>
    let keep := m.lay.breaks.map fun p =>
      (p.1, BitVec.ofNat 32 ((List.range 32).foldl (fun a b => if p.2.getLsbD b && (m.lay.bad.contains (p.1, b) || (m.src p.1 b && (m.reg p.1 0x01C).getLsbD b)) then a + 2 ^ b else a) 0))
    let m := { m with lay := { m.lay with breaks := keep.filter fun p => p.2 != 0 } }
    (((m.setReg n 0x048 0).setReg n 0x04C 0).setReg n 0x050 0).setReg n 0x054 0 |>.zero n [Lay.ASSERTS, Lay.BREAKS]
  | .tlog => m.zero n [Tlog.APP_DROPS]
  | .logline => m.zero n [Logline.DROPS]
  | .policy => (m.setReg n 0x064 0).zero n [Policy.ADAPT_DROPS, Policy.RAISES, Policy.ERR_VALID]
  | .locker => m.zero n [Locker.DENIALS, Locker.SVC_ERRS]
  | .tether => m.zero n [Tether.JAMS, Tether.FAILED_N, Tether.LOCKOUTS, Tether.ANT_SHORT]
  | .splice => m.zero n [Splice.INTENT_FIX, Splice.AUTH_FAILS, Splice.CKPT_SKIPS, Splice.EDGE_LATE]
  | .fid => m.zero n [Fid.AUTH_FAIL, Fid.REPLAYS]
  | .eth => m.zero n [Eth.POLICED]
  | .hitch => m.zero n [Hitch.DROPS, Hitch.REJECTS]
  | .strandctl => (List.range 6).foldl (fun m c =>
      m.zero n [Strandctl.C_TRAPS c, Strandctl.C_DEFER_MAX c, Strandctl.C_ECC_CORR c, Strandctl.C_ECC_UNCORR c]) m
  | .cap => m.capCleared (n - 0x10)
  | .bank => m.zero n [Bank.A_LOSSES, Bank.B_LOSSES]
  | .out => m.outCleared (n - 0x20)
  | .bridge => m.brCleared (n - 0xA0)
  | .valve => m.valveCleared (n - 0xA8)
  | .rat => m.ratCleared (n - 0xC0)
  | .msg => m.zero n [Msg.ECHO_ERRS, Msg.CRC_REPORTS]
  | .inp => m.inCleared (n - 0x100)
  | .touch => m.touchCleared (n - 0x160)
  | .can => m.canCleared (n - 0x170)
  | .lin => m.zero n [Lin.ERRORS]
  | _ => m

/-- A list of conditions as a mask. -/
def bitsOf (l : List (Nat × Bool)) : Nat := l.foldl (fun a p => if p.2 then a ||| 2 ^ p.1 else a) 0

/-- The bank a unit draws from has tripped and its page has not left FAULTED (R154). -/
def Mach.bankDown (m : Mach) (n : Nat) : Bool := m.st (pgBank (bankOf n)) == 4

/-- The sources of an output whose conditions persist (R62): those of R129, R133, R140, R154, R160, R165, R173, R178 and R179. -/
def Mach.outPersisting (m : Mach) (c : Nat) : Nat :=
  let n := pgOut c
  let a := m.out c
  let e := m.fld n Out.EXPECT
  let th := m.fld n Out.ARC_TH
  bitsOf [(2, decide ((1700 : Int) ≤ m.sfld n Out.TJ)), (3, a.warm), (8, m.src n 8 && m.fedBack c), (14, m.bankDown n),
    (15, m.flag n Out.SYNC_LOST), (16, decide (th ≤ m.fld n Out.A_SER)), (17, decide (th ≤ m.fld n Out.A_PAR)),
    (18, decide (m.rhoDen ≤ m.rhoNum c)), (19, decide (m.fld n Out.F < 100)), (20, decide (2 ^ 48 ≤ a.damage)),
    (21, e != 0 && decide (3 ≤ a.classes.length) && (a.classes.take 3).all (· != e)),
    (22, decide (2 ≤ a.digiFails) || decide (2 ≤ a.refFails))]

/-- The sources of a unit whose conditions persist, so that they set again once cleared (R62): those its own registers show, and those
held from outside. -/
def Mach.persisting (m : Mach) (n : Nat) : Nat :=
  (m.unit n).holding.toNat |||
  match clsOf n with
  | .reckon => bitsOf [(0, m.flag n Reckon.DEGRADED)]
  | .cap => bitsOf [(0, m.flag n Cap.LOS_68)]
  | .lay => bitsOf [(0, m.flag n Lay.HALTED && m.flag n Lay.HALT_LOW), (1, !m.lay.bad.isEmpty),
      (2, m.src n 2 && m.flag n Lay.FAULTN_PIN != m.flag n Lay.FAULTN_ON)]
  | .policy => bitsOf [(0, m.flag n Policy.SILENT), (2, m.flag n Policy.STAGE)]
  | .eth => bitsOf [(2, Nat.testBit (m.fld n Eth.LINK) 2 != Nat.testBit (m.fld n Eth.LINK) 3)]
  | .can => bitsOf [(0, m.flag n Can.ERR_WARN), (1, m.flag n Can.ERR_PASSIVE), (2, m.flag n Can.BUS_OFF), (3, m.flag n Can.ALONE)]
  | .bank => bitsOf [(0, m.flag n Bank.A_LOST), (1, m.flag n Bank.B_LOST), (2, m.src n 2 && m.railDown (n - 0x18)),
      (3, m.flag n Bank.SAG), (4, m.flag n Bank.OV), (5, m.flag n Bank.OC), (7, m.flag n Bank.BP_WARN_64),
      (8, m.src n 8 && m.bpHot (n - 0x18)), (9, m.src n 9 && m.diodeHeld (n - 0x18)), (10, m.flag n Bank.UNUSED_LIVE)]
  | .out => m.outPersisting (n - 0x20)
  | .bridge => bitsOf [(2, (m.br (n - 0xA0)).hot), (3, (m.br (n - 0xA0)).warm), (9, m.bankDown n)]
  | .valve =>
    let v := n - 0xA8
    let a := m.valve v
    bitsOf [(3, a.warm), (5, m.vPhase v == 1 && m.capValve v), (6, a.bound), (7, a.hot), (8, m.bankDown n)]
  | .vhs =>
    let v := 2 * (n - 0xB0)
    bitsOf [(1, (m.vhs (n - 0xB0)).hot), (3, (m.vPhase v == 1 && m.capSwitch v) || (m.vPhase (v + 1) == 1 && m.capSwitch (v + 1))), (5, m.bankDown n)]
  | .boost => bitsOf [(0, m.flag n Boost.CLAMP), (2, m.boostHot), (4, m.bankDown n)]
  | .rat => bitsOf [(2, (m.rat (n - 0xC0)).hot), (3, m.flag n Rat.P_LIMIT), (4, m.flag n Rat.V_LIMIT),
      (6, decide (m.fld n Rat.MAXBYP < m.fld n Rat.BYPASSED)), (8, m.flag n Rat.DIM_LOST), (10, m.bankDown n)]
  | .inp => m.inPersisting (n - 0x100)
  | .touch => m.touchPersisting (n - 0x160)
  | .sink => bitsOf [(2, m.flag n Sink.FOLDBACK), (3, m.flag n Sink.SYNC_LOST)]
  | .clk => bitsOf [(1, m.src n 1 && !m.flag pgReckon Reckon.XTAL_OK)]
  | .tether => bitsOf [(0, m.fld n Tether.ANT_OPEN != 0), (3, m.flag n Tether.LOCKOUT)]
  | .locker => bitsOf [(8, m.flag n Locker.ERROR), (9, m.src n 9 && !m.flag n Locker.DRBG_OK)]
  | .splice => bitsOf [(0, m.src n 0 && !m.flag n Splice.LINK), (4, m.fld n Splice.PSTATE == 6)]
  | _ => 0

/-- Whether a faulting source of the unit is set. -/
def Mach.faulted (m : Mach) (n : Nat) : Bool := (List.range 32).any fun b => m.src n b && m.isFaulting n b

/-- The class part of leaving SAFE or FAULTED. -/
def Mach.releaseUnit (n : Nat) (m : Mach) : Mach :=
  match clsOf n with
  | .out => m.outReleased (n - 0x20)
  | .valve => m.valveReleased (n - 0xA8)
  | .rat => m.ratReleased (n - 0xC0)
  | .sat => m.satReleased ((n - 0x1000) / 0x400) ((n - 0x1000) % 0x400)
  | .sink => m.sinkReleased (n - 0xDC)
  | .logline => { m with log := { m.log with stopped := false } }
  | .bank => m.setFlag n Bank.TRIP false
  | _ => m

/-- Live values are resumed (R69): the unit has just become IDLE after SAFE or FAULTED. -/
def Mach.resumeUnit (n : Nat) (wasFaulted : Bool) (m : Mach) : Mach :=
  match clsOf n with
  | .cap => if wasFaulted then m.capResumed (n - 0x10) else m.capSettle (n - 0x10)
  | .bridge => m.brSettle (n - 0xA0) true
  | .can => if wasFaulted then (m.canUnsync (n - 0x170)).canSettle (n - 0x170) else m.canSettle (n - 0x170)
  | _ => m.settleUnit n

/-- The unit leaves SAFE or FAULTED when the cause has ended: to IDLE, then ACTIVE, with the enable flag 1, else to OFF (R69). -/
def Mach.leave (n : Nat) (m : Mach) : Mach :=
  let s := m.st n
  if (s == 3 && !m.safeCause n) || (s == 4 && !m.faulted n && !m.snubHeld n) then
    let m := (m.modUnit n fun u => { u with slackOnly := false }).releaseUnit n
    if (m.unit n).enabled then (m.setSt n 1).resumeUnit n (s == 4) else (m.setSt n 0).stopUnit n
  else m

/-- A FAULTED unit whose fault cause has ended while a Snub still holds it takes the safe state (R69). -/
def Mach.faultToSafe (n : Nat) (m : Mach) : Mach :=
  if m.st n == 4 && !m.faulted n && m.snubHeld n then (m.setSt n 1).enterSafeOne n true else m

/-- CLEAR_FAULTS on a unit (R62, R63, R69): FAULT_SET, FAULT_FIRST, REJECT, REJECT_INFO and the class counters clear; persisting
sources set again; the unit leaves SAFE or FAULTED when the cause has ended. The cause of an arc source ends here (R165). -/
def Mach.clearFaults (n : Nat) (m : Mach) : Mach :=
  let arcs : Nat := if clsOf n == .out then 2 ^ 16 + 2 ^ 17 else 0
  let m := m.modUnit n fun u => { u with holding := u.holding &&& ~~~BitVec.ofNat 32 arcs }
  let again := m.persisting n &&& (0xFFFFFFFF ^^^ arcs)
  let m := (((m.setReg n 0x018 0).setReg n 0x014 0).setFlag n Hdr.REJECT false).setReg n 0x010 0
  let m := (m.clearCounts n).raiseMask n again
  let m := if clsOf n == .out then m.showRho (n - 0x20) else m
  ((m.refreshHealth n).leave n).faultToSafe n

/-- A W1C write to FAULT_SET (R62): the bits written clear; a persisting source sets again. RECKON.GAP goes with its source (R362). -/
def Mach.clearBits (n : Nat) (w : Word) (m : Mach) : Mach :=
  let keep := (m.persisting n) &&& (m.reg n 0x018).toNat
  let m := ((m.setReg n 0x018 (m.reg n 0x018 &&& ~~~w)).refreshHealth n).raiseMask n (keep &&& w.toNat)
  if n = pgReckon then m.setFlag n Reckon.GAP (m.flag n Reckon.GAP && m.src n 1) else m

/-- A class fault condition sets its source (R62, R69); `holds` whether the condition persists from now on. -/
def Mach.faultSource (n b : Nat) (holds : Bool) (m : Mach) : Mach :=
  let m := m.modUnit n fun u => { u with holding := if holds then u.holding ||| BitVec.ofNat 32 (2 ^ b) else u.holding }
  if Nat.testBit (info (clsOf n)).srcs b && !m.absent n then (m.raise n b).actUnit n b else m

/-! ## Commands of one unit (R63, R69 to R72) -/

/-- ENABLE (R69): the flag sets; an OFF unit starts. -/
def Mach.enableUnit (n : Nat) (m : Mach) : Mach :=
  let was := (m.unit n).enabled
  let m := m.modUnit n fun u => { u with enabled := true, test := u.test.map fun t => (t.1, t.2 || !was) }
  if m.st n == 0 then (m.setSt n 1).startUnit n
  else if m.st n == 5 || was then m else m.settleUnit n

/-- DISABLE (R69): the flag clears; an IDLE or ACTIVE unit turns off. -/
def Mach.disableUnit (n : Nat) (m : Mach) : Mach :=
  let was := (m.unit n).enabled
  let m := m.modUnit n fun u => { u with enabled := false, test := u.test.map fun t => (t.1, t.2 || was) }
  if m.running n then (m.setSt n 0).stopUnit n
  else if m.st n == 5 || !was then m else m.settleUnit n

/-- The class part of APPLY. `old` holds the live RWS words before. -/
def Mach.classApplied (n : Nat) (old : List Word) (m : Mach) : Mach :=
  match clsOf n with
  | .cap => m.capApplied (n - 0x10) old
  | .out => m.outApplied (n - 0x20)
  | .bridge => m.brApplied (n - 0xA0)
  | .valve => m.valveApplied (n - 0xA8)
  | .rat => m.ratApplied (n - 0xC0)
  | _ => m.settleUnit n

/-- The live RWS words of a unit, in the order of its table. -/
def Mach.liveWords (m : Mach) (n : Nat) : List Word := (rwsOffs (clsOf n)).map (m.reg n)

/-- Copy the RWS bits of one register from its shadow to its live value. -/
def Mach.copyReg (n off : Nat) (m : Mach) : Mach :=
  let s := BitVec.ofNat 32 (rwsBits (clsOf n) off)
  m.setReg n off ((m.shd n off &&& s) ||| (m.reg n off &&& ~~~s))

/-- APPLY of one page (R71): with a dirty shadow, every shadow register goes to its live register at one edge, and SHADOW_DIRTY clears. An
output's BOOT_HELD clears at any APPLY (R149). -/
def Mach.applyPage (n : Nat) (m : Mach) : Mach :=
  if m.flag n Hdr.SHADOW_DIRTY then
    let old := m.liveWords n
    (((rwsOffs (clsOf n)).foldl (fun m o => m.copyReg n o) m).setFlag n Hdr.SHADOW_DIRTY false).classApplied n old
  else if clsOf n == .out && m.flag n Out.BOOT_HELD then m.outApplied (n - 0x20)
  else m

/-- APPLY (R71). SINKCOMPAT commits GLOBAL and applies the 16 sinks at the same edge (R236). -/
def Mach.applyUnit (n : Nat) (m : Mach) : Mach :=
  if clsOf n == .compat then
    (List.range 16).foldl (fun (m : Mach) (k : Nat) => (m.applyPage (pgSink k)).sinkSettle k) (m.applyPage n)
  else m.applyPage n

/-- Live words arrive from the pair (R456, R458): live and shadow take them, and the unit follows. -/
def Mach.takeWords (n : Nat) (ws : List Word) (m : Mach) : Mach :=
  let old := m.liveWords n
  let m := ((rwsOffs (clsOf n)).zip ws).foldl (fun m p => (m.setReg n p.1 p.2).setShd n p.1 p.2) m
  (m.setFlag n Hdr.SHADOW_DIRTY false).classApplied n old

/-- SELFTEST (R69): refused with REASON 3 in SAFE, in FAULTED, and in ACTIVE for the listed classes; else TEST with BUSY set. -/
def Mach.selftestUnit (n : Nat) (m : Mach) : Mach :=
  let s := m.st n
  if s == 3 || s == 4 || (s == 2 && (info (clsOf n)).noActiveTest) then m.refuse n 0x008 3
  else
    let m := (m.modUnit n fun u => { u with test := some (s, false) }).setFlag n Hdr.BUSY true
    let m := m.setSt n 5
    if (info (clsOf n)).noActiveTest then m.settleUnit n else m

/-- The source a failed self-test sets, where the class chapter names one. -/
def testSource (c : Cls) : Option Nat :=
  match c with
  | .pwr => some 4 | .clk => some 2 | .reckon => some 3 | .lay => some 4 | .tlog => some 1 | .policy => some 3 | .locker => some 8
  | .tether => some 6 | .splice => some 8 | .fid => some 3 | .eth => some 3 | .hitch => some 3 | .watchseq => some 0
  | .strandctl => some 25 | .can => some 6 | .lin => some 3 | .valve => some 9 | .boost => some 3 | .rat => some 11 | .sink => some 4
  | .inp => some 4 | .touch => some 4 | _ => none

/-- A self-test of an output recalibrates its digitiser's offset (R159). What it measures is the hardware's, within the ±2 LSB the rule allows:
a free value. -/
def Mach.testCalibrates (n : Nat) (m : Mach) : Mach :=
  if clsOf n == .out then let f := m.free; f.2.modOut (n - 0x20) fun a => { a with offset := ((f.1 % 5 : Nat) : Int) - 2 } else m

/-- TEST_COMPLETE (R69, R545): HEALTH from the result, BUSY clears; the unit goes back to its state before, or where the flag changed
to OFF or IDLE by the flag. A failed test sets the class's source. -/
def Mach.testDone (n : Nat) (pass : Bool) (m : Mach) : Mach :=
  match (m.unit n).test with
  | none => m
  | some (before, changed) =>
    if m.st n != 5 then m
    else
      let m := (m.modUnit n fun u => { u with test := none, testFailed := !pass }).setFlag n Hdr.BUSY false
      let m := (m.refreshHealth n).testCalibrates n
      let m :=
        if changed then (if (m.unit n).enabled then (m.setSt n 1).startUnit n else (m.setSt n 0).stopUnit n)
        else (m.setSt n before).settleUnit n
      match testSource (clsOf n) with
      | some b => if pass then m else (m.raise n b).actUnit n b
      | none => m

/-- FREEZE (R65, R322). -/
def Mach.freezeUnit (n : Nat) (m : Mach) : Mach := (m.modUnit n fun u => { u with frozen := true }).refreshFrozen n

/-- THAW (R65, R322): adaptation resumes from the held values; the next ADAPT entry is measured from where the quantity then stands. -/
def Mach.thawUnit (n : Nat) (m : Mach) : Mach := (m.modUnit n fun u => { u with frozen := false }).refreshFrozen n

end Sys2Proof.Machine
end

