-- ==== Sys2Proof/Machine/Policy.lean ====
section
/-! DEFINITION. POLICY (11_policy_and_adaptation.md): the table and its image, the shed stages and holds, the Slack windows, the global
freeze and the choice of DIV. -/

namespace Sys2Proof.Machine

/-- An EMPTY entry (R306). -/
def polEmpty : PolEntry := ⟨0, 0⟩

/-! ## Holds (R310, R313) -/

/-- The number of entries now shed. -/
def Mach.shedCount (m : Mach) : Nat := (m.policy.live.filter fun e => m.isShed e.2).length

/-- Every unit a SHED entry acts on follows the holds as they now stand; SHED_N and SHEDDING show them (R310, R313, R325). -/
def Mach.shedApply (m : Mach) : Mach :=
  let m := m.setFld pgPolicy Policy.SHED_N m.shedCount
  let m := if m.flag pgPolicy Policy.STAGE then m.raise pgPolicy 2 else m.clearSrc pgPolicy (2 ^ 2)
  let us := m.policy.live.foldl (fun a e => if e.2.type == 1 then (m.unitsOf e.2.unit).foldr insertUp a else a) []
  us.foldl (fun m n => m.settleUnit n) m

/-- A stage takes a value: RAISES counts a raise, the move is adaptive quantity 1, and the holds follow. -/
def Mach.stageTo (k v : Nat) (m : Mach) : Mach :=
  let old := m.stage k
  if v = old then m
  else
    let m := m.setStage k v
    let m := if old < v then m.incSat pgPolicy Policy.RAISES else m
    (m.adapt 1 pgPolicy k old v).shedApply

/-! ## Load shedding (R311) -/

/-! BANKCFG and RESTORE of a bank. -/
def Mach.ceil (m : Mach) (k : Nat) : Nat := m.fld pgPolicy (Policy.CEIL k)
def Mach.stepT (m : Mach) (k : Nat) : Nat := m.fld pgPolicy (Policy.STEP_T k)
def Mach.restoreT (m : Mach) (k : Nat) : Nat := m.fld pgPolicy (Policy.RESTORE_T k)

/-- Bank `k` is triggered: a status bit that its configuration enables is 1 (R311). -/
def Mach.triggered (m : Mach) (k : Nat) : Bool :=
  (m.flag pgPolicy (Policy.TRIG_SAG k) && m.flag (pgBank k) Bank.SAG) || (m.flag pgPolicy (Policy.TRIG_OC k) && m.flag (pgBank k) Bank.OC)
    || (m.flag pgPolicy (Policy.TRIG_BP k) && m.flag (pgBank k) Bank.BP_WARN_64)

/-- Mark whether a lowering of bank `k` has begun. -/
def Mach.setCalm (k : Nat) (b : Bool) (m : Mach) : Mach := { m with policy := { m.policy with calm := tput m.policy.calm false k b } }

/-- TRIGGERED shows the banks; a trigger that returns stops a fall (R311). -/
def Mach.trigShow (m : Mach) : Mach :=
  let t := bitsOf ((List.range 4).map fun k => (k, m.triggered k))
  let m := if t = m.fld pgPolicy Policy.TRIGGERED then m else m.setFld pgPolicy Policy.TRIGGERED t
  (List.range 4).foldl (fun (m : Mach) (k : Nat) => if Nat.testBit t k && tget m.policy.calm false k then m.setCalm k false else m) m

/-- SHED_TRIGGER_BEGIN (R311): a trigger begins and the stage is at least 1, within CEIL; a frozen POLICY holds it. -/
def Mach.shedBegin (k : Nat) (m : Mach) : Mach :=
  let m := (m.trigShow).setCalm k false
  if m.triggered k && m.flag pgPolicy Policy.SHED_EN && !m.isFrozen pgPolicy then m.stageTo k (min (m.ceil k) (max (m.stage k) 1))
  else m

/-- SHED_STAGE_RAISE (R311): STEP_T ms since the last raise while triggered. -/
def Mach.shedRaise (k ms : Nat) (m : Mach) : Mach :=
  if m.triggered k && m.flag pgPolicy Policy.SHED_EN && !m.isFrozen pgPolicy && decide (m.stepT k ≤ ms) && decide (m.stage k < m.ceil k)
  then m.stageTo k (m.stage k + 1) else m

/-- SHED_STAGE_LOWER (R311): after RESTORE_T without a trigger, then every STEP_T; with SHED_EN = 0 every STEP_T. -/
def Mach.shedLower (k ms : Nat) (m : Mach) : Mach :=
  let en := m.flag pgPolicy Policy.SHED_EN
  let due := if !en || tget m.policy.calm false k then m.stepT k else m.restoreT k
  if (!en || !m.triggered k) && !m.isFrozen pgPolicy && decide (due ≤ ms) then
    (m.setCalm k true).stageTo k (m.stage k - 1)
  else m

/-- A write of SHED_EN from 0 to 1 counts as the beginning of the trigger of every triggered bank (R311). -/
def Mach.shedEnabled (m : Mach) : Mach := (List.range 4).foldl (fun m k => if m.triggered k then m.shedBegin k else m) m

/-- A write of CEIL below the present stage sets the stage to CEIL; a frozen POLICY holds the stage only within its bounds (R311,
R320). -/
def Mach.ceilClamp (k : Nat) (m : Mach) : Mach := if m.ceil k < m.stage k then m.stageTo k (m.ceil k) else m

/-! ## The table (R306 to R308, R323, R324) -/

/-- The classes and actions of R307. -/
def shedAllowed (c : Cls) (action : Nat) : Bool :=
  match c with
  | .out => decide (action < 3)
  | .rat => decide (action < 3)
  | .sink => decide (action < 3)
  | .bridge => action == 0 || action == 2
  | .valve => action == 0 || action == 2
  | _ => false

/-- Whether an entry of an image is invalid by itself (R308). -/
def Mach.polBad (m : Mach) (e : PolEntry) : Bool :=
  let w1 := e.w1.toNat
  let follower := clsOf e.unit == .out && m.head (e.unit - 0x20) != e.unit - 0x20
  (e.w0.toNat / 2 ^ 20 % 256 != 0) || follower ||
  match e.type with
  | 0 => e.w0 != 0 || e.w1 != 0
  | 1 =>
    e.action == 3 || w1 / 2 ^ 16 % 1024 != 0 || w1 % 256 != 0 || e.banks == 0
      || (if clsOf e.unit == .bight then (m.leaves e.unit).any fun n => !shedAllowed (clsOf n) e.action
          else !shedAllowed (clsOf e.unit) e.action || m.absent e.unit)
  | 2 =>
    let fmin := w1 % 65536
    let fmax := w1 / 65536
    e.banks != 0 || clsOf e.unit != .out || decide (fmin < 100) || decide (outFmax (e.unit - 0x20) < fmax) || decide (fmax < fmin)
  | _ => true

/-- The lowest invalid entry of an image: bad by itself, or with the TYPE and UNIT of a lower one (R308). -/
def Mach.polFirstBad (m : Mach) (img : Table PolEntry) : Option Nat :=
  (img.find? fun p => m.polBad p.2 || img.any fun q =>
    decide (q.1 < p.1) && q.2.type == p.2.type && q.2.unit == p.2.unit && p.2.type != 0).map (·.1)

/-- ENTRIES and STAGED. -/
def Mach.polShow (m : Mach) : Mach :=
  (m.setFld pgPolicy Policy.ENTRIES m.policy.live.length).setFlag pgPolicy Policy.STAGED (m.policy.staged != m.policy.live)

/-- APPLY on POLICY (R308): the staged image is validated and takes effect as a whole, or is refused with REASON 3, OFFSET 0x0B4. -/
def Mach.polApply (m : Mach) : Mach :=
  match m.polFirstBad m.policy.staged with
  | some e => ((m.setFlag pgPolicy Policy.ERR_VALID true).setFld pgPolicy Policy.ERR_ENTRY e).refuse pgPolicy 0x0B4 3
  | none =>
    let old := m.policy.live.foldl (fun a e => if e.2.type == 1 then (m.unitsOf e.2.unit).foldr insertUp a else a) []
    let m := { m.setFlag pgPolicy Policy.ERR_VALID false with policy := { m.policy with live := m.policy.staged } }
    let m := (m.polShow).shedApply
    old.foldl (fun m n => m.settleUnit n) m

/-- Whether a unit has demand that a DEFER hold keeps from beginning (R307, R323). -/
def Mach.withheld (m : Mach) (n : Nat) : Bool :=
  m.running n &&
  match clsOf n with
  | .out => (m.outDemand (n - 0x20) && !m.flag n Out.GATE) || (m.out (n - 0x20)).retryDue
  | .rat => m.flag n Rat.LEVEL && !m.flag n Rat.REGULATING
  | .sink => m.sinkDemand (n - 0xDC) && !m.flag n Sink.SINKING
  | .bridge => m.brDemand (n - 0xA0) && (m.br (n - 0xA0)).phase != .drive
  | .valve => (m.valveWant (n - 0xA8)).1 != 0 && !m.driving (n - 0xA8)
  | _ => false

/-- POLICY READ (R323): live entry `sel` into the window. -/
def Mach.polRead (sel : Nat) (m : Mach) : Mach :=
  let e := tget m.policy.live polEmpty sel
  let shed := m.isShed e
  let m := (m.setReg pgPolicy 0x0B4 e.w0).setReg pgPolicy 0x0B8 e.w1
  (m.setFlag pgPolicy Policy.SHED shed).setFlag pgPolicy Policy.WITHHELD
    (shed && e.action == 2 && (m.unitsOf e.unit).any fun n => (m.holdOn n).defer && m.withheld n)

/-- POLICY WRITE (R323, R324): the window into staged entry `sel`; refused while locked or BUSY. -/
def Mach.polWrite (sel : Nat) (m : Mach) : Mach :=
  if m.flag pgPolicy Hdr.LOCKED then m.refuse pgPolicy 0x0C0 2
  else if m.flag pgPolicy Hdr.BUSY then m.refuse pgPolicy 0x0C0 3
  else
    let e : PolEntry := ⟨m.reg pgPolicy 0x0B4, m.reg pgPolicy 0x0B8⟩
    ({ m with policy := { m.policy with staged := tput m.policy.staged polEmpty sel e } }).polShow

/-- STORE (R324): BUSY sets; refused while locked or BUSY. -/
def Mach.polStore (m : Mach) : Mach :=
  if m.flag pgPolicy Hdr.LOCKED then m.refuse pgPolicy 0x0C0 2
  else if m.flag pgPolicy Hdr.BUSY then m.refuse pgPolicy 0x0C0 3
  else m.setFlag pgPolicy Hdr.BUSY true

/-- STORE_COMPLETE (R324): the live table stands in MRAM and BUSY clears. A self-test's BUSY is not a STORE's. -/
def Mach.polStored (m : Mach) : Mach :=
  if m.flag pgPolicy Hdr.BUSY && m.st pgPolicy != 5 then
    ({ m with policy := { m.policy with stored := m.policy.live, storedBad := false } }).setFlag pgPolicy Hdr.BUSY false
  else m

/-- The live table is empty after a failed CRC, and every hold ends (R325). -/
def Mach.polEmptied (m : Mach) : Mach :=
  let old := m.policy.live.foldl (fun a e => if e.2.type == 1 then (m.unitsOf e.2.unit).foldr insertUp a else a) []
  let m := ({ m.setFlag pgPolicy Policy.LOADED false with policy := { m.policy with live := [] } }.polShow).shedApply
  old.foldl (fun (m : Mach) (n : Nat) => m.settleUnit n) m

/-- POLICY is ACTIVE once the firmware has loaded the table (R323). -/
def Mach.polUp (m : Mach) : Mach := { m with policy := { m.policy with up := true } }.settle pgPolicy true

/-- The firmware loads the stored table at a start (R306, R323, R325). -/
def Mach.polLoad (m : Mach) : Mach :=
  let m := m.polUp
  if m.policy.storedBad then ({ m with policy := { m.policy with staged := [] } }.polEmptied).raise pgPolicy 3
  else (({ m with policy := { m.policy with live := m.policy.stored, staged := m.policy.stored } }.setFlag pgPolicy Policy.LOADED true).polShow).shedApply

/-! ## Application silence (R315 to R318) -/

/-- The last accepted count of a core, S2 to S5. -/
def lastOf (c : Nat) : Fld := match c with | 2 => Policy.LAST_S2 | 3 => Policy.LAST_S3 | 4 => Policy.LAST_S4 | _ => Policy.LAST_S5

/-- Whether a core is monitored, and whether it is silent. -/
def Mach.monitored (m : Mach) (c : Nat) : Bool := Nat.testBit (m.fld pgPolicy Policy.RUNNING) (c - 2)
def Mach.silent (m : Mach) (c : Nat) : Bool := Nat.testBit (m.fld pgPolicy Policy.SILENT) (c - 2)

/-- SILENT of a core; its source sets and clears with it. -/
def Mach.setSilent (c : Nat) (b : Bool) (m : Mach) : Mach :=
  let m := m.setRegBit pgPolicy 0x060 (c - 2) b
  if m.flag pgPolicy Policy.SILENT then m.raise pgPolicy 0 else m.clearSrc pgPolicy 1

/-- The core's window starts in full, at the present SLACK_T (R316). -/
def Mach.windowStart (c : Nat) (m : Mach) : Mach :=
  { m with policy := { m.policy with window := tput m.policy.window 0 c (m.fld pgPolicy Policy.SLACK_T) } }

/-- A start of an application core (R315, R316): it is monitored, its last accepted count is 0 and its window runs; one that is silent
stays so until its next accepted write (R317). -/
def Mach.slackStart (c : Nat) (m : Mach) : Mach :=
  if 2 ≤ c && decide (c ≤ 5) then
    ((m.setRegBit pgPolicy 0x060 (c + 2) true).setFld pgPolicy (lastOf c) 0).windowStart c
  else m

/-- ALIVE (R315, R317): a write of the next count by the core itself restarts its window; any other is refused with REASON 3, a wrong
count with ALIVE_ERR. -/
def Mach.alive (src : Src) (c : Nat) (v : Nat) (m : Mach) : Mach :=
  let off := 0x048 + 4 * (c - 2)
  let bad := v % 65536 != (m.fld pgPolicy (lastOf c) + 1) % 65536
  let own := match src with | .core k => k.val == c | _ => false
  if bad || !own then (if bad then m.raise pgPolicy 1 else m).refuse pgPolicy off 3
  else ((m.setFld pgPolicy (lastOf c) v).setSilent c false).windowStart c

/-- Every unit whose SLACK field could name a core (R148). -/
def slackUnits : List Nat :=
  (List.range 128).map pgOut ++ (List.range 8).map pgBridge ++ (List.range 8).map pgValve ++ (List.range 24).map pgRat
    ++ (List.range 16).map pgSink

/-- The window of a core has run out. -/
def Mach.windowStop (c : Nat) (m : Mach) : Mach := { m with policy := { m.policy with window := tput m.policy.window 0 c 0 } }

/-- SILENCES of a core counts, saturating (R317). -/
def Mach.silencesUp (c : Nat) (m : Mach) : Mach :=
  let w := (m.reg pgPolicy 0x064).toNat
  if w / 256 ^ (c - 2) % 256 < 255 then m.setReg pgPolicy 0x064 (BitVec.ofNat 32 (w + 256 ^ (c - 2))) else m

/-- SLACK_EXPIRY (R317): `ms` of core `c`'s window have passed; SILENT, SILENCES, and every unit that names the core enters SAFE. -/
def Mach.slackExpiry (c ms : Nat) (m : Mach) : Mach :=
  if 2 ≤ c && decide (c ≤ 5) && m.monitored c && tget m.policy.window 0 c != 0 && decide (tget m.policy.window 0 c ≤ ms) then
    let m := ((m.silencesUp c).setSilent c true).windowStop c
    slackUnits.foldl (fun m n => if Nat.testBit (m.slackOf n) (c - 2) then m.enterSafe n false else m) m
  else m

/-- The units the firmware clears once core `c` has been alive for RESUME_T (R318). -/
def Mach.resumable (m : Mach) (c : Nat) : List Nat :=
  slackUnits.filter fun n => Nat.testBit (m.slackOf n) (c - 2) && m.st n == 3 && (m.unit n).slackOnly && m.reg n 0x018 == 0
    && (m.slackOf n &&& m.fld pgPolicy Policy.SILENT == 0)

/-- Whether automatic resumption is due for core `c`, alive for `ms` without expiry (R318). -/
def Mach.resumeDue (m : Mach) (c ms : Nat) : Bool :=
  m.flag pgPolicy Policy.RESUME && m.monitored c && !m.silent c && decide (m.fld pgPolicy Policy.RESUME_T ≤ ms)

/-! ## The global freeze (R321, R322) -/

/-- Every page that has an ADAPT_FROZEN of its own. -/
def headerPages (m : Mach) : List Nat :=
  (List.range 0x1C) ++ (List.range 0x95).map (0x20 + ·) ++ (List.range 0x2D).map (0xC0 + ·) ++ (List.range 0x7A).map (0x100 + ·)
    ++ (List.range 4).flatMap fun c => (List.range (m.chain c).found.length).map (pgSat c)

/-- GFREEZE has been written (R322): every local page follows; when it clears, L of every instance takes the present value (R321). -/
def Mach.gfreeze (m : Mach) : Mach :=
  let m := (headerPages m).foldl (fun m n => m.refreshFrozen n) m
  if m.flag pgPolicy Policy.GFREEZE then m else m.relog fun _ => true

/-- THAW with its L (R321): measured from where the quantities of the unit now stand. -/
def Mach.thawLogged (n : Nat) (m : Mach) : Mach := (m.thawUnit n).relog fun k => k / 65536 % 65536 == n

/-! ## The choice of DIV (R219) -/

/-- The live DIVSEL entry of an output (R309). -/
def Mach.divsel (m : Mach) (n : Nat) : Option PolEntry :=
  (m.policy.live.find? fun e => e.2.type == 2 && e.2.unit == n).map (·.2)

/-- Whether the DIV of a unit is the firmware's: DIVSRC on RAT and SINK, an acting DIVSEL entry on OUT (R219, R309). -/
def Mach.divHanded (m : Mach) (n : Nat) : Bool :=
  match clsOf n with
  | .rat => m.flag n Rat.DIVSRC
  | .sink => m.flag n Sink.DIVSRC
  | .out => m.fld (m.outCfg (n - 0x20)) Out.PWM_MODE == 2 && (m.divsel n).isSome
  | _ => false

/-- FMIN and FMAX of a unit, Hz. -/
def Mach.divBounds (m : Mach) (n : Nat) : Nat × Nat :=
  match clsOf n with
  | .rat => (m.fld n Rat.FMIN, m.fld n Rat.FMAX)
  | .sink => (m.fld n Sink.FMIN, m.fld n Sink.FMAX)
  | _ => match m.divsel n with
    | some e => (e.w1.toNat % 65536, e.w1.toNat / 65536)
    | none => (0, 0)

/-- ceil(a / b). -/
def ceilDiv (a b : Nat) : Nat := (a + b - 1) / b

/-- DIV and NO_ALIGN by R219, for a rate in 1/65,536 turns/s; DIV stays within its field, at most 4,095. -/
def chooseDiv (line : Bool) (scale rate fmin fmax : Nat) : Nat × Bool :=
  let lo := max 1 (ceilDiv (fmin * 65536) rate)
  let cap (d : Nat) : Nat := min 4095 d
  if line then
    match ((List.range 4095).map (· + 1)).find? fun d =>
        scale % d == 0 && decide (fmin * 65536 ≤ rate * d) && decide (rate * d ≤ fmax * 65536) with
    | some d => (d, false)
    | none => if rate * lo ≤ fmax * 65536 then (cap lo, true) else (cap (fmax * 65536 / rate), true)
  else (cap lo, false)

/-- A unit's DIV field. -/
def divFld (n : Nat) : Fld := match clsOf n with | .rat => Rat.DIV | .sink => Sink.DIV | _ => Out.DIV

/-- DIV_CHOICE (R219): the firmware chooses when RATE has moved by more than 1 %, or SCALE, FMIN or FMAX has changed, since its last
choice, and writes DIV through the shadow; the choice then drives the unit. A frozen unit holds (R322). At a RATE of 0 no choice
exists. -/
def Mach.divChoice (n : Nat) (m : Mach) : Mach :=
  let k := m.fld n Hdr.BASE_CAP
  let rate := m.fld (pgCap k) Cap.RATE
  let scale := (m.reg (pgCap k) Cap.SCALE.off).toNat
  let (fmin, fmax) := m.divBounds n
  let fresh := match tget m.policy.chosen none n with
    | some [r, s, a, b] => decide (r < 100 * (max r rate - min r rate)) || s != scale || a != fmin || b != fmax
    | _ => true
  if !m.divHanded n || rate = 0 || !fresh || m.isFrozen n then m
  else
    let (d, no) := chooseDiv (m.capType k == 4) scale rate fmin fmax
    let old := m.fld n (divFld n)
    let m := { m with policy := { m.policy with chosen := tput m.policy.chosen none n (some [rate, scale, fmin, fmax]) } }
    let m := (m.setShFld n (divFld n) d).setFld n (divFld n) d
    let m := m.adapt 8 n 0 old d
    match clsOf n with
    | .rat => ((m.modRat (n - 0xC0) fun a => { a with noAlign := no }).askDiv (n - 0xC0)).ratSettle (n - 0xC0)
    | _ => m.settleUnit n

end Sys2Proof.Machine
end

