-- ==== Sys2Proof/Machine/Locker.lean ====
section
/-! DEFINITION. The Locker (20_locker_security.md R486 to R509): roles and denials, key slots, the services of the mailboxes, random
numbers, attestation, self-tests and tamper. -/

namespace Sys2Proof.Machine

/-! ## Slots (R490 to R493) -/

def Mach.slot (m : Mach) (i : Nat) : KeySlot := tget m.locker.slots slotEmpty i
def KeySlot.typ (k : KeySlot) : Nat := k.attr.toNat / 2 ^ 28
def KeySlot.origin (k : KeySlot) : Bool := k.attr.getLsbD 27
def KeySlot.exportable (k : KeySlot) : Bool := k.attr.getLsbD 26
def KeySlot.locked (k : KeySlot) : Bool := k.attr.getLsbD 25
def KeySlot.owner (k : KeySlot) : Nat := k.attr.toNat / 2 ^ 22 % 8
def KeySlot.engine (k : KeySlot) (b : Nat) : Bool := k.attr.getLsbD b

/-- The engines a key type suits (R493); ATTEST is for slot 0 only. -/
def typeEngines (t : Nat) : Nat :=
  match t with
  | 1 => 0x38B
  | 2 => 0x38F
  | 3 => 0x010
  | 4 => 0x060
  | _ => 0

/-- Whether an attribute word names only engines its type suits. -/
def enginesSuit (w : Word) : Bool := w.toNat % 65536 &&& (65535 - typeEngines (w.toNat / 2 ^ 28)) == 0

/-- Reserved bits or codes in an attribute word (R492, R493). -/
def attrReserved (w : Word) : Bool :=
  w.toNat / 65536 % 64 != 0 || w.toNat / 2048 % 32 != 0 || decide (5 ≤ w.toNat / 2 ^ 28)
    || w.toNat / 2 ^ 22 % 8 == 1 || decide (6 ≤ w.toNat / 2 ^ 22 % 8)

/-- Replace a slot; SLOTS_USED counts those not EMPTY. The session keys derived from the old key leave the cache (R495). -/
def Mach.setSlot (i : Nat) (k : KeySlot) (m : Mach) : Mach :=
  let stale (j : Nat) : Bool :=
    if j = 256 then decide (m.fld pgSplice Splice.SLOT = i) else decide ((tget m.fid.peers peerReset j).ctl.toNat / 2 ^ 24 % 64 = i)
  let session := if (tget m.locker.slots slotEmpty i).key = k.key then m.locker.session else m.locker.session.filter fun p => !stale p.1
  let m := { m with locker := { m.locker with slots := tput m.locker.slots slotEmpty i k, session := session } }
  m.setFld pgLocker Locker.SLOTS_USED (m.locker.slots.filter fun p => p.2.typ != 0).length

/-- A key an ENGINE may use: the type it needs, and its bit (R488, R493); none in the error state (R502). -/
def Mach.engineKey (m : Mach) (i b : Nat) (types : List Nat) : Option (List Nat) :=
  let k := m.slot i
  if k.engine b && types.contains k.typ && !m.flag pgLocker Locker.ERROR then some k.key else none

/-- A slot admitted for image verification (R493). -/
def Mach.imageKey (m : Mach) (i : Nat) : Option (List Nat) :=
  let k := m.slot i
  if k.typ == 4 && k.engine 6 && k.owner == 0 && !m.flag pgLocker Locker.ERROR then some k.pub else none

/-- The UID of the device, 8 bytes. -/
def Mach.uid (m : Mach) : List Nat := beBytes 4 (m.fld pgLocker (Locker.UID 1)) ++ beBytes 4 (m.fld pgLocker (Locker.UID 0))

/-- The private key from 48 bytes of derivation: reduced modulo n − 1, plus 1 (R490). -/
def privateOf (l : List Nat) : List Nat := beBytes 32 (beNat l % (p256n - 1) + 1)

/-- The session key of entry `j` of the cache, a Fid peer or 256 for the Splice link, from slot `i` of ENGINE bit `b`: derived once with its
label and the two device numbers, the lower first (R444, R456, R495). Without an admitted slot none is derived. -/
def Mach.sessionKey (j i b : Nat) (label : List Nat) (dev : Nat) (m : Mach) : Mach :=
  match m.engineKey i b [1, 2] with
  | none => m
  | some key =>
    if !(tget m.locker.session [] j).isEmpty then m
    else
      let own := m.fld pgDev Dev.DEVNUM
      let k := kdf key label (beBytes 2 (min own dev) ++ beBytes 2 (max own dev)) (8 * key.length)
      { m with locker := { m.locker with session := tput m.locker.session [] j k } }

/-- A session key leaves the cache: its entry or its device number has changed. -/
def Mach.sessionDrop (j : Nat) (m : Mach) : Mach :=
  { m with locker := { m.locker with session := tput m.locker.session [] j [] } }

/-- A slot the SPLICE engine admits (R468, R493): TYPE 1 or 2 with ENGINE bit 1. -/
def Mach.spliceKey (m : Mach) : Bool := (m.engineKey (m.fld pgSplice Splice.SLOT) 1 [1, 2]).isSome

/-- The session key of the Splice link, label "SPL1" (R456). -/
def Mach.spliceSession (m : Mach) : Mach :=
  m.sessionKey 256 (m.fld pgSplice Splice.SLOT) 1 [0x53, 0x50, 0x4C, 0x31] (m.fld pgSplice Splice.PEER_DEV)

/-- Some sensor set to ERASE asserts (R504). -/
def Mach.eraseHeld (m : Mach) : Bool :=
  (List.range 7).any fun s => Nat.testBit (m.fld pgLocker Locker.TAMPER_NOW) s && m.fld pgLocker Locker.TAMPER / 4 ^ s % 4 == 1

/-- Slot 0 is derived from the root and the UID with label "IDK1" (R490, R491), while no sensor set to ERASE asserts. -/
def Mach.deriveIdentity (m : Mach) : Mach :=
  if m.eraseHeld then m.setSlot 0 slotEmpty
  else
    let root := (List.range 32).map fun i => Config.rootByte i % 256
    let d := privateOf (kdf root [0x49, 0x44, 0x4B, 0x31] m.uid 384)
    m.setSlot 0 ⟨0x3A000400#32, d, ecPublic d⟩

/-! ## Entries and denials (R489, R507) -/

/-- A SECURITY entry. -/
def Mach.security (event low : Nat) (d0 d1 : Word) (m : Mach) : Mach := m.logNow 7 pgLocker (event * 256 + low) d0 d1

/-- The number of a bus source in a denial's entry. -/
def srcCode : Src → Nat
  | .core k => k.val
  | .hitch => 6
  | .fid => 7
  | .mark => 8
  | .splice => 9

/-- Whether R489 denies a write. Pages closed to Fid and Hitch: DEV, LOCKER, TETHER, SPLICE, FID, ETH, HITCH, STRANDCTL. TETHER's OP takes the
Hitch write that R516 names. -/
def lockerDenies (src : Src) (n off : Nat) : Bool :=
  let closed := [pgDev, pgLocker, pgTether, pgSplice, pgFid, pgEth, pgHitch, pgStrand]
  match src with
  | .core k => n == pgLocker && decide (2 ≤ k.val) && !(decide (0x100 + 0x20 * k.val ≤ off) && decide (off < 0x120 + 0x20 * k.val))
  | .hitch => closed.contains n && !(n == pgTether && off == 0x070)
  | .fid => closed.contains n
  | .mark => n == pgLocker
  | .splice => n == pgLocker

/-- A denied write is counted, and the first of each second logged (R489, R507). -/
def Mach.denial (src : Src) (n : Nat) (m : Mach) : Mach :=
  let m := (m.incSat pgLocker Locker.DENIALS).raise pgLocker 10
  let due := match m.locker.deniedAt with
    | some t => decide (32768 ≤ (m.rk + 2 ^ 48 - t) % 2 ^ 48)
    | none => true
  if due then
    ({ m with locker := { m.locker with deniedAt := some m.rk } }).security 7 0 (BitVec.ofNat 32 (srcCode src)) (BitVec.ofNat 32 n)
  else m

/-! ## Random numbers (R498, R499) -/

/-- `k` bytes from the DRBG: free values; each call is one generate request. -/
def Mach.randomBytes (k : Nat) (m : Mach) : List Nat × Mach :=
  let l := (List.range k).map fun i => Config.freeValue (m.freeCount + i) % 256
  (l, { m with freeCount := m.freeCount + k, locker := { m.locker with drbg := m.locker.drbg + 1 } })

def Mach.drbgOk (m : Mach) : Bool := m.flag pgLocker Locker.DRBG_OK

/-- The longest run of equal bits at the head of a list, given the bit before it and the run so far. -/
def longestRun : Bool → Nat → List Bool → Nat
  | _, k, [] => k
  | b, k, c :: l => if c = b then longestRun b (k + 1) l else max k (longestRun c 1 l)

/-- The repetition count test on raw bits (R498): it fails on 41 equal bits in succession. -/
def repetitionFails : List Bool → Bool
  | [] => false
  | b :: l => decide (41 ≤ longestRun b 1 l)

/-- The adaptive proportion test on a window of 1,024 raw bits (R498): it fails when the first bit's value occurs 795 times. -/
def proportionFails (l : List Bool) : Bool :=
  match l with
  | [] => false
  | b :: _ => decide (795 ≤ ((l.take 1024).filter fun c => c == b).length)

/-- A health test has failed (R499, R507): 0 the repetition count test, 1 the adaptive proportion test. -/
def Mach.rngStop (test : Nat) (m : Mach) : Mach :=
  (((m.setFlag pgLocker Locker.DRBG_OK false).raise pgLocker 9).actUnit pgLocker 9).security 4 test 0 0

/-- RNG_FAIL (R498, R499): the raw bits of a window from the entropy source pass both health tests, or the DRBG stops. -/
def Mach.rngFail (bits : List Bool) (m : Mach) : Mach :=
  if !m.drbgOk then m
  else if repetitionFails bits then m.rngStop 0
  else if proportionFails bits then m.rngStop 1
  else m

/-- DRBG_RESEED (R498): after 65,536 generate requests, or at a wake. -/
def Mach.drbgReseed (m : Mach) : Mach :=
  if m.drbgOk && decide (65536 ≤ m.locker.drbg) then { m with locker := { m.locker with drbg := 0 } } else m

/-! ## Services (R494 to R497, R500) -/

/-- The bytes of a key type; for a public key the point. -/
def keyBytes (t : Nat) : Nat := match t with | 1 => 16 | 2 => 32 | 3 => 32 | 4 => 64 | _ => 0

/-- What a key slot exports or imports as bytes. -/
def KeySlot.bytes (k : KeySlot) : List Nat := if k.typ == 4 then k.pub else k.key

/-- A slot from its attribute word and key bytes. -/
def slotOf (attr : Word) (bytes : List Nat) : KeySlot :=
  match attr.toNat / 2 ^ 28 with
  | 3 => ⟨attr, bytes, ecPublic bytes⟩
  | 4 => ⟨attr, [], bytes⟩
  | _ => ⟨attr, bytes, []⟩

/-- The attribute word of a new key: MB_ARG with ORIGIN as given. -/
def newAttr (arg : Word) (origin : Bool) : Word := if origin then arg ||| 0x08000000#32 else arg &&& 0xF7FFFFFF#32

/-- An application core may use a slot only when OWNER names it (R494). -/
def ownerOk (c : Nat) (k : KeySlot) : Bool := decide (c < 2) || k.owner == c

/-- Why a new key may not be made with an attribute word: DENIED_ROLE for an owner the core may not set, DENIED_ENGINE for reserved codes or
engines the type does not suit. -/
def attrDenied (c : Nat) (arg : Word) (types : List Nat) : Option Nat :=
  if decide (2 ≤ c) && arg.toNat / 2 ^ 22 % 8 != c then some 1
  else if attrReserved arg || !enginesSuit arg || !types.contains (arg.toNat / 2 ^ 28) then some 2
  else none

/-- What a service gives: a status, the bytes for DST, and the machine. -/
structure SvcResult where
  status : Nat
  out : List Nat
  m : Mach

/-- A service that stops with a status. -/
def svcStop (code : Nat) (m : Mach) : SvcResult := ⟨code, [], m⟩

/-- A slot takes a new key; a SECURITY entry records it (R507). -/
def Mach.slotChange (i svc : Nat) (k : KeySlot) (m : Mach) : Mach := (m.setSlot i k).security 5 i k.attr (BitVec.ofNat 32 svc)

/-- The slot conditions common to the services that use a key: EMPTY_SLOT, then the owner, then the engine bit. -/
def keyDenied (c : Nat) (k : KeySlot) (b : Nat) (owned : Bool) : Option Nat :=
  if k.typ == 0 then some 3
  else if owned && !ownerOk c k then some 1
  else if !k.engine b then some 2
  else none

/-- The 144 bytes that an attestation signs (R500). -/
def Mach.statement (m : Mach) (i : Nat) (k : KeySlot) (nonce : List Nat) : List Nat :=
  let tampered := decide (0 < (m.reg pgLocker 0x018).toNat % 128)
  let flags := (if m.flag pgPolicy Policy.GFREEZE then 1 else 0) + (if tampered then 2 else 0)
    + (if m.st pgLocker != 1 && !m.flag pgLocker Locker.ERROR then 4 else 0)
  let pub := if k.typ == 3 || k.typ == 4 then k.pub else cmac k.key (List.replicate 16 0) ++ List.replicate 48 0
  beBytes 4 0x56415454 ++ beBytes 2 1 ++ beBytes 2 (m.fld pgDev Dev.DEVNUM) ++ m.uid ++ beBytes 4 (m.fld pgDev Dev.FWVER)
    ++ beBytes 2 i ++ beBytes 2 0 ++ beBytes 4 k.attr.toNat ++ beBytes 4 (m.fld pgLocker Locker.ERASES) ++ beBytes 8 m.rk
    ++ beBytes 4 flags ++ beBytes 4 0 ++ nonce ++ pub

/-- A signature with a per-message number from the DRBG. A number that must be drawn again is drawn once more. -/
def Mach.sign (d msg : List Nat) (m : Mach) : List Nat × Mach :=
  let (r1, m) := m.randomBytes 40
  match ecdsaSign d msg (beNat r1 % (p256n - 1) + 1) with
  | some s => (s, m)
  | none =>
    let (r2, m) := m.randomBytes 40
    ((ecdsaSign d msg (beNat r2 % (p256n - 1) + 1)).getD (List.replicate 64 0), m)

/-- GENERATE (R494). -/
def svcGenerate (q : LkReq) (m : Mach) : SvcResult :=
  if (m.slot q.slot).typ != 0 then svcStop 5 m
  else if q.slot == 0 then svcStop 4 m
  else if m.eraseHeld then svcStop 12 m
  else if !m.drbgOk then svcStop 11 m
  else match attrDenied q.core q.arg [1, 2, 3] with
    | some e => svcStop e m
    | none =>
      let (r, m) := m.randomBytes 48
      let t := q.arg.toNat / 2 ^ 28
      let bytes := if t == 3 then privateOf r else r.take (keyBytes t)
      ⟨0, [], m.slotChange q.slot 1 (slotOf (newAttr q.arg true) bytes)⟩

/-- IMPORT (R494): unwrapped under SLOT2, or in plaintext by the firmware with SLOT2 = 0. -/
def svcImport (q : LkReq) (src : List Nat) (m : Mach) : SvcResult :=
  let plain := decide (q.core < 2) && q.slot2 == 0
  if (m.slot q.slot).typ != 0 then svcStop 5 m
  else if q.slot == 0 then svcStop 4 m
  else if m.eraseHeld then svcStop 12 m
  else match (if plain then none else keyDenied q.core q.k2 9 true) with
    | some e => svcStop e m
    | none =>
      match attrDenied q.core q.arg [1, 2, 3, 4] with
      | some e => svcStop e m
      | none =>
        let want := keyBytes (q.arg.toNat / 2 ^ 28)
        if q.len != (if plain then want else want + 8) then svcStop 7 m
        else match (if plain then some src else kwUnwrap q.k2.key src) with
          | none => svcStop 8 m
          | some bytes => ⟨0, [], m.slotChange q.slot 2 (slotOf (newAttr q.arg false) bytes)⟩

/-- EXPORT (R494). -/
def svcExport (q : LkReq) (m : Mach) : SvcResult :=
  if q.k1.typ == 0 then svcStop 3 m
  else if !ownerOk q.core q.k1 then svcStop 1 m
  else if !q.k1.exportable then svcStop 2 m
  else match keyDenied q.core q.k2 9 true with
    | some e => svcStop e m
    | none => ⟨0, kwWrap q.k2.key q.k1.bytes, m⟩

/-- DERIVE (R494, R495): SRC holds Label ‖ 0x00 ‖ Context. -/
def svcDerive (q : LkReq) (src : List Nat) (m : Mach) : SvcResult :=
  match keyDenied q.core q.k1 3 true with
  | some e => svcStop e m
  | none =>
    if (m.slot q.slot2).typ != 0 then svcStop 5 m
    else if q.slot2 == 0 then svcStop 4 m
    else if m.eraseHeld then svcStop 12 m
    else match attrDenied q.core q.arg [1, 2, 3] with
      | some e => svcStop e m
      | none =>
        let t := q.arg.toNat / 2 ^ 28
        let bits := if t == 3 then 384 else 8 * keyBytes t
        let out := ((List.range ((bits + 127) / 128)).flatMap fun i =>
          cmac q.k1.key (beBytes 4 (i + 1) ++ src ++ beBytes 4 bits)).take (bits / 8)
        let bytes := if t == 3 then privateOf out else out
        ⟨0, [], m.slotChange q.slot2 4 (slotOf (newAttr q.arg q.k1.origin) bytes)⟩

/-- MAC_GEN and MAC_VER (R494): the tag to compare follows the LEN message bytes. -/
def svcMac (q : LkReq) (src : List Nat) (verify : Bool) (m : Mach) : SvcResult :=
  match keyDenied q.core q.k1 7 true with
  | some e => svcStop e m
  | none =>
    let tag := cmac q.k1.key (src.take q.len)
    if !verify then ⟨0, tag, m⟩ else if src.drop q.len = tag then svcStop 0 m else svcStop 8 m

/-- ENCRYPT (R494): IV, associated data and data from SRC; the tag is appended. An empty message writes nothing. -/
def svcEncrypt (q : LkReq) (src : List Nat) (m : Mach) : SvcResult :=
  match keyDenied q.core q.k1 8 true with
  | some e => svcStop e m
  | none =>
    if !m.drbgOk then svcStop 11 m
    else if q.len = 0 then svcStop 0 m
    else
      let iv := src.take 12
      let aad := (src.drop 12).take q.aad
      let ct := gcmStream q.k1.key iv (src.drop (12 + q.aad))
      ⟨0, ct ++ gcmTag q.k1.key iv aad ct, m⟩

/-- DECRYPT (R494): a wrong tag gives VERIFY_FAIL and writes no plaintext. -/
def svcDecrypt (q : LkReq) (src : List Nat) (m : Mach) : SvcResult :=
  match keyDenied q.core q.k1 8 true with
  | some e => svcStop e m
  | none =>
    let iv := src.take 12
    let aad := (src.drop 12).take q.aad
    let ct := (src.drop (12 + q.aad)).take (q.len - q.aad)
    if src.drop (12 + q.len) = gcmTag q.k1.key iv aad ct then ⟨0, gcmStream q.k1.key iv ct, m⟩ else svcStop 8 m

/-- SIGN (R494). -/
def svcSign (q : LkReq) (src : List Nat) (m : Mach) : SvcResult :=
  match keyDenied q.core q.k1 4 true with
  | some e => svcStop e m
  | none =>
    if !m.drbgOk then svcStop 11 m
    else let (s, m) := m.sign q.k1.key src; ⟨0, s, m⟩

/-- VERIFY (R494): the signature follows the LEN message bytes. -/
def svcVerify (q : LkReq) (src : List Nat) (m : Mach) : SvcResult :=
  match keyDenied q.core q.k1 5 false with
  | some e => svcStop e m
  | none => svcStop (if ecdsaVerify q.k1.pub (src.take q.len) (src.drop q.len) then 0 else 8) m

/-- ATTEST (R500). -/
def svcAttest (q : LkReq) (src : List Nat) (m : Mach) : SvcResult :=
  if 2 ≤ q.core then svcStop 1 m
  else if q.k1.typ == 0 then svcStop 3 m
  else if !(q.k1.origin && !q.k1.exportable && q.k1.locked) then svcStop 9 m
  else if (m.slot 0).typ == 0 then svcStop 3 m
  else if !m.drbgOk then svcStop 11 m
  else
    let st := m.statement q.slot q.k1 src
    let (s, m) := m.sign (m.slot 0).key st
    ⟨0, st ++ s, m.security 6 q.slot (BitVec.ofNat 32 (m.fld pgLocker Locker.ERASES)) 0⟩

/-- RANDOM (R494). -/
def svcRandom (q : LkReq) (m : Mach) : SvcResult :=
  if !m.drbgOk then svcStop 11 m
  else let (r, m) := m.randomBytes q.len; ⟨0, r, m⟩

/-- ZEROISE (R494). -/
def svcZeroise (q : LkReq) (m : Mach) : SvcResult :=
  if q.slot == 0 then svcStop 4 m
  else if !ownerOk q.core q.k1 then svcStop 1 m
  else ⟨0, [], m.slotChange q.slot 13 slotEmpty⟩

/-- LOCK (R494). -/
def svcLock (q : LkReq) (m : Mach) : SvcResult :=
  let k := m.slot q.slot
  if k.typ == 0 then svcStop 3 m
  else if !ownerOk q.core q.k1 then svcStop 1 m
  else if k.locked then svcStop 0 m
  else ⟨0, [], m.slotChange q.slot 14 { k with attr := k.attr ||| 0x02000000#32 }⟩

/-- The bytes a service reads from SRC, and the most it writes to DST. -/
def svcSpan (q : LkReq) : Nat × Nat :=
  match q.svc with
  | 2 => (q.len, 0)
  | 3 => (0, (q.k1.bytes).length + 8)
  | 4 => (q.len, 0)
  | 5 => (q.len, 16)
  | 6 => (q.len + 16, 0)
  | 7 => (12 + q.len, if q.len = 0 then 0 else q.len - q.aad + 16)
  | 8 => (12 + q.len + 16, q.len - q.aad)
  | 9 => (q.len, 64)
  | 10 => (q.len + 64, 0)
  | 11 => (32, 208)
  | 12 => (0, q.len)
  | 15 => (q.len, 32)
  | _ => (0, 0)

/-- A request runs to its end. Order: error state, Slipline, lengths, buffers, then the service's own conditions. -/
def Mach.serve (m : Mach) (mem : Memory) (q : LkReq) : SvcResult :=
  let sp := svcSpan q
  if m.flag pgLocker Locker.ERROR then svcStop 10 m
  else if q.erased then svcStop 12 m
  else if 4096 < q.len || ((q.svc = 7 || q.svc = 8) && decide (q.len < q.aad)) then svcStop 7 m
  else if !bufferOk q.core q.src sp.1 false || !bufferOk q.core q.dst sp.2 true then svcStop 6 m
  else
    let src := peekBytes m mem q.core q.src sp.1
    match q.svc with
    | 1 => svcGenerate q m
    | 2 => svcImport q src m
    | 3 => svcExport q m
    | 4 => svcDerive q src m
    | 5 => svcMac q src false m
    | 6 => svcMac q src true m
    | 7 => svcEncrypt q src m
    | 8 => svcDecrypt q src m
    | 9 => svcSign q src m
    | 10 => svcVerify q src m
    | 11 => svcAttest q src m
    | 12 => svcRandom q m
    | 13 => svcZeroise q m
    | 14 => svcLock q m
    | 15 => ⟨0, sha256 src, m⟩
    | _ => svcStop 0 m

/-- How far a mailbox is from being served (R497): 0 and 1 first, then 2 to 5 in turn after the last of them served. -/
def lockerRank (turn c : Nat) : Nat := if c < 2 then c else 2 + (c + 3 - turn) % 4

/-- The waiting requests with the next one to be served first. -/
def lockerNext (turn : Nat) : List LkReq → List LkReq
  | [] => []
  | q :: l =>
    match lockerNext turn l with
    | [] => [q]
    | r :: rest => if lockerRank turn r.core < lockerRank turn q.core then r :: q :: rest else q :: r :: rest

/-- The request at the front is being served: a mailbox from 2 to 5 has had its turn. -/
def Mach.lockerServe (queue : List LkReq) (m : Mach) : Mach :=
  let turn := match queue with
    | q :: _ => if q.core < 2 then m.locker.turn else q.core
    | [] => m.locker.turn
  { m with locker := { m.locker with queue := queue, turn := turn } }

/-- A write of MB_CMD (R494, R497): the request starts with the slots as they stand; refused with REASON 3 while BUSY. SVC 0 does nothing. -/
def Mach.mbCmd (c : Nat) (w : Word) (m : Mach) : Mach :=
  let n := pgLocker
  if m.flag n (Locker.M_BUSY c) then m.refuse n (Locker.M_SVC c).off 3
  else
    let svc := (Locker.M_SVC c).of w
    if svc = 0 then m
    else
      let s1 := (Locker.M_SLOT c).of w
      let s2 := (Locker.M_SLOT2 c).of w
      let q : LkReq := ⟨c, svc, s1, s2, m.fld n (Locker.M_SRC c), m.fld n (Locker.M_DST c), m.fld n (Locker.M_LEN c), m.fld n (Locker.M_AAD c),
        m.reg n (Locker.M_ARG c).off, m.slot s1, m.slot s2, false⟩
      let m := (m.setFlag n (Locker.M_BUSY c) true).setFlag n (Locker.M_DONE c) false
      if m.locker.queue.isEmpty then m.lockerServe [q] else { m with locker := { m.locker with queue := m.locker.queue ++ [q] } }

/-- LOCKER_REQUEST_DONE (R497): the first request ends. A ZEROISE waits for running requests on its slot; during SELFTEST requests wait. -/
def Mach.requestDone (m : Mach) (mem : Memory) : Mach × Memory :=
  let n := pgLocker
  if m.st n == 5 then (m, mem)
  else match m.locker.queue with
    | [] => (m, mem)
    | q :: l =>
      let blocked := q.svc = 13 && l.any fun r => r.svc != 13 && (r.slot == q.slot || r.slot2 == q.slot)
      let q' := if blocked then (l.find? fun r => r.svc != 13 && (r.slot == q.slot || r.slot2 == q.slot)).getD q else q
      let rest := (q :: l).erase q'
      let r := m.serve mem q'
      let m := r.m.lockerServe (lockerNext r.m.locker.turn rest)
      let c := q'.core
      let m := (m.setFlag n (Locker.M_BUSY c) false).setFlag n (Locker.M_DONE c) true
      let m := (m.setFld n (Locker.M_STATUS c) r.status).setFld n (Locker.M_OUT_LEN c) r.out.length
      let m := if r.status = 0 then m else m.incSat n Locker.SVC_ERRS
      let m := if m.flag n (Locker.M_IRQ c) then m.irq c (m.fld n (Locker.M_VECTOR c)) else m
      pokeBytes c q'.dst (r.out.map (BitVec.ofNat 8)) m mem

/-- SLOT_READ (R508). -/
def Mach.slotRead (m : Mach) : Mach :=
  m.setReg pgLocker Locker.SLOT_ATTR.off (m.slot (m.fld pgLocker Locker.SLOT_SEL)).attr

/-- WRITE_ATTR (R492, R493, R508): refused with REASON 3 for a LOCKED slot, slot 0 or an engine the type does not suit, with REASON 1 for
reserved codes. TYPE and ORIGIN stay; EXPORTABLE is not set again; LOCKED is only set. -/
def Mach.writeAttr (m : Mach) : Mach :=
  let n := pgLocker
  let i := m.fld n Locker.SLOT_SEL
  let k := m.slot i
  let w := m.reg n Locker.SLOT_ATTR.off
  if i = 0 || k.locked then m.refuse n 0x060 3
  else if attrReserved w then m.refuse n 0x060 1
  else
    let keep := (k.attr &&& 0xF8000000#32) ||| (w &&& 0x03C0FFFF#32)
    let new := if k.exportable && w.getLsbD 26 then keep ||| 0x04000000#32 else keep
    if !enginesSuit new then m.refuse n 0x060 3
    else if new = k.attr then m
    else m.slotChange i 0 { k with attr := new }

/-! ## Self-tests (R501, R502) -/

/-- The test that fails counts: test 9 is skipped while slot 0 is EMPTY (R501). -/
def Mach.testFailed (m : Mach) (fail : Option Nat) : Option Nat :=
  if fail = some 9 && (m.slot 0).typ == 0 then none else fail

/-- The Locker's tests end: passed, it is ACTIVE, leaves the error state and its DRBG is healthy; failed at test `t`, it enters the error
state, its DRBG stopped where its own test 7 or the entropy tests failed. -/
def Mach.lockerTested (fail : Option Nat) (m : Mach) : Mach :=
  let n := pgLocker
  match m.testFailed fail with
  | none =>
    let m := (m.setFlag n Locker.ERROR false).setFlag n Locker.DRBG_OK true
    if m.st n == 1 then m.setSt n 2 else m
  | some t =>
    let m := m.setFlag n Locker.DRBG_OK (t ≠ 7 && t ≠ 10)
    (((m.setFlag n Locker.ERROR true).raise n 8).actUnit n 8).security 3 t 0 0

/-! ## Tamper (R503 to R506) -/

/-- The Slipline is asserted by sensor `s` (R505, R506): every slot and the session cache are zero, NONCE is new, running requests are
aborted, ERASES and ERASED count it. -/
def Mach.slipline (s : Nat) (m : Mach) : Mach :=
  let n := pgLocker
  let (nonce, m) := m.randomBytes 32
  let m := { m with locker := { m.locker with
    slots := [], session := [], nonce := nonce, queue := m.locker.queue.map fun (q : LkReq) => { q with erased := true } } }
  let m := ((m.setFld n Locker.SLOTS_USED 0).incSat n Locker.ERASES).raise n 7
  m.security 2 s (BitVec.ofNat 32 (m.fld n Locker.ERASES)) (BitVec.ofNat 32 m.rk)

/-- SLIPLINE shows whether some sensor set to ERASE asserts. -/
def Mach.sliplineShow (m : Mach) : Mach := m.setFlag pgLocker Locker.SLIPLINE m.eraseHeld

/-- A sensor no longer asserts. -/
def Mach.tamperEnd (s : Nat) (m : Mach) : Mach :=
  let n := pgLocker
  let m := m.setFld n Locker.TAMPER_NOW (m.fld n Locker.TAMPER_NOW &&& (127 - 2 ^ s))
  (m.modUnit n fun u => { u with holding := u.holding &&& ~~~(BitVec.ofNat 32 (2 ^ s)) }).sliplineShow

/-- A sensor decides (R504): its source sets while it asserts, and one set to ERASE asserts the Slipline. -/
def Mach.tamperOn (s : Nat) (m : Mach) : Mach :=
  let n := pgLocker
  let code := m.fld n Locker.TAMPER / 4 ^ s % 4
  if Nat.testBit (m.fld n Locker.TAMPER_NOW) s then m
  else
    let m := m.setFld n Locker.TAMPER_NOW (m.fld n Locker.TAMPER_NOW ||| 2 ^ s)
    let m := m.modUnit n fun u => { u with holding := u.holding ||| BitVec.ofNat 32 (2 ^ s) }
    let m := (m.setFld n Locker.LAST_TAMPER s).setReg n Locker.LAST_TAMPER_T.off (BitVec.ofNat 32 m.rk)
    let m := (m.raise n s).security 1 s (BitVec.ofNat 32 code) (BitVec.ofNat 32 m.rk)
    if code = 1 then (m.slipline s).sliplineShow else m.sliplineShow

/-- What a sensor senses is a fault (R503): 0 lid switch 1, 1 lid switch 2 and 2 the potting mesh, where not 0 is wrong; 3 the always-on
supply in mV, 4 the collector clock's period in ‰ of nominal, 5 the die in 0.1 °C, 6 light in lx. -/
def tamperWrong (s : Nat) (v : Int) : Bool :=
  match s with
  | 3 => decide (v < 1620) || decide (1980 < v)
  | 4 => decide (v < 750) || decide (1250 < v)
  | 5 => decide (v < -450) || decide (1300 < v)
  | 6 => decide (10 < v)
  | _ => v != 0

/-- The filter of a sensor (R503): patterns of the loop and of the mesh, clocks of the clock sensor, ns otherwise. -/
def tamperFilter (s : Nat) : Nat :=
  match s with
  | 0 => 1000000
  | 1 => 2
  | 2 => 2
  | 3 => 100
  | 4 => 1
  | 5 => 10000000
  | _ => 1000000

/-- TAMPER (R503, R504): sensor `s` senses `v`, for `k` in the unit of its filter. -/
def Mach.tamper (s : Nat) (v : Int) (k : Nat) (m : Mach) : Mach :=
  if !tamperWrong s v then m.tamperEnd s else if tamperFilter s ≤ k then m.tamperOn s else m

/-- TAMPER_CFG_WRITE (R504): reserved codes are refused; ERASE to ALARM needs slots 1 to 63 EMPTY. A sensor moved to ERASE while it asserts
asserts the Slipline. -/
def Mach.tamperCfg (v : Nat) (m : Mach) : Mach :=
  let n := pgLocker
  let old := m.fld n Locker.TAMPER
  let code (w s : Nat) : Nat := w / 4 ^ s % 4
  if (List.range 7).any (fun s => decide (2 ≤ code v s)) then m.refuse n 0x040 1
  else if (List.range 7).any (fun s => code old s == 1 && code v s == 0) && m.locker.slots.any (fun p => p.1 != 0 && p.2.typ != 0) then
    m.refuse n 0x040 3
  else
    let m := m.setFld n Locker.TAMPER v
    let hit := (List.range 7).filter fun s => Nat.testBit (m.fld n Locker.TAMPER_NOW) s && code old s == 0 && code v s == 1
    (hit.foldl (fun m s => m.slipline s) m).sliplineShow

end Sys2Proof.Machine
end

