-- ==== Sys2Proof/Machine/Flags.lean ====
section
/-! DEFINITION. The flag computations of the Strand cores (15_strand_instructions.md, R391, R393): carry, borrow, signed overflow and
saturation. -/

namespace Sys2Proof.Machine

/-- Bits of status (R368). -/
def stSAT : Nat := 7
def stV : Nat := 6
def stC : Nat := 5
def stTRAP : Nat := 2
def stREP : Nat := 1
def stIE : Nat := 0

/-- Set or clear one bit of a word. -/
def setBit (w : Word) (i : Nat) (b : Bool) : Word :=
  if b then w ||| BitVec.ofNat 32 (2 ^ i) else w &&& ~~~(BitVec.ofNat 32 (2 ^ i))

/-- A signed result fits 32 bits. -/
def fits32 (i : Int) : Bool := decide (-(2 ^ 31) ≤ i) && decide (i < 2 ^ 31)

/-- x + y + c with the carry out of bit 31 and signed overflow. -/
def addFlags (x y : Word) (c : Bool) : Word × Bool × Bool :=
  let n := x.toNat + y.toNat + c.toNat
  (BitVec.ofNat 32 n, decide (2 ^ 32 ≤ n), !fits32 (x.toInt + y.toInt + (c.toNat : Int)))

/-- x − y − 1 + c; the carry is 1 when no borrow occurs (R393). -/
def subFlags (x y : Word) (c : Bool) : Word × Bool × Bool :=
  let i : Int := (x.toNat : Int) - y.toNat - 1 + c.toNat
  (BitVec.ofInt 32 i, decide (0 ≤ i), !fits32 (x.toInt - y.toInt - 1 + (c.toNat : Int)))

/-- Clamp to signed 32 bits; the flag says whether it saturated. -/
def sat32 (i : Int) : Word × Bool :=
  if i < -(2 ^ 31) then (0x80000000#32, true) else if 2 ^ 31 ≤ i then (0x7FFFFFFF#32, true) else (BitVec.ofInt 32 i, false)

end Sys2Proof.Machine
end

