-- ==== Sys2Proof/Machine/Operands.lean ====
section
/-! DEFINITION. The operand forms of the Strand cores (14_strand_architecture.md): registers, guards, the address modes of R375, the
field and permute operands of R394 and R395, and the writes one group makes. -/

namespace Sys2Proof.Machine

/-! ## Registers (R367) -/

/-- A general register; g0 reads 0. -/
def Core.gr (k : Core) (r : Nat) : Word := if r % 32 = 0 then 0 else tget k.g 0 (r % 32)

/-- Write a general register; a write to g0 is discarded. -/
def Core.setG (r : Nat) (v : Word) (k : Core) : Core := if r % 32 = 0 then k else { k with g := tput k.g 0 (r % 32) v }

def Core.ar (k : Core) (i : Nat) : Word := tget k.a 0 (i % 8)
def Core.setA (i : Nat) (v : Word) (k : Core) : Core := { k with a := tput k.a 0 (i % 8) v }

/-- The bits an address-mode register holds; its reserved bits read 0 (R367, R375). -/
def amMask : Word := 0xFF#32

/-- A register of the a, m, l or am file. -/
def Core.xr (k : Core) (f : RFile) (i : Nat) : Word :=
  match f with
  | .a => k.ar i
  | .m => tget k.mm 0 (i % 8)
  | .l => tget k.l 0 (i % 8)
  | .am => tget k.am 0 (i % 8)

/-- Write a register of the a, m, l or am file. -/
def Core.setX (f : RFile) (i : Nat) (v : Word) (k : Core) : Core :=
  match f with
  | .a => k.setA i v
  | .m => { k with mm := tput k.mm 0 (i % 8) v }
  | .l => { k with l := tput k.l 0 (i % 8) v }
  | .am => { k with am := tput k.am 0 (i % 8) (v &&& amMask) }

/-- A predicate; p0 reads 1. -/
def Core.pred (k : Core) (i : Nat) : Bool := i % 8 = 0 || k.p.getLsbD (i % 8)

/-- Write a predicate; a write to p0 is discarded. -/
def Core.setP (i : Nat) (b : Bool) (k : Core) : Core :=
  if i % 8 = 0 then k
  else { k with p := if b then k.p ||| BitVec.ofNat 8 (2 ^ (i % 8)) else k.p &&& ~~~(BitVec.ofNat 8 (2 ^ (i % 8))) }

/-- An accumulator as the MAC operations chain it, and as another operation reads it (R374). -/
def Core.accOf (k : Core) (i : Nat) : BitVec 72 := tget k.acc 0 (i % 2)
def Core.accView (k : Core) (i : Nat) : BitVec 72 := tget k.view 0 (i % 2)

/-- A flag of status. -/
def Core.stBit (k : Core) (i : Nat) : Bool := k.status.getLsbD i

/-! ## Addressing (R375) -/

/-- Reverse the `n` low bits of a number. -/
def revBits (n x : Nat) : Nat := (List.range n).foldl (fun a i => if Nat.testBit x i then a + 2 ^ (n - 1 - i) else a) 0

/-- ceil(log2 L). -/
def clog2 (l : Nat) : Nat := if l ≤ 1 then 0 else Nat.log2 (l - 1) + 1

/-- The address register after an update with step `m`, modulo length `l` and mode `am`. -/
def addrNext (a m l am : Word) : Word :=
  let n := min 16 (am.toNat % 32)
  let s := am.toNat / 32 % 4
  if am.getLsbD 7 then
    if n = 0 then a
    else
      let off := a.toNat / 2 ^ s % 2 ^ n
      let off' := revBits n ((revBits n off + m.toNat / 2 ^ s) % 2 ^ n)
      BitVec.ofNat 32 (a.toNat % 2 ^ s + off' * 2 ^ s + a.toNat / 2 ^ (n + s) * 2 ^ (n + s))
  else if l = 0 then a + m
  else
    let k := clog2 l.toNat
    let base := a.toNat / 2 ^ k * 2 ^ k
    BitVec.ofInt 32 ((base : Int) + (((a.toNat : Int) - base + m.toInt) % (l.toNat : Int)))

/-- The update of a_i by its own m, l and am. -/
def Core.addrUp (k : Core) (i : Nat) : Word := addrNext (k.ar i) (k.xr .m i) (k.xr .l i) (k.xr .am i)

/-! ## Data operands -/

/-- Number of leading zero bits. -/
def clz32 (w : Word) : Nat := if w = 0 then 32 else 31 - Nat.log2 w.toNat

/-- Byte permute (R394). -/
def perm (x old sel : Word) : Word :=
  let byte (b : Nat) : Nat :=
    let s := sel.toNat / 16 ^ b % 16
    if s < 4 then x.toNat / 256 ^ s % 256
    else if s < 8 then old.toNat / 256 ^ (s - 4) % 256
    else if s = 9 then 255
    else if s = 10 then (if x.getLsbD 31 then 255 else 0)
    else 0
  BitVec.ofNat 32 (byte 0 + 256 * byte 1 + 65536 * byte 2 + 16777216 * byte 3)

/-- The width of a field within bit 31 (R395). -/
def fieldWidth (pos width : Nat) : Nat := min (min width 32) (32 - pos)

/-- Extract a field (R395): zero- or sign-extended. -/
def extract (signed : Bool) (x : Word) (pos width : Nat) : Word :=
  let w := fieldWidth pos width
  let v := x.toNat / 2 ^ pos % 2 ^ w
  if signed && decide (0 < w) && Nat.testBit v (w - 1) then BitVec.ofNat 32 (v + 2 ^ 32 - 2 ^ w) else BitVec.ofNat 32 v

/-- Insert a field (R395). -/
def insertField (old x : Word) (pos width : Nat) : Word :=
  let w := fieldWidth pos width
  BitVec.ofNat 32 (old.toNat % 2 ^ pos + x.toNat % 2 ^ w * 2 ^ pos + old.toNat / 2 ^ (pos + w) * 2 ^ (pos + w))

/-- pos and width of a control word. -/
def ctlPos (w : Word) : Nat := w.toNat % 32
def ctlWidth (w : Word) : Nat := w.toNat / 256 % 64

/-- A compare. -/
def compare (o : CmpOp) (x y : Word) : Bool :=
  match o with
  | .eq => x == y
  | .ne => x != y
  | .lt => x.slt y
  | .ltu => x.ult y
  | .le => x.sle y
  | .leu => x.ule y

/-- A sign-extended load, or a zero-extended one. -/
def extend (z : Size) (uns : Bool) (v : Nat) : Word :=
  match z, uns with
  | .byte, false => (BitVec.ofNat 8 v).signExtend 32
  | .half, false => (BitVec.ofNat 16 v).signExtend 32
  | _, _ => BitVec.ofNat 32 v

/-- Bytes of a size. -/
def Size.bytes : Size → Nat
  | .byte => 1 | .half => 2 | .word => 4

/-! ## The writes of a group (R374) -/

/-- What a group writes: results of latency 1 (general, address-file and predicate registers, rpt, dsp, C and V, status by MVTS), those of
latency 3 (accumulator or g, number, value), chained accumulators, and whether something saturated. -/
structure Writes where
  g : List (Nat × Word)
  x : List (RFile × Nat × Word)
  p : List (Nat × Bool)
  rpt : Option Word
  dsp : Option Word
  cv : Option (Bool × Bool)
  st : Option Word
  late : List (Bool × Nat × BitVec 72)
  acc : List (Nat × BitVec 72)
  sat : Bool
  deriving DecidableEq, Repr

/-- No write. -/
def Writes.none : Writes := ⟨[], [], [], .none, .none, .none, .none, [], [], false⟩

/-- Add a general-register result of latency 1, or of latency 3. -/
def Writes.addG (r : Nat) (v : Word) (w : Writes) : Writes := { w with g := w.g ++ [(r, v)] }
def Writes.lateG (r : Nat) (v : Word) (w : Writes) : Writes := { w with late := w.late ++ [(false, r, v.setWidth 72)] }

/-- A chained accumulator: later MACs read it at once, other operations after 3 groups. -/
def Writes.addAcc (i : Nat) (v : BitVec 72) (w : Writes) : Writes :=
  { w with acc := w.acc ++ [(i, v)], late := w.late ++ [(true, i, v)] }

/-- Results due before the group of issue number `n` land, oldest first (R374). -/
def Core.landDue (n : Nat) (k : Core) : Core :=
  let due := k.flight.filter fun f => decide (f.land ≤ n)
  let k := { k with flight := k.flight.filter fun f => !decide (f.land ≤ n) }
  due.foldl (fun k f =>
    if f.acc then { k with view := tput k.view 0 (f.reg % 2) f.val } else k.setG f.reg (f.val.setWidth 32)) k

/-- Every result in flight lands. -/
def Core.landAll (k : Core) : Core :=
  let l := k.flight
  l.foldl (fun k f =>
    if f.acc then { k with view := tput k.view 0 (f.reg % 2) f.val } else k.setG f.reg (f.val.setWidth 32)) { k with flight := [] }

/-- The group of issue number `k.issued` has issued: what is due lands, then its own results of latency 1, and its late results fly. -/
def Core.commit (w : Writes) (k : Core) : Core :=
  let n := k.issued
  let k := { k with flight := k.flight ++ w.late.map (fun (q : Bool × Nat × BitVec 72) => (⟨n + 3, q.1, q.2.1, q.2.2⟩ : Flight)), issued := n + 1 }
  let k := k.landDue (n + 1)
  let k := w.g.foldl (fun k q => k.setG q.1 q.2) k
  let k := w.x.foldl (fun k q => k.setX q.1 q.2.1 q.2.2) k
  let k := w.p.foldl (fun k q => k.setP q.1 q.2) k
  let k := w.acc.foldl (fun k q => { k with acc := tput k.acc 0 (q.1 % 2) q.2 }) k
  let st := match w.st with
    | some v => (k.status &&& 0x06#32) ||| (v &&& 0xE1#32)
    | .none => k.status
  let st := match w.cv with
    | some (c, v) => setBit (setBit st stC c) stV v
    | .none => st
  let st := if w.sat then setBit st stSAT true else st
  { k with status := st, rpt := w.rpt.getD k.rpt, dsp := w.dsp.getD k.dsp }

end Sys2Proof.Machine
end

