-- ==== Sys2Proof/Machine/Syllables.lean ====
section
/-! DEFINITION. The syllables of the Strand cores (14_strand_architecture.md R371, R372; 15_strand_instructions.md): decoding a full
syllable and a short operation, rejecting by the SUB codes of R408, the registers an operation writes by its encoding, and the
operations of the X, Y and M units as writes. -/

namespace Sys2Proof.Machine

/-- What a syllable decodes to: an operation, an undefined unit or opcode (SUB 1), or a reserved field that is not 0 (SUB 2). -/
inductive SylDec where
  | ok (s : Syl)
  | undef (unit : Nat)
  | reserved (unit : Nat)
  deriving DecidableEq, Repr

/-! ## Full syllables -/

/-- Signed imm9 of a syllable, and off19. -/
def imm9 (w : Nat) : Int := let v : Nat := w % 512; if v < 256 then v else (v : Int) - 512
def off19 (w : Nat) : Int := let v : Nat := w % 2 ^ 19; if v < 2 ^ 18 then v else (v : Int) - 2 ^ 19
def imm14 (w : Nat) : Int := let v : Nat := w % 2 ^ 14; if v < 2 ^ 13 then v else (v : Int) - 2 ^ 14

/-- The two-register operation of an opcode 0x00 to 0x11. -/
def aluOf (op : Nat) : AluOp :=
  match op with
  | 0x00 => .add | 0x01 => .sub | 0x02 => .adc | 0x03 => .sbc | 0x04 => .adds | 0x05 => .subs | 0x06 => .and | 0x07 => .or
  | 0x08 => .xor | 0x09 => .andn | 0x0A => .shl | 0x0B => .shr | 0x0C => .sar | 0x0D => .ror | 0x0E => .min | 0x0F => .max
  | 0x10 => .minu | _ => .maxu

/-- The compare of an opcode 0x18 to 0x1D. -/
def cmpOf (op : Nat) : CmpOp :=
  match op with
  | 0x18 => .eq | 0x19 => .ne | 0x1A => .lt | 0x1B => .ltu | 0x1C => .le | _ => .leu

def fileOf (n : Nat) : RFile := match n % 4 with | 0 => .a | 1 => .m | 2 => .l | _ => .am
def sizeOf (n : Nat) : Size := match n with | 0 => .byte | 1 => .half | _ => .word
def sregOf (n : Nat) : SReg := match n with | 0 => .rpt | 1 => .dsp | 2 => .status | _ => .trapInfo

/-- An operation whose reserved fields are all 0 when `good`; else SUB 2. -/
def okIf (unit pr : Nat) (good : Bool) (op : SOp) : SylDec := if good then .ok ⟨unit, pr, op⟩ else .reserved unit

/-- The X and Y units (R393). -/
def decXY (u pr op rd rs1 rs2 sub w : Nat) : SylDec :=
  let imm := imm9 w
  let lo := w % 32
  let hi := w / 32 % 16
  if op ≤ 0x03 then okIf u pr (sub ≤ 1) (.alu (aluOf op) (sub == 1) rd rs1 rs2)
  else if op ≤ 0x11 then okIf u pr (sub == 0) (.alu (aluOf op) false rd rs1 rs2)
  else if op = 0x12 then okIf u pr (sub == 0 && rs2 == 0) (.clz rd rs1)
  else if op = 0x13 then okIf u pr (sub == 0) (.perm rd rs1 rs2)
  else if op = 0x14 then okIf u pr (sub == 0) (.bfx false rd rs1 rs2)
  else if op = 0x15 then okIf u pr (sub == 0) (.bfx true rd rs1 rs2)
  else if op = 0x16 then okIf u pr (sub == 0) (.bfi rd rs1 rs2)
  else if op = 0x17 then okIf u pr (sub < 8) (.sel (sub % 8) rd rs1 rs2)
  else if op ≤ 0x1D then okIf u pr (sub == 0 && rd < 8) (.cmp (cmpOf op) (rd % 8) rs1 rs2)
  else if op = 0x1E then okIf u pr (rd < 8 && rs1 < 8 && rs2 < 8) (.plog (rd % 8) (rs1 % 8) (rs2 % 8) sub)
  else if op = 0x1F then okIf u pr (sub == 0 && rs2 == 0) (.mvtx (fileOf (rd / 8)) (rd % 8) rs1)
  else if op = 0x20 then okIf u pr (sub == 0 && rs2 == 0) (.mvfx rd (fileOf (rs1 / 8)) (rs1 % 8))
  else if op = 0x21 then okIf u pr (sub == 0 && rs2 == 0 && rd < 3) (.mvts (sregOf rd) rs1)
  else if op = 0x22 then okIf u pr (sub == 0 && rs2 == 0 && rs1 < 4) (.mvfs rd (sregOf rs1))
  else if op = 0x28 then okIf u pr true (.alui .add rd rs1 imm)
  else if op = 0x29 then okIf u pr true (.alui .and rd rs1 imm)
  else if op = 0x2A then okIf u pr true (.alui .or rd rs1 imm)
  else if op = 0x2B then okIf u pr true (.alui .xor rd rs1 imm)
  else if op = 0x2C then okIf u pr (hi == 0) (.alui .shl rd rs1 lo)
  else if op = 0x2D then okIf u pr (hi == 0) (.alui .shr rd rs1 lo)
  else if op = 0x2E then okIf u pr (hi == 0) (.alui .sar rd rs1 lo)
  else if op = 0x2F then okIf u pr true (.bfxi rd rs1 lo (hi + 1))
  else if op = 0x30 then okIf u pr true (.bfii rd rs1 lo (hi + 1))
  else if op = 0x31 then okIf u pr (rd < 8) (.cmpi .eq (rd % 8) rs1 imm)
  else if op = 0x32 then okIf u pr (rd < 8) (.cmpi .lt (rd % 8) rs1 imm)
  else if op = 0x33 then okIf u pr (rd < 8) (.cmpi .ltu (rd % 8) rs1 imm)
  else if op = 0x38 then okIf u pr true (.movi rd (imm14 w))
  else if op = 0x39 then okIf u pr true (.movh rd (w % 2 ^ 14))
  else .undef u

/-- The M unit (R398). -/
def decM (pr op rd rs1 rs2 sub w : Nat) : SylDec :=
  let sh := w % 64
  if op = 0x00 then okIf 2 pr (sub == 0) (.mul .mul rd rs1 rs2)
  else if op = 0x01 then okIf 2 pr (sub == 0) (.mul .mulh rd rs1 rs2)
  else if op = 0x02 then okIf 2 pr (sub == 0) (.mul .mulhu rd rs1 rs2)
  else if op = 0x03 then okIf 2 pr (sub == 0) (.mul .mulq rd rs1 rs2)
  else if op = 0x08 then okIf 2 pr (rd < 2 && sub < 4) (.mac (rd % 2) (sub % 2 == 1) (sub / 2 == 1) false rs1 rs2)
  else if op = 0x09 then okIf 2 pr (rd < 2 && sub < 4) (.mach (rd % 2) (sub % 2 == 1) (sub / 2 == 1) rs1 rs2)
  else if op = 0x0A then okIf 2 pr (rd < 2 && sub < 4) (.mac (rd % 2) (sub % 2 == 1) (sub / 2 == 1) true rs1 rs2)
  else if op = 0x0B then
    okIf 2 pr (rd < 2 && rs1 < 8 && rs2 < 8 && sub < 4) (.macd (rd % 2) (sub % 2 == 1) (sub / 2 == 1) (rs1 % 8) (rs2 % 8))
  else if op = 0x10 then
    okIf 2 pr (rs1 < 2 && w / 256 % 2 == 0 && sh ≤ 40) (.mvfacc rd (rs1 % 2) sh (w / 64 % 2 == 1) (w / 128 % 2 == 1))
  else if op = 0x11 then okIf 2 pr (rd < 2 && w / 64 % 8 == 0 && sh ≤ 40) (.mvtacc (rd % 2) rs1 sh)
  else .undef 2

/-- The L unit (R400). -/
def decL (pr op rd rs1 rs2 sub w : Nat) : SylDec :=
  let i := rs1 % 8
  let a := decide (rs1 < 8)
  let z := sub % 4
  let u := sub / 4 % 2
  let zOk := decide (sub < 8) && z != 3 && !(u == 1 && z == 2)
  let stOk := decide (sub < 3)
  let imm := imm9 w
  if op = 0x00 then okIf 3 pr a (.ldo .byte false rd i imm)
  else if op = 0x01 then okIf 3 pr a (.ldo .byte true rd i imm)
  else if op = 0x02 then okIf 3 pr a (.ldo .half false rd i imm)
  else if op = 0x03 then okIf 3 pr a (.ldo .half true rd i imm)
  else if op = 0x04 then okIf 3 pr a (.ldo .word true rd i imm)
  else if op = 0x05 then okIf 3 pr a (.sto .byte rd i imm)
  else if op = 0x06 then okIf 3 pr a (.sto .half rd i imm)
  else if op = 0x07 then okIf 3 pr a (.sto .word rd i imm)
  else if op = 0x08 then okIf 3 pr (a && rs2 == 0 && zOk) (.ldp (sizeOf z) (u == 1) rd i)
  else if op = 0x09 then okIf 3 pr (a && rs2 == 0 && stOk) (.stp (sizeOf z) rd i)
  else if op = 0x0A then okIf 3 pr (a && zOk) (.ldx (sizeOf z) (u == 1) rd i rs2)
  else if op = 0x0B then okIf 3 pr (a && stOk) (.stx (sizeOf z) rd i rs2)
  else if op = 0x10 then okIf 3 pr (rs1 == 0 && rs2 == 0 && sub == 0) (.push rd)
  else if op = 0x11 then okIf 3 pr (rs1 == 0 && rs2 == 0 && sub == 0) (.pop rd)
  else if op = 0x12 then okIf 3 pr (a && rs2 == 0 && sub == 0) (.swap rd i)
  else if op = 0x13 then okIf 3 pr (w % 2 ^ 19 == 0) .sync
  else .undef 3

/-- The C unit (R403). -/
def decC (pr op rd rs1 rs2 sub w : Nat) : SylDec :=
  let zero := w % 2 ^ 19 == 0
  let reg := rd == 0 && rs2 == 0 && sub == 0
  if op = 0x00 then okIf 4 pr zero .nop
  else if op = 0x01 then okIf 4 pr true (.br (off19 w))
  else if op = 0x02 then okIf 4 pr true (.call (off19 w))
  else if op = 0x03 then okIf 4 pr true (.brdec (off19 w))
  else if op = 0x04 then okIf 4 pr reg (.brr rs1)
  else if op = 0x05 then okIf 4 pr reg (.callr rs1)
  else if op = 0x06 then okIf 4 pr zero .ret
  else if op = 0x07 then okIf 4 pr zero .reti
  else if op = 0x08 then okIf 4 pr (rd == 0) (.rep (w % 2 ^ 14))
  else if op = 0x09 then okIf 4 pr reg (.repr rs1)
  else if op = 0x0A then okIf 4 pr zero .wait
  else if op = 0x0B then okIf 4 pr (rd == 0 && w / 16 % 1024 == 0) (.trap (w % 16))
  else if op = 0x0C then okIf 4 pr zero .brk
  else .undef 4

/-- A full syllable (R371). -/
def decFull (w : Nat) : SylDec :=
  let u := w / 2 ^ 28 % 8
  let pr := w / 2 ^ 25 % 8
  let op := w / 2 ^ 19 % 64
  let rd := w / 2 ^ 14 % 32
  let rs1 := w / 2 ^ 9 % 32
  let rs2 := w / 2 ^ 4 % 32
  let sub := w % 16
  if u ≤ 1 then decXY u pr op rd rs1 rs2 sub w
  else if u = 2 then decM pr op rd rs1 rs2 sub w
  else if u = 3 then decL pr op rd rs1 rs2 sub w
  else if u = 4 then decC pr op rd rs1 rs2 sub w
  else .undef u

/-! ## Short operations (R406) -/

/-- Signed imm4. -/
def imm4 (n : Nat) : Int := if n < 8 then n else (n : Int) - 16

/-- A short operation of 15 bits: unit [14:13], opcode [12:8], rd [7:4], rs or imm4 [3:0]. -/
def decShort (v : Nat) : SylDec :=
  let k := v / 2 ^ 13 % 4
  let op := v / 2 ^ 8 % 32
  let rd := v / 16 % 16
  let rs := v % 16
  let off8 : Int := if v % 256 < 128 then (v % 256 : Nat) else ((v % 256 : Nat) : Int) - 256
  if k ≤ 1 then
    match op with
    | 0 => okIf k 0 true (.alu .or false rd rs 0)
    | 1 => okIf k 0 true (.alu .add false rd rd rs)
    | 2 => okIf k 0 true (.alu .sub false rd rd rs)
    | 3 => okIf k 0 true (.alu .and false rd rd rs)
    | 4 => okIf k 0 true (.alu .or false rd rd rs)
    | 5 => okIf k 0 true (.alu .xor false rd rd rs)
    | 6 => okIf k 0 true (.alui .add rd rd (imm4 rs))
    | 7 => okIf k 0 true (.alui .shl rd rd rs)
    | 8 => okIf k 0 true (.alui .shr rd rd rs)
    | 9 => okIf k 0 true (.alui .sar rd rd rs)
    | 10 => okIf k 0 true (.movi rd (imm4 rs))
    | 11 => okIf k 0 true (.clz rd rs)
    | 12 => okIf k 0 true (.cmp .eq 1 rd rs)
    | 13 => okIf k 0 true (.cmp .lt 1 rd rs)
    | _ => .undef k
  else if k = 2 then
    match op with
    | 0 => okIf 3 0 (rs < 8) (.ldp .word true rd (rs % 8))
    | 1 => okIf 3 0 (rs < 8) (.stp .word rd (rs % 8))
    | 2 => okIf 3 0 (rs < 8) (.ldp .half false rd (rs % 8))
    | 3 => okIf 3 0 (rs < 8) (.stp .half rd (rs % 8))
    | 4 => okIf 3 0 (rs == 0) (.push rd)
    | 5 => okIf 3 0 (rs == 0) (.pop rd)
    | _ => .undef 3
  else
    match op with
    | 0 => okIf 4 0 (rd == 0 && rs == 0) .nop
    | 1 => okIf 4 0 (rd == 0 && rs == 0) .ret
    | 2 => okIf 4 0 true (.rep (rd * 16 + rs))
    | 3 => okIf 4 0 true (.br off8)
    | 4 => okIf 4 0 (rd == 0 && rs == 0) .wait
    | _ => .undef 4

/-! ## What an encoding writes (R372, R408) -/

/-- A register written, for the count of R372. -/
inductive WDest where
  | g (r : Nat) | x (f : RFile) (i : Nat) | p (i : Nat) | rpt | dsp | status
  deriving DecidableEq, Repr

/-- The registers an operation writes by its encoding; g0 and p0 are not counted. -/
def SOp.dests : SOp → List WDest
  | .alu _ f rd _ _ => (if rd = 0 then [] else [.g rd]) ++ (if f then [.status] else [])
  | .clz rd _ => if rd = 0 then [] else [.g rd]
  | .perm rd _ _ => if rd = 0 then [] else [.g rd]
  | .bfx _ rd _ _ => if rd = 0 then [] else [.g rd]
  | .bfi rd _ _ => if rd = 0 then [] else [.g rd]
  | .sel _ rd _ _ => if rd = 0 then [] else [.g rd]
  | .cmp _ pd _ _ => if pd = 0 then [] else [.p pd]
  | .plog pd _ _ _ => if pd = 0 then [] else [.p pd]
  | .mvtx f i _ => [.x f i]
  | .mvfx rd _ _ => if rd = 0 then [] else [.g rd]
  | .mvts r _ => match r with | .rpt => [.rpt] | .dsp => [.dsp] | .status => [.status] | .trapInfo => []
  | .mvfs rd _ => if rd = 0 then [] else [.g rd]
  | .alui _ rd _ _ => if rd = 0 then [] else [.g rd]
  | .bfxi rd _ _ _ => if rd = 0 then [] else [.g rd]
  | .bfii rd _ _ _ => if rd = 0 then [] else [.g rd]
  | .cmpi _ pd _ _ => if pd = 0 then [] else [.p pd]
  | .movi rd _ => if rd = 0 then [] else [.g rd]
  | .movh rd _ => if rd = 0 then [] else [.g rd]
  | .mul _ rd _ _ => if rd = 0 then [] else [.g rd]
  | .mac _ _ _ _ _ _ => []
  | .mach _ _ _ _ _ => []
  | .macd _ _ _ i j => [.x .a i, .x .a j]
  | .mvfacc rd _ _ _ _ => if rd = 0 then [] else [.g rd]
  | .mvtacc _ _ _ => []
  | .ldo _ _ rd _ _ => if rd = 0 then [] else [.g rd]
  | .sto _ _ _ _ => []
  | .ldp _ _ rd i => (if rd = 0 then [] else [.g rd]) ++ [.x .a i]
  | .stp _ _ i => [.x .a i]
  | .ldx _ _ rd _ _ => if rd = 0 then [] else [.g rd]
  | .stx _ _ _ _ => []
  | .push _ => [.dsp]
  | .pop rd => (if rd = 0 then [] else [.g rd]) ++ [.dsp]
  | .swap rd _ => if rd = 0 then [] else [.g rd]
  | .sync => []
  | .nop => []
  | .br _ => []
  | .call _ => []
  | .brdec _ => [.rpt]
  | .brr _ => []
  | .callr _ => []
  | .ret => []
  | .reti => []
  | .rep _ => [.rpt]
  | .repr _ => [.rpt]
  | .wait => []
  | .trap _ => []
  | .brk => []

/-- An operation that may not stand in a REP body (R408, SUB 5). -/
def SOp.rptWriter : SOp → Bool
  | .mvts .rpt _ => true
  | .rep _ => true | .repr _ => true | .br _ => true | .brr _ => true | .brdec _ => true | .call _ => true | .callr _ => true
  | .ret => true | .reti => true
  | _ => false

/-- A REP prefix. -/
def SOp.isRep : SOp → Bool
  | .rep _ => true | .repr _ => true
  | _ => false

/-- Whether an operation takes the L unit as well (R369). -/
def SOp.takesL : SOp → Bool
  | .macd _ _ _ _ _ => true
  | _ => false

/-! ## X and Y operations (R393 to R397) -/

/-- A two-register result: value, C and V where the operation defines them, and whether it saturated. -/
def aluRes (o : AluOp) (x y : Word) (c : Bool) : Word × Bool × Bool × Bool :=
  let plain (v : Word) := (v, false, false, false)
  let flagged (r : Word × Bool × Bool) := (r.1, r.2.1, r.2.2, false)
  let sats (r : Word × Bool) := (r.1, false, false, r.2)
  match o with
  | .add => flagged (addFlags x y false)
  | .sub => flagged (subFlags x y true)
  | .adc => flagged (addFlags x y c)
  | .sbc => flagged (subFlags x y c)
  | .adds => sats (sat32 (x.toInt + y.toInt))
  | .subs => sats (sat32 (x.toInt - y.toInt))
  | .and => plain (x &&& y)
  | .or => plain (x ||| y)
  | .xor => plain (x ^^^ y)
  | .andn => plain (x &&& ~~~y)
  | .shl => plain (x <<< (y.toNat % 32))
  | .shr => plain (x >>> (y.toNat % 32))
  | .sar => plain (x.sshiftRight (y.toNat % 32))
  | .ror => plain (x.rotateRight (y.toNat % 32))
  | .min => plain (if x.slt y then x else y)
  | .max => plain (if x.slt y then y else x)
  | .minu => plain (if x.ult y then x else y)
  | .maxu => plain (if x.ult y then y else x)

/-- A special register's value (R396). -/
def Core.sreg (k : Core) (r : SReg) : Word :=
  match r with
  | .rpt => k.rpt | .dsp => k.dsp | .status => k.status | .trapInfo => k.trapInfo

/-- The writes of an X or Y operation. -/
def Core.xyOp (k : Core) (op : SOp) (w : Writes) : Writes :=
  match op with
  | .alu o f rd rs1 rs2 =>
    let r := aluRes o (k.gr rs1) (k.gr rs2) (k.stBit stC)
    let w := w.addG rd r.1
    let w := if f then { w with cv := some (r.2.1, r.2.2.1) } else w
    { w with sat := w.sat || r.2.2.2 }
  | .clz rd rs1 => w.addG rd (BitVec.ofNat 32 (clz32 (k.gr rs1)))
  | .perm rd rs1 rs2 => w.addG rd (perm (k.gr rs1) (k.gr rd) (k.gr rs2))
  | .bfx s rd rs1 rs2 => w.addG rd (extract s (k.gr rs1) (ctlPos (k.gr rs2)) (ctlWidth (k.gr rs2)))
  | .bfi rd rs1 rs2 => w.addG rd (insertField (k.gr rd) (k.gr rs1) (ctlPos (k.gr rs2)) (ctlWidth (k.gr rs2)))
  | .sel p rd rs1 rs2 => w.addG rd (if k.pred p then k.gr rs1 else k.gr rs2)
  | .cmp o pd rs1 rs2 => { w with p := w.p ++ [(pd, compare o (k.gr rs1) (k.gr rs2))] }
  | .plog pd ps1 ps2 tbl => { w with p := w.p ++ [(pd, Nat.testBit tbl (2 * (k.pred ps1).toNat + (k.pred ps2).toNat))] }
  | .mvtx f i rs1 => { w with x := w.x ++ [(f, i, k.gr rs1)] }
  | .mvfx rd f i => w.addG rd (k.xr f i)
  | .mvts r rs1 =>
    match r with
    | .rpt => { w with rpt := some (k.gr rs1) }
    | .dsp => { w with dsp := some (k.gr rs1) }
    | .status => { w with st := some (k.gr rs1) }
    | .trapInfo => w
  | .mvfs rd r => w.addG rd (k.sreg r)
  | .alui o rd rs1 imm => w.addG rd (aluRes o (k.gr rs1) (wordOfInt imm) false).1
  | .bfxi rd rs1 pos width => w.addG rd (extract false (k.gr rs1) pos width)
  | .bfii rd rs1 pos width => w.addG rd (insertField (k.gr rd) (k.gr rs1) pos width)
  | .cmpi o pd rs1 imm => { w with p := w.p ++ [(pd, compare o (k.gr rs1) (wordOfInt imm))] }
  | .movi rd imm => w.addG rd (wordOfInt imm)
  | .movh rd imm => w.addG rd (BitVec.ofNat 32 ((k.gr rd).toNat * 2 ^ 14 + imm))
  | _ => w

/-! ## M operations (R398, R399) -/

/-- A word of 72 bits from an integer, modulo 2^72. -/
def acc72 (i : Int) : BitVec 72 := BitVec.ofInt 72 i

/-- A multiply's result and whether it saturated. -/
def mulRes (o : MulOp) (x y : Word) : Word × Bool :=
  match o with
  | .mul => (BitVec.ofNat 32 (x.toNat * y.toNat), false)
  | .mulh => (BitVec.ofInt 32 (x.toInt * y.toInt / 2 ^ 32), false)
  | .mulhu => (BitVec.ofNat 32 (x.toNat * y.toNat / 2 ^ 32), false)
  | .mulq => sat32 ((x.toInt * y.toInt + 2 ^ 30) / 2 ^ 31)

/-- The product of MAC and MACZ. -/
def macProd (uns : Bool) (x y : Word) : Int := if uns then (x.toNat * y.toNat : Nat) else x.toInt * y.toInt

/-- A signed half of a word. -/
def halfOf (x : Word) (hi : Bool) : Int := (if hi then (x >>> 16).setWidth 16 else x.setWidth 16 : BitVec 16).toInt

/-- The sum of products of MACH. -/
def machSum (cross : Bool) (x y : Word) : Int :=
  halfOf x false * halfOf y cross + halfOf x true * halfOf y (!cross)

/-- MVFACC's value and whether it saturated (R398). -/
def accRead (a : BitVec 72) (sh : Nat) (round sat : Bool) : Word × Bool :=
  let v : Int := a.toInt + (if round && decide (0 < sh) then 2 ^ (sh - 1) else 0)
  if sat then sat32 (v / 2 ^ sh) else (BitVec.ofInt 32 (v / 2 ^ sh), false)

/-- The writes of an M operation that reads no memory. -/
def Core.mOp (k : Core) (op : SOp) (w : Writes) : Writes :=
  match op with
  | .mul o rd rs1 rs2 =>
    let r := mulRes o (k.gr rs1) (k.gr rs2)
    let w := w.lateG rd r.1
    { w with sat := w.sat || r.2 }
  | .mac i neg uns zero rs1 rs2 =>
    let q := macProd uns (k.gr rs1) (k.gr rs2)
    w.addAcc i ((if zero then 0 else k.accOf i) + acc72 (if neg then -q else q))
  | .mach i neg cross rs1 rs2 =>
    let q := machSum cross (k.gr rs1) (k.gr rs2)
    w.addAcc i (k.accOf i + acc72 (if neg then -q else q))
  | .mvfacc rd i sh r s =>
    let v := accRead (k.accView i) sh r s
    let w := w.lateG rd v.1
    { w with sat := w.sat || v.2 }
  | .mvtacc i rs1 sh => w.addAcc i (((k.gr rs1).signExtend 72) <<< sh)
  | _ => w

/-- The writes of MACD with its two operands loaded (R398, R399). -/
def Core.macdOp (k : Core) (i : Nat) (neg : Bool) (ai aj : Nat) (x y : Int) (w : Writes) : Writes :=
  let w := w.addAcc i (k.accOf i + acc72 (if neg then -(x * y) else x * y))
  { w with x := w.x ++ [(.a, ai, k.addrUp ai), (.a, aj, k.addrUp aj)] }

end Sys2Proof.Machine
end

