-- ==== Sys2Proof/Machine/StrandCtl.lean ====
section
/-! DEFINITION. The Strand cores as the STRANDCTL page shows and commands them (14_strand_architecture.md R366, R381 to R384, R388, R389,
R546; 19_power_states_and_network_sleep.md R473): core states, interrupts, trap entry and halt, START, STOP, LOAD, RESET and Doze. -/

namespace Sys2Proof.Machine

/-- A core's registers and pipeline. -/
def Mach.core (m : Mach) (c : Nat) : Core := tget m.cores coreReset c
def Mach.setCore (c : Nat) (k : Core) (m : Mach) : Mach := { m with cores := tput m.cores coreReset c k }
def Mach.modCore (c : Nat) (g : Core → Core) (m : Mach) : Mach := m.setCore c (g (m.core c))

/-- STATE of a core: 0 STOPPED, 1 LOADING, 2 RUNNING, 3 WAITING, 4 DOZE, 5 HALTED, 6 LOAD_FAILED (R388). -/
def Mach.coreSt (m : Mach) (c : Nat) : Nat := m.fld pgStrand (Strandctl.C_STATE c)

/-- A core that issues or waits (R388). -/
def Mach.coreLive (m : Mach) (c : Nat) : Bool := m.coreSt c == 2 || m.coreSt c == 3

/-- RUNNING, and the page's IDLE or ACTIVE, show the cores (R388); DOZING, PSTATE and BIAS show Doze while the module runs (R472, R473). -/
def Mach.coresShow (m : Mach) : Mach :=
  let m := m.setFld pgStrand Strandctl.RUNNING (bitsOf ((List.range 6).map fun c => (c, m.coreLive c)))
  let m := m.settleUnit pgStrand
  let dozing := bitsOf ((List.range 4).map fun i => (i, m.coreSt (i + 2) == 4))
  let m := m.setFld pgPwr Pwr.DOZING dozing
  let started := (List.range 4).filter fun i => m.coreLive (i + 2) || m.coreSt (i + 2) == 4
  if m.fld pgPwr Pwr.PSTATE ≤ 1 then
    let doze := if dozing != 0 && started.all (fun i => m.coreSt (i + 2) == 4) then 1 else 0
    (m.setFld pgPwr Pwr.PSTATE doze).setFld pgPwr Pwr.BIAS doze
  else m

/-- Set STATE of a core. -/
def Mach.setCoreSt (c v : Nat) (m : Mach) : Mach := (m.setFld pgStrand (Strandctl.C_STATE c) v).coresShow

/-! ## Interrupts (R381, R382) -/

/-- The pending vectors that IRQ_EN enables. -/
def Mach.irqDue (m : Mach) (c : Nat) : Nat :=
  m.fld pgStrand (Strandctl.C_IRQ_PEND c) &&& m.fld pgStrand (Strandctl.C_IRQ_EN c)

/-- A waiting core goes on once a vector set in IRQ_EN is pending, whatever IE is (R381). -/
def Mach.coresWake (m : Mach) : Mach :=
  (List.range 6).foldl (fun m c => if m.coreSt c == 3 && m.irqDue c != 0 then m.setCoreSt c 2 else m) m

/-- The boundary before the next group is quiet (R382): every result is read by it, and it is no delay group, nor waits for an access. -/
def Core.quiet (k : Core) : Bool := k.flight.isEmpty && k.jumps.isEmpty && k.stall.isNone

/-- An interrupt may be taken here: at a quiet boundary, or between REP iterations, whose results then land (R380, R381). -/
def Core.acceptable (k : Core) : Bool :=
  k.jumps.isEmpty && k.stall.isNone && (k.flight.isEmpty || k.rep.isSome) && decide (k.frames.length < 31)

/-- A core takes vector `v` (R380, R381): results land, the frame is pushed, and fetch continues at the vector's entry. -/
def Mach.acceptVec (c v : Nat) (m : Mach) : Mach :=
  let k := (m.core c).landAll
  let saved := match k.rep with
    | some _ => setBit k.status stREP true
    | none => k.status
  let k := match k.rep with
    | some n => { k with rpt := BitVec.ofNat 32 n }
    | none => k
  let k := { k with
    frames := ⟨k.pc, saved, 1⟩ :: k.frames
    status := setBit (setBit k.status stIE false) stREP false
    pc := m.fld pgStrand (Strandctl.C_VBAR c) + 0x100 + 0x20 * v
    rep := none
    defer := 0 }
  (m.setReg pgStrand (Strandctl.C_IRQ_PEND c).off
    (m.reg pgStrand (Strandctl.C_IRQ_PEND c).off &&& ~~~(BitVec.ofNat 32 (2 ^ v)))).setCore c k

/-- An interrupt is taken now (R381): the core runs, its status.IE is 1, an enabled vector is pending and the boundary admits it. -/
def Mach.irqTaken (m : Mach) (c : Nat) : Bool :=
  m.coreSt c == 2 && m.irqDue c != 0 && (m.core c).stBit stIE && (m.core c).acceptable

/-- INTERRUPT_ACCEPT (R380, R381, R382): the lowest enabled pending vector, while status.IE is 1; DEFER_MAX and LATE_IRQ follow the groups
it has waited. -/
def Mach.interruptAccept (c : Nat) (m : Mach) : Mach :=
  if m.irqTaken c then
    let k := m.core c
    let late := 5 + (if k.rep.isSome then 1 else 0)
    let m := m.setFld pgStrand (Strandctl.C_DEFER_MAX c) (max (m.fld pgStrand (Strandctl.C_DEFER_MAX c)) (min k.defer 65535))
    let m := if late < k.defer then m.raise pgStrand 24 else m
    m.acceptVec c (lowestBit (m.irqDue c))
  else m

/-- IRQ_SET (R381, R388): a vector is raised on a core; core codes 6 and 7 are refused. -/
def Mach.irqSet (core vec : Nat) (m : Mach) : Mach :=
  if core < 6 then m.irq core vec else m.refuse pgStrand 0x048 1

/-! ## Traps (R383, R384) -/

/-- What a trap reports: its cause, sub-cause, the syllable's slot and unit (7 none), and the data address of a data fault. -/
structure TrapInfo where
  cause : Nat
  sub : Nat
  slot : Nat
  unit : Nat
  addr : Option Nat
  deriving DecidableEq, Repr

/-- trap_info of a trap (R383). -/
def TrapInfo.word (t : TrapInfo) : Word :=
  BitVec.ofNat 32 (t.slot % 16 * 65536 + t.unit % 16 * 4096 + t.sub % 256 * 16 + t.cause % 16)

/-- A trap (R383): earlier results land, trap_info and FADDR are written, a frame with address `ret` and status `st` is pushed, TRAP sets, IE
and REP_LIVE clear, and issue continues at VBAR + 0x20 × CAUSE. A trap while TRAP is 1 or with 32 frames in use halts the core (R384). -/
def Mach.coreTrap (c : Nat) (t : TrapInfo) (ret : Nat) (st : Word) (m : Mach) : Mach :=
  let k := (m.core c).landAll
  let k := { k with trapInfo := t.word, jumps := [], rep := none, stall := none }
  let m := m.setFld pgStrand (Strandctl.C_TRAP_INFO c) t.word.toNat
  let m := match t.addr with
    | some a => m.setFld pgStrand (Strandctl.C_FADDR c) a
    | none => m
  let m := m.incSat pgStrand (Strandctl.C_TRAPS c)
  if k.stBit stTRAP || decide (32 ≤ k.frames.length) then
    ((m.setCore c k).setCoreSt c 5).raise pgStrand c
  else
    m.setCore c { k with
      frames := ⟨ret, st, 2⟩ :: k.frames
      status := setBit (setBit (setBit k.status stTRAP true) stIE false) stREP false
      pc := m.fld pgStrand (Strandctl.C_VBAR c) + 0x20 * t.cause }

/-! ## Core commands (R388, R546) -/

/-- The registers at core reset (R367): dsp at DSTK_HI of the image. The entry point is kept. -/
def Mach.coreFresh (m : Mach) (c : Nat) : Core :=
  { coreReset with dsp := BitVec.ofNat 32 (m.fld pgStrand (Strandctl.C_DSTK_HI c)), entry := (m.core c).entry }

/-- An application core. -/
def appCore (c : Nat) : Bool := decide (2 ≤ c) && decide (c ≤ 5)

/-- A core starts at ENTRY: its Slack window runs (R316). -/
def Mach.coreBegin (c : Nat) (m : Mach) : Mach :=
  let k := m.core c
  let m := m.setCore c { k.landAll with pc := k.entry, jumps := [], rep := none, stall := none, defer := 0, auto := false }
  (m.slackStart c).setCoreSt c 2

/-- START (R388): refused with REASON 3 unless STOPPED, and on S0 and S1. -/
def Mach.coreStart (c : Nat) (m : Mach) : Mach :=
  if appCore c && m.coreSt c == 0 then m.coreBegin c else m.refuse pgStrand (Strandctl.C_OP c).off 3

/-- STOP (R388): a running, waiting or dozing core stops issue; its results land. -/
def Mach.coreStop (c : Nat) (m : Mach) : Mach :=
  if !appCore c then m.refuse pgStrand (Strandctl.C_OP c).off 3
  else if m.coreLive c || m.coreSt c == 4 then
    let k := m.core c
    (m.setCore c { k.landAll with jumps := [], rep := none, stall := none, dozeReq := false }).setCoreSt c 0
  else m

/-- LOAD (R387, R388): the firmware begins; refused with REASON 3 while LOADING. -/
def Mach.coreLoad (c : Nat) (m : Mach) : Mach :=
  if !appCore c || m.coreSt c == 1 then m.refuse pgStrand (Strandctl.C_OP c).off 3
  else
    let k := m.core c
    (m.setCore c { k with stall := none, dozeReq := false }).setCoreSt c 1

/-- The core stops with its registers reset once its write buffer has drained (R546); one in LOAD_FAILED stays so. -/
def Mach.coreClose (c : Nat) (m : Mach) : Mach :=
  let m := m.setCore c (m.coreFresh c)
  let m := m.setFld pgStrand (Strandctl.C_IRQ_PEND c) 0
  let m := m.setRegBit pgPolicy 0x060 (c + 2) false
  let m := m.setSilent c false
  if m.coreSt c == 6 then m else m.setCoreSt c 0

/-- RESET (R546): refused with REASON 3 while LOADING. -/
def Mach.coreResetOp (c : Nat) (m : Mach) : Mach :=
  if !appCore c || m.coreSt c == 1 then m.refuse pgStrand (Strandctl.C_OP c).off 3
  else if (m.core c).wbuf.isEmpty then m.coreClose c
  else m.modCore c fun k => { k with closing := true, stall := none }

/-- A write of a core's OP (R388): reserved codes are refused with REASON 1. -/
def Mach.coreOp (c op : Nat) (m : Mach) : Mach :=
  match op with
  | 0 => m
  | 1 => m.coreStart c
  | 2 => m.coreStop c
  | 3 => m.coreLoad c
  | 4 => m.coreResetOp c
  | _ => m.refuse pgStrand (Strandctl.C_OP c).off 1

/-- An image load has failed (R387): LOAD_ERR, LOAD_FAILED, LOADFAIL. The caller zeroes the memories. -/
def Mach.loadFailed (c err : Nat) (m : Mach) : Mach :=
  (((m.setFld pgStrand (Strandctl.C_LOAD_ERR c) err).modCore c fun k => { k with auto := false }).setCoreSt c 6).raise pgStrand (c + 6)

/-! ## Doze (R473) -/

/-- A core that was asked to doze does so at a quiet boundary. -/
def Mach.dozeSettle (c : Nat) (m : Mach) : Mach :=
  let k := m.core c
  if k.dozeReq && k.quiet && k.rep.isNone && m.coreLive c then
    (m.setCore c { k with dozeReq := false }).setCoreSt c 4
  else m

/-- DOZE_REQ (R473): application cores of the mask, bit 0 S2; a core that does not run is not placed in Doze. -/
def Mach.dozeRequest (mask : Nat) (m : Mach) : Mach :=
  (List.range 4).foldl (fun m i =>
    if Nat.testBit mask i && m.coreLive (i + 2) then
      (m.modCore (i + 2) fun k => { k with dozeReq := true }).dozeSettle (i + 2)
    else m) m

/-- DOZE_EXIT (R473): a vector set in IRQ_EN is pending; the core goes on with the group after the boundary. -/
def Mach.dozeExit (c : Nat) (m : Mach) : Mach :=
  if m.coreSt c == 4 && m.irqDue c != 0 then m.setCoreSt c 2 else m

end Sys2Proof.Machine
end

