-- ==== Sys2Proof/Machine/Watch.lean ====
section
/-! DEFINITION. The Watch programme and its average current (19_power_states_and_network_sleep.md R480, R481; 21_tether_access.md R522). -/

namespace Sys2Proof.Machine

/-- The charge of a burst over the nominal period, in 0.1 µA (R481, R522), at 24 V. -/
def Mach.burstCurrent (m : Mach) : Nat :=
  let ants := (List.range 6).countP fun i => Nat.testBit (m.fld pgTether Tether.PARK_ANT) i
  if (m.unit pgTether).enabled && ants ≠ 0 then 40 * (13 * (4 + ants * 8 * m.fld pgTether Tether.DRIVE / 50) + 72) else 0

/-! ## The Watch programme (R480, R481) -/

/-- A step word's OP, A and B. -/
def stepOp (w : Word) : Nat := w.toNat / 2 ^ 28
def stepA (w : Word) : Nat := w.toNat / 65536 % 4096
def stepB (w : Word) : Nat := w.toNat % 65536

/-- The inputs a SCAN_IN step acts on: from A, B of them, WAKE ≠ 0 and STATIC = 0. -/
def Mach.scanIns (m : Mach) (w : Word) : List Nat :=
  ((List.range (stepB w)).map fun i => stepA w - 0x100 + i).filter fun i =>
    decide (i < 96) && m.fld (pgIn i) Inp.WAKE != 0 && !m.flag (pgIn i) Inp.STATIC && (m.unit (pgIn i)).enabled

/-- The channels a SCAN_TOUCH step acts on. -/
def Mach.scanTouches (m : Mach) (w : Word) : List Nat :=
  (List.range 16).filter fun t => Nat.testBit (stepB w) t && m.fld (pgTouch t) Touch.WAKE != 0 && (m.unit (pgTouch t)).enabled

/-- A step's own time, µs. -/
def Mach.stepTime (m : Mach) (w : Word) : Nat :=
  match stepOp w with
  | 1 => stepB w * 1000
  | 2 => stepB w
  | 4 => if stepB w = 0 then 0 else 100
  | 5 => 250 * (m.scanTouches w).length
  | _ => 0

/-- The steps of the programme. -/
def Mach.watchSteps (m : Mach) : List Word :=
  (List.range (min 64 (m.fld pgWatch Watchseq.LEN))).map fun i => m.reg pgWatch (Watchseq.STEP i).off

/-- The nominal pass T_scan, µs. -/
def Mach.watchPeriod (m : Mach) : Nat := m.watchSteps.foldl (fun a w => a + 20 + m.stepTime w) 0

/-- PERIOD follows the programme. -/
def Mach.periodShow (m : Mach) : Mach := m.setReg pgWatch Watchseq.PERIOD.off (BitVec.ofNat 32 m.watchPeriod)

/-- The supply channels on after the steps of a list. -/
def suppliesAfter : List Word → List Nat → List Nat
  | [], l => l
  | w :: r, l =>
    suppliesAfter r (if stepOp w = 2 then (if l.contains (stepA w) then l else stepA w :: l)
      else if stepOp w = 3 then l.filter (fun a => a != stepA w) else l)

/-- I_watch in 0.1 µA (R481), rounded to the nearest: 60 µA, the input windows, the touch scans and the bursts. -/
def Mach.watchCurrent (m : Mach) : Nat :=
  let t := m.watchPeriod
  let charge := m.watchSteps.foldl (fun a w =>
    if stepOp w = 4 then a + (m.scanIns w).foldl (fun b i => b + m.fld (pgIn i) Inp.I_MEAS * 100 * 100) 0
    else if stepOp w = 5 then a + (m.scanTouches w).length * 12000 * 250
    else a) 0
  let burst := if m.watchSteps.any (fun w => stepOp w == 6) then m.burstCurrent else 0
  600 + burst + (if t = 0 then 0 else (charge + t / 2) / t)

/-- Whether WATCHSEQ refuses a PREPARE (R480): with a programme, a pass below 1 ms, a supply left on, or a supply channel whose bank rail
is below LOSS_V. -/
def Mach.watchRefuses (m : Mach) : Bool :=
  m.fld pgPwr Pwr.TARGET = 1 && !m.watchSteps.isEmpty &&
    (decide (m.watchPeriod < 1000) || !(suppliesAfter m.watchSteps []).isEmpty ||
      m.watchSteps.any fun w => stepOp w == 2 &&
        decide (m.rail (bankOf (stepA w)) < m.fld (pgBank (bankOf (stepA w))) Bank.LOSS_V))

end Sys2Proof.Machine
end

