-- ==== Sys2Proof/Machine/Wakeup.lean ====
section
/-! DEFINITION. Wake events, the rollback of a sleep entry, the Reeve ring and the clocks (19_power_states_and_network_sleep.md R471, R474,
R475, R477 to R479, R482, R483). -/

namespace Sys2Proof.Machine

/-! ## The Reeve ring (R482, R483) -/

/-- MEMBERS, SEEN: 48 node bits. -/
def Mach.nmMembers (m : Mach) : Nat := m.fld pgPwr Pwr.MEMBERS_LO + m.fld pgPwr Pwr.MEMBERS_HI * 2 ^ 32
def Mach.nmSeen (m : Mach) : Nat := m.fld pgPwr Pwr.SEEN_LO + m.fld pgPwr Pwr.SEEN_HI * 2 ^ 32
def Mach.setSeen (v : Nat) (m : Mach) : Mach := (m.setFld pgPwr Pwr.SEEN_LO v).setFld pgPwr Pwr.SEEN_HI (v / 2 ^ 32)

/-- NMSTATE: 0 OFF, 1 LISTEN, 2 RING, 3 GRACE. -/
def Mach.nmState (m : Mach) : Nat := m.fld pgPwr Pwr.NMSTATE
def Mach.setNm (v : Nat) (m : Mach) : Mach := m.setFld pgPwr Pwr.NMSTATE v

/-- The ring controller. -/
def Mach.nmCtrl (m : Mach) : Nat := m.fld pgPwr Pwr.CTRL
def Mach.nmNode (m : Mach) : Nat := m.fld pgPwr Pwr.NODE
def Mach.consent (m : Mach) : Bool := m.flag pgPwr Pwr.CONSENT

/-- Node bits with bit `i` as given. -/
def nmBit (v i : Nat) (b : Bool) : Nat := if Nat.testBit v i == b then v else if b then v + 2 ^ i else v - 2 ^ i

/-- The next member above a node, wrapping to the lowest member; the node itself where there is none (R482). -/
def nmNext (members node : Nat) : Nat :=
  let l := (List.range 48).filter fun i => Nat.testBit members i
  ((l.find? fun i => decide (node < i)).or l.head?).getD node

/-- A node alone in the ring. -/
def nmAlone (members node : Nat) : Bool := (List.range 48).all fun i => i == node || !Nat.testBit members i

/-- Every member bit is set. -/
def nmAll (members seen : Nat) : Bool := (List.range 48).all fun i => !Nat.testBit members i || Nat.testBit seen i

/-- The eight bytes of an NM message (R482). -/
def nmBytes (q : NmMsg) : List Byte :=
  [BitVec.ofNat 8 q.dest, BitVec.ofNat 8 ((if q.wake then 128 else 0) + (if q.confirm then 64 else 0) + q.rounds % 4)] ++ leBytes 6 q.consent

/-- An NM message goes out through object 127 (R482); ROUNDS, SUCC and what the node waits for follow. -/
def Mach.nmSend (q : NmMsg) (m : Mach) : Mach :=
  let c := m.nmCtrl
  let x := m.canObj c 127
  let m := m.setCanObj c 127 { x with data := nmBytes q ++ List.replicate 56 0 }
  let m := m.canRequest c 127
  let m := (m.setFld pgPwr Pwr.ROUNDS q.rounds).setFld pgPwr Pwr.SUCC (if q.wake then m.fld pgPwr Pwr.SUCC else q.dest)
  { m with pwr := { m.pwr with last := q, await := !q.wake, fwd := none } }

/-- The consent bits a node sends: those last seen, its own from CONSENT. -/
def Mach.nmBits (m : Mach) : Nat := nmBit m.nmSeen m.nmNode m.consent

/-- A wake frame (R483): the own bit at 0, the others as last seen. -/
def Mach.nmWakeFrame (m : Mach) : Mach := m.nmSend ⟨m.nmNode, 0xFF, true, false, 0, nmBit m.nmSeen m.nmNode false⟩

/-- NM_EN has been written with the ring's settings (R482, R483): the ring's two objects are set up and the node listens, or the ring is off. -/
def Mach.nmStart (m : Mach) : Mach :=
  if m.flag pgPwr Pwr.NM_EN then
    let c := m.nmCtrl
    let base := m.fld pgPwr Pwr.NM_BASE
    let m := m.setCanObj c 126 { canObjReset with ctl := 0x8001C008#32, id := BitVec.ofNat 32 base, mask := 0x7C0#32 }
    let m := m.setCanObj c 127 { canObjReset with ctl := 0xC001C008#32, id := BitVec.ofNat 32 (base + m.nmNode), mask := 0x7FF#32 }
    let m := { m with pwr := { m.pwr with fwd := none, await := false } }
    m.setNm 1
  else { m with pwr := { m.pwr with fwd := none, await := false } }.setNm 0

/-- A grace is cancelled by a local wake request (R483): NETWORK_RACE sets, RACES counts, WAKE_SRC records code 9, and a wake frame goes out. -/
def Mach.nmRace (m : Mach) : Mach :=
  let m := ((m.incSat pgPwr Pwr.RACES).raise pgPwr 3).setNm 2
  (m.setReg pgPwr 0x054 (BitVec.ofNat 32 (9 * 65536 + pgCan m.nmCtrl))).nmWakeFrame

/-- NETWORK_RACE (R483): a local wake request in GRACE. -/
def Mach.localWake (m : Mach) : Mach := if m.nmState = 3 && m.fld pgPwr Pwr.PSTATE ≤ 1 then m.nmRace else m

/-- CONSENT_WRITE (R483): a write of 0 is a local wake request. -/
def Mach.consentWrite (b : Bool) (m : Mach) : Mach :=
  let m := m.setFlag pgPwr Pwr.CONSENT b
  if b then m else m.localWake

/-- NM_MESSAGE (R483): a message received on the ring controller. -/
def Mach.nmMessage (q : NmMsg) (m : Mach) : Mach :=
  let st := m.nmState
  if st = 0 then m
  else
    let m := m.setSeen q.consent
    let m := if q.src = m.fld pgPwr Pwr.SUCC then { m with pwr := { m.pwr with await := false } } else m
    let mem := m.nmMembers
    if q.wake then
      if st = 1 then m
      else
        let m := if st = 3 then
            (m.incSat pgPwr Pwr.RACES).setReg pgPwr 0x054 (BitVec.ofNat 32 (9 * 65536 + pgCan m.nmCtrl)) else m
        let m := { m with pwr := { m.pwr with fwd := m.pwr.fwd.map fun (f : NmMsg) => { f with rounds := 0, confirm := false } } }
        (m.setNm 2).setFld pgPwr Pwr.ROUNDS 0
    else if q.dest ≠ m.nmNode || st = 3 then m
    else
      let next := nmNext mem m.nmNode
      if q.confirm then
        if st = 1 then m
        else if m.consent && nmAll mem q.consent then
          (m.nmSend ⟨m.nmNode, next, false, true, q.rounds, m.nmBits⟩).setNm 3
        else { m with pwr := { m.pwr with fwd := some ⟨m.nmNode, next, false, false, 0, 0⟩ } }
      else
        let anchor := decide (m.nmNode < q.src) || nmAlone mem m.nmNode
        let r := if !m.consent then 0
          else if !anchor then q.rounds
          else if nmAll mem q.consent then min (q.rounds + 1) 2 else 0
        let m := (m.setFlag pgPwr Pwr.ANCHOR anchor).setNm 2
        { m with pwr := { m.pwr with fwd := some ⟨m.nmNode, next, false, anchor && r == 2, r, 0⟩ } }

/-- NM_FORWARD (R483): T_HOP after the message the node sends it on; an anchor that sends CONFIRM enters GRACE. -/
def Mach.nmForward (ms : Nat) (m : Mach) : Mach :=
  match m.pwr.fwd with
  | some q =>
    if m.nmState = 2 && decide (m.fld pgPwr Pwr.T_HOP ≤ ms) then
      let q := { q with rounds := if m.consent then q.rounds else 0, confirm := q.confirm && m.consent, consent := m.nmBits }
      let m := m.nmSend q
      if q.confirm then m.setNm 3 else m
    else m
  | none => m

/-- RING_SKIP (R483): the successor has not sent within SKIP_T of forwarding. -/
def Mach.ringSkip (ms : Nat) (m : Mach) : Mach :=
  if m.nmState = 2 && m.pwr.await && decide (m.fld pgPwr Pwr.SKIP_T ≤ ms) then
    let succ := m.fld pgPwr Pwr.SUCC
    let m := ((m.setSeen (nmBit m.nmSeen succ true)).incSat pgPwr Pwr.SKIPS).raise pgPwr 2
    m.nmSend { m.pwr.last with dest := nmNext m.nmMembers succ, consent := m.nmBits }
  else m

/-- RING_LISTEN_TIMEOUT (R483): the ring is silent for LOST_T + NODE × T_HOP; the node starts it. -/
def Mach.ringListen (ms : Nat) (m : Mach) : Mach :=
  if m.nmState = 1 && decide (m.fld pgPwr Pwr.LOST_T + m.nmNode * m.fld pgPwr Pwr.T_HOP ≤ ms) then
    (m.setNm 2).nmSend ⟨m.nmNode, nmNext m.nmMembers m.nmNode, false, false, 0, m.nmBits⟩
  else m

/-- RING_LOST (R483): no message for LOST_T. -/
def Mach.ringLost (ms : Nat) (m : Mach) : Mach :=
  if m.nmState = 2 && decide (m.fld pgPwr Pwr.LOST_T ≤ ms) then
    { m with pwr := { m.pwr with fwd := none, await := false } }.setNm 1
  else m

/-! ## Entry and rollback (R471, R474, R476) -/

/-- PSTATE: 0 RUN, 1 DOZE, 2 PREPARE, 3 COMMIT, 4 WAKING. -/
def Mach.pstate (m : Mach) : Nat := m.fld pgPwr Pwr.PSTATE

/-- PREPARE is sent to every unit (R471); the wake latch starts empty, and I_EST takes the estimate (R481). -/
def Mach.prepare (m : Mach) : Mach :=
  let m := (m.setFld pgPwr Pwr.PSTATE 2).setFld pgPwr Pwr.WAKE_SEEN 0
  let m := m.setFld pgWatch Watchseq.I_EST (min m.watchCurrent 65535)
  { m with pwr := { m.pwr with latch := none, atCommit := false } }

/-- SLEEP (R476): refused with REASON 3 while PSTATE is not RUN or DOZE, and while NM_EN is 1. -/
def Mach.sleepOp (src : Src) (m : Mach) : Mach :=
  let from_ := match src with
    | .core _ => true
    | .fid => true
    | _ => false
  if !from_ || decide (1 < m.pstate) || m.flag pgPwr Pwr.NM_EN then m.refuse pgPwr 0x044 3 else m.prepare

/-- GRACE_END (R483): T_GRACE has passed; the sleep entry begins. -/
def Mach.graceEnd (ms : Nat) (m : Mach) : Mach :=
  if m.nmState = 3 && m.pstate ≤ 1 && decide (m.fld pgPwr Pwr.T_GRACE ≤ ms) then m.prepare else m

/-- Marks that fell due during PREPARE fire or are missed under R108. -/
def Mach.heldMarks (m : Mach) : Mach :=
  m.marks.foldl (fun m q =>
    if q.2.armed && q.2.due.isSome then
      let p := m.pos q.2.base
      if decide ((posDiff p q.2.pos).natAbs ≤ m.fld (pgCap q.2.base) Cap.LIMIT) && !q.2.drop then
        m.setMark q.1 { q.2 with due := some 2 }
      else m.missMark q.1 p
    else m) m

/-- The entry rolls back (R474): SLEEP_NAK names the unit; every unit resumes; after a ring's grace a wake frame goes out. -/
def Mach.rollback (timeout wake : Bool) (unit : Nat) (m : Mach) : Mach :=
  let w := BitVec.ofNat 32 (2 ^ 31 + (if timeout then 2 ^ 30 else 0) + (if wake then 2 ^ 29 else 0) + unit % 65536)
  let m := ((m.setReg pgPwr 0x050 w).setFld pgPwr Pwr.PSTATE 0).incSat pgPwr Pwr.ROLLBACKS
  let m := (m.tlogWrite 4 pgPwr 3 w (BitVec.ofNat 32 m.log.pcyc)).raise pgPwr 0
  let m := m.heldMarks.coresShow
  if m.nmState = 3 then (m.setNm 2).nmWakeFrame else m

/-! ## Wake events (R475, R477) -/

/-- WAKE_SRC takes a source. -/
def Mach.wakeSrc (entry : Bool) (code unit : Nat) (m : Mach) : Mach :=
  m.setReg pgPwr 0x054 (BitVec.ofNat 32 ((if entry then 2 ^ 31 else 0) + code * 65536 + unit % 65536))

/-- WAKE_SEEN takes a code. -/
def Mach.wakeSeen (code : Nat) (m : Mach) : Mach := m.setFld pgPwr Pwr.WAKE_SEEN (m.fld pgPwr Pwr.WAKE_SEEN ||| 2 ^ code)

/-- A wake source decides (R475, R477). Asleep, it is the wake decision: of several in one Reckoner tick WAKE_SRC holds the lowest code. In
PREPARE it rolls the entry back, in COMMIT it is latched, and in Run it is a local wake request of the ring (R483). -/
def Mach.wakeEvent (code unit : Nat) (m : Mach) : Mach :=
  if m.pwr.asleep = 3 then m
  else if m.pwr.asleep ≠ 0 || m.pstate = 3 then
    let m := m.wakeSeen code
    let entry := m.pwr.asleep = 0
    let m := if entry then m else m.setFld pgPwr Pwr.PSTATE 4
    match m.pwr.latch with
    | none => { m with pwr := { m.pwr with latch := some (code, unit, m.rk), atCommit := entry } }.wakeSrc entry code unit
    | some (c, _, t) =>
      if decide (code < c) && t = m.rk && entry == m.pwr.atCommit then
        { m with pwr := { m.pwr with latch := some (code, unit, t) } }.wakeSrc entry code unit
      else m
  else if m.pstate = 2 then ((m.wakeSeen code).rollback false true unit).localWake
  else m.localWake

/-- WAKE_N (R32): a falling edge followed by 1 ms at 2 V or less. -/
def Mach.wakeN (mv us : Nat) (m : Mach) : Mach := if mv ≤ 2000 && 1000 ≤ us then m.wakeEvent 1 pgPwr else m

/-- Whether a sleeping transceiver decodes frames for selective wake (R422). -/
def Mach.canSelective (m : Mach) (c : Nat) : Bool := decide (c < 2) && m.flag (pgCan c) Can.PN_EN

/-- CAN_WUP (R422): a wake-up pattern on a sleeping bus. -/
def Mach.canWup (c : Nat) (m : Mach) : Mach :=
  if (m.can c).asleep && !m.canSelective c && m.flag (pgCan c) Can.WAKE_EN then m.wakeEvent 4 (pgCan c) else m

/-- Whether a classical frame matches the selective-wake filter of a page (R422). -/
def Mach.canPnMatch (m : Mach) (n : Nat) (f : CanFrame) : Bool :=
  let pn := leBytes 4 (m.fld n (Can.PN_DATA 0)) ++ leBytes 4 (m.fld n (Can.PN_DATA 1))
  ((f.id ^^^ m.fld n Can.PN_ID) &&& m.fld n Can.PN_MASK == 0 && f.ide == m.flag n Can.PN_IDE && f.dlc == m.fld n Can.PN_DLC)
    && (m.flag n Can.PN_DLCONLY || (f.data.zipWith (fun a b => a &&& b) pn).any (fun b => b != 0))

/-- CAN_PN (R422): a valid frame on a bus under selective wake lowers FEC; a classical frame that matches wakes the module. -/
def Mach.canPn (c : Nat) (f : CanFrame) (m : Mach) : Mach :=
  let n := pgCan c
  if !(m.can c).asleep || !m.canSelective c || f.fdf then m
  else
    let m := m.setFld n Can.FEC (m.fld n Can.FEC - 1)
    if m.canPnMatch n f then m.wakeEvent 5 n else m

/-- CAN_FEC (R422): a frame error under selective wake; the 32nd wakes the module. -/
def Mach.canFec (c : Nat) (m : Mach) : Mach :=
  let n := pgCan c
  if !(m.can c).asleep || !m.canSelective c then m
  else
    let m := m.setFld n Can.FEC (min 32 (m.fld n Can.FEC + 1))
    if m.fld n Can.FEC = 32 then m.wakeEvent 11 n else m

/-- A static comparator (R290) reads `v` × 10 mV for `us`: the selected change against the logical state is a wake request. -/
def Mach.staticComparator (i v us : Nat) (m : Mach) : Mach :=
  let n := pgIn i
  let hi := if m.fld n Inp.CLASS = 0 then 1200 else 5500
  let lo := if m.fld n Inp.CLASS = 0 then 1080 else 4950
  let code := m.fld n Inp.WAKE
  if 16 ≤ i || !m.flag n Inp.STATIC || m.flag n Inp.NETWORK || us < 1000 || !(m.unit n).enabled then m
  else
    let act := m.flag n Inp.ACTIVE
    let up := decide (hi ≤ v) != m.flag n Inp.INVERT
    let decided := decide (hi ≤ v) || decide (v < lo)
    if decided && up != act && ((up && Nat.testBit code 0) || (!up && Nat.testBit code 1)) then m.wakeEvent 2 n else m

/-- FALSE_WAKE (R478): no valid frame within FW_T of READY. -/
def Mach.falseWake (ms : Nat) (m : Mach) : Mach :=
  if m.pwr.suspect.isSome && decide (m.fld pgPwr Pwr.FW_T ≤ ms) then
    (({ m with pwr := { m.pwr with suspect := none } }).incSat pgPwr Pwr.FALSE_WAKES).raise pgPwr 1
  else m

/-- LIN_WAKE_PULSE (R426): a dominant pulse of `us` on a channel's bus; from 150 µs it wakes the bus, and the module where WAKE_EN is 1. -/
def Mach.linWakePulse (c us : Nat) (m : Mach) : Mach :=
  if us < 150 then m
  else
    let m := if m.mainOff then m else m.linAwake c
    if m.flag (pgLin c) Lin.WAKE_EN then m.wakeEvent 6 (pgLin c) else m

/-- A valid frame on a page makes the wake it caused a true one (R478). -/
def Mach.frameSeen (n : Nat) (m : Mach) : Mach :=
  if m.pwr.suspect = some n then { m with pwr := { m.pwr with suspect := none } } else m

/-! ## Clocks (R479, R485) -/

/-- The cores and the page clock run on the PLL or on the HF-RC; without it the CAN controllers are IDLE (R411). -/
def Mach.onPll (b : Bool) (m : Mach) : Mach :=
  let m := (m.setFlag pgClk Clk.CORE_SRC b).setFlag pgClk Clk.ON_PLL b
  if b then m else (List.range 6).foldl (fun m c => m.canUnsync c) m

/-- PLL_EN_WRITE (R479): clearing it clears CORE_SRC at the same edge. -/
def Mach.pllEn (b : Bool) (m : Mach) : Mach :=
  let m := m.setFlag pgClk Clk.PLL_EN b
  if b then m else ((m.setFlag pgClk Clk.LOCKED false).onPll false).settleUnit pgClk

/-- CORE_SRC_WRITE (R479): 1 while LOCKED is 0 is refused with REASON 3. -/
def Mach.coreSrc (b : Bool) (m : Mach) : Mach :=
  if b && !m.flag pgClk Clk.LOCKED then m.refuse pgClk 0x040 3 else m.onPll b

/-- PLL_LOCK (R477): `us` after PLL_EN. -/
def Mach.pllLock (us : Nat) (m : Mach) : Mach :=
  if m.flag pgClk Clk.PLL_EN then ((m.setFlag pgClk Clk.LOCKED true).setFld pgClk Clk.LOCK_T (min us 65535)).settleUnit pgClk else m

/-- PLL_UNLOCK (R479). -/
def Mach.pllUnlock (m : Mach) : Mach :=
  if m.flag pgClk Clk.LOCKED then
    ((((m.setFlag pgClk Clk.LOCKED false).onPll false).incSat pgClk Clk.UNLOCKS).raise pgClk 0).settleUnit pgClk
  else m

/-- HF_RC_TRIM (R479): with the crystal and TRIM_EN the trim is applied, `err` × 0.01 % left; without the crystal it runs
untrimmed and TRIM_FAIL sets. -/
def Mach.hfTrim (trim err : Int) (m : Mach) : Mach :=
  if !m.flag pgReckon Reckon.XTAL_OK then ((m.setFlag pgClk Clk.TRIMMED false).setFld pgClk Clk.HF_TRIM 0).raise pgClk 1
  else if m.flag pgClk Clk.TRIM_EN then (m.setSFld pgClk Clk.HF_TRIM (max (-32768) (min trim 32767))).setFlag pgClk Clk.TRIMMED (decide (err.natAbs ≤ 10))
  else m

end Sys2Proof.Machine
end

