-- ==== Sys2Proof/Machine/Tether.lean ====
section
/-! DEFINITION. Tether (21_tether_access.md R510 to R526): rounds and their answers, requests and lock-out, the release and its messages,
and parked polling. -/

namespace Sys2Proof.Machine

def Mach.token (m : Mach) (k : Nat) : Token := tget m.tether.tokens tokenNone k
def Mach.setToken (k : Nat) (t : Token) (m : Mach) : Mach :=
  { m with tether := { m.tether with tokens := tput m.tether.tokens tokenNone k t } }

/-- A TETHER entry of the Trouble log (R526). -/
def Mach.tetherLog (event : Nat) (id : Word) (m : Mach) : Mach := m.logNow 8 pgTether event id (m.reg pgTether (Tether.RCTR 0).off)

def Mach.released (m : Mach) : Bool := m.flag pgTether Tether.RELEASED
def Mach.rctr (m : Mach) : Nat := m.fld pgTether (Tether.RCTR 0) + m.fld pgTether (Tether.RCTR 1) * 2 ^ 32
def Mach.setRctr (v : Nat) (m : Mach) : Mach := (m.setFld pgTether (Tether.RCTR 0) v).setFld pgTether (Tether.RCTR 1) (v / 2 ^ 32)

/-- A Locker service has failed (R516, R525). -/
def Mach.engineErr (m : Mach) : Mach := m.raise pgTether 5

/-! ## Release messages (R519, R520) -/

/-- The next value of the rolling counter; it goes to MRAM at each multiple of 256. -/
def Mach.nextRctr (m : Mach) : Mach :=
  let v := m.rctr + 1
  let m := m.setRctr v
  if v % 256 = 0 then { m with tether := { m.tether with rctrStored := v } } else m

/-- The 32 bytes of a release message for an object (R519). -/
def Mach.releaseBytes (m : Mach) (key : List Nat) (cmd c o : Nat) : List Nat :=
  let dev := beBytes 2 (m.fld pgDev Dev.DEVNUM)
  let ctr := beBytes 8 m.rctr
  let x := m.canObj c o
  let aad := beBytes 4 (x.id.toNat + (if x.ide then 2 ^ 31 else 0))
  let iv := dev ++ [0, 0] ++ ctr
  let ct := gcmStream key iv ([cmd, m.fld pgTether Tether.REL_TOK] ++ dev ++ [0, 0, 0, 0])
  ctr ++ ct ++ gcmTag key iv aad ct

/-- An object takes a release message; `send` requests it. -/
def Mach.releaseObj (key : List Nat) (cmd c o : Nat) (send : Bool) (m : Mach) : Mach :=
  let bytes := (m.releaseBytes key cmd c o).map (BitVec.ofNat 8)
  let x := m.canObj c o
  let m := m.setCanObj c o { x with data := bytes ++ x.data.drop 32 }
  if send then m.canRequest c o else m

/-- A RELEASE (1) or WITHDRAW (2) message through REL1 and REL2 under the next RCTR; after a RELEASE, PRELOAD loads the objects of WD0 and
WD1 with a WITHDRAW under the one after it (R519, R520). -/
def Mach.sendRelease (cmd : Nat) (m : Mach) : Mach :=
  let n := pgTether
  match m.engineKey (m.fld n Tether.RELSLOT) 2 [2] with
  | none => m.engineErr
  | some key =>
    let m := m.nextRctr
    let m := (List.range 2).foldl (fun m i =>
      if m.flag n (Tether.EN i) then m.releaseObj key cmd (m.fld n (Tether.CTRL i)) (m.fld n (Tether.OBJ i)) true else m) m
    if cmd = 1 && m.flag n Tether.PRELOAD then
      let m := m.nextRctr
      (List.range 2).foldl (fun m i =>
        if m.flag pgLay (Lay.EN i) then m.releaseObj key 2 (m.fld pgLay (Lay.CTRL i)) (m.fld pgLay (Lay.OBJ i)) false else m) m
    else m

/-- The release ends (R518, R519): the unit is IDLE, entry 6 is written, and ten WITHDRAW messages go out. -/
def Mach.endRelease (m : Mach) : Mach :=
  let n := pgTether
  if m.released then
    let id := (m.token (m.fld n Tether.REL_TOK)).id
    let m := (m.setFlag n Tether.RELEASED false).tetherLog 6 id
    let m := { m with tether := { m.tether with withdraws := 9 } }.settleUnit n
    m.sendRelease 2
  else m

/-- RELEASE_MESSAGE (R519): 100 ms after the last. -/
def Mach.releaseMessage (ms : Nat) (m : Mach) : Mach :=
  if ms < 100 then m
  else if m.released then m.sendRelease 1
  else if 0 < m.tether.withdraws then
    { m with tether := { m.tether with withdraws := m.tether.withdraws - 1 } }.sendRelease 2
  else m

/-- WITHDRAW (R518). -/
def Mach.tetherWithdraw (m : Mach) : Mach := m.endRelease

/-- A release begins (R518): RELEASED and REL_TOK, entry 1, and the first RELEASE message. -/
def Mach.release (k : Nat) (m : Mach) : Mach :=
  let n := pgTether
  let m := (m.setFlag n Tether.RELEASED true).setFld n Tether.REL_TOK k
  let m := (m.setFlag n Tether.PARKED false).setFld n Tether.PERIOD 0
  let m := { m with tether := { m.tether with withdraws := 0, parkedAt := none } }
  ((m.settleUnit n).tetherLog 1 (m.token k).id).sendRelease 1

/-! ## Requests (R516, R517) -/

/-- Rounds run: enabled, in IDLE or ACTIVE, and no engine error stands (R523, R525). -/
def Mach.tetherRuns (m : Mach) : Bool := (m.st pgTether == 1 || m.st pgTether == 2) && !m.src pgTether 5

/-- A request ends with an outcome. -/
def Mach.requestEnd (out : Nat) (m : Mach) : Mach :=
  let m := (m.setFld pgTether Tether.LAST_OUT out).setFlag pgTether Tether.REQ false
  { (m.setFlag pgTether Tether.JAM (out == 4)) with tether := { m.tether with left := 0, collides := 0 } }

/-- REQUEST (R516, R517): ends at once with LOCKED_OUT in a lock-out; changes nothing while released or while a request runs. -/
def Mach.tetherRequest (m : Mach) : Mach :=
  let n := pgTether
  if !(m.st n == 1 || m.st n == 2) || m.released || m.flag n Tether.REQ then m
  else if m.flag n Tether.LOCKOUT then m.requestEnd 5
  else
    let m := m.setFlag n Tether.REQ true
    { m with tether := { m.tether with left := m.fld n Tether.ROUNDS, collides := 0 } }

/-! ## The round (R512 to R515) -/

/-- A round of a kind starts (R512): 1 of a request, 2 a presence round, 3 a parked burst. A mask of 0 drives nothing and has no answer. -/
def Mach.roundStart (kind : Nat) (m : Mach) : Mach :=
  let n := pgTether
  if m.tether.round ≠ 0 || !m.tetherRuns then m
  else if !m.drbgOk then
    let m := m.engineErr
    if kind = 1 then m.requestEnd 6 else m
  else
    let (chal, m) := m.randomBytes 8
    let m := m.incWrap n Tether.ROUNDS_N
    let m := { m with tether := { m.tether with round := kind, chal := chal, rnd := (m.tether.rnd + 1) % 256, slots := [] } }
    m.setFlag n Tether.ROUND true

/-- The antennas of the round that runs: those of the mask not shorted (R510, R512). -/
def Mach.roundMask (m : Mach) : Nat :=
  let mask := m.fld pgTether (if m.tether.round = 3 then Tether.PARK_ANT else Tether.ZONE)
  mask &&& (63 - m.fld pgTether Tether.ANT_SHORT)

/-- Whether an answer's TAG is right (R513). -/
def Mach.tagRight (m : Mach) (id cnt : Word) (stat : Nat) (tag : List Nat) : Bool :=
  match m.engineKey (m.fld pgTether Tether.TOKSLOT) 2 [2] with
  | none => false
  | some key =>
    let k := kdf key [0x54, 0x4F, 0x4B, 0x31] (beBytes 4 id.toNat) 128
    let msg := m.tether.chal ++ beBytes 2 (m.fld pgTether Tether.VCODE) ++ [m.tether.rnd] ++ beBytes 4 id.toNat ++ beBytes 4 cnt.toNat
      ++ [stat % 256]
    (cmac k msg).take 8 == tag

/-- The CRC-16 of an answer passes (R513): over ID, CNT, STAT and TAG. -/
def answerCrc (id cnt : Word) (stat : Nat) (tag : List Nat) (crc : Nat) : Bool :=
  decide (tag.length = 8) && crc16 0xFFFF (beBytes 4 id.toNat ++ beBytes 4 cnt.toNat ++ [stat % 256] ++ tag) == crc

/-- TOKEN_ANSWER (R513, R514): what slot `k` carries, at `dbm`; one with no CRC right is a collision above −100 dBm and empty below. A valid
answer moves LAST_CNT. -/
def Mach.tokenAnswer (k : Nat) (dbm : Int) (id cnt : Word) (stat : Nat) (tag : List Nat) (crc : Nat) (m : Mach) : Mach :=
  let crcOk := answerCrc id cnt stat tag crc
  if m.tether.round = 0 || m.roundMask = 0 || m.tether.slots.any (fun q => q.1 == k) || (!crcOk && decide (dbm ≤ -100)) then m
  else
    let e := m.token k
    let valid := crcOk && e.en && e.id == id && decide (e.last < cnt.toNat) && m.tagRight id cnt stat tag
    let m := if valid then m.setToken k { e with last := cnt.toNat } else m
    { m with tether := { m.tether with slots := m.tether.slots ++ [(k, if valid then 1 else if crcOk then 2 else 3, id)] } }

/-- A failed attempt is older than the window of 10 min (R517). -/
def failOld (rk t : Nat) : Bool := decide (600 * 32768 ≤ (rk + 2 ^ 48 - t) % 2 ^ 48)

/-- FAILED_ATTEMPT_EXPIRY (R517): the failed attempts older than 10 min leave the window. -/
def Mach.failExpiry (m : Mach) : Mach :=
  let l := m.tether.fails.filter fun t => !failOld m.rk t
  { m with tether := { m.tether with fails := l } }.setFld pgTether Tether.FAILS (min 5 l.length)

/-- One failed attempt (R515, R517): the fifth within the window starts a lock-out, which ends a request and suspends bursts. -/
def Mach.tetherFailed (id : Word) (m : Mach) : Mach :=
  let n := pgTether
  let m := ((m.failExpiry.incSat n Tether.FAILED_N).raise n 4).tetherLog 2 id
  let m := { m with tether := { m.tether with fails := m.rk :: m.tether.fails } }
  let m := m.setFld n Tether.FAILS (min 5 m.tether.fails.length)
  if 5 ≤ m.tether.fails.length && !m.flag n Tether.LOCKOUT then
    let m := (((m.setFlag n Tether.LOCKOUT true).incSat n Tether.LOCKOUTS).raise n 3).tetherLog 4 id
    let m := { m with tether := { m.tether with lockAt := m.rk } }.setFld n Tether.LOCK_LEFT (m.fld n Tether.LOCK_T * 60)
    if m.flag n Tether.REQ then m.requestEnd 5 else m
  else m

/-- What a request does with an outcome that is no success, FAILED (3) or NONE (2): one round fewer is left. -/
def Mach.requestRound (out : Nat) (m : Mach) : Mach :=
  if !m.flag pgTether Tether.REQ then m
  else
    let m := { m with tether := { m.tether with left := m.tether.left - 1, collides := 0 } }
    if m.tether.left = 0 then m.requestEnd out else m

/-- The round is over. -/
def Mach.roundOver (m : Mach) : Mach :=
  { m with tether := { m.tether with round := 0, slots := [] } }.setFlag pgTether Tether.ROUND false

/-- ROUND_OUTCOME (R515, R516, R518, R521). -/
def Mach.roundOutcome (m : Mach) : Mach :=
  let n := pgTether
  let kind := m.tether.round
  if kind = 0 then m
  else
    let slots := m.tether.slots
    let m := m.roundOver
    if (m.engineKey (m.fld n Tether.TOKSLOT) 2 [2]).isNone then
      let m := m.engineErr
      if kind = 1 then m.requestEnd 6 else m
    else
      let valid := (List.range 16).find? fun k => slots.any fun q => q.1 == k && q.2.1 == 1
      let invalid := slots.filter fun q => q.2.1 == 2
      match valid with
      | some k =>
        let m := invalid.foldl (fun m q => m.tetherLog 3 q.2.2) m
        let m := { m with tether := { m.tether with collides := 0 } }
        if kind = 1 then if m.flag n Tether.REQ then (m.requestEnd 1).release k else m
        else if kind = 2 then if m.released then m.setFld n Tether.REL_TOK k else m
        else ({ m with tether := { m.tether with burstTok := some k } }).wakeEvent 8 n
      | none =>
        match invalid with
        | q :: _ =>
          let m := m.tetherFailed q.2.2
          if kind = 1 then m.requestRound 3 else m
        | [] =>
          if slots.isEmpty then if kind = 1 then m.requestRound 2 else m
          else
            let m := { m with tether := { m.tether with collides := m.tether.collides + 1 } }
            if m.tether.collides < 3 then m.roundStart kind
            else
              let m := { m with tether := { m.tether with collides := 0 } }
              if kind = 1 && m.flag n Tether.REQ then (((m.requestEnd 4).incSat n Tether.JAMS).raise n 2).tetherLog 5 0 else m

/-- ROUND (R512, R516): the next round of a request. With a mask of 0 it completes at once (R512). -/
def Mach.tetherRound (m : Mach) : Mach :=
  if m.flag pgTether Tether.REQ then
    let m := m.roundStart 1
    if m.tether.round = 1 && m.roundMask = 0 then m.roundOutcome else m
  else m

/-- PRESENCE_ROUND (R518): PRES_T ms since the last, while released. -/
def Mach.presenceRound (ms : Nat) (m : Mach) : Mach :=
  if m.released && decide (m.fld pgTether Tether.PRES_T ≤ ms) then
    let m := m.roundStart 2
    if m.tether.round = 2 && m.roundMask = 0 then m.roundOutcome else m
  else m

/-- ABSENCE (R518): no presence round has succeeded for ABSENT_T s at standstill, or where the page's base is no AXLE. -/
def Mach.absence (s : Nat) (m : Mach) : Mach :=
  let b := (m.reg pgTether 0x028).toNat % 8
  if m.released && decide (m.fld pgTether Tether.ABSENT_T ≤ s) && (m.capType b != 2 || m.flag (pgCap b) Cap.STANDSTILL) then m.endRelease
  else m

/-- LOCKOUT_END (R517): LOCK_T minutes by the Reckoner have passed; the failure window is emptied. -/
def Mach.lockoutEnd (m : Mach) : Mach :=
  let n := pgTether
  if m.flag n Tether.LOCKOUT && decide (m.fld n Tether.LOCK_T * 60 * 32768 ≤ (m.rk + 2 ^ 48 - m.tether.lockAt) % 2 ^ 48) then
    let m := { m with tether := { m.tether with fails := [] } }
    ((m.setFlag n Tether.LOCKOUT false).setFld n Tether.LOCK_LEFT 0).setFld n Tether.FAILS 0
  else m

/-- LOCK_LEFT counts down with the Reckoner (R517). -/
def Mach.lockTick (m : Mach) : Mach :=
  if m.flag pgTether Tether.LOCKOUT then
    let past := (m.rk + 2 ^ 48 - m.tether.lockAt) % 2 ^ 48 / 32768
    m.setFld pgTether Tether.LOCK_LEFT (m.fld pgTether Tether.LOCK_T * 60 - past)
  else m

/-- The release ends when the unit is in SAFE, OFF or FAULTED (R518); a round then runs no further (R523). -/
def Mach.tetherFollow (m : Mach) : Mach :=
  if m.st pgTether == 1 || m.st pgTether == 2 || m.st pgTether == 5 then m
  else
    let m := if m.released then m.endRelease else m
    if m.tether.round ≠ 0 then m.roundOver else m

/-! ## Antennas (R510) -/

/-- ANT_SHORT (R510): an antenna in current limit for 1 ms stops. -/
def Mach.antShort (a ms : Nat) (m : Mach) : Mach :=
  if 1 ≤ ms && !m.absent pgTether then (m.setFld pgTether Tether.ANT_SHORT (m.fld pgTether Tether.ANT_SHORT ||| 2 ^ a)).raise pgTether 1 else m

/-- The peak drive current of an antenna, mA (R510): DRIVE × 10 mA, none of one that is shorted. -/
def Mach.antDrive (m : Mach) (a : Nat) : Nat :=
  if Nat.testBit (m.fld pgTether Tether.ANT_SHORT) a then 0 else m.fld pgTether Tether.DRIVE * 10

/-- ANT_OPEN (R510): the current of a driven antenna, mA, against 30 % of its setpoint. -/
def Mach.antOpen (a mA : Nat) (m : Mach) : Mach :=
  if m.absent pgTether then m
  else if mA * 100 < 30 * m.antDrive a then (m.setFld pgTether Tether.ANT_OPEN (m.fld pgTether Tether.ANT_OPEN ||| 2 ^ a)).raise pgTether 0
  else m.setFld pgTether Tether.ANT_OPEN (m.fld pgTether Tether.ANT_OPEN &&& (63 - 2 ^ a))

/-! ## Parking (R521) -/

/-- The burst period by standing time, in Reckoner ticks (R521): ms; 0 once polling stops. -/
def burstPeriod (ticks : Nat) : Nat :=
  if ticks < 3600 * 32768 then 250
  else if ticks < 24 * 3600 * 32768 then 1000
  else if ticks < 7 * 24 * 3600 * 32768 then 4000
  else 0

/-- PERIOD follows the standing time unless the unit is frozen, as adaptive quantity 9. -/
def Mach.burstShow (m : Mach) : Mach :=
  match m.tether.parkedAt with
  | none => m
  | some t =>
    let old := m.fld pgTether Tether.PERIOD
    let new := burstPeriod ((m.rk + 2 ^ 48 - t) % 2 ^ 48)
    if m.isFrozen pgTether || old = new then m else (m.setFld pgTether Tether.PERIOD new).adapt 9 pgTether 0 old new

/-- The module parks at a COMMIT into Watch (R521). -/
def Mach.park (m : Mach) : Mach :=
  let n := pgTether
  if m.st n == 1 && m.tether.parkedAt.isNone then
    ({ m with tether := { m.tether with parkedAt := some m.rk, burstAt := m.rk } }.setFlag n Tether.PARKED true).setFld n Tether.PERIOD 250
  else m

/-- A TETHER step of the Watch programme (R480, R521): a burst where one is due, none in a lock-out or once polling has stopped. -/
def Mach.burst (m : Mach) : Mach :=
  let n := pgTether
  let m := m.burstShow
  let period := m.fld n Tether.PERIOD
  if m.flag n Tether.PARKED && period ≠ 0 && !m.flag n Tether.LOCKOUT && decide (m.tether.burstAt ≤ m.rk) then
    let m := { m with tether := { m.tether with burstAt := m.rk + period * 32768 / 1000 } }
    let m := m.roundStart 3
    if m.tether.round = 3 && m.roundMask = 0 then m.roundOutcome else m
  else m

/-- The request after a parked wake (R516, R521): its first round is the burst's own outcome. -/
def Mach.burstRequest (m : Mach) : Mach :=
  match m.tether.burstTok with
  | none => m
  | some k =>
    let m := { m with tether := { m.tether with burstTok := none } }
    if m.flag pgTether Tether.AUTOREQ && !m.flag pgTether Tether.LOCKOUT && m.tetherRuns then (m.requestEnd 1).release k else m

/-! ## The token window, state, start (R514, R519, R523, R524) -/

/-- TOKEN_READ and TOKEN_WRITE (R524). -/
def Mach.tokenRead (m : Mach) : Mach :=
  let n := pgTether
  let t := m.token (m.fld n Tether.TOK_SEL)
  ((m.setReg n Tether.TOK_ID.off t.id).setFlag n Tether.EN_7C t.en).setFld n Tether.LAST_CNT t.last
def Mach.tokenWrite (m : Mach) : Mach :=
  let n := pgTether
  if m.flag n Hdr.LOCKED then m.refuse n 0x084 2
  else m.setToken (m.fld n Tether.TOK_SEL) ⟨m.reg n Tether.TOK_ID.off, m.flag n Tether.EN_7C, 0⟩

/-- Why ENABLE is refused (R523): REASON 6 for a key slot that is not TYPE 2 with ENGINE bit 2, REASON 3 for a REL object that is not a send
object with FDF 1 and DLC 13. -/
def Mach.tetherDenied (m : Mach) : Option Nat :=
  let n := pgTether
  let slotOk (i : Nat) : Bool := (m.slot i).typ == 2 && (m.slot i).engine 2
  if !slotOk (m.fld n Tether.TOKSLOT) || !slotOk (m.fld n Tether.RELSLOT) then some 6
  else if (List.range 2).any fun i => m.flag n (Tether.EN i) &&
      (let x := m.canObj (m.fld n (Tether.CTRL i)) (m.fld n (Tether.OBJ i)); !(x.en && x.sends && x.fdf && x.dlc == 13)) then some 3
  else none

/-- At a start RCTR resumes at the next multiple of 256 above the stored value (R519). -/
def Mach.rctrResume (m : Mach) : Mach := m.setRctr ((m.tether.rctrStored / 256 + 1) * 256)

end Sys2Proof.Machine
end

