-- ==== Sys2Proof/Machine/Sleep.lean ====
section
/-! DEFINITION. Sleep entry, Watch and Stasis, and the wake (19_power_states_and_network_sleep.md R470 to R481; 03_capstan_bases_and_marks.md
R120 to R122). -/

namespace Sys2Proof.Machine

/-! ## The Reckoner comparator (R121) -/

/-- The Reckoner count at which a TICK base reaches a Mark's position; now, for a position already reached. -/
def Mach.dueCount (m : Mach) (q : Mark) : Nat :=
  let k := q.base
  let period := (m.reg (pgCap k) Cap.PERIOD.off).toNat
  let d := posDiff q.pos (m.derived k)
  if d ≤ 0 || period = 0 then m.rk
  else
    let ticks : Int := ((m.tickUnits k + d) * period + 65535) / 65536
    ((m.rk : Int) + (ticks - countDiff 48 m.rk (m.origin k))).toNat

/-- The earliest armed WAKE Mark's count less the wake lead, with the CAP page that armed it. -/
def Mach.wakeCount (m : Mach) : Option (Nat × Nat) :=
  m.marks.foldl (fun (b : Option (Nat × Nat)) (q : Nat × Mark) =>
    if q.2.armed && q.2.wake && m.capType q.2.base = 0 && m.capRuns q.2.base then
      let t := m.dueCount q.2 - m.fld pgPwr Pwr.WAKE_LEAD
      match b with
      | none => some (t, pgCap q.2.base)
      | some (u, _) => if t < u then some (t, pgCap q.2.base) else b
    else b) none

/-- The comparator decides: a wake of code 7 (R121, R477). -/
def Mach.reckonWake (m : Mach) : Mach :=
  if m.pwr.asleep = 1 || m.pwr.asleep = 2 then
    match m.wakeCount with
    | some (t, n) => if t ≤ m.rk && !Nat.testBit (m.fld pgPwr Pwr.WAKE_SEEN) 7 then m.wakeEvent 7 n else m
    | none => m
  else m

/-! ## PREPARE (R474) -/

/-- Whether a unit refuses PREPARE: the rules R121, R171, R202, R228, R234, R259, R278, R291, R361, R422, R426, R474, R480, R523. -/
def Mach.refuses (m : Mach) (n : Nat) : Bool :=
  match clsOf n with
  | .cap => match m.wakeCount with
    | some (t, p) => p == n && decide (t < m.rk + 33)
    | none => false
  | .out => m.flag n Out.GATE || m.snap == some (n - 0x20)
  | .bridge => m.flag n Bridge.MOVING
  | .rat => m.st n == 2
  | .msg => (tget m.chains chainReset (n - 0xD8)).inFrame
  | .sink => m.flag n Sink.SINKING
  | .valve => m.vPhase (n - 0xA8) != 0
  | .inp => m.flag n Inp.COUNTING
  | .logline => !m.log.queue.isEmpty
  | .can => (m.can (n - 0x170)).onBus.isSome
  | .lin => m.linSends (n - 0x176) && Config.linOnBus (n - 0x176) m.rk
  | .tether => m.flag n Tether.ROUND || m.flag n Tether.RELEASED
  | .splice => let s := m.fld n Splice.PSTATE; s == 1 || s == 3 || s == 4
  | .strandctl => (List.range 6).any fun c => m.coreSt c == 1
  | .watchseq => m.watchRefuses
  | _ => false

/-- The refusing unit of the lowest index. -/
def Mach.refuser (m : Mach) : Option Nat := (List.range 0x180).find? fun n => !m.absent n && m.refuses n

/-- ROLLBACK (R474): in PREPARE a unit refuses. -/
def Mach.rollbackRefused (m : Mach) : Mach :=
  if m.pstate = 2 then
    match m.refuser with
    | some n => m.rollback false false n
    | none => m
  else m

/-- PREPARE_TIMEOUT (R474): 200 µs without every answer; `n` the lowest-index unit that did not answer. -/
def Mach.prepareTimeout (us n : Nat) (m : Mach) : Mach :=
  if m.pstate = 2 && 200 ≤ us then m.rollback true false n else m

/-! ## COMMIT (R471, R472, R475) -/

/-- The stores of R181, R202, R223, R271, R289, R346 and R519. -/
def Mach.storeAll (m : Mach) : Mach :=
  let m := (List.range 128).foldl (fun m c => m.ledgerStore c) m
  let m := (List.range 8).foldl (fun m b => m.brStore b) m
  let m := (List.range 24).foldl (fun m p => m.bypassStore p) m
  let m := (List.range 8).foldl (fun m v => m.coilStore v) m
  let m := (List.range 96).foldl (fun m i => m.ctStore i) m
  let r := m.fld pgTether (Tether.RCTR 0) + m.fld pgTether (Tether.RCTR 1) * 2 ^ 32
  { m.storeTop with tether := { m.tether with rctrStored := r } }

/-- COMMIT (R471, R475): every unit has agreed. The POWER entry, CAN and LIN stop in their wake modes, the stores, the boost charge,
FAULT_N, the wake comparators and the Watch sequencer; the PLL stops (R479). -/
def Mach.commit (m : Mach) : Mach :=
  if m.pstate = 2 && m.refuser.isNone then
    let watch := m.fld pgPwr Pwr.TARGET = 1
    let m := (m.setFld pgPwr Pwr.PSTATE 3).tlogWrite 4 pgPwr 1 0 (BitVec.ofNat 32 m.log.pcyc)
    let m := (List.range 6).foldl (fun m c => (m.canUnsync c).modCan c fun a => { a with asleep := true }) m
    let m := m.storeAll.boostReturn.boostSettle
    let m := { m with pwr := { m.pwr with heldFaultN := m.faultN } }
    let m := (List.range 96).foldl (fun m i =>
      let n := pgIn i
      (m.setFlag n Inp.WAKE_ARMED (m.fld n Inp.WAKE != 0 && (m.unit n).enabled && (watch || m.flag n Inp.STATIC))).modInp i fun a =>
        { a with wakeScans := 0 }) m
    let m := (List.range 16).foldl (fun m t => m.modTouch t fun a => { a with wakeScans := 0 }) m
    let m := m.pllEn false
    if watch then m.park else m
  else m

/-- Every waiting Logline record goes to MRAM. -/
def Mach.logDrain : Nat → Mach → Mach
  | 0, m => m
  | k + 1, m => if m.log.queue.isEmpty then m else (m.loglineWrite true).logDrain k

/-- An address whose byte outlives the main domain: retained SRAM and MRAM (R472). -/
def keptAsleep (a : Nat) : Bool := (decide (0x30000000 ≤ a) && decide (a ≤ 0x3007FFFF)) || (decide (0x40000000 ≤ a) && decide (a ≤ 0x40FFFFFF))

/-- The cores lose their state with the main domain: registers reset, STOPPED, nothing pending. -/
def Mach.coresLost (m : Mach) : Mach :=
  ((List.range 6).foldl (fun m c =>
    let e := (m.core c).entry
    ((m.setCore c { coreReset with entry := e }).setFld pgStrand (Strandctl.C_STATE c) 0).setFld pgStrand (Strandctl.C_IRQ_PEND c) 0) m).coresShow

/-- COMMIT_COMPLETE (R471, R472): the saves are complete and the main domain switches off; a latched entry event then wakes the module. -/
def Mach.commitDone (m : Mach) : Mach :=
  if m.pstate = 3 then
    let t := m.fld pgPwr Pwr.TARGET
    let m := m.logDrain 64
    let bias := t + 1
    let m := ((m.setFld pgPwr Pwr.LAST_SLEEP t).setFld pgPwr Pwr.BIAS bias).setFld pgPwr Pwr.ASSIST 2
    let m := ((m.setFld pgPwr Pwr.SLEPT_BIAS bias).setFld pgPwr Pwr.SLEPT_ASSIST 2).setFlag pgPwr Pwr.READY false
    let m := { m.coresLost with hitch := ⟨[], []⟩, mainOff := true }
    let m := { m.setFld pgWatch Watchseq.PASSES 0 with pwr := { m.pwr with asleep := t, step := 0, supplies := [] } }
    if m.pwr.latch.isSome then m.setFld pgPwr Pwr.PSTATE 4 else m
  else m

/-! ## In Watch (R290, R298, R480) -/

/-- A Watch window of an input: two consecutive scans that show the selected change wake the module (R290). -/
def Mach.watchIn (i cur : Nat) (lim : Bool) (m : Mach) : Mach :=
  let n := pgIn i
  let band := bandOf (m.flag n Inp.NETWORK) cur lim
  let act := (band == 2) != m.flag n Inp.INVERT
  let code := m.fld n Inp.WAKE
  if (band == 1 || band == 2) && act != m.flag n Inp.ACTIVE && ((act && Nat.testBit code 0) || (!act && Nat.testBit code 1)) then
    let m := m.modInp i fun a => { a with wakeScans := a.wakeScans + 1 }
    if (m.inp i).wakeScans = 2 then m.wakeEvent 2 n else m
  else m.modInp i fun a => { a with wakeScans := 0 }

/-- A Watch scan of a touch channel, with the thresholds of R296 against the baselines held (R298). -/
def Mach.watchTouch (t d g : Nat) (m : Mach) : Mach :=
  let n := pgTouch t
  let dd : Int := d - m.fld n Touch.BASE_D
  let dg : Int := g - m.fld n Touch.BASE_G
  let th := m.fld n Touch.TOUCH_TH
  let water := isWater th (m.fld n Touch.WK) dd dg
  let act := if m.flag n Touch.TOUCHED then !decide (dd < m.fld n Touch.REL_TH) else decide ((th : Int) ≤ dd) && !water
  let code := m.fld n Touch.WAKE
  if act != m.flag n Touch.TOUCHED && ((act && Nat.testBit code 0) || (!act && Nat.testBit code 1)) then
    let m := m.modTouch t fun a => { a with wakeScans := a.wakeScans + 1 }
    if (m.touch t).wakeScans = 2 then m.wakeEvent 3 n else m
  else m.modTouch t fun a => { a with wakeScans := 0 }

/-- WATCH_STEP (R480): the sequencer runs its next step. `ins` holds (current, in limit) of the inputs the step scans, in their order, and
`touches` (D, G) of the channels. -/
def Mach.watchStep (ins : List (BitVec 16 × Bool)) (touches : List (BitVec 16 × BitVec 16)) (m : Mach) : Mach :=
  let l := m.watchSteps
  if m.pwr.asleep ≠ 1 || l.isEmpty then m
  else
    let w := (l[m.pwr.step]?).getD 0
    let m := match stepOp w with
      | 2 => { m with pwr := { m.pwr with supplies := suppliesAfter [w] m.pwr.supplies } }
      | 3 => { m with pwr := { m.pwr with supplies := suppliesAfter [w] m.pwr.supplies } }
      | 4 => ((m.scanIns w).zip ins).foldl (fun (m : Mach) (q : Nat × BitVec 16 × Bool) => m.watchIn q.1 q.2.1.toNat q.2.2) m
      | 5 => ((m.scanTouches w).zip touches).foldl (fun (m : Mach) (q : Nat × BitVec 16 × BitVec 16) => m.watchTouch q.1 q.2.1.toNat q.2.2.toNat) m
      | 6 => m.burst
      | _ => m
    if m.pwr.step + 1 < l.length then { m with pwr := { m.pwr with step := m.pwr.step + 1 } }
    else { m.incSat pgWatch Watchseq.PASSES with pwr := { m.pwr with step := 0 } }

/-- SUPPLY (R480): a Watch supply output trips; it turns off and the module wakes with code 10. -/
def Mach.supplyTrip (c : Nat) (m : Mach) : Mach :=
  if m.pwr.asleep = 1 && m.pwr.supplies.contains (pgOut c) then
    { m with pwr := { m.pwr with supplies := m.pwr.supplies.filter fun a => a != pgOut c } }.wakeEvent 10 (pgOut c)
  else m

/-! ## Waking (R122, R472, R477, R478) -/

/-- The entries latched in sleep follow the wake entry (R351). -/
def Mach.lateNotes (m : Mach) : Mach :=
  m.pwr.late.foldl (fun m (q : LateNote) => m.tlogWrite q.kind q.unit q.arg q.d0 q.d1) { m with pwr := { m.pwr with late := [] } }

/-- The cores that AUTOSTART names are loaded once READY is set (R387, R472). -/
def Mach.autostart (m : Mach) : Mach :=
  (List.range 4).foldl (fun m i =>
    if Nat.testBit (m.fld pgStrand Strandctl.AUTOSTART) i && m.coreSt (i + 2) != 1 then
      (m.modCore (i + 2) fun k => { k with auto := true }).setCoreSt (i + 2) 1
    else m) m

/-- S0 and S1 issue from their reset state. -/
def Mach.firmwareRuns (m : Mach) : Mach :=
  ([0, 1] : List Nat).foldl (fun m c => (m.setCore c { coreReset with entry := (m.core c).entry }).setCoreSt c 2) m

/-- The PLL runs and carries the cores and the page clock. -/
def Mach.pllUp (us : Nat) (m : Mach) : Mach := ((m.pllEn true).pllLock us).coreSrc true

/-- WAKE (R477): a decision has been taken and the module is back in Run at READY. `us` is the PLL's lock time and `table` the Hitch table
the firmware reloads from MRAM. -/
def Mach.wake (us : Nat) (table : Table HEntry) (m : Mach) : Mach :=
  if m.pstate = 4 && (m.pwr.asleep = 1 || m.pwr.asleep = 2) then
    let code := m.fld pgPwr Pwr.CODE
    let unit := m.fld pgPwr Pwr.UNIT_54
    let m := { m with mainOff := false, pwr := { m.pwr with asleep := 0, latch := none, atCommit := false, supplies := [], step := 0 } }
    let m := ((m.setFld pgPwr Pwr.PSTATE 0).incWrap pgPwr Pwr.WAKES).setFld pgPwr Pwr.BIAS 0
    let m := (m.setFld pgPwr Pwr.ASSIST 1).firmwareRuns.pllUp us
    let m := (List.range 6).foldl (fun m c => (m.modCan c fun a => { a with asleep := false }).canUnsync c) m
    let m := { m with hitch := ⟨table, []⟩, locker := { m.locker with drbg := 0 } }
    let m := (List.range 4).foldl (fun m k => m.setStage k 0) m.ptpForget
    let m := m.shedApply.capsWake
    let m := (List.range 4).foldl (fun m i => if m.monitored (i + 2) then m.windowStart (i + 2) else m) m
    let m := (m.tlogWrite 4 pgPwr 2 (m.reg pgPwr 0x054) (BitVec.ofNat 32 m.log.pcyc)).lateNotes
    let m := (List.range 96).foldl (fun m i => (m.setFlag (pgIn i) Inp.WAKE_ARMED false).inWoken i) m
    let m := (List.range 128).foldl (fun m c => (m.ledgerLoad c).derate c) m
    let m := m.relog fun _ => true
    let suspect := if [4, 5, 6, 9, 11].contains code then some unit else none
    let m := { m with pwr := { m.pwr with suspect := suspect } }
    let m := if m.flag pgPwr Pwr.NM_EN then m.setNm 1 else m
    (m.burstRequest.setFlag pgPwr Pwr.READY true).autostart
  else m

end Sys2Proof.Machine
end

