-- ==== Sys2Proof/Machine/Lay.lean ====
section
/-! DEFINITION. What the collector does with a source that starts asserting: first fault, FAULT_N, entries, interrupt, Snub and Withdraw
(12_lay_fault_collection.md R326 to R342; 18_splice_pairs.md R460, R461 for held units). -/

namespace Sys2Proof.Machine

/-- The first-fault latch (R332): it takes the source, or OVF when it holds one. -/
def Mach.firstFault (n b : Nat) (brk : Bool) (m : Mach) : Mach :=
  if m.flag pgLay Lay.VALID then m.setFlag pgLay Lay.OVF true
  else
    let m := (m.setReg pgLay 0x048 (BitVec.ofNat 32 (2 ^ 30 + (if brk then 2 ^ 29 else 0) + b % 32))).setReg pgLay 0x04C (BitVec.ofNat 32 n)
    (m.setReg pgLay 0x050 (BitVec.ofNat 32 m.rk)).setReg pgLay 0x054 (BitVec.ofNat 32 (m.rk / 2 ^ 32))

/-- A source starts asserting at the collector (R329, R332, R337): counted, latched; unless its reaction is NONE a FAULT entry waits and the
LAY interrupt is raised; a self-test of LAY ends with HEALTH unchanged (R341); a sleep entry in PREPARE rolls back. -/
def Mach.assertStarts (n b : Nat) (brk : Bool) (m : Mach) : Mach :=
  let m := (m.incSat pgLay Lay.ASSERTS).firstFault n b brk
  let r := m.reaction n b
  let m := if 1 ≤ r then
      ({ m with lay := { m.lay with notes := m.lay.notes ++ [(⟨n, b, brk, r⟩ : FaultNote)] } } : Mach).irq (m.fld pgLay Lay.CORE) (m.fld pgLay Lay.VECTOR)
    else m
  let m := if m.st pgLay = 5 then ((m.modUnit pgLay fun u => { u with test := none }).setFlag pgLay Hdr.BUSY false).setSt pgLay 1 else m
  let m := m.layRefresh
  if m.pstate = 2 then m.rollback false true n else m

/-- A set and unmasked source that did not assert yet starts asserting (R326, R329). -/
def Mach.layAssert (n b : Nat) (m : Mach) : Mach :=
  if m.src n b && (m.reg n 0x01C).getLsbD b && m.occupied n && !(m.layLive n).getLsbD b then
    let a := tget m.lay.asserting 0 n ||| BitVec.ofNat 32 (2 ^ b)
    ({ m with lay := { m.lay with asserting := tput m.lay.asserting 0 n a } }).assertStarts n b false
  else m

/-- The sources that start in one collector clock, the lowest unit index first and within a unit the lowest bit (R332). -/
def Mach.layClock (l : List (Fin 32768 × Fin 32)) (m : Mach) : Mach :=
  (l.foldr (fun (q : Fin 32768 × Fin 32) (a : List Nat) => insertUp (q.1.val * 32 + q.2.val) a) []).foldl
    (fun (m : Mach) (k : Nat) => m.layAssert (k / 32) (k % 32)) m

/-- LAYBREAK (R327): a source's pair disagrees for `clocks` collector clocks, or agrees again. -/
def Mach.layBreak (n b clocks : Nat) (agree : Bool) (m : Mach) : Mach :=
  if agree then { m with lay := { m.lay with bad := m.lay.bad.filter fun p => p != (n, b) } }
  else if clocks ≤ 2 || m.lay.bad.contains (n, b) || !Nat.testBit (info (clsOf n)).srcs b || !m.occupied n then m
  else
    let was := (m.layLive n).getLsbD b
    let k := tget m.lay.breaks 0 n ||| BitVec.ofNat 32 (2 ^ b)
    let m := { m with lay := { m.lay with breaks := tput m.lay.breaks 0 n k, bad := (n, b) :: m.lay.bad } }
    let m := (m.incSat pgLay Lay.BREAKS).setReg pgLay 0x068 (BitVec.ofNat 32 (2 ^ 31 + b % 32 * 65536 + n))
    let m := m.raise pgLay 1
    if was then m.layRefresh else m.assertStarts n b true

/-- FAULTN_ERR (R336): the pin's level, conducting or not, differs from its command for `ms`. -/
def Mach.faultnErr (conducts : Bool) (ms : Nat) (m : Mach) : Mach :=
  let m := m.setFlag pgLay Lay.FAULTN_PIN conducts
  if conducts != m.flag pgLay Lay.FAULTN_ON && 1 ≤ ms then m.raise pgLay 2 else m

/-- SOFT_WRITE (R335): groups forced or released by software. -/
def Mach.softWrite (v : Nat) (m : Mach) : Mach := (m.setFld pgLay Lay.SOFT v).layRefresh

/-- ENTRY_READ (R341). -/
def Mach.entryRead (m : Mach) : Mach :=
  let e := m.react (m.fld pgLay Lay.SEL)
  ((m.setReg pgLay 0x078 e.lo).setReg pgLay 0x07C e.hi).setReg pgLay 0x080 (BitVec.ofNat 32 (e.tgroup * 65536 + e.member))

/-- The two bits of every defined source in a half of an entry (R330). -/
def reactMask (srcs : Nat) : Word := BitVec.ofNat 32 (3 * reportHalf srcs)

/-- ENTRY_WRITE (R330, R331, R341): the window into entry SEL, undefined source bits ignored; refused while locked. -/
def Mach.entryWrite (m : Mach) : Mach :=
  if m.flag pgLay Hdr.LOCKED then m.refuse pgLay 0x084 2
  else
    let k := m.fld pgLay Lay.SEL
    let e : React := ⟨m.reg pgLay 0x078 &&& reactMask (entrySrcs k), m.reg pgLay 0x07C &&& reactMask (entrySrcs k / 65536),
      m.fld pgLay Lay.TGROUP, m.fld pgLay Lay.MEMBER⟩
    { m with lay := { m.lay with react := tput m.lay.react none k (if e = reactReset k then none else some e) } }.layRefresh

/-- HALT_N_INPUT (R30): the pin reads `mv`; between its thresholds the comparator keeps its reading. -/
def Mach.haltInput (mv : Nat) (m : Mach) : Mach :=
  if m.flag pgLay Lay.HALT_LOW then
    if 8000 + Config.haltRise % 2001 ≤ mv then m.setFlag pgLay Lay.HALT_LOW false else m
  else if mv ≤ 5000 + Config.haltFall % 2001 then m.setFlag pgLay Lay.HALT_LOW true
  else m

/-- HALT (R338): HALT_N has read low for `us`. -/
def Mach.halt (us : Nat) (m : Mach) : Mach :=
  if m.flag pgLay Lay.HALT_LOW && decide (m.fld pgLay Lay.HALT_FLT ≤ us) then m.raise pgLay 0 else m

/-! ## Snub and Withdraw (R333, R334, R339) -/

/-- The units a Snub could force: the drive units while SNUB_ALL holds, and the members of the snubbed groups. -/
def Mach.snubTargets (m : Mach) : List Nat :=
  let sats (c : Nat) : List Nat := (List.range (m.chain c).found.length).map (pgSat c)
  let all := (List.range 4).flatMap sats
  let byAll := if m.flag pgLay Lay.SNUB_ALL then ((List.range 0xCC).map (· + 0x20)) ++ all else []
  let byEntry := m.lay.react.flatMap fun p =>
    match p.2 with
    | none => []
    | some e =>
      if e.member &&& m.fld pgLay Lay.SNUBBED = 0 then []
      else if p.1 < 0x180 then [p.1]
      else if p.1 < 0x184 then sats (p.1 - 0x180)
      else (m.proxies.filter fun q => q.2.bind).map fun q => pgProxy q.1
  byAll ++ byEntry

/-- A held unit of the Second does not show a Snub as its own (R461). -/
def Mach.unshowSnub (n : Nat) (m : Mach) : Mach :=
  match clsOf n with
  | .out => m.setFlag n Out.SNUBBED false
  | .rat => m.setFlag n Rat.SNUBBED false
  | .sink => m.setFlag n Sink.SNUBBED false
  | .valve => m.setFlag n Valve.SNUBBED false
  | _ => m

/-- A unit takes the safe state by a Snub. -/
def Mach.snubUnit (n : Nat) (m : Mach) : Mach :=
  let m := m.enterSafe n true
  if m.secondHeld n then m.unshowSnub n else m

/-- Every forced unit that is not yet in SAFE by a Snub enters it. -/
def Mach.snubForce (m : Mach) : Mach :=
  if m.fld pgLay Lay.SNUBBED = 0 then m
  else m.snubTargets.foldl (fun m n =>
    let s := m.st n
    if m.forced n && (s == 0 || s == 1 || s == 2 || s == 5 || (s == 3 && ((m.unit n).slackOnly || !m.showsSnub n))
        || (s == 4 && !m.showsSnub n)) then m.snubUnit n else m) m

/-- Withdraw (R339): the group a WD register names has become snubbed; its object is requested, or WD_MISS sets. A preloaded WITHDRAW that
goes out ends the release (R518). -/
def Mach.withdraw (was : Nat) (m : Mach) : Mach :=
  (List.range 2).foldl (fun m i =>
    let g := m.fld pgLay (Lay.GROUP i)
    if m.flag pgLay (Lay.EN i) && Nat.testBit (m.fld pgLay Lay.SNUBBED) g && !Nat.testBit was g then
      let c := m.fld pgLay (Lay.CTRL i)
      let o := m.fld pgLay (Lay.OBJ i)
      if c < 6 && m.canSendable c o then
        let m := m.canRequest c o
        if m.flag pgTether Tether.RELEASED && m.flag pgTether Tether.PRELOAD then m.endRelease else m
      else m.raise pgLay 3
    else m) m

/-! ## Held units (R460, R461) -/

/-- The trips a duplex pair shares (R460): SHORT, OVERCURRENT, START_FAIL, ARC_SERIES, ARC_PARALLEL, and EXHAUSTED of the Lead. -/
def pairTrips (lead : Bool) : Word := if lead then 0x30033#32 else 0x30013#32

/-- A held unit that entered SAFE in a step, a duplex leg that tripped, and a retry of the Lead reach the partner as EDGE frames. -/
def Mach.pairFollow (m before : Mach) : Mach :=
  if !(m.fld pgSplice Splice.PSTATE = 2) then m
  else m.guarded.foldl (fun m n =>
    let m := if m.st n = 3 && before.st n ≠ 3 then m.edgeSend n .snub 1 else m
    let new := m.reg n 0x018 &&& ~~~(before.reg n 0x018) &&& pairTrips m.leadPair
    if clsOf n != .out || !m.flag n Out.DUPLEX then m
    else
      let m := if new != 0 then m.edgeSend n (.trip new) 2 else m
      if m.leadPair && before.flag n Out.RETRY_WAIT && !m.flag n Out.RETRY_WAIT && before.fld n Out.RETRIES < m.fld n Out.RETRIES then
        m.edgeSend n .retry 2
      else m) m

end Sys2Proof.Machine
end

