-- ==== Sys2Proof/Machine/Proxy.lean ====
section
/-! DEFINITION. Peers and proxies: what a write to a proxy page becomes, and how a proxy shows its peer (17_backbone_hitch_and_fid.md R444,
R445, R448, R451). -/

namespace Sys2Proof.Machine

/-- A peer entry. -/
def Mach.peer (m : Mach) (k : Nat) : Peer := tget m.fid.peers peerReset k
def Mach.setPeer (k : Nat) (p : Peer) (m : Mach) : Mach := { m with fid := { m.fid with peers := tput m.fid.peers peerReset k p } }
def Mach.modPeer (k : Nat) (g : Peer → Peer) (m : Mach) : Mach := m.setPeer k (g (m.peer k))

/-- Fields of a peer's control word (R451). -/
def Peer.en (p : Peer) : Bool := p.ctl.getLsbD 31
def Peer.wr (p : Peer) : Bool := p.ctl.getLsbD 30
def Peer.slot (p : Peer) : Nat := (⟨0, 29, 24⟩ : Fld).of p.ctl
def Peer.dev (p : Peer) : Nat := p.ctl.toNat % 65536

/-- The binding behind a proxy page. -/
def Mach.proxy (m : Mach) (n : Nat) : ProxyAux := tget m.proxies proxyReset (n - 0x4000)

/-- FID runs: enabled and not FAULTED (R451). -/
def Mach.fidOn (m : Mach) : Bool := (m.unit pgFid).enabled && (m.st pgFid == 1 || m.st pgFid == 2 || m.st pgFid == 3 || m.st pgFid == 5)

/-- A proxy's peer reads LOST: PSTATE 3, or Fid traffic stopped (R448, R451). -/
def Mach.proxyLost (m : Mach) (n : Nat) : Bool := !m.fidOn || (m.peer (m.proxy n).peer).pstate == 3

/-- LINK and HEALTH of a proxy show a lost peer (R448). -/
def Mach.proxyShow (n : Nat) (m : Mach) : Mach :=
  if m.proxyLost n then
    let m := if m.src n 31 then m else m.raise n 31
    m.setFld n Hdr.HEALTH (max 2 (m.fld n Hdr.HEALTH))
  else m.setReg n 0x018 (m.reg n 0x018 &&& 0x7FFFFFFF#32)

/-- The proxy pages bound to a peer. -/
def Mach.proxiesOf (m : Mach) (k : Nat) : List Nat := (m.proxies.filter fun q => q.2.bind && q.2.peer == k).map fun q => pgProxy q.1

/-- An item joins those gathered for a proxy's peer (R448). -/
def Mach.gather (n : Nat) (i : FItem) (m : Mach) : Mach :=
  m.modPeer (m.proxy n).peer fun p => { p with gather := p.gather ++ [(n, i)] }

/-- A write to a forwarded register of a proxy (R448): accepted here at once and sent as a WRITE item; refused while the peer is LOST. -/
def Mach.proxyWrite (n off : Nat) (v mask : Word) (m : Mach) : Mach :=
  if m.proxyLost n then m.refuse n off 5
  else
    let p := m.proxy n
    let held := off = 0x020 || off = 0x028 || (decide (p.ofs ≤ off) && decide (off < p.ofs + 4 * p.len))
    let w := (m.reg n off &&& ~~~mask) ||| (v &&& mask)
    let m := if off = 0x028 && Hdr.BASE_CAP.of w ≠ m.fld n Hdr.BASE_CAP then m.disarmTarget n else m
    let m := if held then m.setReg n off w else m
    m.gather n (.write p.remote off v mask)

/-- A command to a proxy (R448, R80): sent with its origin. -/
def Mach.proxyCmd (n : Nat) (w origin : Word) (m : Mach) : Mach :=
  if m.proxyLost n then m.refuse n 0x008 5 else m.gather n (.cmd (m.proxy n).remote w origin)

end Sys2Proof.Machine
end

