-- ==== Sys2Proof/Machine/Cmd.lean ====
section
/-! DEFINITION. The CMD register: duplicates, commands held while BUSY, the codes, the fan-out of a Bight, the Lead's held commands and what
refuses a command (02_units_and_pages.md R63 to R72, R80, R81, R86, R87; 18_splice_pairs.md R458). -/

namespace Sys2Proof.Machine

/-- Fields of a CMD word (R60). -/
def cmdSeq (w : Word) : Nat := w.toNat / 65536
def cmdCode (w : Word) : Nat := w.toNat % 16

/-- Run an operation on a page and tell whether it refused: REJECT as before where it did not, unless the operation cleared it with
REJECT_INFO (R63, R76). -/
def Mach.attempt (n : Nat) (op : Mach → Mach) (m : Mach) : Bool × Mach :=
  let old := m.flag n Hdr.REJECT
  let m := op (m.setFlag n Hdr.REJECT false)
  if m.flag n Hdr.REJECT then (true, m) else (false, m.setFlag n Hdr.REJECT (old && m.reg n 0x010 != 0))

/-- CLEAR_FAULTS; on the Locker in its error state the whole set of tests runs first, with BUSY set (R502). -/
def Mach.clearUnit (n : Nat) (m : Mach) : Mach :=
  if n = pgLocker && m.flag n Locker.ERROR then (m.modUnit n fun u => { u with test := some (4, false) }).setFlag n Hdr.BUSY true
  else m.clearFaults n

/-- One command code on a unit that is no Bight and no proxy (R63, R69). -/
def Mach.doCode (n code : Nat) (m : Mach) : Mach :=
  match code with
  | 1 =>
    if n = pgTether then (match m.tetherDenied with | some r => m.refuse n 0x008 r | none => m.enableUnit n)
    else if n = pgSplice && !m.spliceKey then m.refuse n 0x008 6
    else m.enableUnit n
  | 2 => if (info (clsOf n)).noDisable then m.refuse n 0x008 3 else m.disableUnit n
  | 3 => if n = pgPolicy then m.polApply else m.applyUnit n
  | 4 => m.clearUnit n
  | 5 => m.selftestUnit n
  | 6 => m.freezeUnit n
  | 7 => m.thawLogged n
  | _ => m

/-- A command executes (R66): LAST_SEQ takes a SEQ that is not 0 unless the command is refused. -/
def Mach.runCode (n : Nat) (w : Word) (m : Mach) : Bool × Mach :=
  let code := cmdCode w
  let r := if code = 4 then (false, m.doCode n code) else m.attempt n (fun m => m.doCode n code)
  (r.1, if r.1 || cmdSeq w = 0 then r.2 else r.2.setFld n Hdr.LAST_SEQ (cmdSeq w))

/-- The live RWS words an APPLY would give (R458). -/
def Mach.nextWords (m : Mach) (n : Nat) : List Word :=
  (rwsOffs (clsOf n)).map fun o =>
    let s := BitVec.ofNat 32 (rwsBits (clsOf n) o)
    (m.shd n o &&& s) ||| (m.reg n o &&& ~~~s)

/-- The Lead's command on a held unit (R458): it goes out as an EDGE frame and changes the leg here at T_APPLY. One that is refused, and one
that changes nothing, is handled at once. -/
def Mach.leadCmd (n : Nat) (w : Word) (m : Mach) : Bool × Mach :=
  let code := cmdCode w
  let refused := code ≠ 4 && (m.attempt n (fun m => m.doCode n code)).1
  if code = 0 || refused || (code = 3 && !m.flag n Hdr.SHADOW_DIRTY) then m.runCode n w
  else
    let m := m.edgeSend n (if code = 3 then .apply (m.nextWords n) else .cmd w) 0
    (false, if cmdSeq w = 0 then m else m.setFld n Hdr.LAST_SEQ (cmdSeq w))

/-- A command that does not wait for BUSY: a NOP, an ENABLE or DISABLE in TEST, whose flag changes at once (R69), and a DISABLE that its class
never takes, refused at once (R74). -/
def Mach.atOnce (m : Mach) (n code : Nat) : Bool :=
  code = 0 || (m.st n == 5 && (code = 1 || code = 2)) || (code = 2 && (info (clsOf n)).noDisable)

/-- A command that has passed the refusals of its source, and is no duplicate, reaches a unit (R66, R67, R69). -/
def Mach.unitCmd (src : Src) (n : Nat) (w : Word) (m : Mach) : Bool × Mach :=
  if 8 ≤ cmdCode w then (true, m.refuse n 0x008 1)
  else if m.flag n Hdr.BUSY && !m.atOnce n (cmdCode w) then (false, m.modUnit n fun u => { u with held := some w })
  else if m.leadHeld n && src != .splice then m.leadCmd n w
  else m.runCode n w

/-- Whether a core of the Second writes live: a Step core from lead loss on (R464, R466). -/
def Mach.stepLive (m : Mach) (k : Nat) : Bool :=
  let p := m.fld pgSplice Splice.PSTATE
  (p == 3 || p == 4) && Nat.testBit (m.fld pgSplice Splice.STEP_CORES) (k - 2)

/-- Whether the pair turns a source's write away (R454, R458, R74): on the Second, and until the take-over is complete, every source but the
pair, the resident firmware and a Step core that has gone live. -/
def Mach.guardDenies (m : Mach) (src : Src) (n : Nat) : Bool :=
  (m.secondHeld n || (m.fld pgSplice Splice.PSTATE == 4 && m.guarded.contains n)) && (match src with
    | .core k => decide (2 ≤ k.val) && !m.stepLive k.val
    | .splice => false
    | _ => true)

/-- The first reason of R74 that depends on the source alone, with the denial counted (R489). -/
def Mach.gate (src : Src) (n off : Nat) (m : Mach) : Option Mach :=
  if m.absent n then some (m.refuse n off 5)
  else if lockerDenies src n off then some ((m.denial src n).refuse n off 6)
  else if m.guardDenies src n then some (m.refuse n off 7)
  else none

/-- The registers whose direct write counts as an override (R87): every register with a field that software writes, but PARENT, by which a
unit joins its Bight. -/
def overrides (c : Cls) (off : Nat) : Bool :=
  off = 0x008 || off = 0x018 || off = 0x01C || off = 0x020 || off = 0x028 || off = 0x02C
    || (decide (0x040 ≤ off) && (c == .proxy || (match regDef c off with
      | some r => r.flds.any fun f => f.acc != .ro
      | none => c == .compat)))

/-- A direct write or command to a leaf overrides its Bights until the next fan-out reaches it, taken or refused (R87). -/
def Mach.setDirect (src : Src) (fanned : Bool) (n off : Nat) (m : Mach) : Mach :=
  if clsOf n == .bight || !overrides (clsOf n) off then m
  else if fanned then (if (m.unit n).direct then m.modUnit n fun u => { u with direct := false } else m)
  else match src with
    | .core _ | .hitch | .fid => if (m.unit n).direct then m else m.modUnit n fun u => { u with direct := true }
    | _ => m

/-- A Bight records the lowest leaf that refused the last fan-out (R82, R86). -/
def Mach.fanDone (b : Nat) (refused : List Nat) (m : Mach) : Mach :=
  match refused.foldr insertUp [] with
  | [] => m.setReg b 0xF0C 0
  | k :: _ => (((m.setReg b 0xF0C (BitVec.ofNat 32 (2 ^ 31 + k))).setFlag b Hdr.REJECT true).setReg b 0x010 (m.reg k 0x010))

/-- A command at a page (R66, R81, R87): on a Bight the duplicate test against its own LAST_SEQ, then to every direct member with SEQ 0.
Answers the leaves that refused; `fuel` bounds the depth of the tree. -/
def Mach.pageCmd (src : Src) (origin : Word) : Nat → Nat → Word → Bool → Mach → List Nat × Mach
  | 0, _, _, _, m => ([], m)
  | fuel + 1, n, w, fanned, m =>
    if !m.occupied n then ([], m)
    else match m.gate src n 0x008 with
    | some m => ([n], m)
    | none =>
      if clsOf n == .bight then
        if cmdSeq w ≠ 0 && cmdSeq w = m.fld n Hdr.LAST_SEQ then ([], m)
        else if 8 ≤ cmdCode w then ([], m.refuse n 0x008 1)
        else
          let o := if origin = 0xFFFFFFFF#32 then BitVec.ofNat 32 (m.fld pgDev Dev.DEVNUM * 65536 + n) else origin
          let w0 := w &&& 0xFFFF#32
          let m := if cmdCode w = 4 then (m.setFlag n Hdr.REJECT false).setReg n 0x010 0 else m
          let r := (m.members n).foldl (fun (a : List Nat × Mach) k =>
            let q := Mach.pageCmd src o fuel k w0 true a.2
            (a.1 ++ q.1, q.2)) ([], m)
          let m := r.2.fanDone n r.1
          (r.1, if cmdSeq w = 0 then m else m.setFld n Hdr.LAST_SEQ (cmdSeq w))
      else if clsOf n == .proxy then
        let q := m.attempt n (fun m => m.proxyCmd n w origin)
        (if q.1 then [n] else [], q.2.setDirect src fanned n 0x008)
      else if cmdSeq w ≠ 0 && cmdSeq w = m.fld n Hdr.LAST_SEQ then ([], m)
      else
        let q := m.unitCmd src n w
        (if q.1 then [n] else [], if q.1 && !fanned then q.2 else q.2.setDirect src fanned n 0x008)

/-- DEV.STRAY records a write to a page that is not occupied (R55, R56). -/
def Mach.stray (n off : Nat) (m : Mach) : Mach := m.setReg pgDev 0x050 (BitVec.ofNat 32 (2 ^ 31 + off % 4096 * 65536 + n % 65536))

/-- A write of CMD (R66). -/
def Mach.cmdWrite (src : Src) (origin : Word) (n : Nat) (w : Word) (m : Mach) : Mach :=
  if m.occupied n then (m.pageCmd src origin (m.depth + 2) n w false).2 else m.stray n 0x008

/-- No origin (R443). -/
def noOrigin : Word := 0xFFFFFFFF#32

/-- HELD_COMMAND_EXECUTE (R67): BUSY has cleared and the command held executes. -/
def Mach.heldCmd (n : Nat) (m : Mach) : Mach :=
  match (m.unit n).held with
  | some w =>
    if m.flag n Hdr.BUSY then m
    else
      let m := m.modUnit n fun u => { u with held := none }
      (if m.leadHeld n then m.leadCmd n w else m.runCode n w).2
  | none => m

/-- TEST_COMPLETE (R69, R325, R501, R502, R545): the test of a unit ends, a failed one of POLICY with its table empty; for the Locker
`fail` is the test that failed. -/
def Mach.testComplete (n : Nat) (pass : Bool) (fail : Nat) (m : Mach) : Mach :=
  if n = pgLocker && m.st n ≠ 5 then
    if (m.unit n).test.isNone then m
    else
      let m := (m.modUnit n fun u => { u with test := none }).setFlag n Hdr.BUSY false
      if pass then ((m.setFlag n Locker.ERROR false).clearFaults n).lockerTested none else m.lockerTested (some fail)
  else
    let ran := (m.unit n).test.isSome && m.st n = 5
    let m := m.testDone n pass
    let m := if n = pgPolicy && ran && !pass then m.polEmptied else m
    if n = pgLocker && ran then m.lockerTested (if pass then none else some fail) else m

end Sys2Proof.Machine
end

