-- ==== Sys2Proof/Machine/Marks.lean ====
section
/-! DEFINITION. Marks and point-on-wave slots (03_capstan_bases_and_marks.md R105 to R111, R115 to R118): arming, firing, disarming, and
scheduling a contactor's close. -/

namespace Sys2Proof.Machine

/-- The late limit of a base (R108). -/
def Mach.lateLimit (m : Mach) (k : Nat) : Nat := (m.reg (pgCap k) Cap.LIMIT.off).toNat

/-- A refusal through the window of base `k`: the operation's register (R106, R107). -/
def Mach.refuseOp (k reason : Nat) (m : Mach) : Mach := m.refuse (pgCap k) 0x094 reason

/-- The class an action asks of its target, and whether its argument is admitted (R106). -/
def markArgOk (action arg : Nat) : Bool :=
  match action with
  | 2 => decide (arg % 8 < 6) && decide (arg < 256)
  | 3 => decide (arg < 128)
  | 0 | 1 | 4 => arg == 0
  | _ => false

def Mach.markTargetOk (m : Mach) (action target : Nat) : Bool :=
  match action with
  | 0 => m.occupied target && !m.absent target
  | 1 => clsOf target == .out
  | 2 => target == pgStrand
  | 3 => clsOf target == .can
  | _ => clsOf target == .msg

/-- The Mark the staging registers of base `k` describe (R105). -/
def Mach.staged (m : Mach) (k : Nat) : Mark :=
  let n := pgCap k
  ⟨m.reg n 0x084, m.fld n Cap.TARGET, m.fld n Cap.ACTION, m.fld n Cap.ARG, m.reg n 0x08C, m.flag n Cap.LATE_POL, m.flag n Cap.WAKE, k,
    true, 8, none⟩

/-! ## Firing (R109 to R111) -/

/-- The action of Mark `e` (R106, R111). Answers whether it was taken. On the Second of a pair a held unit follows the Lead's EDGE frame
instead (R458). -/
def Mach.markAction (e : Nat) (q : Mark) (m : Mach) : Bool × Mach :=
  match q.action with
  | 0 => (true, if m.secondHeld q.target then m else m.cmdWrite .mark noOrigin q.target 3#32)
  | 1 => if m.snap.isSome then (false, m) else (true, m.snapStart (q.target - 0x20))
  | 2 => (true, m.irq (q.arg % 8) (q.arg / 8 % 32))
  | 3 => if m.canSendable (q.target - 0x170) q.arg then (true, m.canRequestMark (q.target - 0x170) q.arg (q.period ≠ 0)) else (false, m)
  | _ => (true, m.heave (q.target - 0xD8) (some e))

/-- PHASE of a slot (R116). -/
def Mach.powPhase (m : Mach) (k s : Nat) : Nat := m.fld (pgCap k) (Cap.POW_PHASE s)

/-- The slot whose Mark fires starts measuring (R117). -/
def Mach.powFired (k e : Nat) (m : Mach) : Mach :=
  (List.range 8).foldl (fun (m : Mach) s =>
    if (m.powPhase k s == 1 || m.powPhase k s == 5) && m.capType k == 3 && m.fld (pgCap k) (Cap.POW_MARK s) == e
        && m.fld (pgCap k) (Cap.POW_OUT s) ≠ 0
    then m.setFld (pgCap k) (Cap.POW_PHASE s) 2 else m) m

/-- A Mark fires with a status (R109): its action, its STATUS, LATE counted, and a periodic Mark is armed at its next position. -/
def Mach.fireMark (e status : Nat) (m : Mach) : Mach :=
  let q := m.mark e
  let n := pgCap q.base
  let m := m.setMark e (if q.period = 0 then { q with armed := false, due := none } else { q with due := none })
  let r := m.markAction e q
  let m := (if status = 2 then r.2.incSat n Cap.LATE else r.2).powFired q.base e
  let q := { m.mark e with status := if r.1 then status else 6 }
  if q.period = 0 || !q.armed then m.setMark e q
  else
    let p := m.pos q.base
    let next := q.pos + q.period
    let d := posDiff p next
    if status = 4 then m.setMark e { q with pos := nextAhead q.pos q.period p }
    else if d < 0 then m.setMark e { q with pos := next }
    else if d ≤ m.lateLimit q.base then m.setMark e { q with pos := next, due := some 2 }
    else ((m.setMark e { q with pos := next }).missMark e p).raise n 3

/-- Whether Marks of a base fire now: the base runs, the module is ready and no sleep entry holds them (R110, R115, R120, R474, R531). -/
def Mach.marksFire (m : Mach) (k : Nat) : Bool :=
  m.capRuns k && m.flag pgPwr Pwr.READY && m.pwr.asleep == 0 && !(m.pstate == 2 || m.pstate == 3)

/-- The due Mark of a base that fires first: in ascending position, then entry (R110). -/
def Mach.firstDue (m : Mach) (k : Nat) : Option Nat :=
  let p := m.pos k
  ((m.marks.filter fun q => q.2.armed && q.2.base == k && q.2.due.isSome).foldl (fun (a : Option (Nat × Mark)) q =>
    match a with
    | none => some q
    | some b => if (p - b.2.pos).toNat < (p - q.2.pos).toNat then some q else some b) none).map (·.1)

/-- A base's first due Mark fires. -/
def Mach.fireFirst (k : Nat) (m : Mach) : Mach :=
  match m.firstDue k with
  | some e => m.fireMark e (((m.mark e).due).getD 1)
  | none => m

/-- Whether a base reaches a Mark's position between its edges or pulses, before what the clamp allows, or coasting before HOLDOVER ends
(R94, R97). A base on a clock, and a FREE base, reaches a position only with its clock or a write. -/
def Mach.canReach (m : Mach) (k : Nat) (p : Word) : Bool :=
  let d := posDiff p (m.pos k)
  !m.capHeld k && m.fld (pgCap k) Cap.RATE != 0 && decide (0 < d) &&
    (if m.flag (pgCap k) Cap.COAST then decide (d.toNat + (m.cap k).coasted ≤ m.fld (pgCap k) Cap.HOLDOVER * 65536)
      else (m.capType k == 2 || m.capPulsed k) && decide (d ≤ posDiff (m.capLimit k) (m.pos k)))

/-- MARK_FIRE (R101, R110): a base's first due Mark fires; where none is due, the base reaches the position of its next Mark, if it can
before its next edge or pulse, and that Mark fires. -/
def Mach.markFire (k : Nat) (m : Mach) : Mach :=
  if !m.marksFire k then m
  else if (m.firstDue k).isSome then m.fireFirst k
  else match m.nextMark k with
    | some e =>
      let p := (m.mark e).pos
      if m.canReach k p then
        (if m.flag (pgCap k) Cap.COAST then m.coastBy k (posDiff p (m.pos k)).toNat else m.moveTo k p).fireFirst k
      else m
    | none => m

/-- One page clock of firing: in CAP order, each base fires its first due Mark (R110). -/
def Mach.fireDue (m : Mach) : Mach :=
  (List.range 8).foldl (fun (m : Mach) (k : Nat) => if m.marksFire k then m.fireFirst k else m) m

/-- Page clocks of firing until no Mark is due; `fuel` bounds them. -/
def Mach.drainDue : Nat → Mach → Mach
  | 0, m => m
  | fuel + 1, m => if (List.range 8).any fun k => m.marksFire k && (m.firstDue k).isSome then Mach.drainDue fuel m.fireDue else m

/-- HOLDOVER_EXPIRY (R97): HOLDOVER turns of coasting have passed. The base has advanced through them, and the Marks on the way have
fired. -/
def Mach.holdoverExpiry (k turns : Nat) (m : Mach) : Mach :=
  if m.flag (pgCap k) Cap.COAST && decide (m.fld (pgCap k) Cap.HOLDOVER ≤ turns)
  then (Mach.drainDue 8192 (m.coastBy k (m.fld (pgCap k) Cap.HOLDOVER * 65536))).capHold k else m

/-! ## Window operations (R106 to R108) -/

/-- An entry is armed (R107, R108): its position is tested against the base's present one. A Mark found late fires at once; on a base that
does not run, when it runs again (R115). -/
def Mach.arm (e : Nat) (q : Mark) (m : Mach) : Mach :=
  let m := if q.action == 4 then m.heaveForget (q.target - 0xD8) e else m
  let d := posDiff (m.pos q.base) q.pos
  if d < 0 then m.setMark e q
  else if d ≤ m.lateLimit q.base && !q.drop then
    let m := m.setMark e { q with due := some 2 }
    if m.marksFire q.base then m.fireMark e 2 else m
  else (m.setMark e q).missMark e (m.pos q.base)

/-- MARK_ARM (R106 to R108): the staged Mark into entry MARK_SEL, or a refusal. -/
def Mach.markArm (k : Nat) (m : Mach) : Mach :=
  let q := m.staged k
  let e := m.fld (pgCap k) Cap.MARK_SEL
  let old := m.mark e
  if 5 ≤ q.action || !markArgOk q.action q.arg then m.refuseOp k 1
  else if !m.markTargetOk q.action q.target || Hdr.BASE_CAP.of (m.peek q.target 0x028) ≠ k || (q.wake && m.capType k ≠ 0)
      || (old.armed && old.base ≠ k) then m.refuseOp k 3
  else m.arm e q

/-- MARK_READ (R107): entry MARK_SEL into the staging registers. -/
def Mach.markRead (k : Nat) (m : Mach) : Mach :=
  let n := pgCap k
  let q := m.mark (m.fld n Cap.MARK_SEL)
  let m := (m.setReg n 0x084 q.pos).setReg n 0x08C q.period
  let m := (((m.setFlag n Cap.ARMED q.armed).setFlag n Cap.WAKE q.wake).setFlag n Cap.LATE_POL q.drop).setFld n Cap.ACTION q.action
  let m := (m.setFld n Cap.BASE q.base).setFld n Cap.TARGET q.target
  (m.setFld n Cap.STATUS q.status).setFld n Cap.ARG q.arg

/-- MARK_DISARM (R107): an armed entry disarms with status CANCELLED; from another base's window the operation is refused. -/
def Mach.markDisarm (k : Nat) (m : Mach) : Mach :=
  let e := m.fld (pgCap k) Cap.MARK_SEL
  let q := m.mark e
  if !q.armed then m
  else if q.base ≠ k then m.refuseOp k 3
  else m.setMark e { q with armed := false, status := 5, due := none }

/-- MARK_OP (R112): the page clock's firing comes before the window operation (R110). -/
def Mach.markOp (k op : Nat) (m : Mach) : Mach :=
  let m := m.fireDue
  match op with
  | 1 => m.markRead k
  | 2 => m.markArm k
  | 3 => m.markDisarm k
  | _ => m

/-! ## Point-on-wave switching (R116 to R118) -/

/-- The position at which a slot's Mark is armed (R117). -/
def powPosition (pos target delay rate : Nat) : Word :=
  let start : Int := (target : Int) - (delay * rate / 1000000 : Nat)
  let k : Int := (0x1000 + (pos : Int) - start + 65535) / 65536
  wordOfInt (k * 65536 + start)

/-- POW_GO (R117): a GO write schedules a close. Slots exist on MAINS bases only; a slot with OUT 0 is unused. The Mark is subject to
R107. -/
def Mach.powGo (k s : Nat) (m : Mach) : Mach :=
  let n := pgCap k
  let off := (Cap.POW_GO s).off
  let out := m.fld n (Cap.POW_OUT s)
  let e := m.fld n (Cap.POW_MARK s)
  let old := m.mark e
  if m.capType k ≠ 3 then m.refuse n off 3
  else if out = 0 then m
  else if m.fld out Hdr.BASE_CAP ≠ k || (old.armed && old.base ≠ k) then m.refuse n off 3
  else
    let sync := m.flag n Cap.LOCKED
    let pos := if sync then powPosition (m.pos k).toNat (m.fld n (Cap.POW_TARGET s)) (m.fld n (Cap.POW_DELAY s)) (m.fld n Cap.RATE)
      else m.pos k + 0x1000#32
    let m := m.setMark e ⟨pos, out, 0, 0, 0, false, false, k, true, 8, none⟩
    let m := m.modCap k fun c => { c with unsync := if sync then c.unsync &&& (255 - 2 ^ s) else c.unsync ||| 2 ^ s }
    m.setFld n (Cap.POW_PHASE s) (if sync then 1 else 5)

/-- POW_CLOSE_DETECT (R118): contact closing `us` after the firing. From the coil current it is seen with 100 µs resolution, rounded down
(DESIGN CHOICE, notes/assumptions/134.md). LAST_ERR beyond its 16 bits is a free value (notes/assumptions/5.md). -/
def Mach.powClose (k s us : Nat) (m : Mach) : Mach :=
  let n := pgCap k
  let delay := m.fld n (Cap.POW_DELAY s)
  let lo := m.fld n (Cap.POW_MIN s)
  let hi := m.fld n (Cap.POW_MAX s)
  if m.powPhase k s ≠ 2 || m.capType k ≠ 3 || hi + 20000 < us then m
  else
    let us := if m.fld n (Cap.POW_SENSE s) = 0xFFFF then us / 100 * 100 else us
    let err : Int := (us : Int) - delay
    let m := if -32768 ≤ err && err ≤ 32767 then m.setSFld n (Cap.POW_LAST_ERR s) err
      else let f := m.free; f.2.setFld n (Cap.POW_LAST_ERR s) f.1
    let m := (m.setFld n (Cap.POW_PHASE s) 3).incSat n (Cap.POW_CLOSES s)
    if m.isFrozen n || Nat.testBit (m.cap k).unsync s then m
    else
      let want : Int := (delay : Int) + err / 4
      let new := (max (lo : Int) (min want hi)).toNat
      let m := (m.setFld n (Cap.POW_DELAY s) new).adapt 3 n s delay new
      if (new : Int) = want then m else m.raise n 4

/-- POW_TIMEOUT (R118): no closing within MAX + 20 ms of the firing. -/
def Mach.powTimeout (k s us : Nat) (m : Mach) : Mach :=
  let n := pgCap k
  if m.powPhase k s = 2 && m.capType k = 3 && decide (m.fld n (Cap.POW_MAX s) + 20000 ≤ us)
  then (m.setFld n (Cap.POW_PHASE s) 4).raise n 4 else m

/-- A new bound of DELAY clamps it (R320). -/
def Mach.powBounds (k s : Nat) (m : Mach) : Mach :=
  let n := pgCap k
  let d := m.fld n (Cap.POW_DELAY s)
  let new := max (m.fld n (Cap.POW_MIN s)) (min d (m.fld n (Cap.POW_MAX s)))
  if new = d then m else (m.setFld n (Cap.POW_DELAY s) new).adapt 3 n s d new

end Sys2Proof.Machine
end

