-- ==== Sys2Proof/Machine/Windows.lean ====
section
/-! DEFINITION. The windows of HITCH, FID and SPLICE: Hitch entries, Fid peers and proxy bindings, guard entries
(17_backbone_hitch_and_fid.md R437, R440, R444, R448, R450, R451; 18_splice_pairs.md R452, R468). -/

namespace Sys2Proof.Machine

/-! ## Hitch entries (R437, R450) -/

/-- HITCH READ: entry SEL into the window. -/
def Mach.hitchRead (m : Mach) : Mach :=
  let e := m.hentry (m.fld pgHitch Hitch.SEL)
  (m.setRegs pgHitch 0x044 [e.w0, e.w1, e.w2, e.w3, e.w4, e.w5, e.w6]).setReg pgHitch 0x060 (BitVec.ofNat 32 (e.hits * 65536 + e.rejs))

/-- ENTRIES and WATCHED show the table. -/
def Mach.hitchShow (m : Mach) : Mach :=
  (m.setFld pgHitch Hitch.ENTRIES (m.hitch.table.filter fun p => p.2.v).length).setFld pgHitch Hitch.WATCHED m.watched.length

/-- HITCH WRITE: the window into entry SEL, with its counts and what it saw starting afresh. Refused while locked (R450), for reserved
bits, codes and ranges (R437), and beyond 2,048 watched registers (R440). -/
def Mach.hitchWrite (m : Mach) : Mach :=
  let w := fun (k : Nat) => m.reg pgHitch (0x044 + 4 * k)
  let e : HEntry := ⟨w 0, w 1, w 2, w 3, w 4, w 5, w 6, 0, 0, none, none, none, false⟩
  if m.flag pgHitch Hdr.LOCKED then m.refuse pgHitch 0x064 2
  else match e.bad with
  | some r => m.refuse pgHitch 0x064 r
  | none =>
    let m' := m.setHentry (m.fld pgHitch Hitch.SEL) e
    if 2048 < m'.watched.length then m.refuse pgHitch 0x064 3 else m'.hitchShow

/-- A write of HITCH OP: 1 READ, 2 WRITE. -/
def Mach.hitchOp (op : Nat) (m : Mach) : Mach :=
  match op with
  | 1 => m.hitchRead
  | 2 => m.hitchWrite
  | _ => m

/-! ## Fid peers (R444, R445, R451) -/

/-- PEER READ: entry PEER_SEL into the window, with its PSTATE. -/
def Mach.peerRead (m : Mach) : Mach :=
  let p := m.peer (m.fld pgFid Fid.PEER_SEL)
  ((m.setReg pgFid 0x050 p.ctl).setFld pgFid Fid.PSTATE p.pstate).setReg pgFid 0x054 p.ip

/-- FID is ACTIVE while any peer is joined (R451). -/
def Mach.fidSettle (m : Mach) : Mach := m.settle pgFid (m.fid.peers.any fun p => p.2.pstate == 2)

/-- PEER WRITE: the window into entry PEER_SEL. An entry enabled with a slot whose engine mask does not admit Fid is refused with REASON 6
(R444), one written while locked with REASON 2. An entry that changes starts its session afresh. -/
def Mach.peerWrite (m : Mach) : Mach :=
  let k := m.fld pgFid Fid.PEER_SEL
  let ctl := Fid.PSTATE.put (m.reg pgFid 0x050) 0
  let ip := m.reg pgFid 0x054
  let q := m.peer k
  let p : Peer := { peerReset with ctl := ctl, ip := ip, tx := q.tx }
  if p.en && (m.engineKey p.slot 0 [1, 2]).isNone then m.refuse pgFid 0x064 6
  else if m.flag pgFid Hdr.LOCKED then m.refuse pgFid 0x064 2
  else if q.ctl = ctl && q.ip = ip then m
  else
    let m := m.sessionDrop k
    (m.proxiesOf k).foldl (fun (m : Mach) n => m.proxyShow n) (m.setPeer k p).fidSettle

/-! ## Proxy bindings (R448, R451) -/

/-- PROXY READ: binding PROXY_SEL into the window. -/
def Mach.proxyRead (m : Mach) : Mach :=
  let b := tget m.proxies proxyReset (m.fld pgFid Fid.PROXY_SEL)
  (m.setReg pgFid 0x05C (BitVec.ofNat 32 ((if b.bind then 2 ^ 31 else 0) + b.len * 2 ^ 24 + b.peer * 2 ^ 16 + b.remote))).setFld pgFid
    Fid.CACHE_OFS b.ofs

/-- The header registers a new binding reads (R448). -/
def headerReads : List Nat := [0x000, 0x004, 0x00C, 0x014, 0x018, 0x020, 0x028]

/-- A page's registers and what is held behind its header return to their reset values. -/
def Mach.clearPage (n : Nat) (m : Mach) : Mach :=
  let keep := fun (q : Nat × Word) => decide (q.1 / 4096 ≠ n)
  { m with live := m.live.filter keep, shadow := m.shadow.filter keep, units := terase m.units n }

/-- PROXY WRITE: the window into binding PROXY_SEL, refused while locked. A new binding subscribes the remote unit and reads its header
(R448); an ended one leaves the page unoccupied. -/
def Mach.proxyBind (m : Mach) : Mach :=
  let k := m.fld pgFid Fid.PROXY_SEL
  let b : ProxyAux := ⟨m.flag pgFid Fid.BIND, m.fld pgFid Fid.CACHE_LEN, m.fld pgFid Fid.PEER, m.fld pgFid Fid.REMOTE,
    m.fld pgFid Fid.CACHE_OFS⟩
  let n := pgProxy k
  if m.flag pgFid Hdr.LOCKED then m.refuse pgFid 0x064 2
  else
    let old := tget m.proxies proxyReset k
    let m := { m with proxies := tput m.proxies proxyReset k b }
    if old = b then m
    else
      let m := m.clearPage n
      if b.bind then
        let m := m.gather n (.subscribe b.remote)
        let m := headerReads.foldl (fun (m : Mach) o => m.gather n (.read b.remote o)) m
        let m := (List.range b.len).foldl (fun (m : Mach) i => m.gather n (.read b.remote (b.ofs + 4 * i))) m
        m.proxyShow n
      else m

/-- A write of FID OP: 1 READ peer, 2 WRITE peer, 3 READ proxy, 4 WRITE proxy. -/
def Mach.fidOp (op : Nat) (m : Mach) : Mach :=
  match op with
  | 1 => m.peerRead
  | 2 => m.peerWrite
  | 3 => m.proxyRead
  | 4 => m.proxyBind
  | _ => m

/-! ## Guard entries (R452, R468) -/

/-- A guard entry never written. -/
def guardNone : Guard := ⟨false, false, 0, 0, 0, 0⟩

/-- The pair's configuration may change: PSTATE NONE, SOLO or SPLIT (R468). -/
def Mach.pairOpen (m : Mach) : Bool :=
  let s := m.fld pgSplice Splice.PSTATE
  s == 0 || s == 5 || s == 6

/-- GUARD READ: entry GSEL into the window. -/
def Mach.guardRead (m : Mach) : Mach :=
  let g := tget m.guards guardNone (m.fld pgSplice Splice.GSEL)
  (m.setReg pgSplice 0x054 (BitVec.ofNat 32 ((if g.en then 2 ^ 31 else 0) + (if g.step then 2 ^ 30 else 0) + g.kind * 2 ^ 28
    + g.ctrW * 2 ^ 21 + g.unit))).setFld pgSplice Splice.CTR_POS g.ctrPos

/-- The items a guard entry names: units, or one object or telegram. -/
def Mach.guardItems (m : Mach) (g : Guard) : List (Nat × Nat) :=
  if g.kind = 0 then (g.unit :: m.unitsOf g.unit).map fun n => (0, n) else [(g.kind, g.unit)]

/-- Whether an entry may stand (R452): its unit is guardable, its object or telegram exists, and no other enabled entry names an index it
names, directly or through a Bight. -/
def Mach.guardOk (m : Mach) (sel : Nat) (g : Guard) : Bool :=
  !g.en || ((match g.kind with
      | 0 => m.occupied g.unit && (m.peek g.unit 0x004).getLsbD 2
      | 1 => decide (g.unit / 256 < 6) && decide (g.unit % 256 < 128)
      | _ => decide (g.unit < 256))
    && !((m.guards.filter fun q => decide (q.1 ≠ sel) && q.2.en).any fun q =>
      (m.guardItems q.2).any fun x => (m.guardItems g).contains x))

/-- GUARD WRITE: the window into entry GSEL, refused with REASON 3 while the pair is formed or forming, and by R452. -/
def Mach.guardWrite (m : Mach) : Mach :=
  let sel := m.fld pgSplice Splice.GSEL
  let g : Guard := ⟨m.flag pgSplice Splice.EN, m.flag pgSplice Splice.MODE, m.fld pgSplice Splice.KIND, m.fld pgSplice Splice.CTR_W,
    m.fld pgSplice Splice.UNIT, m.fld pgSplice Splice.CTR_POS⟩
  if !m.pairOpen || !m.guardOk sel g then m.refuse pgSplice 0x05C 3
  else { m with guards := tput m.guards guardNone sel g }

/-- A write of GOP: 1 READ, 2 WRITE. -/
def Mach.guardOp (op : Nat) (m : Mach) : Mach :=
  match op with
  | 1 => m.guardRead
  | 2 => m.guardWrite
  | _ => m

end Sys2Proof.Machine
end

