-- ==== Sys2Proof/Machine/Pages.lean ====
section
/-! DEFINITION. A write and a read of a page register: the refusals of R74 in their order, what a write stores, the registers that have a
behaviour of their own, and the fan-out of a Bight's window (02_units_and_pages.md R54 to R87, and the register table of each class
chapter). -/

namespace Sys2Proof.Machine

/-! ## Reserved codes and ranges -/

/-- A field a write can place a value in. -/
def fieldTakes (f : FldDef) : Bool := f.acc == .rw || f.acc == .rws || f.acc == .wo

/-- The value a written word gives a field. -/
def fieldVal (f : FldDef) (w : Word) : Nat := (⟨0, f.hi, f.lo⟩ : Fld).of w

/-- The word places an undefined code into a defined field (R73). -/
def fieldReserved (f : FldDef) (w : Word) : Bool :=
  fieldTakes f && (match f.chk with
    | .max k => decide (k < fieldVal f w)
    | .core => fieldVal f w == 6
    | _ => false)

/-- The word places a value outside the range the field defines (R74). -/
def fieldOutside (f : FldDef) (w : Word) : Bool :=
  fieldTakes f && (match f.chk with
    | .rng a b => decide (fieldVal f w < a) || decide (b < fieldVal f w)
    | .zrng a b => fieldVal f w != 0 && (decide (fieldVal f w < a) || decide (b < fieldVal f w))
    | _ => false)

/-- A register with a field locked by LOCK.LOCKED (R75): access RW, and no selector or staged register. MODE of the JB4410 image is RW
(R237). -/
def regLocks (c : Cls) (off : Nat) : Bool :=
  match regDef c off with
  | some r => !r.free && r.flds.any fun f => f.acc == .rw
  | none => c == .compat && off == 0x100

/-- Signal codes and loss reactions a base type admits (R93, R96). -/
def capSrcOk (type src : Nat) : Bool :=
  match type with
  | 2 => decide (src < 2)
  | 3 => decide (src < 2)
  | 4 => decide (src < 3)
  | _ => src == 0
def capLosOk (type src los : Nat) : Bool :=
  match type with
  | 2 => los == 0
  | 3 => decide (los < 2)
  | 4 => if src = 2 then decide (los < 2) else decide (los < 3)
  | 5 => decide (los < 2)
  | _ => decide (los < 3)

/-- Undefined codes beyond the tables' maxima (R64, R93, R97, R237, R476, R480, R482). -/
def codeBad (n off : Nat) (w : Word) : Bool :=
  if off = 0x020 then !(info (clsOf n)).safe.contains (Hdr.SAFE_STATE.of w)
  else match clsOf n, off with
  | .cap, 0x040 =>
    let t := Cap.TYPE.of w
    !capSrcOk t (Cap.SRC.of w) || !capLosOk t (Cap.SRC.of w) (Cap.LOS.of w)
  | .pwr, 0x040 => Pwr.TARGET.of w == 0 || Pwr.TARGET.of w == 3
  | .pwr, 0x064 => decide (6 ≤ Pwr.CTRL.of w)
  | .watchseq, _ => decide (0x100 ≤ off) && decide (off < 0x200) && decide (7 ≤ stepOp w)
  | .compat, 0x1A8 => decide (1 < w.toNat % 256)
  | _, _ => false

/-- A unit in OFF or IDLE. -/
def Mach.quiet (m : Mach) (n : Nat) : Bool := decide (m.st n ≤ 1)

/-- Registers a class chapter makes writable only in OFF or IDLE: REASON 3 in other states. A channel that BOOT_ON holds counts as such
(R149). -/
def quietOffs : Cls → List Nat
  | .out => [0x040, 0x050, 0x054, 0x058, 0x05C, 0x064]
  | .bridge => [0x040, 0x04C, 0x050, 0x054, 0x058, 0x05C, 0x060, 0x064]
  | .rat => [0x040, 0x050, 0x054, 0x058, 0x05C]
  | .sink => [0x040, 0x050, 0x054]
  | .valve => [0x040, 0x048, 0x04C, 0x054, 0x058, 0x05C, 0x060]
  | .inp => [0x040, 0x044, 0x048, 0x04C]
  | .touch => [0x040, 0x044, 0x048, 0x04C, 0x050]
  | .lin => [0x040]
  | .tether => [0x040, 0x044, 0x048, 0x04C, 0x050, 0x054]
  | _ => []

/-- The ranges of PERIOD and SCALE by base type (R113); a PERIOD of 0 is R95's. -/
def capPeriodOk (type v : Nat) : Bool :=
  v = 0 || (match type with
    | 0 => decide (v ≤ 16777215)
    | 2 => decide (v ≤ 4095)
    | 3 => decide (15000 ≤ v) && decide (v ≤ 70000)
    | 4 => decide (8333334 ≤ v) && decide (v ≤ 100000000)
    | 5 => decide (1000 ≤ v)
    | _ => true)
def capScaleOk (type v : Nat) : Bool :=
  match type with
  | 2 => decide (300 ≤ v) && decide (v ≤ 4000)
  | 4 => decide (1 ≤ v) && decide (v ≤ 4095)
  | _ => true

/-- Out of range on a CAP page (R112, R113, R116). -/
def Mach.capRange (m : Mach) (n off : Nat) (w : Word) : Bool :=
  let t := m.fld n Cap.TYPE
  match off with
  | 0x040 => m.st n != 0
  | 0x044 => !capPeriodOk t w.toNat
  | 0x048 => !capScaleOk t w.toNat
  | 0x050 => t == 0 && decide (0x10000 ≤ w.toNat)
  | _ =>
    if 0x100 ≤ off && decide (off < 0x200) then
      t != 3 || (match (off - 0x100) % 0x20 with
        | 0x00 =>
          let o := w.toNat / 65536
          let s := w.toNat % 65536
          !(o == 0 || (decide (0x20 ≤ o) && decide (o < 0xA0))) || !(s == 0xFFFF || (decide (0x100 ≤ s) && decide (s < 0x160)))
        | 0x0C => decide (w.toNat / 65536 < w.toNat % 65536)
        | _ => false)
    else false

/-- A GROUP value that would make a group of more than 4 members, or of different class or bank (R144). -/
def Mach.groupBad (m : Mach) (c g : Nat) : Bool :=
  let others := (List.range 128).filter fun d => d != c && m.fld (pgOut d) Out.GROUP == g
  g != 0 && (decide (4 ≤ others.length) || others.any fun d => outClass d != outClass c || bankOf (pgOut d) != bankOf (pgOut c))

/-- Out of range on an OUT page (R124, R127, R130, R132, R168, R169, R174, R175, R219). The firmware's own choice of DIV comes from S0
or S1. -/
def Mach.outRange (m : Mach) (src : Src) (n off : Nat) (w : Word) : Bool :=
  let c := n - 0x20
  let between := fun (v a b : Nat) => decide (a ≤ v) && decide (v ≤ b)
  let lo := m.fld n Out.FLOOR
  match off with
  | 0x048 => !between w.toNat (outPmin c) 100000000
  | 0x04C =>
    m.divHanded n && Out.DIV.of w != m.shFld n Out.DIV && (match src with | .core k => decide (2 ≤ k.val) | _ => true)
  | 0x050 => !between (Out.ILIM.of w) 50 (m.outRating c)
  | 0x058 => !between (Out.ISTART.of w) 50 (m.outRating c)
  | 0x064 => m.groupBad c (Out.GROUP.of w)
  | 0x110 => !m.quiet n || !between (w.toNat / 65536) lo (64 * lo) || !between (w.toNat % 65536) lo (64 * lo)
  | 0x114 => !m.quiet n || !between (w.toNat / 65536) lo (64 * lo) || !between (w.toNat % 65536) lo (64 * lo)
  | 0x130 =>
    decide (m.outRating c < Out.STEP.of w) || (Out.EN.of w == 1 && (m.fld n Out.GROUP != 0 || m.flag n Out.DUPLEX))
  | 0x13C => w.toNat % 8192 != 0 || !between w.toNat 0x20000000 0x203FE000
  | _ => false

/-- Out of range on a BRIDGE page (R184, R186, R188, R197, R198, R203). -/
def Mach.bridgeRange (m : Mach) (n off : Nat) (w : Word) : Bool :=
  let b := n - 0xA0
  match off with
  | 0x040 => Bridge.PINCH_EN.of w == 1 && !m.flag n Bridge.SPAN
  | 0x044 => Bridge.DUTY.of w == 0x8000 || !m.brModeOk b (Bridge.MODE.of w)
  | 0x050 => decide (Bridge.ILIM.of w < 100) || decide (bridgeRating (m.bankClass (bankOf n)) < Bridge.ILIM.of w)
  | 0x064 =>
    let p := Bridge.PARK_IN.of w
    !(p == 0xFFFF || (decide (0x100 ≤ p) && decide (p < 0x160)))
  | 0x068 => decide (Bridge.IV_MAX.of w < Bridge.IV_MIN.of w)
  | 0x06C => Bridge.PARK_OFS.of w != 0 && decide (m.fld n Bridge.CYCLE ≤ Bridge.PARK_OFS.of w)
  | 0x08C => decide (Bridge.PMAX.of w < Bridge.PMIN.of w) || decide (20000 < Bridge.PMAX.of w)
  | _ =>
    if 0x100 ≤ off && decide (off < 0x180) then
      let bad := fun (v : Nat) => decide (v < m.fld n Bridge.PMIN) || decide (m.fld n Bridge.PMAX < v)
      !m.quiet n || bad (w.toNat / 65536) || bad (w.toNat % 65536)
    else false

/-- Out of range on the other pages. -/
def Mach.otherRange (m : Mach) (src : Src) (n off : Nat) (w : Word) : Bool :=
  let fw := match src with | .core k => decide (k.val < 2) | _ => false
  match clsOf n, off with
  | .rat, 0x04C => m.divHanded n && !fw
  | .rat, 0x050 => decide (Rat.FMAX.of w < Rat.FMIN.of w)
  | .sink, 0x04C => m.divHanded n && Sink.DIV.of w != m.shFld n Sink.DIV && !fw
  | .sink, 0x054 => decide (Sink.FMAX.of w < Sink.FMIN.of w)
  | .valve, 0x060 => decide (Valve.R_MAX.of w < Valve.R_MIN.of w)
  | .inp, 0x040 => Inp.STATIC.of w == 1 && (decide (16 ≤ n - 0x100) || Inp.NETWORK.of w == 1)
  | .inp, 0x04C => decide (Inp.CT_MAX.of w < Inp.CT_MIN.of w)
  | .touch, 0x048 => decide (Touch.TOUCH_TH.of w ≤ Touch.REL_TH.of w)
  | .can, _ => !m.canWriteOk (n - 0x170) off w
  | .splice, 0x040 => !m.pairOpen
  | .splice, 0x044 => !m.pairOpen || decide (0x20400000 < (m.reg n 0x048).toNat + Splice.SH_LEN.of w * 1024)
  | .splice, 0x048 =>
    !m.pairOpen || w.toNat % 4096 != 0 || decide (w.toNat < 0x20080000)
      || decide (0x20400000 < w.toNat + m.fld n Splice.SH_LEN * 1024) || decide (0x203FFFFF < w.toNat)
  | .splice, 0x050 => !m.pairOpen
  | .splice, 0x054 => !m.pairOpen
  | .splice, 0x058 => !m.pairOpen
  | .tether, 0x04C =>
    let h := Tether.HANDLE.of w
    h != 0xFFFF && clsOf h != .touch && clsOf h != .inp
  | .fid, 0x060 => Fid.CACHE_OFS.of w % 4 != 0
  | .pwr, 0x064 => decide (2 ≤ Pwr.CTRL.of w) || Pwr.NM_BASE.of w % 0x40 != 0
  | .pwr, 0x06C => decide (Pwr.SKIP_T.of w < m.fld n Pwr.T_HOP + 10)
  | .watchseq, _ =>
    if 0x100 ≤ off && decide (off < 0x200) then
      (match stepOp w with
        | 2 => !(decide (0x70 ≤ stepA w) && decide (stepA w < 0xA0))
        | 3 => !(decide (0x70 ≤ stepA w) && decide (stepA w < 0xA0))
        | 4 => !(decide (0x100 ≤ stepA w) && decide (stepA w < 0x160)) || decide (96 < stepB w)
        | _ => false)
    else false
  | .locker, _ =>
    if 0x100 ≤ off && (off - 0x100) % 0x20 == 0x0C then decide (4096 < w.toNat % 65536) || decide (w.toNat % 65536 < w.toNat / 65536)
    else false
  | _, _ => false

/-- A value outside the range a field defines, or a write its register does not take in the unit's state (R74, REASON 3). -/
def Mach.rangeBad (m : Mach) (src : Src) (n off : Nat) (w : Word) : Bool :=
  let c := clsOf n
  ((match regDef c off with | some r => r.flds.any fun f => fieldOutside f w | none => false)
    || ((quietOffs c).contains off && !m.quiet n && !(c == .out && m.flag n Out.BOOT_HELD)))
    || (match c with
      | .cap => m.capRange n off w
      | .out => m.outRange src n off w
      | .bridge => m.bridgeRange n off w
      | _ => m.otherRange src n off w)

/-- The reason a write to an own register of a unit is refused, after those of its source (R74). -/
def Mach.denies (m : Mach) (src : Src) (n off : Nat) (w : Word) : Option Nat :=
  let c := clsOf n
  let locked := m.flag n Hdr.LOCKED && (off = 0x01C || off = 0x020 || off = 0x024 || off = 0x028 || (decide (0x040 ≤ off) && regLocks c off))
  if locked then some 2
  else if (match regDef c off with | some r => decide (0x040 ≤ off) && r.flds.any fun f => fieldReserved f w | none => false) || codeBad n off w then some 1
  else if decide (0x040 ≤ off) && m.rangeBad src n off w then some 3
  else none

/-! ## The header -/

/-- PARENT (R75, R79): a locked Bight gains and loses no member; only Bights are parents; no cycle. -/
def Mach.parentWrite (n p : Nat) (m : Mach) : Mach :=
  let old := m.parent n
  let held := fun (b : Nat) => b != 0xFFFF && clsOf b == .bight && m.flag b Hdr.LOCKED
  if p != old && (held old || held p) then m.refuse n 0x024 2
  else if p != 0xFFFF && clsOf p != .bight then m.refuse n 0x024 3
  else if p != 0xFFFF && (p == n || (m.ancestors p).contains n) then m.refuse n 0x024 4
  else m.setReg n 0x024 (BitVec.ofNat 32 p)

/-- BASE (R107): a changed BASE.CAP disarms every Mark that targets the unit, or a Bight that reads it. -/
def Mach.baseWrite (n v : Nat) (m : Mach) : Mach :=
  let after := m.setReg n 0x028 (BitVec.ofNat 32 (v % 8))
  ((n :: m.ancestors n).filter fun u => m.peek u 0x028 != after.peek u 0x028).foldl (fun (m : Mach) u => m.disarmTarget u) after

/-- LOCK (R60): LOCKED is only set. -/
def Mach.lockWrite (n : Nat) (w : Word) (m : Mach) : Mach := if w.getLsbD 0 then m.setReg n 0x02C 1 else m

/-- A write to the header of a unit or Bight, CMD aside. -/
def Mach.headerWrite (n off : Nat) (w : Word) (m : Mach) : Mach :=
  match off with
  | 0x018 => m.clearBits n w
  | 0x01C => m.setReg n 0x01C (w &&& BitVec.ofNat 32 (info (clsOf n)).srcs)
  | 0x020 => m.setReg n 0x020 (w &&& 0xFF07#32)
  | 0x024 => m.parentWrite n (w.toNat % 65536)
  | 0x028 => m.baseWrite n (w.toNat % 8)
  | 0x02C => m.lockWrite n w
  | _ => m

/-! ## Class registers -/

/-- What a write stores (R7, R70): RW bits in the register, RWS bits in its shadow with SHADOW_DIRTY, W1C bits clear where 1 is written. -/
def Mach.store (n off : Nat) (w : Word) (m : Mach) : Mach :=
  match regDef (clsOf n) off with
  | none => m
  | some r =>
    let rw := BitVec.ofNat 32 (r.bits (· == .rw))
    let rws := BitVec.ofNat 32 (r.bits (· == .rws))
    let w1c := BitVec.ofNat 32 (r.bits (· == .w1c))
    let old := m.reg n off
    let m := m.setReg n off (((old &&& ~~~rw) ||| (w &&& rw)) &&& ~~~(w &&& w1c))
    if rws = 0 then m
    else (m.setShd n off ((m.shd n off &&& ~~~rws) ||| (w &&& rws))).setFlag n Hdr.SHADOW_DIRTY true

/-- The JB4410 image (R237): MODE fans ENABLE or DISABLE out, LATCH applies SINKCOMPAT and every sink. -/
def Mach.imageSet (a v : Nat) (m : Mach) : Mach :=
  if a = 0 then
    let m := m.setReg pgCompat 0x100 (BitVec.ofNat 32 v)
    (List.range 16).foldl (fun (m : Mach) k =>
      if m.absent (pgSink k) then m else if v % 2 = 1 then m.enableUnit (pgSink k) else m.disableUnit (pgSink k)) m
  else if a = 0x2A then (if v = 1 then m.applyUnit pgCompat else m)
  else m.imageWrite a v

/-- Bounds and settings that act at the write (R311, R320). `old` is the register before. -/
def Mach.stored (n off : Nat) (old : Word) (m : Mach) : Mach :=
  match clsOf n, off with
  | .out, 0x064 => m.refreshFollowers
  | .out, 0x11C =>
    let lo := m.fld n Out.FLOOR
    [(0, Out.BASE0), (1, Out.BASE1), (2, Out.BASE2), (3, Out.BASE3)].foldl (fun (m : Mach) (q : Nat × Fld) =>
      let v := m.fld n q.2
      let v' := max lo (min v (64 * lo))
      if v' = v then m else (m.setFld n q.2 v').adapt 7 n q.1 v v') m
  | .out, 0x140 => m
  | .out, 0x154 =>
    let m := m.derate (n - 0x20)
    let f := m.fld n Out.F
    let lo := m.fld n Out.FMIN
    if f < lo then ((m.setFld n Out.F lo).setFld n Out.I_LED (lo * m.outRating (n - 0x20) / 100)).adapt 2 n 0 f lo else m
  | .bridge, 0x058 => m.setBrPos (n - 0xA0) (m.brPos (n - 0xA0))
  | .bridge, 0x08C =>
    (List.range 64).foldl (fun (m : Mach) k =>
      let v := m.profile (n - 0xA0) k
      let v' := max (m.fld n Bridge.PMIN) (min v (m.fld n Bridge.PMAX))
      if v' = v then m else (m.setProfile (n - 0xA0) k v').adapt 4 n k v v') m
  | .rat, 0x050 => m.divChoice n
  | .sink, 0x054 => m.divChoice n
  | .rat, 0x05C => m.bypassCount (n - 0xC0)
  | .out, 0x130 =>
    if Out.EN.of old = 0 && m.flag n Out.EN then m.modOut (n - 0x20) fun a => { a with refStale := true } else m
  | .valve, 0x05C => m.coilShow (n - 0xA8)
  | .valve, 0x060 => m.coilBounds (n - 0xA8)
  | .boost, 0x040 => m.boostSettle
  | .inp, 0x04C => m.ctBounds (n - 0x100)
  | .touch, 0x050 => m.touchBounds (n - 0x160)
  | .msg, 0x040 => (m.msgSettle (n - 0xD8)).chainOff (n - 0xD8)
  | .lin, 0x040 => m.linSettle (n - 0x176)
  | .eth, _ => m.ethSettle
  | .bank, _ => (m.bankSettle (n - 0x18)).trigShow
  | .watchseq, _ => m.periodShow
  | .pwr, 0x064 => m.nmStart
  | .policy, 0x040 =>
    let m := if Policy.GFREEZE.of old = m.fld n Policy.GFREEZE then m else m.gfreeze
    if Policy.SHED_EN.of old = 0 && m.flag n Policy.SHED_EN then m.shedEnabled else m
  | .policy, 0x0088 => m.trigShow.ceilClamp 0
  | .policy, 0x008C => m.trigShow.ceilClamp 1
  | .policy, 0x0090 => m.trigShow.ceilClamp 2
  | .policy, 0x0094 => m.trigShow.ceilClamp 3
  | .cap, _ =>
    if 0x100 ≤ off && (off - 0x100) % 0x20 == 0x0C then m.powBounds (n - 0x10) ((off - 0x100) / 0x20) else m
  | _, _ => m

/-- A register with a behaviour of its own: what a write to it does; none for any other register. -/
def Mach.special (src : Src) (n off : Nat) (w : Word) (m : Mach) : Option Mach :=
  let low := fun (k : Nat) => w.toNat % 2 ^ k
  match clsOf n, off with
  | .dev, 0x050 => some m
  | .pwr, 0x044 => some (if low 2 = 1 then m.sleepOp src else m)
  | .pwr, 0x048 => some (m.dozeRequest (Pwr.DOZE_REQ.of w))
  | .pwr, 0x078 => some (m.consentWrite (w.getLsbD 0))
  | .clk, 0x040 =>
    if Clk.CORE_SRC.of w = 1 && !m.flag n Clk.LOCKED then some (m.refuse n 0x040 3)
    else
    let m := m.setFlag n Clk.TRIM_EN (Clk.TRIM_EN.of w = 1)
    let m := if Clk.PLL_EN.of w = m.fld n Clk.PLL_EN then m else m.pllEn (Clk.PLL_EN.of w = 1)
    some (if Clk.PLL_EN.of w = 1 && Clk.CORE_SRC.of w ≠ m.fld n Clk.CORE_SRC then m.coreSrc (Clk.CORE_SRC.of w = 1) else m)
  | .reckon, 0x05C => some (m.srcWrite (low 1))
  | .reckon, 0x068 => some (if low 1 = 1 then m.utcSet else m)
  | .lay, 0x05C => some (m.softWrite (low 16))
  | .lay, 0x084 => some (match low 2 with | 1 => m.entryRead | 2 => m.entryWrite | _ => m)
  | .tlog, 0x064 => some (match low 2 with | 1 => m.tlogRead | 2 => m.tlogAppend src | _ => m)
  | .policy, 0x0C0 =>
    some (match low 2 with | 1 => m.polRead (Policy.SEL.of w) | 2 => m.polWrite (Policy.SEL.of w) | 3 => m.polStore | _ => m)
  | .locker, 0x040 => some (m.tamperCfg (low 14))
  | .locker, 0x060 => some (match low 2 with | 1 => m.slotRead | 2 => m.writeAttr | _ => m)
  | .tether, 0x070 => some (match low 2 with | 1 => m.tetherRequest | 2 => m.tetherWithdraw | _ => m)
  | .tether, 0x084 => some (match low 2 with | 1 => m.tokenRead | 2 => m.tokenWrite | _ => m)
  | .splice, 0x05C => some (m.guardOp (low 2))
  | .fid, 0x064 => some (m.fidOp (low 3))
  | .eth, 0x07C => some (match low 2 with | 1 => m.telRead | 2 => m.telWrite | _ => m)
  | .hitch, 0x064 => some (m.hitchOp (low 2))
  | .strandctl, 0x048 => some (m.irqSet (Strandctl.CORE.of w) (Strandctl.VECTOR.of w))
  | .cap, 0x05C => some (m.advance (n - 0x10) w)
  | .cap, 0x060 => some (m.setpos (n - 0x10) w)
  | .cap, 0x094 => some (m.markOp (n - 0x10) (low 2))
  | .bank, 0x040 => some (m.bankCfg (n - 0x18) w)
  | .bridge, 0x070 => some (m.brPosWrite (n - 0xA0) w)
  | .msg, 0x048 => some (if low 3 = 0 then m else m.enumOp (n - 0xD8) (low 3))
  | .sat, 0x04C => some ((m.store n off w).satSync ((n - 0x1000) / 0x400) ((n - 0x1000) % 0x400) (low 1))
  | .can, 0x054 => some (if low 1 = 1 then m.canRecover (n - 0x170) else m)
  | .can, 0x07C =>
    let c := n - 0x170
    some (match low 3 with | 1 => m.canObjRead c | 2 => m.canObjWrite c | 3 => m.canTxReq c | 4 => m.canAbort c | _ => m)
  | .lin, 0x05C => some (match low 2 with | 1 => m.linFrmRead (n - 0x176) | 2 => m.linFrmWrite (n - 0x176) | _ => m)
  | .lin, 0x060 => some (m.linOp (n - 0x176) (low 3))
  | .out, 0x140 => some (let m := m.store n off w; if w.getLsbD 0 then m.snapGo (n - 0x20) else m)
  | c, _ =>
    if c == .policy && decide (0x048 ≤ off) && decide (off < 0x058) then some (m.alive src (2 + (off - 0x048) / 4) (low 16))
    else if c == .strandctl && decide (0x100 ≤ off) && decide (off < 0x280) then
      let k := (off - 0x100) / 0x40
      match (off - 0x100) % 0x40 with
      | 0x00 => some (m.coreOp k (low 3))
      | 0x18 => some ((m.store n off w).coresWake)
      | _ => none
    else if c == .cap && decide (0x100 ≤ off) && (off - 0x100) % 0x20 == 0x10 then
      some (if w.getLsbD 0 then m.powGo (n - 0x10) ((off - 0x100) / 0x20) else m)
    else if c == .rat && decide (0x100 ≤ off) && decide (off < 0x120) then some (m.bypassRelease (n - 0xC0) ((off - 0x100) / 4) w)
    else if c == .compat && decide (0x100 ≤ off) && decide (off < 0x1C0) then some (m.imageSet ((off - 0x100) / 4) (low 8))
    else if c == .locker && decide (0x100 ≤ off) && decide (off < 0x1C0) && (off - 0x100) % 0x20 == 0 then
      some (m.mbCmd ((off - 0x100) / 0x20) w)
    else none

/-- An accepted write to a class register. -/
def Mach.classWrite (src : Src) (n off : Nat) (w : Word) (m : Mach) : Mach :=
  match m.special src n off w with
  | some m => m
  | none => (m.store n off w).stored n off (m.reg n off)

/-- A write to an own register of a unit that is no proxy, its source admitted. -/
def Mach.unitWrite (src : Src) (n off : Nat) (w : Word) (m : Mach) : Mach :=
  match m.denies src n off w with
  | some r => m.refuse n off r
  | none => if off < 0x040 then m.headerWrite n off w else m.classWrite src n off w

/-! ## Proxies -/

/-- The class a class code names. -/
def clsOfCode (k : Nat) : Cls :=
  ([.dev, .pwr, .clk, .reckon, .lay, .tlog, .logline, .policy, .locker, .tether, .splice, .fid, .eth, .hitch, .watchseq, .strandctl, .cap,
    .bank, .out, .bridge, .valve, .vhs, .boost, .rat, .msg, .sink, .compat, .inp, .touch, .can, .lin, .sat].find? fun c =>
      (info c).code == k).getD .none

/-- A write to a proxy page (R448): FAULT_MASK, PARENT and LOCK are local; FAULT_SET, SAFE, BASE and the class window are forwarded. -/
def Mach.proxyPage (n off : Nat) (w mask : Word) (m : Mach) : Mach :=
  let locked := m.flag n Hdr.LOCKED && (off = 0x01C || off = 0x020 || off = 0x024 || off = 0x028
    || (decide (0x040 ≤ off) && regLocks (clsOfCode (m.classCode n)) off))
  if m.proxyLost n then m.refuse n off 5
  else if locked then m.refuse n off 2
  else match off with
    | 0x01C => m.setReg n 0x01C ((m.reg n off &&& ~~~mask) ||| (w &&& mask))
    | 0x024 => m.parentWrite n (((m.reg n off &&& ~~~mask) ||| (w &&& mask)).toNat % 65536)
    | 0x02C => m.lockWrite n (w &&& mask)
    | 0x018 => m.proxyWrite n off w mask
    | 0x020 => m.proxyWrite n off w mask
    | 0x028 => m.proxyWrite n off w mask
    | _ => if 0x040 ≤ off && decide (off < 0xF00) then m.proxyWrite n off w mask else m

/-! ## Writes to a page -/

/-- The word a write of the bits `mask` makes for a register: the other bits are kept, and nothing is cleared by them (R441, R443). -/
def Mach.merged (m : Mach) (n off : Nat) (w mask : Word) : Word :=
  let once := if off = 0x018 then 0xFFFFFFFF#32
    else match regDef (clsOf n) off with
      | some r => BitVec.ofNat 32 (r.bits (· == .w1c))
      | none => 0
  (m.peek n off &&& ~~~(mask ||| once)) ||| (w &&& mask)

/-- A write of the bits `mask` to an occupied page that is no Bight. Answers whether it was refused. A write to a register that an OUT
follower reads from its head is ignored without refusal (R145). -/
def Mach.leafWrite (src : Src) (n off : Nat) (w mask : Word) (fanned : Bool) (m : Mach) : Bool × Mach :=
  match m.gate src n off with
  | some m => (true, m)
  | none =>
    if m.ofHead n off then (false, m)
    else
    let q := m.attempt n fun m => if clsOf n == .proxy then m.proxyPage n off w mask else m.unitWrite src n off (m.merged n off w mask)
    (q.1, if q.1 && !fanned then q.2 else q.2.setDirect src fanned n off)

/-- A write to every leaf of a Bight (R84, R86). -/
def Mach.fanWrite (src : Src) (b off : Nat) (w mask : Word) (m : Mach) : Mach :=
  let r := (m.leaves b).foldl (fun (a : List Nat × Mach) k =>
    let q := a.2.leafWrite src k off w mask true
    (if q.1 then a.1 ++ [k] else a.1, q.2)) ([], m)
  r.2.fanDone b r.1

/-- A write to a Bight page, CMD aside (R75, R79, R81, R82, R84): SAFE and BASE, and the class window when the leaves share a class, go to
every leaf, unless the Bight's own LOCK refuses them. -/
def Mach.bightWrite (src : Src) (b off : Nat) (w mask : Word) (m : Mach) : Mach :=
  match m.gate src b off with
  | some m => m
  | none =>
    let lock := m.flag b Hdr.LOCKED
    let own := (m.reg b off &&& ~~~mask) ||| (w &&& mask)
    match off with
    | 0x020 =>
      if lock then m.refuse b off 2
      else if decide (4 ≤ Hdr.SAFE_STATE.of (w &&& mask)) then m.refuse b off 1
      else m.fanWrite src b off w mask
    | 0x024 => if lock then m.refuse b off 2 else m.parentWrite b (own.toNat % 65536)
    | 0x028 => if lock then m.refuse b off 2 else m.fanWrite src b off w mask
    | 0x02C => m.lockWrite b (w &&& mask)
    | 0xF04 => m.setReg b 0xF04 (own &&& 0xFFFF#32)
    | _ =>
      if 0x040 ≤ off && decide (off < 0xF00) then
        let code := m.leafCode b
        if lock && regLocks (clsOfCode code) off then m.refuse b off 2
        else if code = 0 then m.refuse b off 3
        else m.fanWrite src b off w mask
      else m

/-- A write of the bits `mask` to a page (R55, R56, R74). -/
def Mach.maskWrite (src : Src) (origin : Word) (n off : Nat) (w mask : Word) (m : Mach) : Mach :=
  if off = 0x008 then m.cmdWrite src origin n (w &&& mask)
  else if !m.occupied n then m.stray n off
  else if clsOf n == .bight then m.bightWrite src n off w mask
  else (m.leafWrite src n off w mask false).2

/-- A write of a word to a page. -/
def Mach.pageWrite (src : Src) (n off : Nat) (w : Word) (m : Mach) : Mach := m.maskWrite src noOrigin n off w 0xFFFFFFFF#32

/-- A read of a page: the word, and the machine after the read's side effects. -/
def Mach.pageRead (n off : Nat) (m : Mach) : Word × Mach := (m.peek n off, m.readEffect n off)

end Sys2Proof.Machine
end

