-- ==== Sys2Proof/Machine/Links.lean ====
section
/-! DEFINITION. Hitch lookups and the Fid protocol: messages of a peer, the outstanding requests, sessions, reports and the pages of
proxies (17_backbone_hitch_and_fid.md R438 to R448). -/

namespace Sys2Proof.Machine

/-! ## Hitch (R439 to R441) -/

/-- A transmission request reaches its object (R440, R442): a CAN send object, a LIN publish entry, the publish telegrams of a ComID. A
request to an object that is no enabled send object is refused with REASON 3 (R412). -/
def Mach.trigNow (e : HEntry) (m : Mach) : Mach :=
  match e.dk with
  | 1 =>
    let c := e.dkeyB / 128
    if m.canSendable c (e.dkeyB % 128) then m.canRequest c (e.dkeyB % 128) else m.refuse (pgCan c) 0x07C 3
  | 2 => m.linRequest e.dkeyB (e.w3.toNat % 64)
  | 3 => ((List.range 256).filter fun i => (m.tel i).en && (m.tel i).publish && (m.tel i).comid == e.w3).foldl
      (fun (m : Mach) i => if m.trdpOn then m.telSend i else m) m
  | _ => m

/-- A TRIG request of entry `i` (R440): within GAP ms of the last one it waits, and later ones merge into it. -/
def Mach.trigRequest (i : Nat) (m : Mach) : Mach :=
  let e := m.hentry i
  let early := match e.asked with
    | some t => decide ((m.rk + 2 ^ 48 - t) % 2 ^ 48 * 1000 < e.gap * 32768)
    | none => false
  if early then m.setHentry i { e with waiting := true }
  else (m.setHentry i { e with asked := some m.rk, waiting := false }).trigNow e

/-- The destination field of an entry of DK 0 is written (R441); a refused write is counted. -/
def Mach.hitchDest (i : Nat) (e : HEntry) (r : Nat) (m : Mach) : Mach :=
  let n := e.w3.toNat % 65536
  if e.dwidth = 0 then m
  else
    let mask := BitVec.ofNat 32 ((2 ^ e.dwidth - 1) * 2 ^ e.dpos)
    let q := m.attempt n fun m => m.maskWrite .hitch noOrigin n e.dkeyB (BitVec.ofNat 32 (r * 2 ^ e.dpos)) mask
    if q.1 then
      let x := q.2.hentry i
      (((q.2.setHentry i { x with rejs := min (x.rejs + 1) 65535 }).incSat pgHitch Hitch.REJECTS).setFld pgHitch Hitch.LAST_REJ i).raise
        pgHitch 1
    else q.2

/-- One matching entry is evaluated (R438, R440). -/
def Mach.hitchEval (i : Nat) (q : HReq) (m : Mach) : Mach :=
  let e := m.hentry i
  if e.swidth = 0 then m
  else
    let raw := if e.sk = 3 then (m.peek (e.w1.toNat % 65536) e.skeyB).toNat / 2 ^ e.spos % 2 ^ e.swidth
      else payField q.payload e.smsb e.spos e.swidth
    let e' := { e with seen := some raw, hits := min (e.hits + 1) 65535 }
    if e.chg && e.seen = some raw then m.setHentry i e'
    else
      let r := e.out (e.source raw)
      let m := m.setHentry i { e' with result := some r }
      if e.dk = 0 then m.hitchDest i e r
      else if e.trig && e.result != some r then m.trigRequest i
      else m

/-- HITCH_LOOKUP (R439, R441): the first queued request walks the table. -/
def Mach.hitchLookup (m : Mach) : Mach :=
  match m.hitch.fifo with
  | [] => m
  | q :: l =>
    if !m.ready || m.st pgHitch == 4 then m
    else
      let m := ({ m with hitch := { m.hitch with fifo := l } }).incWrap pgHitch Hitch.LOOKUPS
      let w := m.walk 32 (homeSlot q.sk q.keyA q.keyB)
      let m := if w.2 then m.raise pgHitch 2 else m
      w.1.foldl (fun (m : Mach) i => if (m.hentry i).fits q.sk q.keyA q.keyB then m.hitchEval i q else m) m

/-- GAP_EXPIRE (R440): GAP ms after the last request a waiting one is released. -/
def Mach.gapExpire (i : Nat) (m : Mach) : Mach :=
  let e := m.hentry i
  if e.waiting && m.ready then m.trigRequest i else m

/-! ## Fid sessions (R443 to R446) -/

/-- Fid traffic runs (R449, R451, R531), under an epoch, which is not 0 (R443). -/
def Mach.fidRuns (m : Mach) : Bool := m.ready && m.fidOn && m.reg pgEth Eth.IP.off != 0 && m.fid.epoch != 0

/-- The session key of a peer, label "FID1" (R444). -/
def Mach.fidSession (k : Nat) (m : Mach) : Mach := m.sessionKey k (m.peer k).slot 0 [0x46, 0x49, 0x44, 0x31] (m.peer k).dev

/-- The sender's SEQ from which it starts no new message in the epoch (R445). -/
def fidLast : Nat := 0xFFFFFF00

/-- A message to a peer takes the next SEQ and counts in TX_MSGS. -/
def Mach.fidTx (k : Nat) (m : Mach) : Mach :=
  let m := (m.fidSession k |>.modPeer k fun p => { p with tx := p.tx + 1 }).incWrap pgFid Fid.TX_MSGS
  if fidLast ≤ (m.peer k).tx then { m with fid := { m.fid with ending := true } } else m

/-- Every proxy of a peer shows whether the peer is lost, and FID whether any peer is joined. -/
def Mach.peerShow (k : Nat) (m : Mach) : Mach := ((m.proxiesOf k).foldl (fun (m : Mach) n => m.proxyShow n) m).fidSettle

/-- Whether a SEQ has been seen in a peer's epoch or lies below the window of 64 (R445). -/
def Peer.replayed (p : Peer) (s : Nat) : Bool :=
  s == p.high || (decide (s < p.high) && (decide (64 < p.high - s) || Nat.testBit p.window (p.high - 1 - s)))

/-- A SEQ is taken into the window. -/
def Peer.take (p : Peer) (s : Nat) : Peer :=
  if p.high < s then
    { p with high := s, window := if 65 < s - p.high then 0 else ((2 * p.window + 1) * 2 ^ (s - p.high - 1)) % 2 ^ 64 }
  else { p with window := p.window ||| 2 ^ (p.high - 1 - s) }

/-- A message of peer `k` arrives (R430, R431, R433, R443, R444): none where Fid does not run, its port takes nothing, it is a PRP twin or of
another VLAN; one with a wrong TAG, MAGIC, VER or DST_DEV is dropped, counts in AUTH_FAIL and sets FID_AUTH. Of the others the LAN is
recorded with the peer. -/
def Mach.fidArrives (k : Nat) (h : FidHead) (m : Mach) : Bool × Mach :=
  let q := m.ingress h.eth
  let m := q.2
  let p := m.peer k
  if !q.1 || !m.fidRuns || h.eth.vid ≠ m.fld pgEth Eth.BODY_VID then (false, m)
  else if !h.tagOk || h.magic ≠ 0x4644 || h.ver ≠ 1 || h.dst ≠ m.fld pgDev Dev.DEVNUM || !p.en
      || (m.engineKey p.slot 0 [1, 2]).isNone then (false, (m.incSat pgFid Fid.AUTH_FAIL).raise pgFid 0)
  else (true, (m.fidSession k).setPeer k { p with lanB := decide (h.eth.port = 3) })

/-- What becomes of a message before its items count: 0 dropped with the machine given, 1 a resend of a request already acted on, 2 acted
on (R444, R445). -/
def Mach.fidIn (k : Nat) (h : FidHead) (m : Mach) : Nat × Mach :=
  let q := m.fidArrives k h
  let m := q.2
  let p := m.peer k
  let seq := h.seq.toNat
  if !q.1 || p.pstate ≠ 2 then (0, m)
  else if h.epoch ≠ p.epoch then (0, (m.incSat pgFid Fid.REPLAYS).raise pgFid 1)
  else if p.recent.any (fun r => r.1 == seq) then (1, m)
  else if p.replayed seq then (0, (m.incSat pgFid Fid.REPLAYS).raise pgFid 1)
  else (2, (m.setPeer k (p.take seq)).incWrap pgFid Fid.RX_MSGS)

/-- No local page for Fid: a reserved or unoccupied index, one of 0x8000 or above, a proxy page (R446). -/
def Mach.noUnit (m : Mach) (n : Nat) : Bool := !m.occupied n || clsOf n == .proxy

/-- An offset Fid may not name (R446). -/
def badOffset (off : Nat) : Bool := off % 4 != 0 || decide (0xEFC < off)

/-- A unit as a RESP names it, with its REJECT_INFO. -/
def Mach.refusedResp (m : Mach) (n status : Nat) : FResp := ⟨status, n, m.peek n 0x010⟩

/-- An operation at a page as Fid runs it, with the item's RESP. -/
def Mach.fidAttempt (n : Nat) (op : Mach → Mach) (m : Mach) : FResp × Mach :=
  let q := m.attempt n op
  if q.1 then (q.2.refusedResp n (q.2.fld n Hdr.REASON), q.2) else (⟨0, n, 0⟩, q.2)

/-- The units subscribed by every peer (R447). -/
def Mach.subCount (m : Mach) : Nat := (m.fid.peers.map fun p => p.2.subs.length).foldl (· + ·) 0

/-- One item of a request of peer `k` (R446, R447, R80). -/
def Mach.fidItem (k : Nat) (i : FItem) (m : Mach) : FResp × Mach :=
  match i with
  | .read n off =>
    if m.noUnit n then (⟨8, n, 0⟩, m)
    else if badOffset off then (⟨9, n, 0⟩, m)
    else
      let q := m.pageRead n off
      (⟨0, n, q.1⟩, q.2)
  | .write n off w mask =>
    if !(m.peer k).wr then (m.refusedResp n 6, m)
    else if m.noUnit n then (⟨8, n, 0⟩, m)
    else if badOffset off then (⟨9, n, 0⟩, m)
    else m.fidAttempt n fun m => m.maskWrite .fid noOrigin n off w mask
  | .cmd n w origin =>
    if !(m.peer k).wr then (m.refusedResp n 6, m)
    else if origin ≠ noOrigin && origin.toNat / 65536 = m.fld pgDev Dev.DEVNUM then
      (⟨0, n, 0⟩, m.tlogWrite 5 (origin.toNat % 65536) 0 origin 0)
    else if m.noUnit n then (⟨8, n, 0⟩, m)
    else m.fidAttempt n fun m => m.cmdWrite .fid origin n w
  | .subscribe n =>
    if m.noUnit n then (⟨8, n, 0⟩, m)
    else if (m.peer k).subs.any (fun s => s.1 == n) then (⟨0, n, 0⟩, m)
    else if 1024 ≤ m.subCount then (⟨3, n, 0⟩, m)
    else (⟨0, n, 0⟩, m.modPeer k fun p => { p with subs := p.subs ++ [(n, none)] })

/-- A request is acted on: its items in order, and one RESP, kept for a resend among those of the last 8 requests (R445, R446). -/
def Mach.fidActed (k seq : Nat) (items : List FItem) (m : Mach) : Mach :=
  let r := items.foldl (fun (a : List FResp × Mach) i =>
    let x := a.2.fidItem k i
    (a.1 ++ [x.1], x.2)) ([], m)
  (r.2.modPeer k fun p => { p with recent := ((seq, r.1) :: p.recent).take 8 }).fidTx k

/-- A request of peer `k`: acted on once, and answered again where it is a resend (R445, R446). -/
def Mach.fidRequest (k : Nat) (h : FidHead) (items : List FItem) (m : Mach) : Mach :=
  let q := m.fidIn k h
  match q.1 with
  | 0 => q.2
  | 1 => q.2.fidTx k
  | _ => q.2.fidActed k h.seq.toNat items

/-! ## Proxies (R448) -/

/-- STATE of a proxy from a word of the remote unit; REJECT is local, and a lost peer keeps HEALTH at 2 at least. -/
def Mach.proxyState (n : Nat) (v : Word) (m : Mach) : Mach :=
  let w := Hdr.REJECT.put v (m.fld n Hdr.REJECT)
  (m.setReg n 0x00C w).proxyShow n

/-- A word fetched for a register of a proxy. -/
def Mach.proxyFetched (n off : Nat) (v : Word) (m : Mach) : Mach :=
  match off with
  | 0x000 => m.setReg n 0x000 ((v &&& 0xFFFF0000#32) ||| BitVec.ofNat 32 n)
  | 0x004 => m.setReg n 0x004 (v ||| 0x10#32)
  | 0x00C => m.proxyState n v
  | 0x014 => m.setReg n 0x014 v
  | 0x018 => m.setReg n 0x018 ((v &&& 0x7FFFFFFF#32) ||| (m.reg n 0x018 &&& 0x80000000#32))
  | _ => m.setReg n off v

/-- A failed item, or a refusing RESP, shows on the proxy page: the remote unit's REJECT_INFO, or REASON 3. -/
def Mach.proxyFail (n : Nat) (i : FItem) (r : Option FResp) (m : Mach) : Mach :=
  let off := match i with
    | .read _ o => o
    | .write _ o _ _ => o
    | .cmd _ _ _ => 0x008
    | .subscribe _ => 0x000
  match r with
  | some x => if 1 ≤ x.status && decide (x.status ≤ 7) then (m.setFlag n Hdr.REJECT true).setReg n 0x010 x.value else m.refuse n off 3
  | none => m.refuse n off 3

/-- One item of a request of this module is answered, or has failed where there is no RESP. -/
def Mach.proxyAnswer (q : Nat × FItem) (r : Option FResp) (m : Mach) : Mach :=
  if !m.occupied q.1 then m
  else match r with
    | some x =>
      if x.status = 0 then (match q.2 with | .read _ off => m.proxyFetched q.1 off x.value | _ => m) else m.proxyFail q.1 q.2 r
    | none => m.proxyFail q.1 q.2 none

/-- The items of a request with the RESP items in order. -/
def Mach.proxyAnswers : List (Nat × FItem) → List FResp → Mach → Mach
  | [], _, m => m
  | q :: l, [], m => Mach.proxyAnswers l [] (m.proxyAnswer q none)
  | q :: l, r :: rs, m => Mach.proxyAnswers l rs (m.proxyAnswer q (some r))

/-- RESP (R446): the outstanding request that ACK names is answered. -/
def Mach.fidResp (k : Nat) (h : FidHead) (ack : Nat) (items : List FResp) (m : Mach) : Mach :=
  let q := m.fidIn k h
  if q.1 ≠ 2 then q.2
  else match (q.2.peer k).out.find? fun o => o.seq == ack with
    | none => q.2
    | some o => (q.2.modPeer k fun p => { p with out := p.out.filter fun x => x.seq != ack }).proxyAnswers o.items items

/-- REPORT (R448): the proxies of the reported unit follow. -/
def Mach.fidReport (k : Nat) (h : FidHead) (unit : Nat) (caps state fset ffirst : Word) (m : Mach) : Mach :=
  let q := m.fidIn k h
  if q.1 ≠ 2 then q.2
  else ((q.2.proxiesOf k).filter fun n => (q.2.proxy n).remote == unit).foldl (fun (m : Mach) n =>
    (((m.proxyFetched n 0x004 caps).proxyFetched n 0x014 ffirst).proxyFetched n 0x018 fset).proxyFetched n 0x00C state) q.2

/-- HELLO (R445): a new epoch is tentative; an echo of the own present epoch joins the peer. -/
def Mach.fidHello (k : Nat) (h : FidHead) (echo : Word) (m : Mach) : Mach :=
  let q := m.fidArrives k h
  let m := q.2
  let p := m.peer k
  let epoch := h.epoch
  let seq := h.seq.toNat
  if !q.1 || epoch = 0 then m
  else
    let fresh := p.pstate = 0 || p.epoch ≠ epoch
    if !fresh && p.replayed seq then (m.incSat pgFid Fid.REPLAYS).raise pgFid 1
    else
      let p := if fresh then { p with epoch := epoch, high := 0, window := 0, recent := [], pstate := 1 } else p
      let p := p.take seq
      let p := if echo = m.fid.epoch && echo ≠ 0 then { p with pstate := 2 } else if p.pstate = 3 then { p with pstate := 1 } else p
      ((m.setPeer k p).incWrap pgFid Fid.RX_MSGS).peerShow k

/-! ## Timed steps (R445 to R448) -/

/-- FID_RESEND (R446): TMO ms without an answer; the request is sent again, or after RETRY times its items fail. -/
def Mach.fidResend (k seq ms : Nat) (m : Mach) : Mach :=
  if !m.fidRuns || ms < m.fld pgFid Fid.TMO then m
  else match (m.peer k).out.find? fun o => o.seq == seq with
    | none => m
    | some o =>
      if o.resent < m.fld pgFid Fid.RETRY then
        (m.modPeer k fun p => { p with out := p.out.map fun x => if x.seq == seq then { x with resent := x.resent + 1 } else x }).incWrap
          pgFid Fid.TX_MSGS
      else (m.modPeer k fun p => { p with out := p.out.filter fun x => x.seq != seq }).proxyAnswers o.items []

/-- HELLO to each enabled peer (R445). -/
def Mach.fidHelloAll (m : Mach) : Mach :=
  if !m.fidRuns then m else (m.fid.peers.filter fun p => p.2.en).foldl (fun (m : Mach) p => m.fidTx p.1) m

/-- PEER_LOST (R445): 3 × HELLO_T ms without an authenticated message. -/
def Mach.peerLost (k ms : Nat) (m : Mach) : Mach :=
  let p := m.peer k
  if m.fidRuns && p.en && (p.pstate == 1 || p.pstate == 2) && decide (3 * m.fld pgFid Fid.HELLO_T ≤ ms) then
    ((m.modPeer k fun p => { p with pstate := 3 }).raise pgFid 2).peerShow k
  else m

/-- A new epoch is drawn from the DRBG, and every session starts under it (R445). An epoch is not 0: there is none while the DRBG has
stopped (R499). -/
def Mach.fidRenew (m : Mach) : Mach :=
  let r := if m.drbgOk then m.randomBytes 4 else ([], m)
  let e := BitVec.ofNat 32 (r.1.foldl (fun a b => 256 * a + b) 0)
  let m := { r.2 with fid := { r.2.fid with epoch := if e = 0 && m.drbgOk then 1 else e, ending := false } }
  (m.fid.peers).foldl (fun (m : Mach) q =>
    (m.modPeer q.1 fun p => { p with tx := 0, out := [], pstate := if p.pstate = 2 then 1 else p.pstate }).peerShow q.1) m

/-- HELLO_TIMER (R445): HELLO_T ms after the last ones, HELLO to each enabled peer; where the DRBG gave no epoch, one is drawn now. -/
def Mach.helloDue (ms : Nat) (m : Mach) : Mach :=
  if ms < m.fld pgFid Fid.HELLO_T then m else if m.fid.epoch = 0 && m.ready then m.fidRenew.fidHelloAll else m.fidHelloAll

/-- EPOCH_END (R445): SEQ has reached 0xFFFF_FF00 and no request is outstanding; the new epoch waits while the DRBG has stopped (R499). -/
def Mach.epochEnd (m : Mach) : Mach :=
  if m.fidRuns && m.drbgOk && m.fid.ending && m.fid.peers.all (fun p => p.2.out.isEmpty) then m.fidRenew.fidHelloAll else m

/-- REPORT_SEND (R447): a joined peer that has subscribed the unit is sent its REPORT after a change of the unit's STATE or FAULT_SET, and
REPORT_T ms after the last. -/
def Mach.reportSend (k unit ms : Nat) (m : Mach) : Mach :=
  let now := (m.peek unit 0x00C, m.peek unit 0x018)
  match (m.peer k).subs.find? fun s => s.1 == unit with
  | none => m
  | some s =>
    if !m.fidRuns || m.fid.ending || (m.peer k).pstate ≠ 2 || (s.2 == some now && decide (ms < m.fld pgFid Fid.REPORT_T)) then m
    else (m.modPeer k fun p => { p with subs := p.subs.map fun x => if x.1 == unit then (unit, some now) else x }).fidTx k

/-- Whether two items travel in one message: they are of one type (R443). -/
def itemType : FItem → Nat
  | .read _ _ => 1
  | .write _ _ _ _ => 2
  | .cmd _ _ _ => 3
  | .subscribe _ => 7

/-- The runs of items of one type, in order. -/
def itemRuns : List (Nat × FItem) → List (List (Nat × FItem))
  | [] => []
  | q :: l =>
    match itemRuns l with
    | (r :: g) :: rest => if itemType r.2 = itemType q.2 then (q :: r :: g) :: rest else [q] :: (r :: g) :: rest
    | rest => [q] :: rest

/-- PROXY_GATHER_FLUSH (R448): `us` after the first was gathered, 200 at most, or with 64 of them, up to 64 items gathered for a joined peer
are sent, in the order written. -/
def Mach.gatherFlush (k us : Nat) (m : Mach) : Mach :=
  let p := m.peer k
  if !m.fidRuns || m.fid.ending || p.pstate ≠ 2 || (decide (us < 200) && decide (p.gather.length < 64)) then m
  else
    let m := m.setPeer k { p with gather := p.gather.drop 64 }
    (itemRuns (p.gather.take 64)).foldl (fun (m : Mach) r =>
      let m := m.fidTx k
      m.modPeer k fun p => { p with out := p.out ++ [⟨p.tx, r, 0⟩] }) m

/-- PROXY_CACHE_REFRESH (R448): REPORT_T ms after the last time, the cache range of a proxy of a joined peer is read again. -/
def Mach.cacheRefresh (n ms : Nat) (m : Mach) : Mach :=
  let b := m.proxy n
  if clsOf n == .proxy && b.bind && decide (m.fld pgFid Fid.REPORT_T ≤ ms) && m.fidRuns && (m.peer b.peer).pstate == 2 then
    (List.range b.len).foldl (fun (m : Mach) i => m.gather n (.read b.remote (b.ofs + 4 * i))) m
  else m

end Sys2Proof.Machine
end

