-- ==== Sys2Proof/Machine/Pair.lean ====
section
/-! DEFINITION. The Splice pair: formation and roles, INTENT, EDGE and ACK, checkpoints, lead loss, confirmation and take-over
(18_splice_pairs.md R452 to R469). -/

namespace Sys2Proof.Machine

/-! ## Small helpers -/

/-- Change what the pair holds. -/
def Mach.modSplice (f : SpliceAux → SpliceAux) (m : Mach) : Mach := { m with splice := f m.splice }

/-- The bytes of an image's HASH (R386). -/
def imageHash (mem : Memory) (c : Nat) : List Nat := (readBytes mem (imageBase c + 0x30) 32).map (·.toNat)

/-- A 1-bit number. -/
def bitOf (b : Bool) : Nat := if b then 1 else 0

/-- The RW configuration words of a unit (R453): FAULT_MASK, PARENT, BASE, and the RW fields of its class that are no selectors. Adaptive
quantities lie in no RW field of a guardable class. -/
def Mach.configWords (m : Mach) (n : Nat) : List Nat :=
  [(m.reg n 0x01C).toNat, m.parent n, m.fld n Hdr.BASE_CAP]
    ++ ((layoutOf (clsOf n)).flatMap fun r =>
      if r.free then []
      else (List.range r.count).map fun i =>
        (m.reg n (r.off + i * r.stride)).toNat &&& r.bits (fun a => a == .rw))

/-- The content of the module's configuration digest (R453), as words. -/
def Mach.digestWords (m : Mach) (mem : Memory) : List Nat :=
  (m.guards.flatMap fun p => [p.1, bitOf p.2.en, bitOf p.2.step, p.2.kind, p.2.ctrW, p.2.unit, p.2.ctrPos])
    ++ [(m.reg pgSplice 0x040).toNat % 65536, (m.reg pgSplice 0x044).toNat, (m.reg pgSplice 0x048).toNat]
    ++ (m.guarded.flatMap fun n => n :: m.configWords n)
    ++ ((m.guards.filter fun p => p.2.en && p.2.kind == 1).flatMap fun p =>
      let x := m.canObj (p.2.unit / 256) (p.2.unit % 256)
      [x.ctl.toNat, x.id.toNat, x.mask.toNat])
    ++ ((m.guards.filter fun p => p.2.en && p.2.kind == 2).flatMap fun p =>
      let t := m.tel p.2.unit
      [t.comid.toNat, t.dest.toNat, t.ctl.toNat, t.tmo.toNat])
    ++ ([2, 3, 4, 5].flatMap fun c => imageHash mem c)

/-- Whether a received digest is the module's own (R453; notes/assumptions/6.md for the digest itself). -/
def Mach.digestEq (m : Mach) (mem : Memory) (d : List Byte) : Bool :=
  let ws := m.digestWords mem
  decide (d.length = 32) && ((List.range 32).all fun i => (d.getD i 0).toNat == Config.digestByte ws i % 256)

/-- What a held output must meet (R453): PWM_MODE 0 or 2, in mode 2 a SLOT base, and no declared group. -/
def Mach.heldOk (m : Mach) (n : Nat) : Bool :=
  clsOf n != .out ||
    (m.fld n Out.GROUP == 0 && (m.fld n Out.PWM_MODE == 0
      || (m.fld n Out.PWM_MODE == 2 && m.fld (pgCap (m.fld n Hdr.BASE_CAP)) Cap.TYPE == 5)))

/-- The safe state a held unit takes for the pair (R454, R461): SNUBBED stays clear. -/
def Mach.pairSafe (n : Nat) (m : Mach) : Mach :=
  if m.st n = 3 then m else (m.enterSafe n true).unshowSnub n

/-- Every held unit enters SAFE. -/
def Mach.heldSafe (m : Mach) : Mach := m.guarded.foldl (fun m n => m.pairSafe n) m

/-- DUPLEX of every held output. -/
def Mach.setDuplex (b : Bool) (m : Mach) : Mach :=
  m.guarded.foldl (fun m n => if clsOf n == .out then m.setFlag n Out.DUPLEX b else m) m

/-- PSTATE, with the page's IDLE or ACTIVE. A new pairing starts where HELLO is spoken, with new frame numbers (R454, R456). -/
def Mach.setPstate (p : Nat) (m : Mach) : Mach :=
  let m := (m.setFld pgSplice Splice.PSTATE p).settleUnit pgSplice
  if p = 1 || p = 5 || p = 6 then
    { m.sessionDrop 256 with splice := { m.splice with fseqTx := 0, fseqRx := 0, mismatchAt := none, edges := [], sent := none } }
  else m

/-- A frame is dropped (R456): counted in AUTH_FAILS, and INTENT_AUTH sets. -/
def Mach.frameDrop (m : Mach) : Mach := (m.incSat pgSplice Splice.AUTH_FAILS).raise pgSplice 7

/-- Whether a frame is taken (R456), and the machine with its number noted, or with the drop counted. Without the key no tag is right. -/
def Mach.frameIn (ok : Bool) (fseq : Nat) (m : Mach) : Bool × Mach :=
  let m := m.spliceSession
  if ok && m.spliceKey && decide (m.splice.fseqRx < fseq) then (true, { m with splice := { m.splice with fseqRx := fseq } })
  else (false, m.frameDrop)

/-- A frame of this module leaves (R456); without the key none carries a valid tag, and none is sent. -/
def Mach.frameOut (m : Mach) : Mach :=
  if m.spliceKey then { m.spliceSession with splice := { m.splice with fseqTx := m.splice.fseqTx + 1 } } else m

/-- Whether this module is Lead or Second of the pair. -/
def Mach.isLead (m : Mach) : Bool := m.fld pgSplice Splice.ROLE == 1
def Mach.isSecond (m : Mach) : Bool := m.fld pgSplice Splice.ROLE == 2

/-! ## Cores of the Second (R465) -/

/-- The Step cores that the guard list asks for: a core is one when an entry with MODE STEP names a unit whose SLACK names it. -/
def Mach.stepWanted (m : Mach) : Nat :=
  (m.guards.filter fun p => p.2.en && p.2.step && p.2.kind == 0).foldl (fun (a : Nat) (p : Nat × Guard) =>
    (m.unitsOf p.2.unit).foldl (fun (a : Nat) (n : Nat) => a ||| m.slackOf n) a) 0

/-- A core of the Second waits in Doze for its checkpoint. -/
def Mach.coreHeld (c : Nat) (m : Mach) : Mach :=
  if m.coreLive c || m.coreSt c == 4 then
    (m.modCore c fun k => { k.landAll with dozeReq := false, jumps := [], rep := none, stall := none, replay := false }).setCoreSt c 4
  else m

/-- Whether a core of the Second takes its input from the Lead: Doze does not end on a local vector. -/
def Mach.coreMirrors (m : Mach) (c : Nat) : Bool :=
  m.secondPair && 2 ≤ c && Nat.testBit (m.fld pgSplice Splice.COLD_CORES ||| m.fld pgSplice Splice.STEP_CORES) (c - 2)

/-- A core runs in Step from now on, or in Cold. -/
def Mach.setStep (c : Nat) (step : Bool) (m : Mach) : Mach :=
  let b := 2 ^ (c - 2)
  let s := m.fld pgSplice Splice.STEP_CORES
  let k := m.fld pgSplice Splice.COLD_CORES
  (m.setFld pgSplice Splice.STEP_CORES (if step then s ||| b else s &&& (15 - b))).setFld pgSplice Splice.COLD_CORES
    (if step then k &&& (15 - b) else k ||| b)

/-! ## Formation (R454, R455) -/

/-- The claim to the Lead role: SOLO as Lead, then SPLIT or SOLO otherwise, then a module that has just started (R454, R455). -/
def pairRank (pstate role : Nat) : Nat := if pstate = 1 then 0 else if role = 1 then 2 else 1
def helloRank (role : Nat) : Nat := if role = 1 then 2 else if role = 2 then 1 else 0

/-- Whether this module becomes Lead against a partner's HELLO (R455). -/
def Mach.becomesLead (m : Mach) (dev pref role : Nat) : Bool :=
  let own := pairRank (m.fld pgSplice Splice.PSTATE) (m.fld pgSplice Splice.ROLE)
  let his := helloRank role
  let mine := m.fld pgSplice Splice.ROLE_PREF
  if own ≠ his then decide (his < own)
  else if mine = 1 && pref ≠ 1 then true
  else if pref = 1 && mine ≠ 1 then false
  else decide (m.fld pgDev Dev.DEVNUM < dev)

/-- The pair forms (R454). -/
def Mach.pairFormed (lead : Bool) (m : Mach) : Mach :=
  let m := (m.setFld pgSplice Splice.ROLE (if lead then 1 else 2)).setFlag pgSplice Splice.KEYED true
  let m := ((m.setPstate 2).setFlag pgSplice Splice.PARTNER_FIT false).setFlag pgSplice Splice.CKPT_OK false
  let m := (m.setFld pgSplice Splice.STEP_CORES 0).setFld pgSplice Splice.COLD_CORES 0
  let m := { m with splice := { m.splice with
    edges := [], sent := none, intent := [], heardAt := m.rk, legs := [], acked := 0, ckpts := [], trialFails := [], fellBack := 0,
    skipped := 0, sending := false, log := [], marks := [], arrived := [], peerBanks := [] } }
  let m := m.setDuplex true
  if lead then m
  else
    let want := m.stepWanted
    ((List.range 4).filter fun i => m.coreLive (i + 2) || m.coreSt (i + 2) == 4).foldl (fun (m : Mach) (i : Nat) =>
      (m.coreHeld (i + 2)).setStep (i + 2) (Nat.testBit want i)) m

/-- SPLICE_HELLO (R454, R455): a HELLO of the partner in FORMING, SOLO or SPLIT. Unequal digests, and a held unit that breaks R453, set
CFG_MISMATCH; formation is then tried again a second later. -/
def Mach.helloIn (mem : Memory) (ok : Bool) (fseq dev pref role : Nat) (digest : List Byte) (m : Mach) : Mach :=
  let p := m.fld pgSplice Splice.PSTATE
  if p ≠ 1 && p ≠ 5 && p ≠ 6 then m
  else
    let r := m.frameIn (ok && dev == m.fld pgSplice Splice.PEER_DEV) fseq
    if !r.1 then r.2
    else
      let m := r.2.setFlag pgSplice Splice.KEYED true
      let soon := match m.splice.mismatchAt with
        | some t => decide ((m.rk + 2 ^ 48 - t) % 2 ^ 48 < 32768)
        | none => false
      if soon then m
      else if m.digestEq mem digest && m.guarded.all (fun n => m.heldOk n) then m.pairFormed (m.becomesLead dev pref role)
      else
        let m := { m with splice := { m.splice with mismatchAt := some m.rk } }
        if p = 1 then m.raise pgSplice 1 else m

/-- SPLICE_HELLO_TIMER (R454): 10 ms after the last, a HELLO in FORMING, SOLO and SPLIT. -/
def Mach.helloTimer (ms : Nat) (m : Mach) : Mach :=
  let p := m.fld pgSplice Splice.PSTATE
  if 10 ≤ ms && (p = 1 || p = 5 || p = 6) then m.frameOut else m

/-- The pair is left as under DISABLE (R454, R469): DUPLEX clears, and on a Second the held units enter SAFE. -/
def Mach.pairLeave (m : Mach) : Mach :=
  let second := m.isSecond
  let m := m.setDuplex false
  let m := if second then m.heldSafe else m
  let m := ((m.setFld pgSplice Splice.PSTATE 0).setFld pgSplice Splice.ROLE 0).setFlag pgSplice Splice.KEYED false
  let m := (m.setFld pgSplice Splice.STEP_CORES 0).setFld pgSplice Splice.COLD_CORES 0
  let m := (m.setFlag pgSplice Splice.PARTNER_FIT false).setFlag pgSplice Splice.CKPT_OK false
  let m := (List.range 6).foldl (fun (m : Mach) (c : Nat) => m.modCore c fun k => { k with replay := false }) m
  { m with splice := { m.splice with edges := [], sent := none, ckpts := [], log := [], arrived := [], sending := false } }

/-- The backbone path is up while the Fid peer of PEER_DEV is joined (R454). -/
def Mach.backboneUp (m : Mach) : Bool :=
  m.fid.peers.any fun p => p.2.en && p.2.pstate == 2 && p.2.dev == m.fld pgSplice Splice.PEER_DEV

/-- A good checkpoint no older than 2 × CKPT_T is held (R468). -/
def Mach.ckptFresh (m : Mach) : Bool :=
  m.splice.ckpts.any fun p => match p.2 with
    | some k => decide ((m.rk + 2 ^ 48 - k.at_) % 2 ^ 48 * 1000 ≤ 2 * m.fld pgSplice Splice.CKPT_T * 32768)
    | none => false

/-- What SPLICE follows in other pages (R454, R468, R469): ENABLE starts formation, DISABLE and a fault leave the pair, and STATUS shows the
backbone path and the checkpoints. -/
def Mach.spliceFollow (m : Mach) : Mach :=
  let p := m.fld pgSplice Splice.PSTATE
  let s := m.st pgSplice
  let m :=
    if (s = 0 || s = 4) && p ≠ 0 then m.pairLeave
    else if (s = 1 || s = 2) && p = 0 then m.setPstate 1
    else m
  let m := m.setFlag pgSplice Splice.BACKBONE m.backboneUp
  m.setFlag pgSplice Splice.CKPT_OK (m.secondPair && m.ckptFresh)

/-! ## INTENT, EDGE, ACK (R456 to R462) -/

/-- The Second brings a held unit to the Lead's intent (R459). Answers whether anything differed. SAFE is left by the Lead's CLEAR_FAULTS
only (R461). -/
def Mach.intentUnit (u : IntentUnit) (m : Mach) : Bool × Mach :=
  let n := u.unit
  let dEn := (m.unit n).enabled != u.enabled
  let dWords := m.liveWords n != u.words
  let dSafe := m.reg n 0x020 != u.safe
  let dSeq := m.fld n Hdr.LAST_SEQ != u.seq
  let dState := u.state == 3 && m.st n != 3
  let m := if dSafe then m.setReg n 0x020 u.safe else m
  let m := if dWords then m.takeWords n u.words else m
  let m := if dEn then (if u.enabled then m.enableUnit n else m.disableUnit n) else m
  let m := if dState then m.pairSafe n else m
  (dEn || dWords || dSafe || dSeq || dState, if dSeq then m.setFld n Hdr.LAST_SEQ u.seq else m)

/-- The Second takes an INTENT (R457, R459): the measured delay and correction, each held unit's intent, and the input log. -/
def Mach.intentTake (units : List IntentUnit) (log : List LogItem) (dly off : BitVec 16) (m : Mach) : Mach :=
  let first := m.splice.intent.isEmpty
  let m := m.setReg pgSplice 0x06C (BitVec.ofNat 32 (dly.toNat * 65536 + off.toNat))
  let m := m.modSplice fun x => { x with linkAdj := x.linkAdj + off.toInt }
  let m := (units.filter fun u => m.guarded.contains u.unit).foldl (fun (m : Mach) (u : IntentUnit) =>
    let q := m.intentUnit u
    if q.1 && !first then q.2.incSat pgSplice Splice.INTENT_FIX else q.2) m
  { m with splice := { m.splice with intent := units, heardAt := m.rk, log := m.splice.log ++ log } }

/-- INTENT (R456, R457, R459): received by the Second. `dly` and `off` are the link delay and the correction measured with it. -/
def Mach.intentIn (ok : Bool) (fseq : Nat) (units : List IntentUnit) (log : List LogItem) (dly off : BitVec 16) (m : Mach) : Mach :=
  if !(m.fld pgSplice Splice.PSTATE = 2 && m.isSecond) then m
  else
    let r := m.frameIn ok fseq
    if r.1 then r.2.intentTake units log dly off else r.2

/-- New live words of the Lead's own unit at T_APPLY (R458): its shadow keeps what has been written since. -/
def Mach.leadWords (n : Nat) (ws : List Word) (m : Mach) : Mach :=
  let old := m.liveWords n
  let m := ((rwsOffs (clsOf n)).zip ws).foldl (fun (m : Mach) (p : Nat × Word) => m.setReg n p.1 p.2) m
  (m.setFlag n Hdr.SHADOW_DIRTY (m.nextWords n != ws)).classApplied n old

/-- The partner's leg tripped (R460): this leg turns off. On the Lead the retry policy counts the trip; on the Second the leg waits for the
Lead, and takes its EXHAUSTED. -/
def Mach.partnerTrip (n : Nat) (srcs : Word) (m : Mach) : Mach :=
  if clsOf n != .out then m
  else
    let c := n - 0x20
    let m :=
      if m.isLead then m.tripOne c (m.lastTrip c)
      else
        let m := ((m.outTurnOff c).setFlag n Out.RETRY_WAIT true).modOut c fun a => { a with wait := none, retryDue := false }
        if srcs.getLsbD 5 then m.raise n 5 else m
    m.outSettle c

/-- A retry of the Lead reaches the Second's leg (R460). -/
def Mach.partnerRetry (n : Nat) (m : Mach) : Mach :=
  if clsOf n != .out then m else (m.modOut (n - 0x20) fun a => { a with retryDue := true }).outSettle (n - 0x20)

/-- The change of an EDGE frame is applied in this leg (R458, R460, R461, R462). -/
def Mach.applyEdge (e : Edge) (m : Mach) : Mach :=
  match e.act with
  | .apply ws => if m.isLead then m.leadWords e.unit ws else m.takeWords e.unit ws
  | .cmd w =>
    let m := m.doCode e.unit (cmdCode w)
    if m.isLead || cmdSeq w = 0 then m else m.setFld e.unit Hdr.LAST_SEQ (cmdSeq w)
  | .snub => m.pairSafe e.unit
  | .trip srcs => m.partnerTrip e.unit srcs
  | .retry => m.partnerRetry e.unit
  | .request kind tag content =>
    let m := if m.isLead then m else m.setArrived (mirrorKey kind e.unit) true
    if kind = 1 then
      let c := e.unit / 256
      let o := e.unit % 256
      if m.canSendable c o then (m.setCanObj c o { m.canObj c o with data := content, sa := some tag }).canRequestNow c o else m
    else m.telSendNow e.unit content tag

/-- EDGE (R456, R458, R459): a received change waits for T_APPLY; a Snub, a trip or a retry acts at once, and so does a frame that comes
after its T_APPLY, which is counted. -/
def Mach.edgeIn (ok : Bool) (fseq : Nat) (e : Edge) (m : Mach) : Mach :=
  if !(m.leadPair || m.secondPair) then m
  else
    let r := m.frameIn ok fseq
    if !r.1 then r.2
    else
      let m := r.2
      if e.cause = 1 || e.cause = 2 then m.applyEdge e
      else if m.isLead then m
      else if decide (e.at_ < m.linkNs) then (m.incSat pgSplice Splice.EDGE_LATE).applyEdge e
      else { m with splice := { m.splice with edges := m.splice.edges ++ [e] } }

/-- EDGE_APPLY (R458): the change held longest whose T_APPLY has come by the link time is applied. -/
def Mach.edgeApply (m : Mach) : Mach :=
  match m.splice.edges.find? fun e => decide (e.at_ ≤ m.linkNs) with
  | some e => (m.modSplice fun x => { x with edges := x.edges.erase e }).applyEdge e
  | none => m

/-- ACK (R456, R457): received by the Lead; the mean current in mA and the state of each held leg. -/
def Mach.ackIn (ok : Bool) (fseq acked : Nat) (legs : List (Nat × Nat × Bool)) (dly : BitVec 16) (m : Mach) : Mach :=
  if !m.leadPair then m
  else
    let r := m.frameIn ok fseq
    if !r.1 then r.2
    else { r.2.setFld pgSplice Splice.DLY dly.toNat with splice := { r.2.splice with acked := acked, legs := legs, heardAt := r.2.rk } }

/-- ACK_SEND (R456): 1 ms after the last the Second sends an ACK. -/
def Mach.ackSend (us : Nat) (m : Mach) : Mach :=
  if m.fld pgSplice Splice.PSTATE = 2 && m.isSecond && 1000 ≤ us then m.frameOut else m

/-! ## Checkpoints (R463 to R465) -/

/-- A table of registers from their values in order. -/
def regTable {α : Type} [DecidableEq α] (d : α) (vs : List α) : Table α :=
  ((List.range vs.length).zip vs).foldl (fun (t : Table α) (p : Nat × α) => tput t d p.1 p.2) []

/-- The core a checkpoint describes. -/
def ckptCore (i : CkptImg) (k : Core) : Core :=
  { coreReset with
    g := regTable 0 ((i.g.take 32).set 0 0), a := regTable 0 (i.a.take 8), mm := regTable 0 (i.mm.take 8), l := regTable 0 (i.l.take 8)
    am := regTable 0 ((i.am.take 8).map fun w => w &&& amMask), acc := regTable 0 (i.acc.take 2), view := regTable 0 (i.acc.take 2)
    p := i.p ||| 1, rpt := i.rpt, dsp := i.dsp, status := i.status &&& 0xE7#32, trapInfo := i.trapInfo, pc := i.pc
    frames := (i.frames.take 32).map fun f => ⟨f.1, f.2.1, f.2.2⟩
    entry := k.entry }

/-- The shared range (R463): first address and length in bytes. -/
def Mach.sharedRange (m : Mach) : Nat × Nat := ((m.reg pgSplice 0x048).toNat, m.fld pgSplice Splice.SH_LEN * 1024)

/-- Whether a checkpoint describes a core at a quiet boundary. -/
def ckptSound (i : CkptImg) : Bool :=
  i.pc % 2 == 0 && decide (i.pc < 65536) && decide (i.frames.length ≤ 32) && i.data.all (fun b => decide (b.1 < 65536))

/-- CKPT (R463): on the Lead a checkpoint of every started core is taken and sent, or skipped while the last one is still being sent;
`sent` says whether it has been. -/
def Mach.ckptTake (sent : Bool) (m : Mach) : Mach :=
  if m.splice.sending && !sent then
    (m.incSat pgSplice Splice.CKPT_SKIPS).modSplice fun x => { x with skipped := x.skipped + 1 }
  else
    let started := ((List.range 4).map (· + 2)).filter fun c => m.coreLive c || m.coreSt c == 4
    let marks := started.foldl (fun (t : Table Nat) (c : Nat) => tput t 0 c (m.core c).issued) m.splice.marks
    (m.incWrap pgSplice Splice.CKPT_SENT).modSplice fun x => { x with sending := true, skipped := 0, marks := marks }

/-- The bytes the input log takes in an INTENT frame: a load's value, or a vector with its group count. -/
def logBytes (l : List LogItem) : Nat := (l.map fun x => if x.irq then 8 else 4).sum

/-- INTENT_SEND (R456, R464): 1 ms after the last the Lead sends its intent with the input log since then; a log beyond 64 KiB takes the next
checkpoint at once. -/
def Mach.intentSend (us : Nat) (m : Mach) : Mach :=
  if m.leadPair && decide (1000 ≤ us) then
    let m' := m.frameOut.modSplice fun x => { x with log := [] }
    if 65536 < logBytes m.splice.log then m'.ckptTake false else m'
  else m

/-- The memory of a core restored from a checkpoint: its local data memory and the shared range. -/
def restoreMem (m : Mach) (c : Nat) (k : Ckpt) (mem : Memory) : Memory :=
  let d := memKey c 0x10000
  writeCells k.shared (eraseRange m.sharedRange.1 m.sharedRange.2 (writeCells k.data (eraseRange d 0x10000 mem)))

/-- A core runs on from its last good checkpoint, replaying the input log (R465). -/
def restoreCore (c : Nat) (s : State) : State :=
  match tget s.m.splice.ckpts none c with
  | none => s
  | some k =>
    let m := s.m.setCore c { k.core with replay := true, issued := 0 }
    let m := m.setFld pgStrand (Strandctl.C_IRQ_PEND c) k.pend.toNat
    { s with m := m.setCoreSt c 2, mem := restoreMem s.m c k s.mem }

/-- A Cold core falls back to Step from its last good checkpoint; with none, CKPT_FAIL sets and PARTNER_FIT reads 0 (R465). -/
def fallBack (c : Nat) (s : State) : State :=
  let m := (s.m.raise pgSplice 6)
  match tget m.splice.ckpts none c with
  | none => { s with m := m.setFlag pgSplice Splice.PARTNER_FIT false }
  | some _ => restoreCore c { s with m := (m.setStep c true).modSplice fun x => { x with fellBack := x.fellBack ||| 2 ^ (c - 2) } }

/-- The Cold cores of the Second. -/
def Mach.coldCores (m : Mach) : List Nat :=
  ((List.range 4).map (· + 2)).filter fun c => Nat.testBit (m.fld pgSplice Splice.COLD_CORES) (c - 2)
def Mach.stepCores (m : Mach) : List Nat :=
  ((List.range 4).map (· + 2)).filter fun c => Nat.testBit (m.fld pgSplice Splice.STEP_CORES) (c - 2)

/-- The Second's side of a skipped checkpoint: after two in succession every Cold core falls back (R465). -/
def ckptMissed (s : State) : State :=
  let m := s.m.modSplice fun x => { x with skipped := x.skipped + 1 }
  if m.splice.skipped = 2 then m.coldCores.foldl (fun (s : State) (c : Nat) => fallBack c s) { s with m := m } else { s with m := m }

/-- CKPT (R463) in either module: CKPT_T has passed since the last. -/
def ckptRow (ms : Nat) (sent : Bool) (s : State) : State :=
  if ms < s.m.fld pgSplice Splice.CKPT_T then s
  else if s.m.leadPair then { s with m := s.m.ckptTake sent }
  else if s.m.fld pgSplice Splice.PSTATE = 2 && s.m.isSecond && !sent then ckptMissed s
  else s

/-- The Second takes a good checkpoint of a core (R463, R465): it is kept, and the input log that precedes it leaves. -/
def Mach.ckptKept (c : Nat) (i : CkptImg) (m : Mach) : Mach :=
  let k : Ckpt := ⟨ckptCore i (m.core c), i.data.map (fun b => (memKey c 0x10000 + b.1, b.2)),
    i.shared.filter (fun b => decide (m.sharedRange.1 ≤ b.1) && decide (b.1 < m.sharedRange.1 + m.sharedRange.2)), i.pend, m.rk⟩
  let mine := m.splice.log.filter fun x => x.core == c
  let others := m.splice.log.filter fun x => x.core != c
  let begun := (m.core c).replay
  let m := (m.incWrap pgSplice Splice.CKPT_SENT).modSplice fun x => { x with
    ckpts := tput x.ckpts none c (some k), trialFails := tput x.trialFails 0 c 0, skipped := 0
    log := if begun then x.log else others ++ mine.drop i.logged }
  m.setFlag pgSplice Splice.CKPT_OK true

/-- A core first seen in a checkpoint is held and joins as its mode says. -/
def Mach.ckptJoin (c : Nat) (m : Mach) : Mach :=
  if (m.coldCores ++ m.stepCores).contains c then m else (m.coreHeld c).setStep c (Nat.testBit m.stepWanted (c - 2))

/-- A good checkpoint: a Step core that has not yet been restored begins from it (R465). -/
def ckptGood (c : Nat) (i : CkptImg) (s : State) : State :=
  let begun := (s.m.core c).replay
  let t := { s with m := s.m.ckptKept c i }
  if t.m.stepCores.contains c && !begun then restoreCore c t else t

/-- A checkpoint that fails its trial: the second in succession makes a Cold core fall back (R465). -/
def ckptBad (c : Nat) (s : State) : State :=
  let f := tget s.m.splice.trialFails 0 c + 1
  let t := { s with m := s.m.modSplice fun x => { x with trialFails := tput x.trialFails 0 c f } }
  if f = 2 && t.m.coldCores.contains c then fallBack c t
  else if (tget t.m.splice.ckpts none c).isNone then { s with m := (t.m.raise pgSplice 6).setFlag pgSplice Splice.PARTNER_FIT false }
  else t

/-- CKPT_RECEIVED (R465): the Second trial-restores a checkpoint of a core, with the CRC over its frames found good or not. -/
def ckptReceived (ok : Bool) (fseq : Nat) (crcOk : Bool) (c : Nat) (i : CkptImg) (s : State) : State :=
  if !(s.m.fld pgSplice Splice.PSTATE = 2 && s.m.isSecond && appCore c) then s
  else
    let r := s.m.frameIn ok fseq
    if !r.1 then { s with m := r.2 }
    else
      let t := { s with m := r.2.ckptJoin c }
      if crcOk && ckptSound i then ckptGood c i t else ckptBad c t

/-! ## HEALTH (R467) -/

/-- The bits of a HEALTH frame (R467): trial-restores, held-leg readback, core tests and memory tests. -/
def Mach.healthBits (m : Mach) (coreOk memOk : Bool) : Nat :=
  let trials := m.coldCores.all fun c => tget m.splice.trialFails 0 c == 0
  8 * bitOf trials + 4 * bitOf (!m.src pgSplice 5) + 2 * bitOf coreOk + bitOf memOk

/-- The feed states of the banks: STATUS bits 0 to 4 (R467). -/
def Mach.feedStates (m : Mach) : List Nat := (List.range 4).map fun k => (m.reg (pgBank k) Bank.A_LOST.off).toNat % 32

/-- SPLICE_HEALTH (R467): every 1 s a HEALTH frame leaves with the results of the core and memory tests, or the partner's arrives with its
bits and bank feed states. -/
def Mach.spliceHealth (coreOk memOk : Bool) (rx : Option (Bool × Nat × BitVec 4 × List Nat)) (m : Mach) : Mach :=
  if !m.paired then m
  else match rx with
    | none => m.frameOut.modSplice fun x => { x with healthTx := x.healthTx + 1, healthOut := (m.healthBits coreOk memOk, m.feedStates) }
    | some (ok, fseq, bits, banks) =>
      let r := m.frameIn ok fseq
      if !r.1 then r.2
      else
        let m := (r.2.setFld pgSplice Splice.PEER_HFLAGS bits.toNat).modSplice fun x => { x with peerBanks := banks }
        if m.isLead then m.setFlag pgSplice Splice.PARTNER_FIT (bits == 15#4) else m

/-- PARTNER_UNFIT (R467): the Lead has had no HEALTH for `ms`. -/
def Mach.partnerUnfit (ms : Nat) (m : Mach) : Mach :=
  if m.leadPair && decide (3000 ≤ ms) then m.setFlag pgSplice Splice.PARTNER_FIT false else m

/-! ## Lead loss and take-over (R454, R466) -/

/-- LEAD_LOST (R454, R464, R466): no valid INTENT for `ms`; the Second confirms, and its Step cores write live. -/
def Mach.leadLost (ms : Nat) (m : Mach) : Mach :=
  if m.fld pgSplice Splice.PSTATE = 2 && m.isSecond && 3 ≤ ms then
    let m := (m.setPstate 3).raise pgSplice 2
    m.stepCores.foldl (fun (m : Mach) (c : Nat) => m.modCore c fun k => { k with replay := false }) m
  else m

/-- The confirmation ends in SPLIT (R454): held units to SAFE; mirrored items stop. -/
def Mach.split (m : Mach) : Mach := ((m.heldSafe).setPstate 6).raise pgSplice 4

/-- SPLICE_PROBE (R454): a probe is sent, or has been answered by the Lead. -/
def Mach.spliceProbe (answered : Bool) (m : Mach) : Mach :=
  if !(m.fld pgSplice Splice.PSTATE = 3) then m
  else if answered then m.split
  else m.modSplice fun x => { x with probes := x.probes + 1 }

/-- The module's own HEALTH (R454): the worst HEALTH of the pages 0x0 to 0xF and of the held units. -/
def Mach.ownHealth (m : Mach) : Nat :=
  ((List.range 16) ++ m.guarded).foldl (fun (a : Nat) (n : Nat) => max a (m.fld n Hdr.HEALTH)) 0

/-- CONFIRM_END (R454): 20 ms after the last valid INTENT without an answer. -/
def Mach.confirmEnd (ms : Nat) (m : Mach) : Mach :=
  if !(m.fld pgSplice Splice.PSTATE = 3 && decide (20 ≤ ms)) then m
  else if decide (m.ownHealth ≤ 1) && (m.backboneUp || !m.flag pgSplice Splice.BLIND) then
    (m.setPstate 4).setFld pgSplice Splice.ROLE 1
  else m.split

/-- RESTORE_COMPLETE (R466): the Cold cores stand restored from their last good checkpoints and replay. -/
def restoreComplete (s : State) : State :=
  if s.m.fld pgSplice Splice.PSTATE = 4 then s.m.coldCores.foldl (fun (s : State) (c : Nat) => restoreCore c s) s else s

/-- REPLAY_COMPLETE (R454, R466): the log is used up, `us` after the last valid INTENT. -/
def Mach.replayComplete (us : Nat) (m : Mach) : Mach :=
  if m.fld pgSplice Splice.PSTATE = 4 && !m.splice.log.any (fun x => (m.core x.core).replay) then
    let m := m.setFld pgSplice Splice.LAST_GAP (min ((us + 999) / 1000) 65535)
    let m := (m.incSat pgSplice Splice.TAKEOVERS).setPstate 5
    let m := (m.setFld pgSplice Splice.STEP_CORES 0).setFld pgSplice Splice.COLD_CORES 0
    (List.range 6).foldl (fun (m : Mach) (c : Nat) => m.modCore c fun k => { k with replay := false }) m
  else m

/-- PARTNER_LOST (R454): the Lead has had no valid ACK for `ms`. -/
def Mach.partnerLost (ms : Nat) (m : Mach) : Mach :=
  if m.leadPair && decide (3 ≤ ms) then (m.raise pgSplice 3).setPstate 5 else m

/-- The intent state of a held leg (R459): on where the Lead's intent has the unit ACTIVE; in SAFE as the leg's own command has it. -/
def Mach.legIntent (m : Mach) (n : Nat) : Bool :=
  let s := match (if m.isSecond then m.splice.intent.find? fun u => u.unit == n else none) with
    | some u => u.state
    | none => m.st n
  if s = 3 && clsOf n == .out then m.flag n Out.GATE else s == 2

/-- LEG_MISMATCH (R459): the readback of a held leg, on or off, has differed from its intent state for `us`. -/
def Mach.legMismatch (n : Nat) (on : Bool) (us : Nat) (m : Mach) : Mach :=
  if m.pairHeld n && on != m.legIntent n && decide (2000 < us) then (m.modSplice fun x => { x with misUnit := n }).raise pgSplice 5 else m

/-- PAIR_TRIP (R460): the pair's over-current, seen by the Lead: its own 1 ms mean current and the partner leg's, which the last ACK gave,
together above ILIM for `t` × 0.1 ms. -/
def Mach.pairTrip (c : Nat) (i t : Nat) (m : Mach) : Mach :=
  let n := pgOut c
  let other := match m.splice.legs.find? fun l => l.1 == n with
    | some l => l.2.1
    | none => 0
  if m.leadPair && m.flag n Out.DUPLEX && decide (m.fld n Out.ILIM < i + other) && decide (max (m.fld n Out.TRIP) 20 ≤ t) then
    m.outTrip c 2
  else m

/-- SPLICE_LINK_CHANGE (R45, R468, R469): the link of X66 to a partner's X66 comes up or goes down. -/
def Mach.spliceLink (up : Bool) (m : Mach) : Mach :=
  if m.absent pgSplice then m
  else
  let m := m.setFlag pgSplice Splice.LINK up
  if up then m else m.raise pgSplice 0

end Sys2Proof.Machine
end

