-- ==== Sys2Proof/Machine/Issue.lean ====
section
/-! DEFINITION. Issue on the Strand cores: fetching and refusing a group, the accesses it makes, its effects, transfers and REP, stalls, the
write buffer, replay of the input log, and an image load (14_strand_architecture.md R369 to R388; 15_strand_instructions.md R390 to R408;
18_splice_pairs.md R464, R465). -/

namespace Sys2Proof.Machine

/-! ## Fetch (R370 to R373) -/

/-- A word of a core's instruction memory. -/
def imWord (mem : Memory) (c a : Nat) : Nat := leNat (readBytes mem (memKey c a) 4)

/-- A group as fetched: its address, the address that follows it, what its syllables decode to, and the SUB of a fetch fault. -/
structure Fetch where
  addr : Nat
  next : Nat
  decs : List SylDec
  fault : Option Nat
  deriving DecidableEq, Repr

/-- The region of an address is Twin (R370). -/
def Mach.twin (m : Mach) (c a : Nat) : Bool := Nat.testBit (m.fld pgStrand (Strandctl.C_TWIN_MAP c)) (a / 4096)

/-- The syllables of a Bundle group from `a`: up to the first with S = 1, six at most; the flag says that it reaches past the memory. -/
def bundleFrom (mem : Memory) (c : Nat) : Nat → Nat → List SylDec × Nat × Bool
  | 0, a => ([], a, false)
  | k + 1, a =>
    if 0x10000 ≤ a then ([], a, true)
    else
      let w := imWord mem c a
      if w / 2 ^ 31 = 1 then ([decFull w], a + 4, false)
      else
        let r := bundleFrom mem c k (a + 4)
        (decFull w :: r.1, r.2)

/-- The group at `pc` (R370, R371, R373). -/
def fetchAt (m : Mach) (mem : Memory) (c pc : Nat) : Fetch :=
  if 0x10000 ≤ pc then ⟨pc, pc + 4, [], some 4⟩
  else if m.twin c pc then
    let base := pc / 4 * 4
    let w := imWord mem c base
    let pair := Nat.testBit w 15
    if w / 2 ^ 31 = 0 then
      if pc % 4 = 0 then ⟨pc, base + 4, [decFull w], none⟩ else ⟨pc, base + 4, [], some 5⟩
    else if pair then
      if pc % 4 = 0 then ⟨pc, base + 4, [decShort (w / 65536 % 32768), decShort (w % 32768)], none⟩ else ⟨pc, base + 4, [], some 5⟩
    else if pc % 4 = 0 then ⟨pc, base + 2, [decShort (w / 65536 % 32768)], none⟩
    else ⟨pc, base + 4, [decShort (w % 32768)], none⟩
  else if pc % 4 ≠ 0 then ⟨pc, pc / 4 * 4 + 4, [], some 5⟩
  else
    let r := bundleFrom mem c 6 pc
    ⟨pc, r.2.1, r.1, if r.2.2 then some 4 else none⟩

/-- A target that a transfer may not take (R373): bit 1 set in a Bundle region, or the second half of a word that is one group. -/
def badTarget (m : Mach) (mem : Memory) (c t : Nat) : Bool := decide (t < 0x10000) && t % 4 != 0 && (fetchAt m mem c t).fault == some 5

/-- The unit a syllable names, 7 where it is undefined. -/
def SylDec.unit : SylDec → Nat
  | .ok s => s.unit
  | .undef u => if u < 5 then u else 7
  | .reserved u => u

/-- The units a syllable takes (R369). -/
def SylDec.units : SylDec → List Nat
  | .ok s => if s.op.takesL then [s.unit, 3] else [s.unit]
  | d => [d.unit]

/-- The registers a syllable writes. -/
def SylDec.dests : SylDec → List WDest
  | .ok s => s.op.dests
  | _ => []

/-- A list that names something twice. -/
def twice {α : Type} [DecidableEq α] : List α → Bool
  | [] => false
  | x :: l => l.contains x || twice l

/-- The first position at which a test of the syllables up to it holds. -/
def firstAt (l : List SylDec) (p : List SylDec → Bool) : Option Nat := (List.range l.length).find? fun i => p (l.take (i + 1))

/-- ILLEGAL by the syllables alone (R372, R408): SUB, slot and unit of the first cause in the order of SUB. -/
def illegal (l : List SylDec) : Option (Nat × Nat × Nat) :=
  let here (sub : Nat) (i : Option Nat) : Option (Nat × Nat × Nat) := i.map fun i => (sub, min i 4, ((l.getD i (.undef 7)).unit))
  let undef := firstAt l fun q => match q.getLast? with | some (.undef _) => true | _ => false
  let res := firstAt l fun q => match q.getLast? with | some (.reserved _) => true | _ => false
  let dup := firstAt l fun q => twice (q.flatMap (·.units)) || decide (5 < q.length)
  let wr := firstAt l fun q => twice (q.flatMap (·.dests))
  (here 1 undef).orElse fun _ => (here 2 res).orElse fun _ => (here 3 dup).orElse fun _ => here 4 wr

/-- The syllables that decode. -/
def sylsOf (l : List SylDec) : List Syl := l.filterMap fun d => match d with | .ok s => some s | _ => none

/-! ## Fetch order (R373, R374, R379) -/

/-- One fetch slot passes: pending transfers come nearer, and the next address is the target of one that is due, else the address that
follows. -/
def slotPass (jumps : List Jump) (next : Nat) : List Jump × Nat × Option Jump :=
  let l := jumps.map fun j => { j with left := j.left - 1 }
  match l.find? fun j => j.left == 0 with
  | some j => (l.filter fun j => j.left != 0, j.target, some j)
  | none => (l, next, none)

/-- The address that follows the second of the next two groups in fetch order (R404). -/
def afterTwo (m : Mach) (mem : Memory) (c : Nat) (jumps : List Jump) (next : Nat) : Nat :=
  let s1 := slotPass jumps next
  let s2 := slotPass s1.1 (fetchAt m mem c s1.2.1).next
  let s3 := slotPass s2.1 (fetchAt m mem c s2.2.1).next
  s3.2.1

/-! ## Accesses (R376, R385, R400 to R402) -/

/-- An access of a group: address, bytes, whether it stores. -/
structure Access where
  addr : Nat
  bytes : Nat
  write : Bool
  deriving DecidableEq, Repr

/-- A word plus a signed offset, as an address. -/
def addrPlus (w : Word) (i : Int) : Nat := (w + wordOfInt i).toNat

/-- The accesses of an operation, with the registers as they stand before its group. -/
def Core.accs (k : Core) (op : SOp) : List Access :=
  let a (i : Nat) : Word := k.xr .a i
  match op with
  | .ldo z _ _ i imm => [⟨addrPlus (a i) imm, Size.bytes z, false⟩]
  | .sto z _ i imm => [⟨addrPlus (a i) imm, Size.bytes z, true⟩]
  | .ldp z _ _ i => [⟨(a i).toNat, Size.bytes z, false⟩]
  | .stp z _ i => [⟨(a i).toNat, Size.bytes z, true⟩]
  | .ldx z _ _ i rs2 => [⟨(a i + k.gr rs2).toNat, Size.bytes z, false⟩]
  | .stx z _ i rs2 => [⟨(a i + k.gr rs2).toNat, Size.bytes z, true⟩]
  | .push _ => [⟨(k.dsp - 4).toNat, 4, true⟩]
  | .pop _ => [⟨k.dsp.toNat, 4, false⟩]
  | .swap _ i => [⟨(a i).toNat, 4, true⟩]
  | .macd _ _ word i j => let b := if word then 4 else 2; [⟨(a i).toNat, b, false⟩, ⟨(a j).toNat, b, false⟩]
  | _ => []

/-- The BUS_ERROR SUB of an access (R58, R383, R385, R401, R402), if it may not be made. -/
def accFault (c : Nat) (op : SOp) (x : Access) : Option Nat :=
  match regionOf x.addr with
  | some .page =>
    (match op with
    | .macd _ _ _ _ _ => some 6
    | _ => if x.bytes ≠ 4 || x.addr % 4 ≠ 0 then some 6 else match op with | .swap _ _ => some 3 | _ => none)
  | r =>
    if x.addr % x.bytes ≠ 0 then some 1
    else match r with
      | none => some 2
      | some r =>
        (match op with
        | .swap _ _ =>
          if (r == .dm || r == .sharedLow || r == .shared || r == .retained || r == .retainedLow || r == .tlog)
            && allowed c r x.addr true && allowed c r x.addr false then none else some 3
        | _ => if allowed c r x.addr x.write then none else some 3)

/-- A trap of the L unit (R378, R383): cause, SUB and data address. -/
def Mach.lFault (m : Mach) (c : Nat) (k : Core) (op : SOp) (dmBad : Bool) : Option (Nat × Nat × Nat) :=
  let stack : Option (Nat × Nat × Nat) := match op with
    | .push _ => if (k.dsp - 4).toNat < m.fld pgStrand (Strandctl.C_DSTK_LO c) then some (4, 1, (k.dsp - 4).toNat) else none
    | .pop _ => if m.fld pgStrand (Strandctl.C_DSTK_HI c) ≤ k.dsp.toNat then some (4, 2, k.dsp.toNat) else none
    | _ => none
  let bus (x : Access) : Option (Nat × Nat × Nat) := (accFault c op x).map fun b => (2, b, x.addr)
  let ecc (x : Access) : Option (Nat × Nat × Nat) := if dmBad && regionOf x.addr == some .dm && !x.write then some (7, 2, x.addr) else none
  stack.orElse fun _ => ((k.accs op).findSome? bus).orElse fun _ => (k.accs op).findSome? ecc

/-- An access that leaves local memory. -/
def Access.outside (x : Access) : Bool := regionOf x.addr != some .dm

/-! ## Loads and stores -/

/-- An address inside the shared range of the pair (R463). -/
def Mach.inShared (m : Mach) (a : Nat) : Bool := decide (m.sharedRange.1 ≤ a) && decide (a < m.sharedRange.1 + m.sharedRange.2)

/-- The page and offset of an address in the page window (R89). -/
def pageOf (a : Nat) : Nat × Nat := ((a - 0x60000000) / 4096, (a - 0x60000000) % 4096)

/-- A store reaches its region. -/
def storeNow (c : Nat) (x : WStore) (s : State) : State :=
  if regionOf x.addr = some .page then
    let q := pageOf x.addr
    if h : c < 6 then { s with m := s.m.pageWrite (.core ⟨c, h⟩) q.1 q.2 x.val } else s
  else
    let r := pokeBytes c x.addr (leBytes x.bytes x.val.toNat) s.m s.mem
    { s with m := r.1, mem := r.2 }

/-- The oldest buffered store leaves the write buffer. -/
def drainOne (c : Nat) (s : State) : State :=
  match (s.m.core c).wbuf with
  | x :: l => storeNow c x { s with m := s.m.modCore c fun k => { k with wbuf := l } }
  | [] => s

/-- Every buffered store of a core leaves the write buffer. -/
def drainAll (c : Nat) (s : State) : State := (s.m.core c).wbuf.foldl (fun (s : State) (_ : WStore) => drainOne c s) s

/-- An item joins the Lead's input log (R464). -/
def Mach.logInput (c : Nat) (irq : Bool) (v : Word) (m : Mach) : Mach :=
  if m.leadPair && appCore c then
    m.modSplice fun x => { x with log := x.log ++ [⟨c, irq, v, (m.core c).issued - tget x.marks 0 c⟩] }
  else m

/-- The next item of a core's log, and the machine without it (R465). -/
def Mach.logNext (m : Mach) (c : Nat) : Option LogItem := m.splice.log.find? fun x => x.core == c
def dropFirst (c : Nat) : List LogItem → List LogItem
  | [] => []
  | x :: l => if x.core = c then l else x :: dropFirst c l
def Mach.logPop (c : Nat) (m : Mach) : Mach := m.modSplice fun x => { x with log := dropFirst c x.log }

/-- What a load reads where it reads: a page register, or `bytes` little-endian bytes of memory as a number. -/
def readNow (c : Nat) (x : Access) (s : State) : Nat × State :=
  if regionOf x.addr = some .page then
    let q := pageOf x.addr
    let r := s.m.pageRead q.1 q.2
    (r.1.toNat, { s with m := r.2 })
  else (leNat ((List.range x.bytes).map fun i => peekByte s.m s.mem c (x.addr + i)), s)

/-- The value of a load: local data memory, and outside it a page or memory; a replaying core takes outside values from the log (R465), and the
Lead logs them (R464). -/
def loadVal (c : Nat) (x : Access) (s : State) : Nat × State :=
  let far := x.outside && !s.m.inShared x.addr
  if far && (s.m.core c).replay then
    ((match s.m.logNext c with | some i => i.val.toNat | none => 0) % 256 ^ x.bytes, { s with m := s.m.logPop c })
  else
    let r := readNow c x s
    (r.1, if far then { r.2 with m := r.2.m.logInput c false (BitVec.ofNat 32 r.1) } else r.2)

/-- A store: local data memory takes it at once, the write buffer the others; a replaying core discards what would leave its local data
memory and the shared range (R465). -/
def storeVal (c : Nat) (x : Access) (v : Word) (s : State) : State :=
  if !x.outside then { s with mem := writeBytes (memKey c x.addr) (leBytes x.bytes v.toNat) s.mem }
  else if (s.m.core c).replay then
    if s.m.inShared x.addr then { s with mem := writeBytes x.addr (leBytes x.bytes v.toNat) s.mem } else s
  else { s with m := s.m.modCore c fun k => { k with wbuf := k.wbuf ++ [⟨x.addr, x.bytes, v⟩] } }

/-! ## Effects of a group -/

/-- The bytes a load reads, sign-extended as MACD takes them. -/
def signedOf (bytes v : Nat) : Int := if v < 256 ^ bytes / 2 then v else (v : Int) - 256 ^ bytes

/-- The effects of an L operation, or of MACD, with the writes they add; registers as they stand before the group. -/
def lEffect (c : Nat) (k : Core) (op : SOp) (w : Writes) (s : State) : Writes × State :=
  match k.accs op with
  | [] => (w, s)
  | x :: xs =>
    let store (rd : Nat) (w : Writes) : Writes × State := (w, storeVal c x (k.gr rd) s)
    let up (i : Nat) (w : Writes) : Writes := { w with x := w.x ++ [(.a, i, k.addrUp i)] }
    match op with
    | .ldo z u rd _ _ => let r := loadVal c x s; (w.lateG rd (extend z u r.1), r.2)
    | .ldp z u rd i => let r := loadVal c x s; (up i (w.lateG rd (extend z u r.1)), r.2)
    | .ldx z u rd _ _ => let r := loadVal c x s; (w.lateG rd (extend z u r.1), r.2)
    | .pop rd => let r := loadVal c x s; ({ w.lateG rd (BitVec.ofNat 32 r.1) with dsp := some (k.dsp + 4) }, r.2)
    | .sto _ rd _ _ => store rd w
    | .stp _ rd i => store rd (up i w)
    | .stx _ rd _ _ => store rd w
    | .push rd => store rd { w with dsp := some (k.dsp - 4) }
    | .swap rd _ =>
      let r := loadVal c { x with write := false } s
      let s := storeVal c x (k.gr rd) r.2
      (w.lateG rd (BitVec.ofNat 32 r.1), drainAll c s)
    | .macd acc neg _ i j =>
      let r := loadVal c x s
      let y := xs.headD x
      let q := loadVal c y r.2
      (k.macdOp acc neg i j (signedOf x.bytes r.1) (signedOf y.bytes q.1) w, q.2)
    | _ => (w, s)

/-- A transfer that a C operation takes: its target, and the status RETI restores. -/
def cJump (k : Core) (addr : Nat) (op : SOp) : Option (Nat × Option Word) :=
  let rel (off : Int) : Nat := (BitVec.ofInt 32 ((addr : Int) + 2 * off)).toNat
  match op with
  | .br off => some (rel off, none)
  | .call off => some (rel off, none)
  | .brdec off => if k.rpt = 1 then none else some (rel off, none)
  | .brr rs1 => some ((k.gr rs1).toNat, none)
  | .callr rs1 => some ((k.gr rs1).toNat, none)
  | .ret => k.frames.head?.map fun f => (f.addr, none)
  | .reti => k.frames.head?.map fun f => (f.addr, some f.status)
  | _ => none

/-- A trap of the C unit (R373, R377, R383): cause and SUB. -/
def cFault (m : Mach) (mem : Memory) (c : Nat) (k : Core) (addr : Nat) (op : SOp) : Option (Nat × Nat) :=
  let stack : Option (Nat × Nat) := match op with
    | .call _ => if 28 ≤ k.frames.length then some (3, 1) else none
    | .callr _ => if 28 ≤ k.frames.length then some (3, 1) else none
    | .ret => if k.frames.isEmpty then some (3, 2) else none
    | .reti => if k.frames.isEmpty then some (3, 2) else none
    | .trap code => some (5, code)
    | .brk => some (6, 0)
    | _ => none
  stack.orElse fun _ => match cJump k addr op with
    | some (t, _) => if t % 2 = 1 || badTarget m mem c t then some (2, 5) else none
    | none => none

/-- A REP prefix's count (R379, R405). -/
def repCount (k : Core) (op : SOp) : Option Nat :=
  match op with
  | .rep n => some n
  | .repr rs1 => some (k.gr rs1).toNat
  | _ => none

/-- The core leaves the group at `next`: the slot passes, a due transfer is taken, and where RETI restores REP_LIVE the body is repeated
(R374, R380, R404). -/
def Core.advance (m : Mach) (mem : Memory) (c : Nat) (next : Nat) (new : Option Jump) (k : Core) : Core :=
  let r := slotPass k.jumps next
  let k := { k with jumps := r.1 ++ new.toList, pc := r.2.1 }
  match r.2.2 with
  | some j =>
    match j.status with
    | some st =>
      let k := { k with jumps := ⟨0, j.target, some (setBit st stREP false)⟩ :: k.jumps }
      if st.getLsbD stREP then
        if k.rpt = 0 then { k with pc := (fetchAt m mem c k.pc).next } else { k with rep := some k.rpt.toNat }
      else k
    | none => k
  | none => k

/-- The C operations whose effect is more than a transfer: BRDEC, WAIT, and those that push (true) or pop a frame. -/
def SOp.isBrdec : SOp → Bool
  | .brdec _ => true
  | _ => false
def SOp.isWait : SOp → Bool
  | .wait => true
  | _ => false
def SOp.stackOp : SOp → Option Bool
  | .call _ => some true | .callr _ => some true | .ret => some false | .reti => some false
  | _ => none

/-- The call stack after a group (R377): a frame pushed with the address behind its delay groups, or the newest one gone. -/
def framesAfter (c : Nat) (g : Group) (k : Core) (live : List Syl) (s : State) : List Frame :=
  match live.findSome? fun y => y.op.stackOp with
  | some true => ⟨afterTwo s.m s.mem c k.jumps g.next, k.status, 0⟩ :: k.frames
  | some false => k.frames.drop 1
  | none => k.frames

/-- The core goes on behind a group (R373, R379, R404): the next iteration of a REP body, a transfer, a body that a REP sets up or skips, or
the next group. -/
def Core.leave (c : Nat) (g : Group) (jump : Option (Nat × Option Word)) (count : Option Nat) (s : State) (k : Core) : Core :=
  match k.rep with
  | some left =>
    if left ≤ 1 then ({ k with rep := none, rpt := 0 }).advance s.m s.mem c g.next none
    else { k with rep := some (left - 1), rpt := BitVec.ofNat 32 (left - 1) }
  | none =>
    let k := k.advance s.m s.mem c g.next (jump.map fun j => ⟨2, j.1, j.2⟩)
    match count with
    | some 0 => ({ k with rpt := 0 }).advance s.m s.mem c (fetchAt s.m s.mem c k.pc).next none
    | some n => { k with rpt := BitVec.ofNat 32 n, rep := some n }
    | none => k

/-- What the machine shows of a core that has issued the group at `addr`: PC; a WAIT that finds nothing pending; a group that an enabled vector
has waited for (R382); a Doze that was asked for. -/
def Mach.groupEnds (c addr : Nat) (waits : Bool) (k : Core) (m : Mach) : Mach :=
  let m := (m.setCore c k).setFld pgStrand (Strandctl.C_PC c) addr
  let m := if waits && (k.replay || m.irqDue c == 0) then m.setCoreSt c 3 else m
  let m := if m.irqDue c != 0 && k.stBit stIE then m.modCore c fun k => { k with defer := k.defer + 1 } else m
  m.dozeSettle c

/-- Every effect of a group whose accesses are ready and that does not trap. -/
def runGroup (c : Nat) (g : Group) (s : State) : State :=
  let k := s.m.core c
  let live := g.syls.filter fun y => k.pred y.pr
  let w := live.foldl (fun (w : Writes) (y : Syl) => k.mOp y.op (k.xyOp y.op w)) Writes.none
  let r := live.foldl (fun (a : Writes × State) (y : Syl) => lEffect c k y.op a.1 a.2) (w, s)
  let s := r.2
  let w := if live.any fun y => y.op.isBrdec then { r.1 with rpt := some (k.rpt - 1) } else r.1
  let q := { k.commit w with frames := framesAfter c g k live s, wbuf := (s.m.core c).wbuf, stall := none }
  let q := q.leave c g (live.findSome? fun y => cJump k g.addr y.op) (live.findSome? fun y => repCount k y.op) s
  { s with m := s.m.groupEnds c g.addr (live.any fun y => y.op.isWait) q }

/-! ## Stalls -/

/-- What a group waits for: room in the write buffer or its draining, accesses outside local memory, or nothing (R374, R376, R402). A
replaying core's loads come from the log. -/
inductive Waits where
  | ready
  | buffer
  | access (n : Nat)
  deriving DecidableEq, Repr

def Core.waits (k : Core) (syls : List Syl) : Waits :=
  let live := syls.filter fun y => k.pred y.pr
  let drains := live.any fun y => match y.op with | .sync => true | .swap _ _ => true | _ => false
  let accs := live.flatMap fun y => k.accs y.op
  let far := accs.filter fun x => x.outside
  let swaps := live.any fun y => match y.op with | .swap _ _ => true | _ => false
  let loads := (far.filter fun x => !x.write || swaps).length
  let stores := (far.filter fun x => x.write).length
  if drains && !k.wbuf.isEmpty then .buffer
  else if 0 < loads && !k.replay then .access loads
  else if 0 < stores && !swaps && !k.replay && decide (4 ≤ k.wbuf.length) then .buffer
  else .ready

/-- A group that does not trap runs, or waits. -/
def issueReady (c : Nat) (g : Group) (s : State) : State :=
  match (s.m.core c).waits g.syls with
  | .ready => runGroup c g s
  | .buffer => { s with m := s.m.modCore c fun k => { k with stall := some (g, 0) } }
  | .access n => { s with m := s.m.modCore c fun k => { k with stall := some (g, n) } }

/-- ACCESS_COMPLETE (R376): an outstanding access of a stalled core completes; with the last one the group takes effect, behind the stores
the core has buffered (R374). -/
def accessComplete (c : Nat) (s : State) : State :=
  match (s.m.core c).stall with
  | some (g, n + 1) =>
    if n = 0 then
      let s := drainAll c { s with m := s.m.modCore c fun k => { k with stall := none } }
      if s.m.coreSt c = 2 && !(s.m.core c).closing then runGroup c g s else s
    else { s with m := s.m.modCore c fun k => { k with stall := some (g, n) } }
  | _ => s

/-- WRITE_BUFFER_DRAIN (R374, R402, R546): the oldest buffered store reaches its region; a group that waits for the buffer tries again, and a
core under RESET stops once the buffer is empty. -/
def bufferDrain (c : Nat) (s : State) : State :=
  let s := drainOne c s
  let k := s.m.core c
  if k.closing then (if k.wbuf.isEmpty then { s with m := s.m.coreClose c } else s)
  else match k.stall with
    | some (g, 0) => issueReady c g { s with m := s.m.modCore c fun k => { k with stall := none } }
    | _ => s

/-! ## Issue -/

/-- A trap of a group at `addr` (R383, R405): the frame's address and status, inside a REP body the remaining count and REP_LIVE. A TRAP or
BREAK returns behind its group. -/
def groupTrap (c : Nat) (f : Fetch) (t : TrapInfo) (s : State) : State :=
  let k := s.m.core c
  let soft := t.cause == 5 || t.cause == 6
  let after := (slotPass k.jumps f.next).2.1
  let m := s.m
  { s with m :=
    match k.rep with
    | some left =>
      if soft then
        let m := m.modCore c fun k => { k with rpt := BitVec.ofNat 32 (left - 1) }
        if left ≤ 1 then m.coreTrap c t after (setBit k.status stREP false) else m.coreTrap c t f.addr (setBit k.status stREP true)
      else (m.modCore c fun k => { k with rpt := BitVec.ofNat 32 left }).coreTrap c t f.addr (setBit k.status stREP true)
    | none => m.coreTrap c t (if soft then after else f.addr) k.status }

/-- The trap a group raises, if any (R383): ILLEGAL, then a fetch fault, then the L unit, then the C unit. `ecc` is 2 for an uncorrectable
error of instruction memory, which leaves nothing to decode, and 3 for one of data memory. -/
def groupFault (c : Nat) (f : Fetch) (ecc : Nat) (s : State) : Option TrapInfo :=
  let m := s.m
  let k := m.core c
  let syls := sylsOf f.decs
  let slotOf (p : Syl → Bool) : Nat := (syls.findIdx p)
  if ecc = 2 then some ⟨7, 1, 0, 7, none⟩
  else match illegal f.decs with
    | some (sub, slot, unit) => some ⟨1, sub, slot, unit, none⟩
    | none =>
      let body := sylsOf (fetchAt m s.mem c (slotPass k.jumps f.next).2.1).decs
      let live := syls.filter fun y => k.pred y.pr
      if f.fault.isNone && k.rep.isNone && syls.any (fun y => y.op.isRep) && body.any (fun y => y.op.rptWriter) then
        some ⟨1, 5, slotOf (fun y => y.op.isRep), 4, none⟩
      else match f.fault with
        | some sub => some ⟨2, sub, 0, 7, none⟩
        | none =>
          let l := live.findSome? fun y => (m.lFault c k y.op (ecc == 3)).map fun q => (⟨q.1, q.2.1, slotOf (· == y), y.unit, some q.2.2⟩ : TrapInfo)
          l.orElse fun _ => live.findSome? fun y => (cFault m s.mem c k f.addr y.op).map fun q =>
            (⟨q.1, q.2, slotOf (· == y), y.unit, none⟩ : TrapInfo)

/-- Whether a replaying core may issue now (R465): an interrupt logged at this count comes first, and without an item ahead it waits. -/
def Mach.replayHolds (m : Mach) (c : Nat) : Bool :=
  (m.core c).replay && (match m.logNext c with
    | some i => i.irq && decide (i.groups ≤ (m.core c).issued)
    | none => true)

/-- A core issues a group (R369 to R384): it runs, is not stalled, and no RESET waits for its write buffer. -/
def issue (c : Nat) (f : Fetch) (ecc : Nat) (s : State) : State :=
  let k := s.m.core c
  if s.m.mainOff || s.m.coreSt c ≠ 2 || k.stall.isSome || k.closing || s.m.replayHolds c then s
  else
    let s := match k.jumps.find? fun j => j.left == 0 with
      | some j => { s with m := s.m.setCore c { k with status := j.status.getD k.status, jumps := k.jumps.filter fun j => j.left != 0 } }
      | none => s
    let s := if ecc = 1 then { s with m := s.m.incSat pgStrand (Strandctl.C_ECC_CORR c) } else s
    match groupFault c f ecc s with
    | some t =>
      let s := if t.cause = 7 then { s with m := (s.m.incSat pgStrand (Strandctl.C_ECC_UNCORR c)).raise pgStrand (16 + c) } else s
      groupTrap c f t s
    | none => issueReady c ⟨f.addr, f.next, sylsOf f.decs⟩ s

/-- ISSUE_GROUP (R369, R374): the group at the core's pc. -/
def issueFetched (c ecc : Nat) (s : State) : State := issue c (fetchAt s.m s.mem c (s.m.core c).pc) ecc s

/-- One operation as the core's next group (the rows of 15_strand_instructions.md): a group of one syllable at the core's pc. -/
def issueOp (c : Nat) (y : Syl) (s : State) : State :=
  let pc := (s.m.core c).pc
  issue c ⟨pc, pc / 4 * 4 + 4, [.ok y], none⟩ 0 s

/-- NARROW_ACCESS (R58): a narrow or unaligned access to a page by a core raises BUS_ERROR with SUB 6 and has no effect. -/
def narrowAccess (c a : Nat) (s : State) : State :=
  let k := s.m.core c
  if s.m.mainOff || s.m.coreSt c ≠ 2 || k.stall.isSome || k.closing then s
  else { s with m := s.m.coreTrap c ⟨2, 6, 0, 3, some a⟩ k.pc k.status }

/-- INTERRUPT_ACCEPT on any core (R380, R381, R464, R465): the Lead logs the vector; a replaying core takes the vector the log holds, at its
group count. -/
def Mach.irqRow (c : Nat) (m : Mach) : Mach :=
  if (m.core c).replay then
    match m.logNext c with
    | some i =>
      if i.irq && decide (i.groups ≤ (m.core c).issued) && (m.coreSt c == 2 || m.coreSt c == 3) && (m.core c).acceptable then
        ((m.setCoreSt c 2).acceptVec c (i.val.toNat % 32)).logPop c
      else m
    | none => m
  else if m.irqTaken c then (m.logInput c true (BitVec.ofNat 32 (lowestBit (m.irqDue c)))).interruptAccept c
  else m

/-! ## Image load (R386, R387) -/

/-- A 32-bit header field of an image, and a 16-bit one. -/
def hdr32 (mem : Memory) (c o : Nat) : Nat := leNat (readBytes mem (imageBase c + o) 4)
def hdr16 (mem : Memory) (c o : Nat) : Nat := leNat (readBytes mem (imageBase c + o) 2)

/-- The header meets R386. -/
def headerOk (m : Mach) (mem : Memory) (c : Nat) : Bool :=
  let h := hdr32 mem c
  h 0x00 == 0x5041564A && hdr16 mem c 0x04 == 1 && hdr16 mem c 0x06 == c && decide (tget m.floors 0 c ≤ h 0x08)
    && decide (4 ≤ h 0x0C) && decide (h 0x0C ≤ 65536) && h 0x0C % 4 == 0 && decide (h 0x10 ≤ 65536)
    && decide (h 0x14 < h 0x0C) && h 0x14 % 4 == 0 && hdr16 mem c 0x1A == 0 && h 0x1C % 0x800 == 0 && decide (h 0x1C < 0x10000)
    && decide (0x10000 ≤ h 0x20) && h 0x20 % 4 == 0 && decide (h 0x20 < h 0x24) && decide (h 0x24 ≤ 0x20000) && h 0x24 % 4 == 0
    && decide (h 0x28 ≤ m.fld pgDev Dev.FWVER) && decide (h 0x2C < 64)
    && ((readBytes mem (imageBase c + 0x90) 112).all fun b => b == 0)

/-- The bytes IM then DM of an image. -/
def imageBody (mem : Memory) (c : Nat) : List Byte := readBytes mem (imageBase c + 256) (hdr32 mem c 0x0C + hdr32 mem c 0x10)

/-- What a load finds (R387): 0 good, else the LOAD_ERR code. A header that fails gives one of the codes 1 to 5, a free value
(notes/assumptions/5.md). -/
def loadErr (m : Mach) (mem : Memory) (c : Nat) : Nat × Mach :=
  if !headerOk m mem c then let r := m.free; (r.1 % 5 + 1, r.2)
  else if sha256 ((imageBody mem c).map (·.toNat)) ≠ imageHash mem c then (6, m)
  else match m.imageKey (hdr32 mem c 0x2C) with
    | none => (8, m)
    | some pub =>
      let msg := (readBytes mem (imageBase c) 0x50).map (·.toNat)
      let sig := (readBytes mem (imageBase c + 0x50) 64).map (·.toNat)
      (if ecdsaVerify pub msg sig then 0 else 7, m)

/-- A good image is in (R387): its memories, the rest of local data memory zero, its registers and rollback floor; a core of AUTOSTART
starts. -/
def loadDone (c : Nat) (s : State) : State :=
  let h := hdr32 s.mem c
  let body := imageBody s.mem c
  let mem := writeBytes (memKey c 0x10000) (body.drop (h 0x0C))
    (writeBytes (memKey c 0) (body.take (h 0x0C)) (eraseRange (memKey c 0x10000) 0x10000 s.mem))
  let m := s.m.setFld pgStrand (Strandctl.C_LOAD_ERR c) 0
  let m := (m.setFld pgStrand (Strandctl.C_TWIN_MAP c) (hdr16 s.mem c 0x18)).setFld pgStrand (Strandctl.C_VBAR c) (h 0x1C)
  let m := (m.setFld pgStrand (Strandctl.C_DSTK_LO c) (h 0x20)).setFld pgStrand (Strandctl.C_DSTK_HI c) (h 0x24)
  let m := m.setFld pgStrand (Strandctl.C_IMG_VER c) (h 0x08)
  let m := { m with floors := tput m.floors 0 c (max (tget m.floors 0 c) (h 0x08)) }
  let auto := (m.core c).auto
  let m := m.setCore c { m.coreFresh c with entry := h 0x14 }
  let m := m.setCoreSt c 0
  { s with m := if auto then m.coreBegin c else m, mem := mem }

/-- LOAD_COMPLETE (R386, R387): a LOADING core gets its image, or fails with its memories zeroed. -/
def loadComplete (c : Nat) (s : State) : State :=
  if !(appCore c && s.m.coreSt c == 1) then s
  else
    let r := loadErr s.m s.mem c
    if r.1 ≠ 0 then { s with m := r.2.loadFailed c r.1, mem := eraseRange (memKey c 0) 0x20000 s.mem }
    else loadDone c { s with m := r.2 }

end Sys2Proof.Machine
end

