-- ==== Sys2Proof/Machine/Startup.lean ====
section
/-! DEFINITION. Starts: what MRAM keeps, the start from Off, the restart at step 5, the recovery loader and the end of both logic feeds
(22_startup_and_electrical.md R527 to R537; 04_protected_outputs.md R149; 13_trouble_log_and_logline.md R343, R346, R357, R359). -/

namespace Sys2Proof.Machine

/-! ## What a start keeps -/

/-- A table with every entry brought to what a start keeps of it. -/
def tkeep {α : Type} [DecidableEq α] (d : α) (f : α → α) (t : Table α) : Table α :=
  t.foldl (fun (a : Table α) (p : Nat × α) => tput a d p.1 (f p.2)) []

/-- Registers of a page carried from one machine to another. -/
def copyRegs (old : Mach) (l : List (Nat × Nat)) (m : Mach) : Mach :=
  l.foldl (fun (m : Mach) (p : Nat × Nat) => m.setReg p.1 p.2 (old.reg p.1 p.2)) m

/-- The fuse-held registers: ORDER, HWREV, UID and PROVISIONED; and ERASES, which MRAM holds (R506). -/
def fuseRegs : List (Nat × Nat) := [(pgDev, 0x044), (pgDev, 0x048), (pgLocker, 0x048), (pgLocker, 0x04C)]

/-- A bridge that was moving when power was lost comes back with HOMED 0 (R202). -/
def Mach.bridgesLost (m : Mach) : Mach :=
  (List.range 8).foldl (fun (m : Mach) (b : Nat) =>
    if m.flag (pgBridge b) Bridge.MOVING then m.modBr b fun a => { a with homedStored := false } else m) m

/-- What a loss of the main domain leaves: every register and all volatile state at reset, with what fuses and MRAM hold: the copies of
adaptive quantities and ledgers, chain maps, the policy table, t_op, PCYC, Logline slots, rollback floors, Locker slots, token entries and the
rolling counter (R89, R181, R202, R225, R255, R271, R289, R324, R346, R492, R506, R514, R519, R533). -/
def Mach.mainLost (m : Mach) : Mach :=
  let z : Mach := { machReset with
    outs := tkeep outReset (fun a => { outReset with
      damageStored := a.damageStored, residueStored := a.residueStored, halvesStored := a.halvesStored }) m.outs
    bridges := tkeep bridgeReset (fun a => { bridgeReset with
      posStored := a.posStored, homedStored := a.homedStored, uncertStored := a.uncertStored, profileStored := a.profileStored }) m.bridges
    rats := tkeep ratReset (fun a => { ratReset with bypassStored := a.bypassStored }) m.rats
    valves := tkeep valveReset (fun a => { valveReset with rStored := a.rStored }) m.valves
    ins := tkeep inReset (fun a => { inReset with ctStored := a.ctStored }) m.ins
    chains := tkeep chainReset (fun a => { chainReset with stored := a.stored, mapValid := a.mapValid }) m.chains
    policy := { machReset.policy with stored := m.policy.stored, storedBad := m.policy.storedBad }
    log := { machReset.log with topMs := m.log.topStored, topStored := m.log.topStored, pcyc := m.log.pcyc, slots := m.log.slots }
    floors := m.floors
    locker := { machReset.locker with slots := m.locker.slots, nonce := m.locker.nonce }
    tether := { machReset.tether with tokens := m.tether.tokens, rctrStored := m.tether.rctrStored }
    freeCount := m.freeCount }
  let z := copyRegs m fuseRegs z
  let z := (z.setFld pgLocker Locker.ERASES (m.fld pgLocker Locker.ERASES)).setFld pgLocker Locker.SLOTS_USED (m.fld pgLocker Locker.SLOTS_USED)
  let z := z.setFlag pgLocker Locker.PROVISIONED (m.flag pgLocker Locker.PROVISIONED)
  (List.range 128).foldl (fun (z : Mach) (c : Nat) => z.setFlag (pgOut c) Out.BOOT_ON (m.flag (pgOut c) Out.BOOT_ON)) z

/-- The machine after the loss of all supply (R202). -/
def Mach.powerLost (m : Mach) : Mach := m.bridgesLost.mainLost

/-- The machine after a reset of the main domain alone (R536): as after a loss of supply, but the Reckoner, the Trouble log, t_op, the
reading of HALT_N (R30) and the Locker go on. -/
def Mach.domainLost (m : Mach) : Mach :=
  let z := m.mainLost
  let z := { z with log := { m.log with appAt := [], queue := [], lost := false, stopped := false }, locker := m.locker
                    pwr := { z.pwr with upA := m.pwr.upA, upB := m.pwr.upB } }
  let regs (n : Nat) (l : List Nat) : List (Nat × Nat) := l.map fun o => (n, o)
  let z := copyRegs m (regs pgReckon [0x040, 0x044, 0x048, 0x04C, 0x050, 0x054, 0x058] ++ regs pgTlog [0x044, 0x048, 0x04C]
    ++ regs pgLocker [0x00C, 0x014, 0x018, 0x040, 0x044, 0x048, 0x04C, 0x068, 0x06C]) z
  let z := z.setFlag pgLay Lay.HALT_LOW (m.flag pgLay Lay.HALT_LOW)
  { z with units := tput z.units (unitReset pgLocker) pgLocker { m.unit pgLocker with held := none } }

/-- Memory that outlives the main domain (R472, R536), and what outlives all supply. -/
def keepMem (p : Nat → Bool) (mem : Memory) : Memory := mem.filter fun c => p c.1
def keptOff (a : Nat) : Bool := decide (0x40000000 ≤ a) && decide (a ≤ 0x40FFFFFF)

/-! ## Firmware banks (R532) -/

/-- Where a bank starts, and its header fields. -/
def bankAt (k : Nat) : Nat := 0x40000000 + k * 0x400000
def bank32 (mem : Memory) (k o : Nat) : Nat := leNat (readBytes mem (bankAt k + o) 4)
def bankBytes (mem : Memory) (k o n : Nat) : List Nat := (readBytes mem (bankAt k + o) n).map (·.toNat)

/-- A bank passes every rule of R532; an error state of the Locker fails it. -/
def firmwareOk (m : Mach) (mem : Memory) (k : Nat) : Bool :=
  let h := bank32 mem k
  !m.flag pgLocker Locker.ERROR && h 0x00 == 0x5746564A && bankBytes mem k 0x04 4 == [1, 0, 0, 0] && decide (tget m.floors 0 0 ≤ h 0x08)
    && decide (1024 ≤ h 0x0C) && decide (h 0x0C ≤ 4194048) && h 0x0C % 4 == 0
    && (bankBytes mem k 0x10 16).all (· == 0) && (bankBytes mem k 0xC0 64).all (· == 0)
    && sha256 (bankBytes mem k 0x40 64) == (List.range 32).map (fun i => Config.fuseKeyByte i % 256)
    && ecdsaVerify (bankBytes mem k 0x40 64) (bankBytes mem k 0 0x80) (bankBytes mem k 0x80 64)
    && sha256 (bankBytes mem k 256 (h 0x0C)) == bankBytes mem k 0x20 32

/-- The bank that runs, with whether the first one checked failed (R532): descending VERSION, bank A first when equal. -/
def bankChoice (m : Mach) (mem : Memory) : Option (Nat × Bool) :=
  let first := if bank32 mem 0 0x08 < bank32 mem 1 0x08 then 1 else 0
  if firmwareOk m mem first then some (first, false)
  else if firmwareOk m mem (1 - first) then some (1 - first, true)
  else none

/-! ## Steps of a start -/

/-- BOOT_ON channels are on by hardware with BOOT_HELD set (R149). -/
def Mach.bootChannels (m : Mach) : Mach :=
  (List.range 128).foldl (fun (m : Mach) (c : Nat) =>
    let n := pgOut c
    if m.flag n Out.BOOT_ON && !m.absent n then
      let m := (m.modUnit n fun u => { u with enabled := true }).setFlag n Out.BOOT_HELD true
      let m := (m.setFlag n Out.ON true).setShFld n Out.ON 1
      (m.setSt n 2).outSettle c
    else m) m

/-- Every page that a start configures and clears. -/
def Mach.startPages (m : Mach) : List Nat := (List.range 0x180).filter fun n => m.occupied n && !m.absent n

/-- Step 7 (R359, R535): the stores of MRAM are restored. -/
def Mach.restoreAll (m : Mach) : Mach :=
  let m := (List.range 128).foldl (fun (m : Mach) (c : Nat) => m.ledgerLoad c) m
  let m := (List.range 8).foldl (fun (m : Mach) (b : Nat) => m.brRestore b) m
  let m := (List.range 24).foldl (fun (m : Mach) (p : Nat) => m.ratRestore p) m
  let m := (List.range 8).foldl (fun (m : Mach) (v : Nat) => m.coilRestore v) m
  let m := (List.range 96).foldl (fun (m : Mach) (i : Nat) => m.ctRestore i) m
  let m := (List.range 4).foldl (fun (m : Mach) (c : Nat) => m.mapRestore c) m
  m.loglineScan.rctrResume

/-- The registers of LOCKER that a configuration gives and no write reaches (R508). -/
def Mach.certLoad (ws : List (Nat × Nat × Word)) (m : Mach) : Mach :=
  (ws.filter fun w => w.1 == pgLocker).foldl (fun (m : Mach) (w : Nat × Nat × Word) =>
    if w.2.1 = 0x050 then m.setReg pgLocker 0x050 w.2.2
    else if w.2.1 = 0x054 then m.setReg pgLocker 0x054 (w.2.2 &&& 0xFFFF#32)
    else m) m

/-- CFG.TAMPER as the sensors are armed with it (R508, R530): the configuration's, 0x0011 where there is none or one with a reserved code. -/
def tamperCode (config : Option (List (Nat × Nat × Word))) : Nat :=
  match (config.getD []).reverse.find? fun w => w.1 == pgLocker && w.2.1 == 0x040 with
  | some w => if (List.range 7).any (fun s => decide (2 ≤ w.2.2.toNat / 4 ^ s % 4)) then 0x11 else w.2.2.toNat % 2 ^ 14
  | none => 0x11

/-- The entries of R535: one for the first-fault latch, and one for every FAULT_SET bit found set. -/
def Mach.foundFaults (m : Mach) : Mach :=
  let note (n b : Nat) (m : Mach) : Mach :=
    m.tlogWrite 1 n (m.reaction n b * 2 ^ 13 + b) (m.reg n 0x018) (m.reg n 0x00C)
  let m := if m.flag pgLay Lay.VALID then note (m.fld pgLay Lay.UNIT) (m.fld pgLay Lay.BIT) m else m
  m.startPages.foldl (fun (m : Mach) (n : Nat) =>
    (List.range 32).foldl (fun (m : Mach) (b : Nat) => if m.src n b then note n b m else m) m) m

/-- Step 8 (R535): the configuration is loaded and applied, the tables are loaded, every unit is sent CLEAR_FAULTS with SEQ 0, and the
FAULT_N pin is released. -/
def Mach.configure (ws : List (Nat × Nat × Word)) (m : Mach) : Mach :=
  let m := (ws.foldl (fun (m : Mach) (w : Nat × Nat × Word) => m.pageWrite (.core 0) w.1 w.2.1 w.2.2) m).certLoad ws
  let m := m.startPages.foldl (fun (m : Mach) (n : Nat) => if n = pgPolicy then m else m.applyUnit n) m
  let m := m.polLoad
  let m := m.startPages.foldl (fun (m : Mach) (n : Nat) => m.clearUnit n) m
  let m := (List.range 128).foldl (fun (m : Mach) (c : Nat) => m.derate c) m
  ({ m with lay := { m.lay with released := true } }).layRefresh

/-- The start word of R537. -/
def startWord (result bank cause : Nat) : Word := BitVec.ofNat 32 (result * 65536 + bank * 256 + cause)

/-- Steps 6 to 9 with the firmware of version `ver` in bank `bank`, after another bank failed where `fell` (R530, R532 to R537). -/
def Mach.booted (config : Option (List (Nat × Nat × Word))) (cause bank : Nat) (fell : Bool) (ver : Nat) (m : Mach) : Mach :=
  let m := (m.setFld pgDev Dev.FWVER ver).firmwareRuns
  let m := (m.pllUp 100).fidRenew.restoreAll
  let m := if cause = 0 then
      let m := { m with log := { m.log with pcyc := m.log.pcyc + 1 } }
      (m.setFld pgLogline Logline.PCYC m.log.pcyc).tlogWrite 4 pgPwr 0 0 (BitVec.ofNat 32 m.log.pcyc)
    else m.setFld pgLogline Logline.PCYC m.log.pcyc
  let m := m.foundFaults
  let result := if config.isNone then 2 else if fell then 1 else 0
  let m := match config with
    | some ws => (List.range 8).foldl (fun (m : Mach) (v : Nat) => m.coilFresh v)
      ((List.range 96).foldl (fun (m : Mach) (i : Nat) => m.ctFresh i) (m.configure ws))
    | none => m.polUp.raise pgPolicy 3
  let m := if cause = 0 then
      (List.range 8).foldl (fun (m : Mach) (k : Nat) => if m.capType k = 0 then m.setFlag (pgCap k) Cap.GAP true else m) m
    else m
  let m := m.loglinePush 16 pgPwr 0 0 0 0 (BitVec.ofNat 32 ver) (startWord result bank cause) (cause == 0)
  let m := (m.setFlag pgPwr Pwr.READY true).relog fun _ => true
  if config.isSome then m.autostart else m

/-- Steps 5 to 9 (R530, R532 to R537). `config` is what the configuration region holds where its CRC passes; `cause` the start's cause.
With no bank the recovery loader runs and the module goes no further. -/
def bootFrom (config : Option (List (Nat × Nat × Word))) (cause : Nat) (s : State) : State :=
  match bankChoice s.m s.mem with
  | none => { s with m := s.m.setFld pgDev Dev.FWVER 0 }
  | some (bank, fell) => { s with m := s.m.booted config cause bank fell (bank32 s.mem bank 0x08) }

/-- Steps 1 to 4 (R530): the fuses are read, lid switch 1 and the mesh with them (R503), the sensors armed and the Locker tested. -/
def Mach.fed (fuses : Fuses) (fail : Option Nat) (tamper : Nat) (m : Mach) : Mach :=
  let m := m.powerLost
  let m := ((m.setFld pgDev Dev.ORDER fuses.order).setFld pgDev Dev.HWREV fuses.hwrev).setFld pgDev Dev.PATCH fuses.patch
  let m := (m.setReg pgLocker 0x048 fuses.uid0).setReg pgLocker 0x04C fuses.uid1
  let m := m.setFlag pgLocker Locker.PROVISIONED fuses.provisioned
  let m := (List.range 128).foldl (fun (m : Mach) (c : Nat) => m.setFlag (pgOut c) Out.BOOT_ON (fuses.bootOn.contains c)) m
  let m := ((m.setFlag pgReckon Reckon.GAP true).raise pgReckon 1).setFlag pgLay Lay.HALT_LOW true
  let m := m.setFld pgLocker Locker.TAMPER tamper
  let m := if fuses.lidOpen then m.tamperOn 0 else m
  let m := if fuses.meshBad then m.tamperOn 2 else m
  m.bootChannels.layRefresh.deriveIdentity.lockerTested fail

/-- A logic feed is above the start threshold, or is not (R527): LOGIC_A is feed 0. -/
def Mach.feedAbove (m : Mach) (b : Nat) : Bool := if b = 0 then m.pwr.upA else m.pwr.upB
def Mach.setLogicFeed (b : Nat) (up : Bool) (m : Mach) : Mach :=
  { m with pwr := if b = 0 then { m.pwr with upA := up } else { m.pwr with upB := up } }

/-- LOGIC_FEED_START (R527, R530): logic feed `b` has read `mV` for `us`; from 13.0 V for 1 ms it is above the start threshold. While
neither feed was, the module starts from Off. `fuses` is what the fuses hold and `fail` the Locker test that fails. -/
def feedStart (b mV us : Nat) (fuses : Fuses) (fail : Option Nat) (config : Option (List (Nat × Nat × Word))) (s : State) : State :=
  if mV < 13000 || us < 1000 then s
  else if s.m.pwr.upA || s.m.pwr.upB then { s with m := s.m.setLogicFeed b true }
  else bootFrom config 0 { s with m := (s.m.fed fuses fail (tamperCode config)).setLogicFeed b true, mem := keepMem keptOff s.mem }

/-- WATCHDOG and UPDATE (R536): the main domain resets and the start resumes at step 5. BOOT_ON channels stay on. -/
def restart (cause : Nat) (config : Option (List (Nat × Nat × Word))) (s : State) : State :=
  if s.m.mainOff then s
  else bootFrom config cause { s with m := s.m.domainLost.bootChannels, mem := keepMem keptAsleep s.mem }

/-- WATCHDOG (R536): a core of S0 and S1 has not serviced its watchdog for `ms`, more than 100. -/
def watchdog (ms : Nat) (config : Option (List (Nat × Nat × Word))) (s : State) : State :=
  if ms ≤ 100 then s else restart 1 config s

/-- RECOVERY_IMAGE (R534): in the recovery loader an image written over ETH0 is checked, goes to bank A, and the start resumes at step 5. -/
def recoveryImage (image : List Byte) (config : Option (List (Nat × Nat × Word))) (s : State) : State :=
  if s.m.mainOff || s.m.flag pgPwr Pwr.READY || s.m.fld pgDev Dev.FWVER ≠ 0 || 0x400000 < image.length then s
  else
    let mem := writeBytes (bankAt 0) image (eraseRange (bankAt 0) 0x400000 s.mem)
    if firmwareOk s.m mem 0 then bootFrom config 0 { s with mem := mem } else s

/-- ROLLBACK_FLOOR_RAISE (R533): the running image has run for `h` hours of t_op without a watchdog reset. -/
def Mach.floorRaise (h : Nat) (m : Mach) : Mach :=
  if 1 ≤ h then { m with floors := tput m.floors 0 0 (max (tget m.floors 0 0) (m.fld pgDev Dev.FWVER)) } else m

/-- The logic feeds stop (R528, R471): the STOP record is written in Run or Doze, every drive unit is off and the module is in Off. -/
def Mach.unfed (m : Mach) : Mach :=
  let m := (if m.mainOff then m else ((m.loglinePush 17 pgPwr 0 0 0 0 0 0 false).logDrain 65)).powerLost
  { m with mainOff := true, pwr := { m.pwr with asleep := 3 } }

/-- LOGIC_FEED_STOP (R471, R527, R528): logic feed `b` has read `mV` for `us`; below 12.0 V for 10 ms it is no longer above the start
threshold. With neither feed above it the module goes to Off. -/
def feedStop (b mV us : Nat) (s : State) : State :=
  if 12000 ≤ mV || us < 10000 || !s.m.feedAbove b then s
  else
    let m := s.m.setLogicFeed b false
    if m.pwr.upA || m.pwr.upB then { s with m := m } else { s with m := m.unfed, mem := keepMem keptOff s.mem }

end Sys2Proof.Machine
end

