-- ==== Sys2Proof/Machine/Run.lean ====
section
/-! DEFINITION. How a row's effect stands in the machine: which rows act while the main domain is off, and what follows a step in other
units: the collector, SAFE by a Snub, Withdraw, the partner of a pair, and the register changes Hitch watches. -/

namespace Sys2Proof.Machine

/-- Every bound proxy page follows FID's being in service (R448). -/
def Mach.proxiesFollow (m before : Mach) : Mach :=
  if before.fidOn = m.fidOn then m
  else (m.proxies.filter fun (q : Nat × ProxyAux) => q.2.bind).foldl (fun (m : Mach) (q : Nat × ProxyAux) => m.proxyShow (pgProxy q.1)) m

/-- The collector after a step: its reaction to causes that ended or changed (R333, R336), units forced by a Snub, valves that turned
off together (R268), and Withdraw (R339). -/
def Mach.settleLay (before m : Mach) : Mach := ((m.layRefresh.snubForce).bothOff before).withdraw (before.fld pgLay Lay.SNUBBED)

/-- The pages that follow others (R448, R454, R469, R518). -/
def Mach.settlePages (before m : Mach) : Mach := (m.spliceFollow.tetherFollow).proxiesFollow before

/-- What follows a step in other units: the triggers of shedding (R311), and the partner of a pair among them (R460, R461). -/
def Mach.settleAll (before m : Mach) : Mach := ((Mach.settleLay before m.trigShow).pairFollow before |> Mach.settlePages before)

/-- What follows a step that a link frame of the partner brought: nothing goes back to it. -/
def Mach.settleLink (before m : Mach) : Mach := Mach.settlePages before (Mach.settleLay before m)

/-- A row of the main domain that reads or moves registers of its own pages: nothing while the main domain is unpowered (R470, R471); a
change of a register Hitch watches queues its lookup (R440). -/
def onPage (f : Mach → Mach) (s : State) : Host.Outcome State Fault Refusal :=
  .next { s with m := if s.m.mainOff then s.m else (f s.m).watchChanges s.m }

/-- A row of the main domain that can start or end causes, faults or SAFE: other units follow it. -/
def onUnits (f : Mach → Mach) (s : State) : Host.Outcome State Fault Refusal :=
  .next { s with m := if s.m.mainOff then s.m else (Mach.settleAll s.m (f s.m)).watchChanges s.m }

/-- A row that a link frame of the partner brings. -/
def onLink (f : Mach → Mach) (s : State) : Host.Outcome State Fault Refusal :=
  .next { s with m := if s.m.mainOff then s.m else (Mach.settleLink s.m (f s.m)).watchChanges s.m }

/-- A row of the main domain that reads or changes memory as well; other units follow it. -/
def onState (f : State → State) (s : State) : Host.Outcome State Fault Refusal :=
  .next { m := if s.m.mainOff then s.m else (Mach.settleAll s.m (f s).m).watchChanges s.m
          mem := if s.m.mainOff then s.mem else (f s).mem
          pending := s.pending }

/-- A row that acts in Watch and Stasis as in Run: nothing in Off (R471). -/
def onKept (f : Mach → Mach) (s : State) : Host.Outcome State Fault Refusal :=
  .next { s with m :=
    if s.m.pwr.asleep = 3 then s.m
    else if s.m.mainOff then f s.m
    else (Mach.settleAll s.m (f s.m)).watchChanges s.m }

/-- A row of the supply and of starts: whatever is powered. -/
def onFeed (f : State → State) (s : State) : Host.Outcome State Fault Refusal :=
  .next { m := (f s).m, mem := (f s).mem, pending := s.pending }

/-- A sleep entry is under way: every unit has agreed to stop, or is asked to (R474, R475). -/
def Mach.entering (m : Mach) : Bool := m.pwr.asleep == 0 && (m.pstate == 2 || m.pstate == 3)

/-- A change a unit makes of its own: none while a sleep entry is under way (R474). -/
def onRun (row : State → Host.Outcome State Fault Refusal) (s : State) : Host.Outcome State Fault Refusal :=
  if s.m.entering then .next s else row s

/-- A row of the units that run once the module has started: Marks, Hitch, Fid and TRDP wait for READY (R531). -/
def Mach.whenReady (f : Mach → Mach) (m : Mach) : Mach := if m.ready then f m else m

end Sys2Proof.Machine
end

