-- ==== Sys2Proof/Machine/Protection.lean ====
section
/-! DEFINITION. Protections that several classes share: short circuit, over-current, junction temperature, clamp, loss of synchronisation,
periods, and the trip of a bank. Each goes to what its class's chapter gives (04_protected_outputs.md R132 to R136, R154;
06_motor_bridges.md R184, R189, R201; 07_ratline_lighting.md R209, R228; 09_valve_drivers.md R273, R281, R282). -/

namespace Sys2Proof.Machine

/-- SHORT_CIRCUIT: the instantaneous current of a drive unit, mA (R132, R184, R272, R281). -/
def Mach.shortCircuit (n : Nat) (i : Int) (m : Mach) : Mach :=
  match clsOf n with
  | .out => m.outShort (n - 0x20) i
  | .bridge => m.brShort (n - 0xA0) i
  | .valve => m.valveShort (n - 0xA8) i.natAbs
  | .vhs => m.vhsShort (n - 0xB0) i.natAbs
  | _ => m

/-- THERMAL and THERMAL_RESUME: a junction estimate, 0.1 °C, against 170 °C and 150 °C (R133, R189, R209, R273, R281, R282). -/
def Mach.junction (n : Nat) (tj : Int) (m : Mach) : Mach :=
  match clsOf n with
  | .out => m.outThermal (n - 0x20) tj
  | .bridge => m.brThermal (n - 0xA0) tj
  | .rat => m.ratThermal (n - 0xC0) tj
  | .valve => m.valveThermal (n - 0xA8) tj
  | .vhs => m.vhsThermal (n - 0xB0) tj
  | .boost => m.boostThermal tj
  | _ => m

/-- TJ_WARN (R133, R189). -/
def Mach.tjWarn (n : Nat) (tj : Int) (m : Mach) : Mach :=
  match clsOf n with
  | .out => m.outTjWarn (n - 0x20) tj
  | .bridge => m.brTjWarn (n - 0xA0) tj
  | _ => m

/-- CLAMP: a turn-off's clamp energy, mJ (R135, R268). -/
def Mach.clampEvent (n mj : Nat) (m : Mach) : Mach :=
  match clsOf n with
  | .out => m.outClamp (n - 0x20) mj
  | .valve => m.valveClamp (n - 0xA8) mj
  | _ => m

/-- SYNC_LOST (R129, R233). -/
def Mach.syncLost (n : Nat) (m : Mach) : Mach :=
  match clsOf n with
  | .out => m.outSyncLost (n - 0x20)
  | .sink => m.sinkSyncLost (n - 0xDC)
  | _ => m

/-- PWM_PERIOD_START (R128, R188, R233). -/
def Mach.periodStart (n : Nat) (m : Mach) : Mach :=
  match clsOf n with
  | .out => m.outPeriodStart (n - 0x20)
  | .sink => m.sinkPeriodStart (n - 0xDC)
  | .bridge => m.brPeriodStart (n - 0xA0)
  | _ => m

/-- REG_FAULT: a regulated current, off its setpoint for `ms` (R230, R272). -/
def Mach.regFaultOf (n i ms : Nat) (m : Mach) : Mach :=
  match clsOf n with
  | .rat => m.regFault (n - 0xC0) i ms
  | .valve => m.valveRegFault (n - 0xA8) i ms
  | _ => m

/-- REGULATOR_RESUME: a regulator's junction after a thermal turn-off (R189, R209). -/
def Mach.regulatorResume (n : Nat) (tj : Int) (m : Mach) : Mach :=
  match clsOf n with
  | .rat => m.ratResume (n - 0xC0) tj
  | .bridge => m.brThermal (n - 0xA0) tj
  | _ => m

/-- The BANKTRIP bit of a class's sources (R152, R201, R228, R277 and the tables of chapter 09). -/
def bankTripBit (c : Cls) : Option Nat :=
  match c with
  | .out => some 14 | .bridge => some 9 | .rat => some 10 | .valve => some 8 | .vhs => some 5 | .boost => some 4 | _ => none

/-- The units a bank's trip reaches (R154): its outputs, bridges and ports, and on bank 3 the valve block. -/
def tripUnits (k : Nat) : List Nat :=
  bankUnits k ++ (if k = 3 then (List.range 4).map (fun (j : Nat) => 0xB0 + j) ++ [pgBoost] else [])

/-- A bank trips (R154): STATUS.TRIP and its source set, and every unit of the bank sets BANKTRIP and reacts. -/
def Mach.bankTrip (k b : Nat) (m : Mach) : Mach :=
  (tripUnits k).foldl (fun (m : Mach) (n : Nat) =>
    match bankTripBit (clsOf n) with
    | some t => m.faultSource n t false
    | none => m) ((m.setFlag (pgBank k) Bank.TRIP true).raise (pgBank k) b)

/-- BANK_TRIP (R153, R154): the bank current, 10 mA, above 150 A for `ms`. -/
def Mach.bankOver (k : Nat) (i : Int) (ms : Nat) (m : Mach) : Mach :=
  let m := m.setSFld (pgBank k) Bank.IR i
  if 15000 < i && 10 ≤ ms && !m.src (pgBank k) 6 then m.bankTrip k 6 else m

/-- BP_TRIP (R153, R154): the baseplate, 0.1 °C, at or above 100 °C for `ms`. -/
def Mach.bpTrip (k : Nat) (t : Int) (ms : Nat) (m : Mach) : Mach :=
  let m := m.setSFld (pgBank k) Bank.TEMP t
  if 1000 ≤ t && 1000 ≤ ms && !m.src (pgBank k) 8 then m.bankTrip k 8 else m

end Sys2Proof.Machine
end

