-- ==== Sys2Proof/Machine/Rows.lean ====
section
/-! DEFINITION. The small operations a row needs beside those of its chapter: the words a row writes, conditions that persist, and the rows
that join two operations. -/

namespace Sys2Proof.Machine

/-- The page of Bight `b` (R55). -/
def pgBight (b : Nat) : Nat := 0x2000 + b

/-- The CMD word of a code and a SEQ, ARG 0 (R60). -/
def cmdWord (code : Nat) (seq : BitVec 16) : Word := BitVec.ofNat 32 (seq.toNat * 65536 + code)

/-- The word that starts a Locker service (R497, R508). -/
def svcWord (svc slot slot2 : Nat) : Word :=
  (Locker.M_SLOT2 0).put ((Locker.M_SLOT 0).put ((Locker.M_SVC 0).put 0 svc) slot) slot2

/-- The conditions that persist outside a unit's registers at a clear of its FAULT_SET (R62). -/
def Mach.persist (n : Nat) (w : Word) (m : Mach) : Mach :=
  m.modUnit n fun u => { u with holding := w &&& BitVec.ofNat 32 (info (clsOf n)).srcs }

/-- RETRY (R134, R460): on the Second of a pair a duplex leg waits for the Lead's retry. -/
def Mach.retryRow (c ms : Nat) (tj : Int) (m : Mach) : Mach :=
  if m.secondHeld (pgOut c) && m.flag (pgOut c) Out.DUPLEX then m else m.outRetry c ms tj

/-- AUTOMATIC_RESUMPTION (R318): the firmware sends CLEAR_FAULTS with SEQ 0 to every eligible unit of a core alive for RESUME_T. -/
def Mach.resumption (c ms : Nat) (m : Mach) : Mach :=
  if m.resumeDue c ms then
    ((m.resumable c).filter fun n => !m.secondHeld n).foldl (fun (m : Mach) (n : Nat) => (m.unitCmd (.core 0) n (cmdWord 4 0)).2) m
  else m

/-- A valid frame where `b` (R478). -/
def Mach.frameSeenIf (b : Bool) (n : Nat) (m : Mach) : Mach := if b then m.frameSeen n else m

/-- LOCKER_REQUEST_DONE (R497). -/
def lockerDone (s : State) : State :=
  { m := (s.m.requestDone s.mem).1, mem := (s.m.requestDone s.mem).2, pending := s.pending }

/-- COMMIT_COMPLETE (R471, R472): the main domain switches off, and the memory it does not keep is lost. -/
def commitComplete (s : State) : State :=
  if s.m.mainOff || s.m.pstate ≠ 3 then s else { s with m := s.m.commitDone, mem := keepMem keptAsleep s.mem }

/-- A Hitch entry of the words the firmware reloads (R472). -/
def hitchEntry (ws : List Word) : HEntry :=
  ⟨ws.getD 0 0, ws.getD 1 0, ws.getD 2 0, ws.getD 3 0, ws.getD 4 0, ws.getD 5 0, ws.getD 6 0, 0, 0, none, none, none, false⟩

/-- WAKE (R477): the module comes back to Run, and Fid draws a new epoch (R445). -/
def wakeRow (us : Nat) (table : List (Fin 16384 × List Word)) (s : State) : State :=
  if s.m.mainOff then
    let m := s.m.wake us (table.foldl (fun (a : Table HEntry) (q : Fin 16384 × List Word) => tput a hitchReset q.1 (hitchEntry q.2)) [])
    { s with m := if m.mainOff then m else (m.fidRenew).layRefresh }
  else s

/-- The X unit, or Y (R369). -/
def xy (y : Bool) : Nat := if y then 1 else 0

end Sys2Proof.Machine
end

