-- ==== Sys2Proof/Machine/ExecAlu.lean ====
section
/-! DEFINITION. The meanings of the rows of the X and Y units of the Strand cores (15_strand_instructions.md): one definition for each row, over the operations of the
chapter. -/

namespace Sys2Proof.Machine

/-- ADD (R393). -/
def execAdd (c : Fin 6) (y : Bool) (pr : Fin 8) (f : Bool) (rd rs1 rs2 : Fin 32) (s : State) : Host.Outcome State Fault Refusal :=
  onRun (onState (fun (t : State) => issueOp c ⟨xy y, pr, .alu .add f rd rs1 rs2⟩ t)) s

/-- SUB (R393). -/
def execSub (c : Fin 6) (y : Bool) (pr : Fin 8) (f : Bool) (rd rs1 rs2 : Fin 32) (s : State) : Host.Outcome State Fault Refusal :=
  onRun (onState (fun (t : State) => issueOp c ⟨xy y, pr, .alu .sub f rd rs1 rs2⟩ t)) s

/-- ADC (R393). -/
def execAdc (c : Fin 6) (y : Bool) (pr : Fin 8) (f : Bool) (rd rs1 rs2 : Fin 32) (s : State) : Host.Outcome State Fault Refusal :=
  onRun (onState (fun (t : State) => issueOp c ⟨xy y, pr, .alu .adc f rd rs1 rs2⟩ t)) s

/-- SBC (R393). -/
def execSbc (c : Fin 6) (y : Bool) (pr : Fin 8) (f : Bool) (rd rs1 rs2 : Fin 32) (s : State) : Host.Outcome State Fault Refusal :=
  onRun (onState (fun (t : State) => issueOp c ⟨xy y, pr, .alu .sbc f rd rs1 rs2⟩ t)) s

/-- ADDS (R393). -/
def execAdds (c : Fin 6) (y : Bool) (pr : Fin 8) (rd rs1 rs2 : Fin 32) (s : State) : Host.Outcome State Fault Refusal :=
  onRun (onState (fun (t : State) => issueOp c ⟨xy y, pr, .alu .adds false rd rs1 rs2⟩ t)) s

/-- SUBS (R393). -/
def execSubs (c : Fin 6) (y : Bool) (pr : Fin 8) (rd rs1 rs2 : Fin 32) (s : State) : Host.Outcome State Fault Refusal :=
  onRun (onState (fun (t : State) => issueOp c ⟨xy y, pr, .alu .subs false rd rs1 rs2⟩ t)) s

/-- AND (R393). -/
def execAndOp (c : Fin 6) (y : Bool) (pr : Fin 8) (rd rs1 rs2 : Fin 32) (s : State) : Host.Outcome State Fault Refusal :=
  onRun (onState (fun (t : State) => issueOp c ⟨xy y, pr, .alu .and false rd rs1 rs2⟩ t)) s

/-- OR (R393). -/
def execOrOp (c : Fin 6) (y : Bool) (pr : Fin 8) (rd rs1 rs2 : Fin 32) (s : State) : Host.Outcome State Fault Refusal :=
  onRun (onState (fun (t : State) => issueOp c ⟨xy y, pr, .alu .or false rd rs1 rs2⟩ t)) s

/-- XOR (R393). -/
def execXorOp (c : Fin 6) (y : Bool) (pr : Fin 8) (rd rs1 rs2 : Fin 32) (s : State) : Host.Outcome State Fault Refusal :=
  onRun (onState (fun (t : State) => issueOp c ⟨xy y, pr, .alu .xor false rd rs1 rs2⟩ t)) s

/-- ANDN (R393). -/
def execAndn (c : Fin 6) (y : Bool) (pr : Fin 8) (rd rs1 rs2 : Fin 32) (s : State) : Host.Outcome State Fault Refusal :=
  onRun (onState (fun (t : State) => issueOp c ⟨xy y, pr, .alu .andn false rd rs1 rs2⟩ t)) s

/-- SHL (R393). -/
def execShl (c : Fin 6) (y : Bool) (pr : Fin 8) (rd rs1 rs2 : Fin 32) (s : State) : Host.Outcome State Fault Refusal :=
  onRun (onState (fun (t : State) => issueOp c ⟨xy y, pr, .alu .shl false rd rs1 rs2⟩ t)) s

/-- SHR (R393). -/
def execShr (c : Fin 6) (y : Bool) (pr : Fin 8) (rd rs1 rs2 : Fin 32) (s : State) : Host.Outcome State Fault Refusal :=
  onRun (onState (fun (t : State) => issueOp c ⟨xy y, pr, .alu .shr false rd rs1 rs2⟩ t)) s

/-- SAR (R393). -/
def execSar (c : Fin 6) (y : Bool) (pr : Fin 8) (rd rs1 rs2 : Fin 32) (s : State) : Host.Outcome State Fault Refusal :=
  onRun (onState (fun (t : State) => issueOp c ⟨xy y, pr, .alu .sar false rd rs1 rs2⟩ t)) s

/-- ROR (R393). -/
def execRor (c : Fin 6) (y : Bool) (pr : Fin 8) (rd rs1 rs2 : Fin 32) (s : State) : Host.Outcome State Fault Refusal :=
  onRun (onState (fun (t : State) => issueOp c ⟨xy y, pr, .alu .ror false rd rs1 rs2⟩ t)) s

/-- MIN (R393). -/
def execMinOp (c : Fin 6) (y : Bool) (pr : Fin 8) (rd rs1 rs2 : Fin 32) (s : State) : Host.Outcome State Fault Refusal :=
  onRun (onState (fun (t : State) => issueOp c ⟨xy y, pr, .alu .min false rd rs1 rs2⟩ t)) s

/-- MAX (R393). -/
def execMaxOp (c : Fin 6) (y : Bool) (pr : Fin 8) (rd rs1 rs2 : Fin 32) (s : State) : Host.Outcome State Fault Refusal :=
  onRun (onState (fun (t : State) => issueOp c ⟨xy y, pr, .alu .max false rd rs1 rs2⟩ t)) s

/-- MINU (R393). -/
def execMinu (c : Fin 6) (y : Bool) (pr : Fin 8) (rd rs1 rs2 : Fin 32) (s : State) : Host.Outcome State Fault Refusal :=
  onRun (onState (fun (t : State) => issueOp c ⟨xy y, pr, .alu .minu false rd rs1 rs2⟩ t)) s

/-- MAXU (R393). -/
def execMaxu (c : Fin 6) (y : Bool) (pr : Fin 8) (rd rs1 rs2 : Fin 32) (s : State) : Host.Outcome State Fault Refusal :=
  onRun (onState (fun (t : State) => issueOp c ⟨xy y, pr, .alu .maxu false rd rs1 rs2⟩ t)) s

/-- CLZ (R393). -/
def execClz (c : Fin 6) (y : Bool) (pr : Fin 8) (rd rs1 : Fin 32) (s : State) : Host.Outcome State Fault Refusal :=
  onRun (onState (fun (t : State) => issueOp c ⟨xy y, pr, .clz rd rs1⟩ t)) s

/-- PERM (R394). -/
def execPerm (c : Fin 6) (y : Bool) (pr : Fin 8) (rd rs1 rs2 : Fin 32) (s : State) : Host.Outcome State Fault Refusal :=
  onRun (onState (fun (t : State) => issueOp c ⟨xy y, pr, .perm rd rs1 rs2⟩ t)) s

/-- BFX (R395). -/
def execBfx (c : Fin 6) (y : Bool) (pr : Fin 8) (rd rs1 rs2 : Fin 32) (s : State) : Host.Outcome State Fault Refusal :=
  onRun (onState (fun (t : State) => issueOp c ⟨xy y, pr, .bfx false rd rs1 rs2⟩ t)) s

/-- BFXS (R395). -/
def execBfxs (c : Fin 6) (y : Bool) (pr : Fin 8) (rd rs1 rs2 : Fin 32) (s : State) : Host.Outcome State Fault Refusal :=
  onRun (onState (fun (t : State) => issueOp c ⟨xy y, pr, .bfx true rd rs1 rs2⟩ t)) s

/-- BFI (R395). -/
def execBfi (c : Fin 6) (y : Bool) (pr : Fin 8) (rd rs1 rs2 : Fin 32) (s : State) : Host.Outcome State Fault Refusal :=
  onRun (onState (fun (t : State) => issueOp c ⟨xy y, pr, .bfi rd rs1 rs2⟩ t)) s

/-- SEL (R393). -/
def execSel (c : Fin 6) (y : Bool) (pr : Fin 8) (p : Fin 8) (rd rs1 rs2 : Fin 32) (s : State) : Host.Outcome State Fault Refusal :=
  onRun (onState (fun (t : State) => issueOp c ⟨xy y, pr, .sel p rd rs1 rs2⟩ t)) s

/-- CMPEQ (R393). -/
def execCmpeq (c : Fin 6) (y : Bool) (pr : Fin 8) (pd : Fin 8) (rs1 rs2 : Fin 32) (s : State) : Host.Outcome State Fault Refusal :=
  onRun (onState (fun (t : State) => issueOp c ⟨xy y, pr, .cmp .eq pd rs1 rs2⟩ t)) s

/-- CMPNE (R393). -/
def execCmpne (c : Fin 6) (y : Bool) (pr : Fin 8) (pd : Fin 8) (rs1 rs2 : Fin 32) (s : State) : Host.Outcome State Fault Refusal :=
  onRun (onState (fun (t : State) => issueOp c ⟨xy y, pr, .cmp .ne pd rs1 rs2⟩ t)) s

/-- CMPLT (R393). -/
def execCmplt (c : Fin 6) (y : Bool) (pr : Fin 8) (pd : Fin 8) (rs1 rs2 : Fin 32) (s : State) : Host.Outcome State Fault Refusal :=
  onRun (onState (fun (t : State) => issueOp c ⟨xy y, pr, .cmp .lt pd rs1 rs2⟩ t)) s

/-- CMPLTU (R393). -/
def execCmpltu (c : Fin 6) (y : Bool) (pr : Fin 8) (pd : Fin 8) (rs1 rs2 : Fin 32) (s : State) : Host.Outcome State Fault Refusal :=
  onRun (onState (fun (t : State) => issueOp c ⟨xy y, pr, .cmp .ltu pd rs1 rs2⟩ t)) s

/-- CMPLE (R393). -/
def execCmple (c : Fin 6) (y : Bool) (pr : Fin 8) (pd : Fin 8) (rs1 rs2 : Fin 32) (s : State) : Host.Outcome State Fault Refusal :=
  onRun (onState (fun (t : State) => issueOp c ⟨xy y, pr, .cmp .le pd rs1 rs2⟩ t)) s

/-- CMPLEU (R393). -/
def execCmpleu (c : Fin 6) (y : Bool) (pr : Fin 8) (pd : Fin 8) (rs1 rs2 : Fin 32) (s : State) : Host.Outcome State Fault Refusal :=
  onRun (onState (fun (t : State) => issueOp c ⟨xy y, pr, .cmp .leu pd rs1 rs2⟩ t)) s

/-- PLOG (R393). -/
def execPlog (c : Fin 6) (y : Bool) (pr : Fin 8) (pd ps1 ps2 : Fin 8) (tbl : Fin 16) (s : State) : Host.Outcome State Fault Refusal :=
  onRun (onState (fun (t : State) => issueOp c ⟨xy y, pr, .plog pd ps1 ps2 tbl⟩ t)) s

/-- MVTX (R397). -/
def execMvtx (c : Fin 6) (y : Bool) (pr : Fin 8) (f : RFile) (idx : Fin 8) (rs1 : Fin 32) (s : State) : Host.Outcome State Fault Refusal :=
  onRun (onState (fun (t : State) => issueOp c ⟨xy y, pr, .mvtx f idx rs1⟩ t)) s

/-- MVFX (R397). -/
def execMvfx (c : Fin 6) (y : Bool) (pr : Fin 8) (rd : Fin 32) (f : RFile) (idx : Fin 8) (s : State) : Host.Outcome State Fault Refusal :=
  onRun (onState (fun (t : State) => issueOp c ⟨xy y, pr, .mvfx rd f idx⟩ t)) s

/-- MVTS (R396). -/
def execMvts (c : Fin 6) (y : Bool) (pr : Fin 8) (r : SReg) (rs1 : Fin 32) (s : State) : Host.Outcome State Fault Refusal :=
  onRun (onState (fun (t : State) => issueOp c ⟨xy y, pr, .mvts r rs1⟩ t)) s

/-- MVFS (R396). -/
def execMvfs (c : Fin 6) (y : Bool) (pr : Fin 8) (rd : Fin 32) (r : SReg) (s : State) : Host.Outcome State Fault Refusal :=
  onRun (onState (fun (t : State) => issueOp c ⟨xy y, pr, .mvfs rd r⟩ t)) s

/-- ADDI (R393). -/
def execAddi (c : Fin 6) (y : Bool) (pr : Fin 8) (rd rs1 : Fin 32) (imm : BitVec 9) (s : State) : Host.Outcome State Fault Refusal :=
  onRun (onState (fun (t : State) => issueOp c ⟨xy y, pr, .alui .add rd rs1 imm.toInt⟩ t)) s

/-- ANDI (R393). -/
def execAndi (c : Fin 6) (y : Bool) (pr : Fin 8) (rd rs1 : Fin 32) (imm : BitVec 9) (s : State) : Host.Outcome State Fault Refusal :=
  onRun (onState (fun (t : State) => issueOp c ⟨xy y, pr, .alui .and rd rs1 imm.toInt⟩ t)) s

/-- ORI (R393). -/
def execOri (c : Fin 6) (y : Bool) (pr : Fin 8) (rd rs1 : Fin 32) (imm : BitVec 9) (s : State) : Host.Outcome State Fault Refusal :=
  onRun (onState (fun (t : State) => issueOp c ⟨xy y, pr, .alui .or rd rs1 imm.toInt⟩ t)) s

/-- XORI (R393). -/
def execXori (c : Fin 6) (y : Bool) (pr : Fin 8) (rd rs1 : Fin 32) (imm : BitVec 9) (s : State) : Host.Outcome State Fault Refusal :=
  onRun (onState (fun (t : State) => issueOp c ⟨xy y, pr, .alui .xor rd rs1 imm.toInt⟩ t)) s

/-- SHLI (R393). -/
def execShli (c : Fin 6) (y : Bool) (pr : Fin 8) (rd rs1 : Fin 32) (sh : Fin 32) (s : State) : Host.Outcome State Fault Refusal :=
  onRun (onState (fun (t : State) => issueOp c ⟨xy y, pr, .alui .shl rd rs1 (sh.val : Nat)⟩ t)) s

/-- SHRI (R393). -/
def execShri (c : Fin 6) (y : Bool) (pr : Fin 8) (rd rs1 : Fin 32) (sh : Fin 32) (s : State) : Host.Outcome State Fault Refusal :=
  onRun (onState (fun (t : State) => issueOp c ⟨xy y, pr, .alui .shr rd rs1 (sh.val : Nat)⟩ t)) s

/-- SARI (R393). -/
def execSari (c : Fin 6) (y : Bool) (pr : Fin 8) (rd rs1 : Fin 32) (sh : Fin 32) (s : State) : Host.Outcome State Fault Refusal :=
  onRun (onState (fun (t : State) => issueOp c ⟨xy y, pr, .alui .sar rd rs1 (sh.val : Nat)⟩ t)) s

/-- BFXI (R393). -/
def execBfxi (c : Fin 6) (y : Bool) (pr : Fin 8) (rd rs1 : Fin 32) (pos : Fin 32) (width : Fin 16) (s : State) : Host.Outcome State Fault Refusal :=
  onRun (onState (fun (t : State) => issueOp c ⟨xy y, pr, .bfxi rd rs1 pos (width + 1)⟩ t)) s

/-- BFII (R393). -/
def execBfii (c : Fin 6) (y : Bool) (pr : Fin 8) (rd rs1 : Fin 32) (pos : Fin 32) (width : Fin 16) (s : State) : Host.Outcome State Fault Refusal :=
  onRun (onState (fun (t : State) => issueOp c ⟨xy y, pr, .bfii rd rs1 pos (width + 1)⟩ t)) s

/-- CMPEQI (R393). -/
def execCmpeqi (c : Fin 6) (y : Bool) (pr : Fin 8) (pd : Fin 8) (rs1 : Fin 32) (imm : BitVec 9) (s : State) : Host.Outcome State Fault Refusal :=
  onRun (onState (fun (t : State) => issueOp c ⟨xy y, pr, .cmpi .eq pd rs1 imm.toInt⟩ t)) s

/-- CMPLTI (R393). -/
def execCmplti (c : Fin 6) (y : Bool) (pr : Fin 8) (pd : Fin 8) (rs1 : Fin 32) (imm : BitVec 9) (s : State) : Host.Outcome State Fault Refusal :=
  onRun (onState (fun (t : State) => issueOp c ⟨xy y, pr, .cmpi .lt pd rs1 imm.toInt⟩ t)) s

/-- CMPLTUI (R393). -/
def execCmpltui (c : Fin 6) (y : Bool) (pr : Fin 8) (pd : Fin 8) (rs1 : Fin 32) (imm : BitVec 9) (s : State) : Host.Outcome State Fault Refusal :=
  onRun (onState (fun (t : State) => issueOp c ⟨xy y, pr, .cmpi .ltu pd rs1 imm.toInt⟩ t)) s

/-- MOVI (R393). -/
def execMovi (c : Fin 6) (y : Bool) (pr : Fin 8) (rd : Fin 32) (imm : BitVec 14) (s : State) : Host.Outcome State Fault Refusal :=
  onRun (onState (fun (t : State) => issueOp c ⟨xy y, pr, .movi rd imm.toInt⟩ t)) s

/-- MOVH (R393). -/
def execMovh (c : Fin 6) (y : Bool) (pr : Fin 8) (rd : Fin 32) (imm : BitVec 14) (s : State) : Host.Outcome State Fault Refusal :=
  onRun (onState (fun (t : State) => issueOp c ⟨xy y, pr, .movh rd imm.toNat⟩ t)) s

end Sys2Proof.Machine
end

