-- ==== Sys2Proof/Machine/ExecBridges.lean ====
section
/-! DEFINITION. The meanings of the rows of motor bridges (06_motor_bridges.md): one definition for each row, over the operations of the
chapter. -/

namespace Sys2Proof.Machine

/-- RIPPLE (R190). -/
def execRipple (b : Fin 8) (ns : Nat) (v cur : Int) (s : State) : Host.Outcome State Fault Refusal :=
  onUnits (fun (m : Mach) => m.ripple b ns v cur) s

/-- RIPPLE_INSERT (R191). -/
def execRippleInsert (b : Fin 8) (ns : Nat) (s : State) : Host.Outcome State Fault Refusal :=
  onUnits (fun (m : Mach) => m.rippleInsert b ns) s

/-- POS_WRITE (R192). -/
def execPosWrite (src : Src) (b : Fin 8) (v : Word) (s : State) : Host.Outcome State Fault Refusal :=
  onUnits (fun (m : Mach) => m.pageWrite src (pgBridge b) 0x070 v) s

/-- STOP_RECOGNITION (R193). -/
def execStopRecognition (b : Fin 8) (ms : Nat) (cur : Int) (s : State) : Host.Outcome State Fault Refusal :=
  onUnits (fun (m : Mach) => m.brRecognise b ms cur) s

/-- PINCH_CHECK (R195). -/
def execPinchCheck (b : Fin 8) (cur : Int) (s : State) : Host.Outcome State Fault Refusal :=
  onUnits (fun (m : Mach) => m.pinchCheck b cur) s

/-- REVERSE_DRIVE_START (R196). -/
def execReverseDriveStart (b : Fin 8) (ms : Nat) (s : State) : Host.Outcome State Fault Refusal :=
  onUnits (fun (m : Mach) => m.reverseStart b ms) s

/-- REVERSAL_END (R196). -/
def execReversalEnd (b : Fin 8) (ms : Nat) (cur : Int) (s : State) : Host.Outcome State Fault Refusal :=
  onUnits (fun (m : Mach) => m.reversalEnd b ms cur) s

/-- BRAKE_END (R193). -/
def execBrakeEnd (b : Fin 8) (ms : Nat) (v cur : Int) (s : State) : Host.Outcome State Fault Refusal :=
  onUnits (fun (m : Mach) => m.brakeEnd b ms v cur) s

/-- REVERSE_BRAKE_END (R187). -/
def execReverseBrakeEnd (b : Fin 8) (ms : Nat) (s : State) : Host.Outcome State Fault Refusal :=
  onUnits (fun (m : Mach) => m.turnBrakeEnd b ms) s

/-- LIMITING (R188). -/
def execLimiting (b : Fin 8) (cur : Int) (s : State) : Host.Outcome State Fault Refusal :=
  onUnits (fun (m : Mach) => m.brLimiting b cur) s

/-- LIMIT_LONG (R188). -/
def execLimitLong (b : Fin 8) (ms : Nat) (s : State) : Host.Outcome State Fault Refusal :=
  onUnits (fun (m : Mach) => m.brLimitLong b ms) s

/-- OPEN_LOAD (R189). -/
def execOpenLoad (b : Fin 8) (cur : Int) (ms : Nat) (s : State) : Host.Outcome State Fault Refusal :=
  onUnits (fun (m : Mach) => m.brOpenLoad b cur ms) s

/-- POSITION_TARGET_REACHED (R186). -/
def execPositionTargetReached (b : Fin 8) (s : State) : Host.Outcome State Fault Refusal :=
  onUnits (fun (m : Mach) => m.targetReached b) s

/-- PARK_INPUT_EDGE (R198). -/
def execParkInputEdge (b : Fin 8) (rising : Bool) (s : State) : Host.Outcome State Fault Refusal :=
  onUnits (fun (m : Mach) => m.parkEdge b rising) s

/-- PARKED (R198). -/
def execParked (b : Fin 8) (s : State) : Host.Outcome State Fault Refusal :=
  onUnits (fun (m : Mach) => m.parked b) s

/-- PARK_FAIL (R198). -/
def execParkFail (b : Fin 8) (ns : Nat) (s : State) : Host.Outcome State Fault Refusal :=
  onUnits (fun (m : Mach) => m.parkFail b ns) s

/-- INTERVAL_WAIT_END (R199). -/
def execIntervalWaitEnd (b : Fin 8) (tenths : Nat) (s : State) : Host.Outcome State Fault Refusal :=
  onUnits (fun (m : Mach) => m.intervalEnd b tenths) s

/-- MOTOR_STOPPED (R190). -/
def execMotorStopped (b : Fin 8) (v cur : Int) (s : State) : Host.Outcome State Fault Refusal :=
  onUnits (fun (m : Mach) => m.motorStopped b v cur) s

end Sys2Proof.Machine
end

