-- ==== Sys2Proof/Machine/ExecCan.lean ====
section
/-! DEFINITION. The meanings of the rows of CAN (16_can_and_lin.md): one definition for each row, over the operations of the
chapter. -/

namespace Sys2Proof.Machine

/-- TX_REQ (R412). -/
def execTxReq (src : Src) (c : Fin 6) (s : State) : Host.Outcome State Fault Refusal :=
  onUnits (fun (m : Mach) => m.pageWrite src (pgCan c) 0x07C 3) s

/-- CAN_OBJ_READ (R416). -/
def execCanObjRead (src : Src) (c : Fin 6) (s : State) : Host.Outcome State Fault Refusal :=
  onPage (fun (m : Mach) => m.pageWrite src (pgCan c) 0x07C 1) s

/-- CAN_OBJ_WRITE (R416). -/
def execCanObjWrite (src : Src) (c : Fin 6) (s : State) : Host.Outcome State Fault Refusal :=
  onUnits (fun (m : Mach) => m.pageWrite src (pgCan c) 0x07C 2) s

/-- ABORT (R416). -/
def execAbort (src : Src) (c : Fin 6) (s : State) : Host.Outcome State Fault Refusal :=
  onUnits (fun (m : Mach) => m.pageWrite src (pgCan c) 0x07C 4) s

/-- RECOVER (R417). -/
def execRecover (src : Src) (c : Fin 6) (s : State) : Host.Outcome State Fault Refusal :=
  onUnits (fun (m : Mach) => m.pageWrite src (pgCan c) 0x054 1) s

/-- CAN_FRAME_SENT (R413). -/
def execCanFrameSent (c : Fin 6) (s : State) : Host.Outcome State Fault Refusal :=
  onUnits (fun (m : Mach) => m.canSent c) s

/-- CAN_FRAME_RECEIVED (R414). -/
def execCanFrameReceived (c : Fin 6) (f : CanFrame) (s : State) : Host.Outcome State Fault Refusal :=
  onUnits (fun (m : Mach) => (m.canReceived c f).frameSeen (pgCan c)) s

/-- CAN_ERROR (R417). -/
def execCanError (c : Fin 6) (tx : Bool) (kind : Fin 8) (major : Bool) (s : State) : Host.Outcome State Fault Refusal :=
  onUnits (fun (m : Mach) => m.canError c tx kind major) s

/-- BUS_OFF_RECOVERY (R417). -/
def execBusOffRecovery (c : Fin 6) (sequences : Nat) (s : State) : Host.Outcome State Fault Refusal :=
  onUnits (fun (m : Mach) => m.canRecovered c sequences) s

/-- TXD_DOM (R424). -/
def execTxdDom (c : Fin 6) (ms : Nat) (s : State) : Host.Outcome State Fault Refusal :=
  onUnits (fun (m : Mach) => m.canTxdDom c ms) s

/-- CAN_WUP (R422). -/
def execCanWup (c : Fin 6) (s : State) : Host.Outcome State Fault Refusal :=
  onKept (fun (m : Mach) => m.canWup c) s

/-- CAN_PN (R422). -/
def execCanPn (c : Fin 6) (f : CanFrame) (s : State) : Host.Outcome State Fault Refusal :=
  onKept (fun (m : Mach) => m.canPn c f) s

/-- CAN_FEC (R422). -/
def execCanFec (c : Fin 6) (s : State) : Host.Outcome State Fault Refusal :=
  onKept (fun (m : Mach) => m.canFec c) s

/-- BUS_INTEGRATION (R423). -/
def execBusIntegration (c : Fin 6) (s : State) : Host.Outcome State Fault Refusal :=
  onUnits (fun (m : Mach) => m.canIntegrate c) s

end Sys2Proof.Machine
end

