-- ==== Sys2Proof/Machine/ExecCapstan.lean ====
section
/-! DEFINITION. The meanings of the rows of Capstan bases, Marks and point-on-wave switching (03_capstan_bases_and_marks.md): one definition for each row, over the operations of the
chapter. -/

namespace Sys2Proof.Machine

/-- MARK_FIRE (R110). -/
def execMarkFire (k : Fin 8) (s : State) : Host.Outcome State Fault Refusal :=
  onUnits (fun (m : Mach) => m.whenReady (fun m => m.markFire k)) s

/-- MARK_READ (R112). -/
def execMarkRead (src : Src) (k : Fin 8) (s : State) : Host.Outcome State Fault Refusal :=
  onUnits (fun (m : Mach) => m.pageWrite src (pgCap k) 0x094 1) s

/-- MARK_ARM (R107). -/
def execMarkArm (src : Src) (k : Fin 8) (s : State) : Host.Outcome State Fault Refusal :=
  onUnits (fun (m : Mach) => m.pageWrite src (pgCap k) 0x094 2) s

/-- MARK_DISARM (R107). -/
def execMarkDisarm (src : Src) (k : Fin 8) (s : State) : Host.Outcome State Fault Refusal :=
  onUnits (fun (m : Mach) => m.pageWrite src (pgCap k) 0x094 3) s

/-- ADVANCE (R104). -/
def execAdvance (src : Src) (k : Fin 8) (v : Word) (s : State) : Host.Outcome State Fault Refusal :=
  onUnits (fun (m : Mach) => m.pageWrite src (pgCap k) 0x05C v) s

/-- SETPOS (R102). -/
def execSetpos (src : Src) (k : Fin 8) (v : Word) (s : State) : Host.Outcome State Fault Refusal :=
  onUnits (fun (m : Mach) => m.pageWrite src (pgCap k) 0x060 v) s

/-- AXLE_EDGE (R94). -/
def execAxleEdge (k : Fin 8) (fwd both : Bool) (ns : Nat) (s : State) : Host.Outcome State Fault Refusal :=
  onUnits (fun (m : Mach) => m.axleEdge k fwd both ns) s

/-- STANDSTILL (R99). -/
def execStandstill (k : Fin 8) (ms : Nat) (s : State) : Host.Outcome State Fault Refusal :=
  onUnits (fun (m : Mach) => m.standstill k ms) s

/-- FRAME_PULSE (R94). -/
def execFramePulse (k : Fin 8) (ns : Nat) (s : State) : Host.Outcome State Fault Refusal :=
  onUnits (fun (m : Mach) => m.framePulse k ns) s

/-- MAINS_ZERO_CROSSING (R94). -/
def execMainsZeroCrossing (k : Fin 8) (ns amp : Nat) (locked : Bool) (s : State) : Host.Outcome State Fault Refusal :=
  onUnits (fun (m : Mach) => m.mainsCrossing k ns amp locked) s

/-- LOS (R97). -/
def execLos (k : Fin 8) (t : Nat) (s : State) : Host.Outcome State Fault Refusal :=
  onUnits (fun (m : Mach) => m.capLos k t) s

/-- HOLDOVER_EXPIRY (R97). -/
def execHoldoverExpiry (k : Fin 8) (turns : Nat) (s : State) : Host.Outcome State Fault Refusal :=
  onUnits (fun (m : Mach) => m.holdoverExpiry k turns) s

/-- RELOCK (R98). -/
def execRelock (k : Fin 8) (phase : Fin 65536) (s : State) : Host.Outcome State Fault Refusal :=
  onUnits (fun (m : Mach) => m.relock k phase) s

/-- POW_GO (R117). -/
def execPowGo (src : Src) (k : Fin 8) (slot : Fin 8) (v : Word) (s : State) : Host.Outcome State Fault Refusal :=
  onUnits (fun (m : Mach) => m.pageWrite src (pgCap k) (0x110 + 0x20 * slot) v) s

/-- POW_CLOSE_DETECT (R118). -/
def execPowCloseDetect (k : Fin 8) (slot : Fin 8) (us : Nat) (s : State) : Host.Outcome State Fault Refusal :=
  onUnits (fun (m : Mach) => m.powClose k slot us) s

/-- POW_TIMEOUT (R118). -/
def execPowTimeout (k : Fin 8) (slot : Fin 8) (us : Nat) (s : State) : Host.Outcome State Fault Refusal :=
  onUnits (fun (m : Mach) => m.powTimeout k slot us) s

end Sys2Proof.Machine
end

