-- ==== Sys2Proof/Machine/ExecEth.lean ====
section
/-! DEFINITION. The meanings of the rows of the backbone, Hitch and Fid (17_backbone_hitch_and_fid.md): one definition for each row, over the operations of the
chapter. -/

namespace Sys2Proof.Machine

/-- PTP_SYNC (R432). -/
def execPtpSync (port domain : Nat) (masterNs hops : Nat) (utcOff : Int) (gmChange : Bool) (s : State) : Host.Outcome State Fault Refusal :=
  onUnits (fun (m : Mach) => m.ptpSyncIn port domain masterNs hops utcOff gmChange) s

/-- PTP_LOST (R432). -/
def execPtpLost (intervals : Nat) (offset : Int) (s : State) : Host.Outcome State Fault Refusal :=
  onUnits (fun (m : Mach) => m.ptpLost intervals offset) s

/-- PD_FRAME_RECEIVED (R434). -/
def execPdFrameReceived (passing : List EthFrame) (f : PdFrame) (s : State) : Host.Outcome State Fault Refusal :=
  onUnits (fun (m : Mach) => m.pdReceived passing f) s

/-- TRDP_PUBLISH (R434). -/
def execTrdpPublish (ix : Fin 256) (s : State) : Host.Outcome State Fault Refusal :=
  onRun (onUnits (fun (m : Mach) => m.whenReady (fun m => m.trdpPublish ix))) s

/-- PR_RECEIVED (R434). -/
def execPrReceived (comid : Word) (s : State) : Host.Outcome State Fault Refusal :=
  onUnits (fun (m : Mach) => m.whenReady (fun m => m.prReceived comid)) s

/-- PD_TMO (R435). -/
def execPdTmo (ix : Fin 256) (ms : Nat) (s : State) : Host.Outcome State Fault Refusal :=
  onUnits (fun (m : Mach) => m.whenReady (fun m => m.pdTmo ix ms)) s

/-- PRP_SUPERVISION (R433). -/
def execPrpSupervision (ms : Nat) (s : State) : Host.Outcome State Fault Refusal :=
  onRun (onPage (fun (m : Mach) => m.prpSupervise ms)) s

/-- LINK_CHANGE (R449). -/
def execLinkChange (port : Fin 6) (up : Bool) (s : State) : Host.Outcome State Fault Refusal :=
  onUnits (fun (m : Mach) => m.linkChange port up) s

/-- TEL_READ (R449). -/
def execTelRead (src : Src) (s : State) : Host.Outcome State Fault Refusal :=
  onPage (fun (m : Mach) => m.pageWrite src pgEth 0x07C 1) s

/-- TEL_WRITE (R449). -/
def execTelWrite (src : Src) (s : State) : Host.Outcome State Fault Refusal :=
  onPage (fun (m : Mach) => m.pageWrite src pgEth 0x07C 2) s

/-- HITCH_LOOKUP (R440). -/
def execHitchLookup (s : State) : Host.Outcome State Fault Refusal :=
  onRun (onUnits (fun (m : Mach) => m.whenReady (fun m => m.hitchLookup))) s

/-- GAP_EXPIRE (R440). -/
def execGapExpire (ix : Fin 16384) (s : State) : Host.Outcome State Fault Refusal :=
  onRun (onUnits (fun (m : Mach) => m.whenReady (fun m => m.gapExpire ix))) s

/-- HITCH_READ (R450). -/
def execHitchRead (src : Src) (s : State) : Host.Outcome State Fault Refusal :=
  onPage (fun (m : Mach) => m.pageWrite src pgHitch 0x064 1) s

/-- HITCH_WRITE (R450). -/
def execHitchWrite (src : Src) (s : State) : Host.Outcome State Fault Refusal :=
  onUnits (fun (m : Mach) => m.pageWrite src pgHitch 0x064 2) s

/-- FID_READ (R446). -/
def execFidRead (k : Fin 256) (h : FidHead) (items : List (BitVec 16 × BitVec 16)) (s : State) : Host.Outcome State Fault Refusal :=
  onUnits (fun (m : Mach) => m.whenReady (fun m => m.fidRequest k h (items.map (fun (i : BitVec 16 × BitVec 16) => FItem.read i.1.toNat i.2.toNat)))) s

/-- FID_WRITE (R446). -/
def execFidWrite (k : Fin 256) (h : FidHead) (items : List (BitVec 16 × BitVec 16 × Word × Word)) (s : State) : Host.Outcome State Fault Refusal :=
  onUnits (fun (m : Mach) => m.whenReady (fun m => m.fidRequest k h (items.map (fun (i : BitVec 16 × BitVec 16 × Word × Word) => FItem.write i.1.toNat i.2.1.toNat i.2.2.1 i.2.2.2)))) s

/-- FID_CMD (R446). -/
def execFidCmd (k : Fin 256) (h : FidHead) (items : List (BitVec 16 × Word × Word)) (s : State) : Host.Outcome State Fault Refusal :=
  onUnits (fun (m : Mach) => m.whenReady (fun m => m.fidRequest k h (items.map (fun (i : BitVec 16 × Word × Word) => FItem.cmd i.1.toNat i.2.1 i.2.2)))) s

/-- SUBSCRIBE (R447). -/
def execSubscribe (k : Fin 256) (h : FidHead) (items : List (BitVec 16)) (s : State) : Host.Outcome State Fault Refusal :=
  onUnits (fun (m : Mach) => m.whenReady (fun m => m.fidRequest k h (items.map (fun (i : BitVec 16) => FItem.subscribe i.toNat)))) s

/-- RESP (R446). -/
def execResp (k : Fin 256) (h : FidHead) (ack : Word) (items : List FResp) (s : State) : Host.Outcome State Fault Refusal :=
  onUnits (fun (m : Mach) => m.whenReady (fun m => m.fidResp k h ack.toNat items)) s

/-- REPORT (R448). -/
def execReport (k : Fin 256) (h : FidHead) (unit : BitVec 16) (caps state fset ffirst : Word) (s : State) : Host.Outcome State Fault Refusal :=
  onUnits (fun (m : Mach) => m.whenReady (fun m => m.fidReport k h unit.toNat caps state fset ffirst)) s

/-- HELLO (R445). -/
def execHello (k : Fin 256) (h : FidHead) (echo : Word) (s : State) : Host.Outcome State Fault Refusal :=
  onUnits (fun (m : Mach) => m.whenReady (fun m => m.fidHello k h echo)) s

/-- FID_RESEND (R446). -/
def execFidResend (k : Fin 256) (seq : Word) (ms : Nat) (s : State) : Host.Outcome State Fault Refusal :=
  onRun (onUnits (fun (m : Mach) => m.whenReady (fun m => m.fidResend k seq.toNat ms))) s

/-- HELLO_TIMER (R445). -/
def execHelloTimer (ms : Nat) (s : State) : Host.Outcome State Fault Refusal :=
  onRun (onUnits (fun (m : Mach) => m.whenReady (fun m => m.helloDue ms))) s

/-- PEER_LOST (R445). -/
def execPeerLost (k : Fin 256) (ms : Nat) (s : State) : Host.Outcome State Fault Refusal :=
  onUnits (fun (m : Mach) => m.whenReady (fun m => m.peerLost k ms)) s

/-- EPOCH_END (R445). -/
def execEpochEnd (s : State) : Host.Outcome State Fault Refusal :=
  onRun (onUnits (fun (m : Mach) => m.whenReady (fun m => m.epochEnd))) s

/-- REPORT_SEND (R447). -/
def execReportSend (k : Fin 256) (n : Fin 32768) (ms : Nat) (s : State) : Host.Outcome State Fault Refusal :=
  onRun (onUnits (fun (m : Mach) => m.whenReady (fun m => m.reportSend k n ms))) s

/-- PROXY_GATHER_FLUSH (R448). -/
def execProxyGatherFlush (k : Fin 256) (us : Nat) (s : State) : Host.Outcome State Fault Refusal :=
  onRun (onUnits (fun (m : Mach) => m.whenReady (fun m => m.gatherFlush k us))) s

/-- PROXY_CACHE_REFRESH (R448). -/
def execProxyCacheRefresh (p : Fin 8192) (ms : Nat) (s : State) : Host.Outcome State Fault Refusal :=
  onRun (onUnits (fun (m : Mach) => m.whenReady (fun m => m.cacheRefresh (pgProxy p) ms))) s

/-- FID_PEER_READ (R451). -/
def execFidPeerRead (src : Src) (s : State) : Host.Outcome State Fault Refusal :=
  onPage (fun (m : Mach) => m.pageWrite src pgFid 0x064 1) s

/-- FID_PEER_WRITE (R451). -/
def execFidPeerWrite (src : Src) (s : State) : Host.Outcome State Fault Refusal :=
  onUnits (fun (m : Mach) => m.pageWrite src pgFid 0x064 2) s

/-- FID_PROXY_READ (R451). -/
def execFidProxyRead (src : Src) (s : State) : Host.Outcome State Fault Refusal :=
  onPage (fun (m : Mach) => m.pageWrite src pgFid 0x064 3) s

/-- FID_PROXY_WRITE (R448). -/
def execFidProxyWrite (src : Src) (s : State) : Host.Outcome State Fault Refusal :=
  onUnits (fun (m : Mach) => m.pageWrite src pgFid 0x064 4) s

end Sys2Proof.Machine
end

