-- ==== Sys2Proof/Machine/ExecInputs.lean ====
section
/-! DEFINITION. The meanings of the rows of inputs and touch channels (10_inputs_and_touch.md): one definition for each row, over the operations of the
chapter. -/

namespace Sys2Proof.Machine

/-- IN_WINDOW (R283). -/
def execInWindow (ix : Fin 96) (cur : Nat) (lim : Bool) (v : Nat) (s : State) : Host.Outcome State Fault Refusal :=
  onRun (onUnits (fun (m : Mach) => m.inWindow ix cur lim v)) s

/-- LONG (R301). -/
def execLong (ix : Fin 96) (ms : Nat) (s : State) : Host.Outcome State Fault Refusal :=
  onRun (onUnits (fun (m : Mach) => m.inLong ix ms)) s

/-- BAND_ERR (R286). -/
def execBandErr (ix : Fin 96) (ms : Nat) (s : State) : Host.Outcome State Fault Refusal :=
  onUnits (fun (m : Mach) => m.bandErr ix ms) s

/-- BROKEN (R286). -/
def execBroken (ix : Fin 96) (ms : Nat) (s : State) : Host.Outcome State Fault Refusal :=
  onUnits (fun (m : Mach) => m.inBroken ix ms) s

/-- CLEANING_PULSE (R288). -/
def execCleaningPulse (ix : Fin 96) (ms : Nat) (s : State) : Host.Outcome State Fault Refusal :=
  onRun (onUnits (fun (m : Mach) => m.cleaningPulse ix ms)) s

/-- TOUCH_SCAN (R294). -/
def execTouchScan (readings : List (BitVec 16 × BitVec 16)) (s : State) : Host.Outcome State Fault Refusal :=
  onRun (onUnits (fun (m : Mach) => m.touchScanAll readings)) s

/-- STUCK (R297). -/
def execStuck (tc : Fin 16) (sec : Nat) (s : State) : Host.Outcome State Fault Refusal :=
  onUnits (fun (m : Mach) => m.touchStuck tc sec) s

/-- WATER (R296). -/
def execWater (tc : Fin 16) (sec : Nat) (s : State) : Host.Outcome State Fault Refusal :=
  onUnits (fun (m : Mach) => m.touchWater tc sec) s

/-- SHIELD (R300). -/
def execShield (tc : Fin 16) (ms : Nat) (s : State) : Host.Outcome State Fault Refusal :=
  onUnits (fun (m : Mach) => m.touchShield tc ms) s

end Sys2Proof.Machine
end

