-- ==== Sys2Proof/Machine/ExecLay.lean ====
section
/-! DEFINITION. The meanings of the rows of the collector (12_lay_fault_collection.md): one definition for each row, over the operations of the
chapter. -/

namespace Sys2Proof.Machine

/-- LAY_ASSERT (R329). -/
def execLayAssert (l : List (Fin 32768 × Fin 32)) (s : State) : Host.Outcome State Fault Refusal :=
  onUnits (fun (m : Mach) => m.layClock l) s

/-- LAYBREAK (R327). -/
def execLaybreak (n : Fin 32768) (b : Fin 32) (clocks : Nat) (agree : Bool) (s : State) : Host.Outcome State Fault Refusal :=
  onUnits (fun (m : Mach) => m.layBreak n b clocks agree) s

/-- FAULTN_ERR (R336). -/
def execFaultnErr (conducts : Bool) (ms : Nat) (s : State) : Host.Outcome State Fault Refusal :=
  onUnits (fun (m : Mach) => m.faultnErr conducts ms) s

/-- SOFT_WRITE (R335). -/
def execSoftWrite (src : Src) (v : Word) (s : State) : Host.Outcome State Fault Refusal :=
  onUnits (fun (m : Mach) => m.pageWrite src pgLay 0x05C v) s

/-- ENTRY_READ (R341). -/
def execEntryRead (src : Src) (s : State) : Host.Outcome State Fault Refusal :=
  onPage (fun (m : Mach) => m.pageWrite src pgLay 0x084 1) s

/-- ENTRY_WRITE (R331). -/
def execEntryWrite (src : Src) (s : State) : Host.Outcome State Fault Refusal :=
  onUnits (fun (m : Mach) => m.pageWrite src pgLay 0x084 2) s

/-- HALT_N_INPUT (R30). -/
def execHaltNInput (mv : Nat) (s : State) : Host.Outcome State Fault Refusal :=
  onKept (fun (m : Mach) => m.haltInput mv) s

/-- HALT (R338). -/
def execHalt (us : Nat) (s : State) : Host.Outcome State Fault Refusal :=
  onUnits (fun (m : Mach) => m.halt us) s

end Sys2Proof.Machine
end

