-- ==== Sys2Proof/Machine/ExecLin.lean ====
section
/-! DEFINITION. The meanings of the rows of LIN (16_can_and_lin.md): one definition for each row, over the operations of the
chapter. -/

namespace Sys2Proof.Machine

/-- LIN_START (R427). -/
def execLinStart (src : Src) (c : Fin 4) (s : State) : Host.Outcome State Fault Refusal :=
  onUnits (fun (m : Mach) => m.pageWrite src (pgLin c) 0x060 1) s

/-- LIN_STOP (R427). -/
def execLinStop (src : Src) (c : Fin 4) (s : State) : Host.Outcome State Fault Refusal :=
  onUnits (fun (m : Mach) => m.pageWrite src (pgLin c) 0x060 2) s

/-- GO_TO_SLEEP (R426). -/
def execGoToSleep (src : Src) (c : Fin 4) (s : State) : Host.Outcome State Fault Refusal :=
  onUnits (fun (m : Mach) => m.pageWrite src (pgLin c) 0x060 3) s

/-- LIN_WAKE (R426). -/
def execLinWake (src : Src) (c : Fin 4) (s : State) : Host.Outcome State Fault Refusal :=
  onUnits (fun (m : Mach) => m.pageWrite src (pgLin c) 0x060 4) s

/-- LIN_FRAME_READ (R427). -/
def execLinFrameRead (src : Src) (c : Fin 4) (s : State) : Host.Outcome State Fault Refusal :=
  onPage (fun (m : Mach) => m.pageWrite src (pgLin c) 0x05C 1) s

/-- LIN_FRAME_WRITE (R427). -/
def execLinFrameWrite (src : Src) (c : Fin 4) (s : State) : Host.Outcome State Fault Refusal :=
  onPage (fun (m : Mach) => m.pageWrite src (pgLin c) 0x05C 2) s

/-- LIN_SLOT (R425). -/
def execLinSlot (c : Fin 4) (ms : Nat) (result : Fin 8) (data : List Byte) (sum : Byte) (s : State) : Host.Outcome State Fault Refusal :=
  onRun (onUnits (fun (m : Mach) => (m.linSlot c ms result data sum).frameSeenIf (result == 1) (pgLin c))) s

/-- LIN_HEADER (R425). -/
def execLinHeader (c : Fin 4) (ident : Fin 64) (result : Fin 8) (data : List Byte) (sum : Byte) (s : State) : Host.Outcome State Fault Refusal :=
  onUnits (fun (m : Mach) => (m.linHeader c ident result data sum).frameSeenIf (result == 1) (pgLin c)) s

/-- LIN_WAKE_PULSE (R426). -/
def execLinWakePulse (c : Fin 4) (us : Nat) (s : State) : Host.Outcome State Fault Refusal :=
  onKept (fun (m : Mach) => m.linWakePulse c us) s

/-- BUS_SHORT (R428). -/
def execBusShort (c : Fin 4) (ms : Nat) (s : State) : Host.Outcome State Fault Refusal :=
  onUnits (fun (m : Mach) => m.linShort c ms) s

end Sys2Proof.Machine
end

