-- ==== Sys2Proof/Machine/ExecLocker.lean ====
section
/-! DEFINITION. The meanings of the rows of the Locker (20_locker_security.md): one definition for each row, over the operations of the
chapter. -/

namespace Sys2Proof.Machine

/-- LOCKER_NOP (R494). -/
def execLockerNop (src : Src) (c : Fin 6) (slot slot2 : Fin 64) (s : State) : Host.Outcome State Fault Refusal :=
  onUnits (fun (m : Mach) => m.pageWrite src pgLocker (0x100 + 0x20 * c) (svcWord 0 slot slot2)) s

/-- GENERATE (R494). -/
def execGenerate (src : Src) (c : Fin 6) (slot slot2 : Fin 64) (s : State) : Host.Outcome State Fault Refusal :=
  onUnits (fun (m : Mach) => m.pageWrite src pgLocker (0x100 + 0x20 * c) (svcWord 1 slot slot2)) s

/-- IMPORT (R494). -/
def execImportKey (src : Src) (c : Fin 6) (slot slot2 : Fin 64) (s : State) : Host.Outcome State Fault Refusal :=
  onUnits (fun (m : Mach) => m.pageWrite src pgLocker (0x100 + 0x20 * c) (svcWord 2 slot slot2)) s

/-- EXPORT (R494). -/
def execExportKey (src : Src) (c : Fin 6) (slot slot2 : Fin 64) (s : State) : Host.Outcome State Fault Refusal :=
  onUnits (fun (m : Mach) => m.pageWrite src pgLocker (0x100 + 0x20 * c) (svcWord 3 slot slot2)) s

/-- DERIVE (R495). -/
def execDerive (src : Src) (c : Fin 6) (slot slot2 : Fin 64) (s : State) : Host.Outcome State Fault Refusal :=
  onUnits (fun (m : Mach) => m.pageWrite src pgLocker (0x100 + 0x20 * c) (svcWord 4 slot slot2)) s

/-- MAC_GEN (R494). -/
def execMacGen (src : Src) (c : Fin 6) (slot slot2 : Fin 64) (s : State) : Host.Outcome State Fault Refusal :=
  onUnits (fun (m : Mach) => m.pageWrite src pgLocker (0x100 + 0x20 * c) (svcWord 5 slot slot2)) s

/-- MAC_VER (R494). -/
def execMacVer (src : Src) (c : Fin 6) (slot slot2 : Fin 64) (s : State) : Host.Outcome State Fault Refusal :=
  onUnits (fun (m : Mach) => m.pageWrite src pgLocker (0x100 + 0x20 * c) (svcWord 6 slot slot2)) s

/-- ENCRYPT (R494). -/
def execEncrypt (src : Src) (c : Fin 6) (slot slot2 : Fin 64) (s : State) : Host.Outcome State Fault Refusal :=
  onUnits (fun (m : Mach) => m.pageWrite src pgLocker (0x100 + 0x20 * c) (svcWord 7 slot slot2)) s

/-- DECRYPT (R494). -/
def execDecrypt (src : Src) (c : Fin 6) (slot slot2 : Fin 64) (s : State) : Host.Outcome State Fault Refusal :=
  onUnits (fun (m : Mach) => m.pageWrite src pgLocker (0x100 + 0x20 * c) (svcWord 8 slot slot2)) s

/-- SIGN (R494). -/
def execSignMsg (src : Src) (c : Fin 6) (slot slot2 : Fin 64) (s : State) : Host.Outcome State Fault Refusal :=
  onUnits (fun (m : Mach) => m.pageWrite src pgLocker (0x100 + 0x20 * c) (svcWord 9 slot slot2)) s

/-- VERIFY (R494). -/
def execVerify (src : Src) (c : Fin 6) (slot slot2 : Fin 64) (s : State) : Host.Outcome State Fault Refusal :=
  onUnits (fun (m : Mach) => m.pageWrite src pgLocker (0x100 + 0x20 * c) (svcWord 10 slot slot2)) s

/-- ATTEST (R500). -/
def execAttest (src : Src) (c : Fin 6) (slot slot2 : Fin 64) (s : State) : Host.Outcome State Fault Refusal :=
  onUnits (fun (m : Mach) => m.pageWrite src pgLocker (0x100 + 0x20 * c) (svcWord 11 slot slot2)) s

/-- RANDOM (R494). -/
def execRandom (src : Src) (c : Fin 6) (slot slot2 : Fin 64) (s : State) : Host.Outcome State Fault Refusal :=
  onUnits (fun (m : Mach) => m.pageWrite src pgLocker (0x100 + 0x20 * c) (svcWord 12 slot slot2)) s

/-- ZEROISE (R494). -/
def execZeroise (src : Src) (c : Fin 6) (slot slot2 : Fin 64) (s : State) : Host.Outcome State Fault Refusal :=
  onUnits (fun (m : Mach) => m.pageWrite src pgLocker (0x100 + 0x20 * c) (svcWord 13 slot slot2)) s

/-- LOCK (R494). -/
def execLockSlot (src : Src) (c : Fin 6) (slot slot2 : Fin 64) (s : State) : Host.Outcome State Fault Refusal :=
  onUnits (fun (m : Mach) => m.pageWrite src pgLocker (0x100 + 0x20 * c) (svcWord 14 slot slot2)) s

/-- HASH (R494). -/
def execHash (src : Src) (c : Fin 6) (slot slot2 : Fin 64) (s : State) : Host.Outcome State Fault Refusal :=
  onUnits (fun (m : Mach) => m.pageWrite src pgLocker (0x100 + 0x20 * c) (svcWord 15 slot slot2)) s

/-- LOCKER_REQUEST_DONE (R497). -/
def execLockerRequestDone (s : State) : Host.Outcome State Fault Refusal :=
  onState (fun (t : State) => lockerDone t) s

/-- SLOT_READ (R508). -/
def execSlotRead (src : Src) (s : State) : Host.Outcome State Fault Refusal :=
  onPage (fun (m : Mach) => m.pageWrite src pgLocker 0x060 1) s

/-- WRITE_ATTR (R508). -/
def execWriteAttr (src : Src) (s : State) : Host.Outcome State Fault Refusal :=
  onPage (fun (m : Mach) => m.pageWrite src pgLocker 0x060 2) s

/-- TAMPER (R503). -/
def execTamper (sensor : Fin 7) (v : Int) (k : Nat) (s : State) : Host.Outcome State Fault Refusal :=
  onKept (fun (m : Mach) => m.tamper sensor v k) s

/-- TAMPER_CFG_WRITE (R504). -/
def execTamperCfgWrite (src : Src) (v : Word) (s : State) : Host.Outcome State Fault Refusal :=
  onUnits (fun (m : Mach) => m.pageWrite src pgLocker 0x040 v) s

/-- RNG_FAIL (R499). -/
def execRngFail (bits : List Bool) (s : State) : Host.Outcome State Fault Refusal :=
  onUnits (fun (m : Mach) => m.rngFail bits) s

/-- DRBG_RESEED (R498). -/
def execDrbgReseed (s : State) : Host.Outcome State Fault Refusal :=
  onPage (fun (m : Mach) => m.drbgReseed) s

end Sys2Proof.Machine
end

