-- ==== Sys2Proof/Machine/ExecLogs.lean ====
section
/-! DEFINITION. The meanings of the rows of the logs and the Reckoner (13_trouble_log_and_logline.md): one definition for each row, over the operations of the
chapter. -/

namespace Sys2Proof.Machine

/-- FAULT_ENTRY (R349). -/
def execFaultEntry (s : State) : Host.Outcome State Fault Refusal :=
  onPage (fun (m : Mach) => m.faultEntry) s

/-- TLOG_READ (R352). -/
def execTlogRead (src : Src) (s : State) : Host.Outcome State Fault Refusal :=
  onPage (fun (m : Mach) => m.pageWrite src pgTlog 0x064 1) s

/-- APPEND (R354). -/
def execAppend (src : Src) (s : State) : Host.Outcome State Fault Refusal :=
  onPage (fun (m : Mach) => m.pageWrite src pgTlog 0x064 2) s

/-- LOGLINE_RECORD_WRITE (R358). -/
def execLoglineRecordWrite (good : Bool) (s : State) : Host.Outcome State Fault Refusal :=
  onUnits (fun (m : Mach) => m.loglineWrite good) s

/-- TOP_STORE (R346). -/
def execTopStore (s : State) : Host.Outcome State Fault Refusal :=
  onPage (fun (m : Mach) => m.topStore) s

/-- CLK_DEGRADED (R343). -/
def execClkDegraded (cycles : Nat) (s : State) : Host.Outcome State Fault Refusal :=
  onKept (fun (m : Mach) => m.clkDegraded cycles) s

/-- CRYSTAL_RETURN (R343). -/
def execCrystalReturn (ms : Nat) (s : State) : Host.Outcome State Fault Refusal :=
  onKept (fun (m : Mach) => m.crystalReturn ms) s

/-- RECKON_CALIBRATION (R343). -/
def execReckonCalibration (units : Word) (s : State) : Host.Outcome State Fault Refusal :=
  onKept (fun (m : Mach) => m.reckonCal units) s

/-- UTC_SET (R344). -/
def execUtcSet (src : Src) (s : State) : Host.Outcome State Fault Refusal :=
  onUnits (fun (m : Mach) => m.pageWrite src pgReckon 0x068 1) s

/-- SRC_WRITE (R362). -/
def execSrcWrite (src : Src) (v : Word) (s : State) : Host.Outcome State Fault Refusal :=
  onUnits (fun (m : Mach) => m.pageWrite src pgReckon 0x05C v) s

end Sys2Proof.Machine
end

