-- ==== Sys2Proof/Machine/ExecMessenger.lean ====
section
/-! DEFINITION. The meanings of the rows of the Messenger line (08_messenger_line.md): one definition for each row, over the operations of the
chapter. -/

namespace Sys2Proof.Machine

/-- MESSENGER_FRAME (R244). -/
def execMessengerFrame (c : Fin 4) (s : State) : Host.Outcome State Fault Refusal :=
  onRun (onUnits (fun (m : Mach) => m.messengerFrame c)) s

/-- REFRESH (R259). -/
def execRefresh (c : Fin 4) (ms : Nat) (s : State) : Host.Outcome State Fault Refusal :=
  onRun (onUnits (fun (m : Mach) => m.refreshFrame c ms)) s

/-- SYNC_HEAVE (R248). -/
def execSyncHeave (c : Fin 4) (s : State) : Host.Outcome State Fault Refusal :=
  onRun (onUnits (fun (m : Mach) => m.syncHeave c)) s

/-- ECHO (R256). -/
def execEcho (c : Fin 4) (ofHeave : Bool) (tag hop : Nat) (replies : List NodeReply) (s : State) : Host.Outcome State Fault Refusal :=
  onUnits (fun (m : Mach) => m.echo c ofHeave tag hop replies) s

/-- NO_ECHO (R256). -/
def execNoEcho (c : Fin 4) (begun : Bool) (ns lowNs : Nat) (s : State) : Host.Outcome State Fault Refusal :=
  onUnits (fun (m : Mach) => m.noEcho c begun ns lowNs) s

/-- NODE_INSERTION (R251). -/
def execNodeInsertion (p : Fin 24) (ms : Nat) (s : State) : Host.Outcome State Fault Refusal :=
  onUnits (fun (m : Mach) => m.nodeInsertion p ms) s

/-- NODE_REMOVAL (R252). -/
def execNodeRemoval (p : Fin 24) (s : State) : Host.Outcome State Fault Refusal :=
  onUnits (fun (m : Mach) => m.nodeRemoval p) s

/-- DISCOVER (R253). -/
def execDiscover (src : Src) (c : Fin 4) (s : State) : Host.Outcome State Fault Refusal :=
  onUnits (fun (m : Mach) => m.pageWrite src (pgMsg c) 0x048 1) s

/-- MAP (R254). -/
def execMapChain (src : Src) (c : Fin 4) (s : State) : Host.Outcome State Fault Refusal :=
  onUnits (fun (m : Mach) => m.pageWrite src (pgMsg c) 0x048 2) s

/-- ACCEPT (R255). -/
def execAccept (src : Src) (c : Fin 4) (s : State) : Host.Outcome State Fault Refusal :=
  onUnits (fun (m : Mach) => m.pageWrite src (pgMsg c) 0x048 3) s

/-- LOCATE (R258). -/
def execLocate (src : Src) (c : Fin 4) (s : State) : Host.Outcome State Fault Refusal :=
  onUnits (fun (m : Mach) => m.pageWrite src (pgMsg c) 0x048 4) s

/-- ENUM_COMPLETE (R259). -/
def execEnumComplete (c : Fin 4) (nodes : List NodeFound) (heard : List (List Nat)) (falls : List Nat) (s : State) : Host.Outcome State Fault Refusal :=
  onUnits (fun (m : Mach) => m.enumComplete c nodes heard falls) s

/-- LINE_SHORT (R259). -/
def execLineShort (c : Fin 4) (ms : Nat) (s : State) : Host.Outcome State Fault Refusal :=
  onUnits (fun (m : Mach) => m.lineShort c ms) s

/-- POLL (R259). -/
def execPoll (c : Fin 4) (k : Fin 1024) (ms : Nat) (s : State) : Host.Outcome State Fault Refusal :=
  onRun (onUnits (fun (m : Mach) => m.poll c k ms)) s

/-- SATELLITE_SYNC_WRITE (R260). -/
def execSatelliteSyncWrite (src : Src) (c : Fin 4) (k : Fin 1024) (v : Word) (s : State) : Host.Outcome State Fault Refusal :=
  onUnits (fun (m : Mach) => m.pageWrite src (pgSat c k) 0x04C v) s

end Sys2Proof.Machine
end

