-- ==== Sys2Proof/Machine/ExecOutputs.lean ====
section
/-! DEFINITION. The meanings of the rows of protected outputs and banks, and the protections classes share (04_protected_outputs.md): one definition for each row, over the operations of the
chapter. -/

namespace Sys2Proof.Machine

/-- START_SUCCESS (R130). -/
def execStartSuccess (c : Fin 128) (vOut : Int) (s : State) : Host.Outcome State Fault Refusal :=
  onUnits (fun (m : Mach) => m.startSuccess c vOut) s

/-- START_TIMEOUT (R130). -/
def execStartTimeout (c : Fin 128) (ms : Nat) (s : State) : Host.Outcome State Fault Refusal :=
  onUnits (fun (m : Mach) => m.startTimeout c ms) s

/-- START_ENERGY_CAP (R130). -/
def execStartEnergyCap (c : Fin 128) (mj : Nat) (s : State) : Host.Outcome State Fault Refusal :=
  onUnits (fun (m : Mach) => m.startEnergy c mj) s

/-- INRUSH_END (R131). -/
def execInrushEnd (c : Fin 128) (ms : Nat) (s : State) : Host.Outcome State Fault Refusal :=
  onUnits (fun (m : Mach) => m.inrushEnd c ms) s

/-- SHORT_CIRCUIT (R132). -/
def execShortCircuit (n : Fin 32768) (ma : Int) (s : State) : Host.Outcome State Fault Refusal :=
  onUnits (fun (m : Mach) => m.shortCircuit n ma) s

/-- OVERCURRENT (R132). -/
def execOvercurrent (c : Fin 128) (avg sum : Int) (t : Nat) (s : State) : Host.Outcome State Fault Refusal :=
  onUnits (fun (m : Mach) => m.outOver c avg sum t) s

/-- THERMAL (R133). -/
def execThermal (n : Fin 32768) (tj : Int) (s : State) : Host.Outcome State Fault Refusal :=
  onUnits (fun (m : Mach) => m.junction n tj) s

/-- TJ_WARN (R133). -/
def execTjWarn (n : Fin 32768) (tj : Int) (s : State) : Host.Outcome State Fault Refusal :=
  onUnits (fun (m : Mach) => m.tjWarn n tj) s

/-- RETRY (R134). -/
def execRetry (c : Fin 128) (ms : Nat) (tj : Int) (s : State) : Host.Outcome State Fault Refusal :=
  onUnits (fun (m : Mach) => m.retryRow c ms tj) s

/-- RETRY_SERIES_RESET (R134). -/
def execRetrySeriesReset (c : Fin 128) (ms : Nat) (s : State) : Host.Outcome State Fault Refusal :=
  onUnits (fun (m : Mach) => m.retrySeriesReset c ms) s

/-- CLAMP (R135). -/
def execClamp (n : Fin 32768) (mj : Nat) (s : State) : Host.Outcome State Fault Refusal :=
  onUnits (fun (m : Mach) => m.clampEvent n mj) s

/-- SWITCH_OPEN (R137). -/
def execSwitchOpen (c : Fin 128) (cur vOut : Int) (us : Nat) (s : State) : Host.Outcome State Fault Refusal :=
  onUnits (fun (m : Mach) => m.switchOpen c cur vOut us) s

/-- SWITCH_STUCK (R137). -/
def execSwitchStuck (c : Fin 128) (cur : Int) (us : Nat) (s : State) : Host.Outcome State Fault Refusal :=
  onUnits (fun (m : Mach) => m.switchStuck c cur us) s

/-- OPEN_ON (R138). -/
def execOpenOn (c : Fin 128) (cur : Int) (ms : Nat) (s : State) : Host.Outcome State Fault Refusal :=
  onUnits (fun (m : Mach) => m.openOn c cur ms) s

/-- OFFDIAG_PULSE (R139). -/
def execOffdiagPulse (c : Fin 128) (vOut : Int) (s : State) : Host.Outcome State Fault Refusal :=
  onUnits (fun (m : Mach) => m.offdiagPulse c vOut) s

/-- BF_ARM (R140). -/
def execBfArm (c : Fin 128) (vOut : Int) (ms : Nat) (s : State) : Host.Outcome State Fault Refusal :=
  onUnits (fun (m : Mach) => m.bfArm c vOut ms) s

/-- BACKFEED (R140). -/
def execBackfeed (c : Fin 128) (vOut : Int) (us : Nat) (pulse partnerOff : Bool) (s : State) : Host.Outcome State Fault Refusal :=
  onUnits (fun (m : Mach) => m.backfeed c vOut us pulse partnerOff) s

/-- PARALLEL_UNDECLARED (R143). -/
def execParallelUndeclared (c d : Fin 128) (e : WireEdge) (s : State) : Host.Outcome State Fault Refusal :=
  onUnits (fun (m : Mach) => m.parallelFound c d e) s

/-- SHARE (R145). -/
def execShare (c : Fin 128) (cur sum ms : Nat) (s : State) : Host.Outcome State Fault Refusal :=
  onUnits (fun (m : Mach) => m.share c cur sum ms) s

/-- SYNC_LOST (R129). -/
def execSyncLost (n : Fin 32768) (s : State) : Host.Outcome State Fault Refusal :=
  onUnits (fun (m : Mach) => m.syncLost n) s

/-- PWM_PERIOD_START (R128). -/
def execPwmPeriodStart (n : Fin 32768) (s : State) : Host.Outcome State Fault Refusal :=
  onUnits (fun (m : Mach) => m.periodStart n) s

/-- IDEAL_DIODE_OFF (R17). -/
def execIdealDiodeOff (k : Fin 4) (b : Bool) (cur : Int) (s : State) : Host.Outcome State Fault Refusal :=
  onUnits (fun (m : Mach) => (m.diodeOff k b cur).bankAfter k) s

/-- A_LOST (R153). -/
def execALost (k : Fin 4) (b : Bool) (v ms : Nat) (s : State) : Host.Outcome State Fault Refusal :=
  onUnits (fun (m : Mach) => (m.feedLost k b v ms).bankAfter k) s

/-- RAIL_LOST (R153). -/
def execRailLost (k : Fin 4) (v ms : Nat) (s : State) : Host.Outcome State Fault Refusal :=
  onUnits (fun (m : Mach) => (m.railLost k v ms).bankAfter k) s

/-- SAG (R153). -/
def execSag (k : Fin 4) (v ms : Nat) (s : State) : Host.Outcome State Fault Refusal :=
  onUnits (fun (m : Mach) => (m.railSag k v ms).bankAfter k) s

/-- OVERVOLT (R153). -/
def execOvervolt (k : Fin 4) (b : Bool) (v ms : Nat) (s : State) : Host.Outcome State Fault Refusal :=
  onUnits (fun (m : Mach) => (m.overvolt k b v ms).bankAfter k) s

/-- BANK_OC (R153). -/
def execBankOc (k : Fin 4) (mean now : Int) (s : State) : Host.Outcome State Fault Refusal :=
  onUnits (fun (m : Mach) => m.bankOc k mean now) s

/-- BANK_TRIP (R154). -/
def execBankTrip (k : Fin 4) (cur : Int) (ms : Nat) (s : State) : Host.Outcome State Fault Refusal :=
  onUnits (fun (m : Mach) => m.bankOver k cur ms) s

/-- BP_WARN (R153). -/
def execBpWarn (k : Fin 4) (tb : Int) (s : State) : Host.Outcome State Fault Refusal :=
  onUnits (fun (m : Mach) => m.bpWarn k tb) s

/-- BP_TRIP (R154). -/
def execBpTrip (k : Fin 4) (tb : Int) (ms : Nat) (s : State) : Host.Outcome State Fault Refusal :=
  onUnits (fun (m : Mach) => m.bpTrip k tb ms) s

/-- DIODE (R153). -/
def execDiode (k : Fin 4) (b : Bool) (v ms : Nat) (s : State) : Host.Outcome State Fault Refusal :=
  onUnits (fun (m : Mach) => (m.diodeFault k b v ms).bankAfter k) s

/-- UNUSED_LIVE (R153). -/
def execUnusedLive (k : Fin 4) (b : Bool) (v : Nat) (s : State) : Host.Outcome State Fault Refusal :=
  onUnits (fun (m : Mach) => (m.unusedLive k b v).bankAfter k) s

/-- BANK_CLASS_WRITE (R156). -/
def execBankClassWrite (src : Src) (k : Fin 4) (v : Word) (s : State) : Host.Outcome State Fault Refusal :=
  onUnits (fun (m : Mach) => m.pageWrite src (pgBank k) 0x040 v) s

/-- FEED_RETURN (R153). -/
def execFeedReturn (k : Fin 4) (vA vB vR : Nat) (iA iB iR : Int) (ms : Nat) (s : State) : Host.Outcome State Fault Refusal :=
  onUnits (fun (m : Mach) => ((m.readCurrents k iA iB iR).feedReturn k vA vB vR ms).bankAfter k) s

/-- THERMAL_RESUME (R189). -/
def execThermalResume (n : Fin 32768) (tj : Int) (s : State) : Host.Outcome State Fault Refusal :=
  onUnits (fun (m : Mach) => m.junction n tj) s

end Sys2Proof.Machine
end

