-- ==== Sys2Proof/Machine/ExecPages.lean ====
section
/-! DEFINITION. The meanings of the rows of pages and units (02_units_and_pages.md; BOUND_WRITE_CLAMP 11_policy_and_adaptation.md): one definition for each row, over the operations of the
chapter. -/

namespace Sys2Proof.Machine

/-- CMD_NOP (R63). -/
def execCmdNop (src : Src) (n : Fin 32768) (seq : BitVec 16) (s : State) : Host.Outcome State Fault Refusal :=
  onUnits (fun (m : Mach) => m.cmdWrite src noOrigin n (cmdWord 0 seq)) s

/-- ENABLE (R69). -/
def execEnable (src : Src) (n : Fin 32768) (seq : BitVec 16) (s : State) : Host.Outcome State Fault Refusal :=
  onUnits (fun (m : Mach) => m.cmdWrite src noOrigin n (cmdWord 1 seq)) s

/-- DISABLE (R69). -/
def execDisable (src : Src) (n : Fin 32768) (seq : BitVec 16) (s : State) : Host.Outcome State Fault Refusal :=
  onUnits (fun (m : Mach) => m.cmdWrite src noOrigin n (cmdWord 2 seq)) s

/-- APPLY (R71). -/
def execApply (src : Src) (n : Fin 32768) (seq : BitVec 16) (s : State) : Host.Outcome State Fault Refusal :=
  onUnits (fun (m : Mach) => m.cmdWrite src noOrigin n (cmdWord 3 seq)) s

/-- CLEAR_FAULTS (R69). -/
def execClearFaults (src : Src) (n : Fin 32768) (seq : BitVec 16) (persist : Word) (s : State) : Host.Outcome State Fault Refusal :=
  onUnits (fun (m : Mach) => (m.persist n persist).cmdWrite src noOrigin n (cmdWord 4 seq)) s

/-- SELFTEST (R69). -/
def execSelftest (src : Src) (n : Fin 32768) (seq : BitVec 16) (s : State) : Host.Outcome State Fault Refusal :=
  onUnits (fun (m : Mach) => m.cmdWrite src noOrigin n (cmdWord 5 seq)) s

/-- FREEZE (R65). -/
def execFreeze (src : Src) (n : Fin 32768) (seq : BitVec 16) (s : State) : Host.Outcome State Fault Refusal :=
  onUnits (fun (m : Mach) => m.cmdWrite src noOrigin n (cmdWord 6 seq)) s

/-- THAW (R65). -/
def execThaw (src : Src) (n : Fin 32768) (seq : BitVec 16) (s : State) : Host.Outcome State Fault Refusal :=
  onUnits (fun (m : Mach) => m.cmdWrite src noOrigin n (cmdWord 7 seq)) s

/-- HELD_COMMAND_EXECUTE (R67). -/
def execHeldCommandExecute (n : Fin 32768) (s : State) : Host.Outcome State Fault Refusal :=
  onUnits (fun (m : Mach) => m.heldCmd n) s

/-- TEST_COMPLETE (R69). -/
def execTestComplete (n : Fin 32768) (pass : Bool) (fail : Fin 16) (s : State) : Host.Outcome State Fault Refusal :=
  onUnits (fun (m : Mach) => m.testComplete n pass fail) s

/-- REGISTER_WRITE (R73). -/
def execRegisterWrite (src : Src) (n : Fin 32768) (r : Fin 1024) (v : Word) (s : State) : Host.Outcome State Fault Refusal :=
  onUnits (fun (m : Mach) => m.pageWrite src n (4 * r) v) s

/-- SHADOW_WRITE (R70). -/
def execShadowWrite (src : Src) (n : Fin 32768) (r : Fin 1024) (v : Word) (s : State) : Host.Outcome State Fault Refusal :=
  onUnits (fun (m : Mach) => m.pageWrite src n (4 * r) v) s

/-- FAULT_SET_CLEAR (R62). -/
def execFaultSetClear (src : Src) (n : Fin 32768) (v persist : Word) (s : State) : Host.Outcome State Fault Refusal :=
  onUnits (fun (m : Mach) => (m.persist n persist).pageWrite src n 0x018 v) s

/-- FAULT_SOURCE_SET (R62). -/
def execFaultSourceSet (n : Fin 32768) (b : Fin 32) (holds : Bool) (s : State) : Host.Outcome State Fault Refusal :=
  onUnits (fun (m : Mach) => if m.occupied n then m.faultSource n b holds else m) s

/-- PARENT_WRITE (R79). -/
def execParentWrite (src : Src) (n : Fin 32768) (v : Word) (s : State) : Host.Outcome State Fault Refusal :=
  onUnits (fun (m : Mach) => m.pageWrite src n 0x024 v) s

/-- LOCK_WRITE (R75). -/
def execLockWrite (src : Src) (n : Fin 32768) (v : Word) (s : State) : Host.Outcome State Fault Refusal :=
  onUnits (fun (m : Mach) => m.pageWrite src n 0x02C v) s

/-- STRAY_WRITE (R55). -/
def execStrayWrite (src : Src) (n : Fin 32768) (r : Fin 1024) (v : Word) (s : State) : Host.Outcome State Fault Refusal :=
  onUnits (fun (m : Mach) => m.pageWrite src n (4 * r) v) s

/-- NARROW_ACCESS (R58). -/
def execNarrowAccess (c : Fin 6) (n : Fin 32768) (off : Fin 4096) (s : State) : Host.Outcome State Fault Refusal :=
  onRun (onState (fun (t : State) => narrowAccess c (0x60000000 + 4096 * n + off) t)) s

/-- BIGHT_WINDOW_WRITE (R84). -/
def execBightWindowWrite (src : Src) (b : Fin 8192) (r : Fin 1024) (v : Word) (s : State) : Host.Outcome State Fault Refusal :=
  onUnits (fun (m : Mach) => m.pageWrite src (pgBight b) (4 * r) v) s

/-- BASE_CAP_WRITE (R107). -/
def execBaseCapWrite (src : Src) (n : Fin 32768) (v : Word) (s : State) : Host.Outcome State Fault Refusal :=
  onUnits (fun (m : Mach) => m.pageWrite src n 0x028 v) s

/-- BOUND_WRITE_CLAMP (R320). -/
def execBoundWriteClamp (src : Src) (n : Fin 32768) (r : Fin 1024) (v : Word) (s : State) : Host.Outcome State Fault Refusal :=
  onUnits (fun (m : Mach) => m.pageWrite src n (4 * r) v) s

end Sys2Proof.Machine
end

