-- ==== Sys2Proof/Machine/ExecPolicy.lean ====
section
/-! DEFINITION. The meanings of the rows of measuring, deciding and adapting (11_policy_and_adaptation.md): one definition for each row, over the operations of the
chapter. -/

namespace Sys2Proof.Machine

/-- SHED_TRIGGER_BEGIN (R311). -/
def execShedTriggerBegin (k : Fin 4) (s : State) : Host.Outcome State Fault Refusal :=
  onRun (onUnits (fun (m : Mach) => m.shedBegin k)) s

/-- SHED_STAGE_RAISE (R311). -/
def execShedStageRaise (k : Fin 4) (ms : Nat) (s : State) : Host.Outcome State Fault Refusal :=
  onRun (onUnits (fun (m : Mach) => m.shedRaise k ms)) s

/-- SHED_STAGE_LOWER (R311). -/
def execShedStageLower (k : Fin 4) (ms : Nat) (s : State) : Host.Outcome State Fault Refusal :=
  onRun (onUnits (fun (m : Mach) => m.shedLower k ms)) s

/-- SHED_EN_WRITE (R311). -/
def execShedEnWrite (src : Src) (v : Word) (s : State) : Host.Outcome State Fault Refusal :=
  onUnits (fun (m : Mach) => m.pageWrite src pgPolicy 0x040 v) s

/-- CEIL_WRITE (R311). -/
def execCeilWrite (src : Src) (k : Fin 4) (v : Word) (s : State) : Host.Outcome State Fault Refusal :=
  onUnits (fun (m : Mach) => m.pageWrite src pgPolicy (0x088 + 4 * k) v) s

/-- ALIVE (R315). -/
def execAlive (src : Src) (c : Fin 4) (v : Word) (s : State) : Host.Outcome State Fault Refusal :=
  onUnits (fun (m : Mach) => m.pageWrite src pgPolicy (0x048 + 4 * c) v) s

/-- SLACK_EXPIRY (R317). -/
def execSlackExpiry (c : Fin 4) (ms : Nat) (s : State) : Host.Outcome State Fault Refusal :=
  onUnits (fun (m : Mach) => if m.coreSt (2 + c) = 4 then m else m.slackExpiry (2 + c) ms) s

/-- AUTOMATIC_RESUMPTION (R318). -/
def execAutomaticResumption (c : Fin 4) (ms : Nat) (s : State) : Host.Outcome State Fault Refusal :=
  onRun (onUnits (fun (m : Mach) => m.resumption (2 + c) ms)) s

/-- POLICY_READ (R323). -/
def execPolicyRead (src : Src) (sel : BitVec 8) (s : State) : Host.Outcome State Fault Refusal :=
  onPage (fun (m : Mach) => m.pageWrite src pgPolicy 0x0C0 (BitVec.ofNat 32 (sel.toNat * 256 + 1))) s

/-- POLICY_WRITE (R323). -/
def execPolicyWrite (src : Src) (sel : BitVec 8) (s : State) : Host.Outcome State Fault Refusal :=
  onPage (fun (m : Mach) => m.pageWrite src pgPolicy 0x0C0 (BitVec.ofNat 32 (sel.toNat * 256 + 2))) s

/-- STORE (R324). -/
def execStore (src : Src) (s : State) : Host.Outcome State Fault Refusal :=
  onPage (fun (m : Mach) => m.pageWrite src pgPolicy 0x0C0 3) s

/-- STORE_COMPLETE (R324). -/
def execStoreComplete (s : State) : Host.Outcome State Fault Refusal :=
  onPage (fun (m : Mach) => m.polStored) s

/-- GFREEZE_WRITE (R322). -/
def execGfreezeWrite (src : Src) (v : Word) (s : State) : Host.Outcome State Fault Refusal :=
  onUnits (fun (m : Mach) => m.pageWrite src pgPolicy 0x040 v) s

end Sys2Proof.Machine
end

