-- ==== Sys2Proof/Machine/ExecPower.lean ====
section
/-! DEFINITION. The meanings of the rows of power states, clocks, the Reeve ring and starts (19_power_states_and_network_sleep.md, 22_startup_and_electrical.md): one definition for each row, over the operations of the
chapter. -/

namespace Sys2Proof.Machine

/-- SLEEP (R476). -/
def execSleep (src : Src) (s : State) : Host.Outcome State Fault Refusal :=
  onUnits (fun (m : Mach) => m.pageWrite src pgPwr 0x044 1) s

/-- ROLLBACK (R474). -/
def execRollback (s : State) : Host.Outcome State Fault Refusal :=
  onUnits (fun (m : Mach) => m.rollbackRefused) s

/-- PREPARE_TIMEOUT (R474). -/
def execPrepareTimeout (us : Nat) (n : Fin 32768) (s : State) : Host.Outcome State Fault Refusal :=
  onUnits (fun (m : Mach) => m.prepareTimeout us n) s

/-- COMMIT (R475). -/
def execCommit (s : State) : Host.Outcome State Fault Refusal :=
  onUnits (fun (m : Mach) => m.commit) s

/-- COMMIT_COMPLETE (R471). -/
def execCommitComplete (s : State) : Host.Outcome State Fault Refusal :=
  onFeed (fun (t : State) => commitComplete t) s

/-- WAKE (R477). -/
def execWake (us : Nat) (table : List (Fin 16384 × List Word)) (s : State) : Host.Outcome State Fault Refusal :=
  onFeed (fun (t : State) => wakeRow us table t) s

/-- WAKE_N (R32). -/
def execWakeN (mv us : Nat) (s : State) : Host.Outcome State Fault Refusal :=
  onKept (fun (m : Mach) => m.wakeN mv us) s

/-- FALSE_WAKE (R478). -/
def execFalseWake (ms : Nat) (s : State) : Host.Outcome State Fault Refusal :=
  onUnits (fun (m : Mach) => m.falseWake ms) s

/-- PLL_EN_WRITE (R479). -/
def execPllEnWrite (src : Src) (v : Word) (s : State) : Host.Outcome State Fault Refusal :=
  onUnits (fun (m : Mach) => m.pageWrite src pgClk 0x040 v) s

/-- CORE_SRC_WRITE (R479). -/
def execCoreSrcWrite (src : Src) (v : Word) (s : State) : Host.Outcome State Fault Refusal :=
  onUnits (fun (m : Mach) => m.pageWrite src pgClk 0x040 v) s

/-- PLL_LOCK (R477). -/
def execPllLock (us : Nat) (s : State) : Host.Outcome State Fault Refusal :=
  onUnits (fun (m : Mach) => m.pllLock us) s

/-- PLL_UNLOCK (R479). -/
def execPllUnlock (s : State) : Host.Outcome State Fault Refusal :=
  onUnits (fun (m : Mach) => m.pllUnlock) s

/-- HF_RC_TRIM (R479). -/
def execHfRcTrim (trim err : Int) (s : State) : Host.Outcome State Fault Refusal :=
  onRun (onUnits (fun (m : Mach) => m.hfTrim trim err)) s

/-- WATCH_STEP (R480). -/
def execWatchStep (ins : List (BitVec 16 × Bool)) (touches : List (BitVec 16 × BitVec 16)) (s : State) : Host.Outcome State Fault Refusal :=
  onKept (fun (m : Mach) => m.watchStep ins touches) s

/-- SUPPLY (R480). -/
def execSupply (c : Fin 128) (s : State) : Host.Outcome State Fault Refusal :=
  onKept (fun (m : Mach) => m.supplyTrip c) s

/-- STATIC_COMPARATOR (R290). -/
def execStaticComparator (ix : Fin 96) (v us : Nat) (s : State) : Host.Outcome State Fault Refusal :=
  onKept (fun (m : Mach) => m.staticComparator ix v us) s

/-- NM_MESSAGE (R483). -/
def execNmMessage (q : NmMsg) (s : State) : Host.Outcome State Fault Refusal :=
  onUnits (fun (m : Mach) => m.nmMessage q) s

/-- NM_FORWARD (R483). -/
def execNmForward (ms : Nat) (s : State) : Host.Outcome State Fault Refusal :=
  onUnits (fun (m : Mach) => m.nmForward ms) s

/-- RING_SKIP (R483). -/
def execRingSkip (ms : Nat) (s : State) : Host.Outcome State Fault Refusal :=
  onUnits (fun (m : Mach) => m.ringSkip ms) s

/-- RING_LISTEN_TIMEOUT (R483). -/
def execRingListenTimeout (ms : Nat) (s : State) : Host.Outcome State Fault Refusal :=
  onUnits (fun (m : Mach) => m.ringListen ms) s

/-- RING_LOST (R483). -/
def execRingLost (ms : Nat) (s : State) : Host.Outcome State Fault Refusal :=
  onUnits (fun (m : Mach) => m.ringLost ms) s

/-- GRACE_END (R483). -/
def execGraceEnd (ms : Nat) (s : State) : Host.Outcome State Fault Refusal :=
  onUnits (fun (m : Mach) => m.graceEnd ms) s

/-- NETWORK_RACE (R483). -/
def execNetworkRace (s : State) : Host.Outcome State Fault Refusal :=
  onUnits (fun (m : Mach) => m.localWake) s

/-- CONSENT_WRITE (R483). -/
def execConsentWrite (src : Src) (v : Word) (s : State) : Host.Outcome State Fault Refusal :=
  onUnits (fun (m : Mach) => m.pageWrite src pgPwr 0x078 v) s

/-- NM_EN_WRITE (R482). -/
def execNmEnWrite (src : Src) (v : Word) (s : State) : Host.Outcome State Fault Refusal :=
  onUnits (fun (m : Mach) => m.pageWrite src pgPwr 0x064 v) s

/-- LOGIC_FEED_START (R530). -/
def execLogicFeedStart (b : Fin 2) (mV us : Nat) (fuses : Fuses) (fail : Option (Fin 16)) (config : Option (List (Nat × Nat × Word))) (s : State) : Host.Outcome State Fault Refusal :=
  onFeed (fun (t : State) => feedStart b mV us fuses (fail.map (fun (k : Fin 16) => k.val)) config t) s

/-- LOGIC_FEED_STOP (R528). -/
def execLogicFeedStop (b : Fin 2) (mV us : Nat) (s : State) : Host.Outcome State Fault Refusal :=
  onFeed (fun (t : State) => feedStop b mV us t) s

/-- WATCHDOG (R536). -/
def execWatchdog (ms : Nat) (config : Option (List (Nat × Nat × Word))) (s : State) : Host.Outcome State Fault Refusal :=
  onFeed (fun (t : State) => watchdog ms config t) s

/-- UPDATE (R536). -/
def execUpdate (config : Option (List (Nat × Nat × Word))) (s : State) : Host.Outcome State Fault Refusal :=
  onFeed (fun (t : State) => restart 2 config t) s

/-- RECOVERY_IMAGE (R534). -/
def execRecoveryImage (image : List Byte) (config : Option (List (Nat × Nat × Word))) (s : State) : Host.Outcome State Fault Refusal :=
  onFeed (fun (t : State) => recoveryImage image config t) s

/-- ROLLBACK_FLOOR_RAISE (R533). -/
def execRollbackFloorRaise (h : Nat) (s : State) : Host.Outcome State Fault Refusal :=
  onUnits (fun (m : Mach) => m.floorRaise h) s

end Sys2Proof.Machine
end

