-- ==== Sys2Proof/Machine/ExecRatline.lean ====
section
/-! DEFINITION. The meanings of the rows of Ratline ports and sinks (07_ratline_lighting.md): one definition for each row, over the operations of the
chapter. -/

namespace Sys2Proof.Machine

/-- RUNG_TURN_START (R216). -/
def execRungTurnStart (p : Fin 24) (ticks : Nat) (s : State) : Host.Outcome State Fault Refusal :=
  onRun (onUnits (fun (m : Mach) => m.turnStart p ticks)) s

/-- RUNG_EDGE (R217). -/
def execRungEdge (p : Fin 24) (ns step : Nat) (s : State) : Host.Outcome State Fault Refusal :=
  onUnits (fun (m : Mach) => m.rungEdge p ns step) s

/-- EASE_STEP (R220). -/
def execEaseStep (p : Fin 24) (s : State) : Host.Outcome State Fault Refusal :=
  onRun (onUnits (fun (m : Mach) => m.easeStep p)) s

/-- P_LIMIT (R207). -/
def execPLimit (p : Fin 24) (v cur vLow curLow : Nat) (s : State) : Host.Outcome State Fault Refusal :=
  onUnits (fun (m : Mach) => m.ratLimits p v cur vLow curLow) s

/-- OPEN_STRING (R208). -/
def execOpenString (p : Fin 24) (v cur ms : Nat) (s : State) : Host.Outcome State Fault Refusal :=
  onUnits (fun (m : Mach) => m.openString p v cur ms) s

/-- SHORT_STRING (R208). -/
def execShortString (p : Fin 24) (v cur ms : Nat) (s : State) : Host.Outcome State Fault Refusal :=
  onUnits (fun (m : Mach) => m.shortString p v cur ms) s

/-- REGULATOR_RESUME (R209). -/
def execRegulatorResume (n : Fin 32768) (tj : Int) (s : State) : Host.Outcome State Fault Refusal :=
  onUnits (fun (m : Mach) => m.regulatorResume n tj) s

/-- REG_FAULT (R230). -/
def execRegFault (n : Fin 32768) (cur ms : Nat) (s : State) : Host.Outcome State Fault Refusal :=
  onUnits (fun (m : Mach) => m.regFaultOf n cur ms) s

/-- LED_CLAMP (R222). -/
def execLedClamp (p : Fin 24) (r : Fin 256) (v cur : Nat) (s : State) : Host.Outcome State Fault Refusal :=
  onUnits (fun (m : Mach) => m.ledClamp p r v cur) s

/-- RUNG_RETEST (R223). -/
def execRungRetest (p : Fin 24) (r : Fin 256) (sec : Nat) (again : Bool) (s : State) : Host.Outcome State Fault Refusal :=
  onRun (onUnits (fun (m : Mach) => m.rungRetest p r sec again)) s

/-- BYPASS_RELEASE (R225). -/
def execBypassRelease (src : Src) (p : Fin 24) (ix : Fin 8) (v : Word) (s : State) : Host.Outcome State Fault Refusal :=
  onUnits (fun (m : Mach) => m.pageWrite src (pgRat p) (0x100 + 4 * ix) v) s

/-- DIV_CHOICE (R219). -/
def execDivChoice (n : Fin 32768) (s : State) : Host.Outcome State Fault Refusal :=
  onUnits (fun (m : Mach) => m.divChoice n) s

/-- DIM_LOST (R212). -/
def execDimLost (p : Fin 24) (s : State) : Host.Outcome State Fault Refusal :=
  onUnits (fun (m : Mach) => m.dimLost p) s

/-- SINK_OPEN (R234). -/
def execSinkOpen (k : Fin 16) (v us : Nat) (s : State) : Host.Outcome State Fault Refusal :=
  onUnits (fun (m : Mach) => m.sinkOpen k v us) s

/-- HIGH_V (R234). -/
def execHighV (k : Fin 16) (v ms : Nat) (s : State) : Host.Outcome State Fault Refusal :=
  onUnits (fun (m : Mach) => m.sinkHigh k v ms) s

/-- FOLDBACK (R232). -/
def execFoldback (k : Fin 16) (v : Nat) (s : State) : Host.Outcome State Fault Refusal :=
  onUnits (fun (m : Mach) => m.foldback k v) s

/-- JB4410_IMAGE_WRITE (R237). -/
def execJb4410ImageWrite (src : Src) (a : Fin 48) (v : Word) (s : State) : Host.Outcome State Fault Refusal :=
  onUnits (fun (m : Mach) => m.pageWrite src pgCompat (0x100 + 4 * a) v) s

/-- LATCH (R237). -/
def execLatch (src : Src) (v : Word) (s : State) : Host.Outcome State Fault Refusal :=
  onUnits (fun (m : Mach) => m.pageWrite src pgCompat 0x1A8 v) s

/-- MODE_WRITE (R237). -/
def execModeWrite (src : Src) (v : Word) (s : State) : Host.Outcome State Fault Refusal :=
  onUnits (fun (m : Mach) => m.pageWrite src pgCompat 0x100 v) s

end Sys2Proof.Machine
end

