-- ==== Sys2Proof/Machine/ExecSensing.lean ====
section
/-! DEFINITION. The meanings of the rows of load sensing and lifetime (05_load_sensing_and_lifetime.md): one definition for each row, over the operations of the
chapter. -/

namespace Sys2Proof.Machine

/-- OFFSET_RECALIBRATION (R159). -/
def execOffsetRecalibration (c : Fin 128) (offset : Int) (s : State) : Host.Outcome State Fault Refusal :=
  onRun (onPage (fun (m : Mach) => m.recalibrate c offset)) s

/-- DIGI_FAULT (R160). -/
def execDigiFault (c : Fin 128) (toggles : Bool) (ref : Nat) (s : State) : Host.Outcome State Fault Refusal :=
  onUnits (fun (m : Mach) => m.digiCheck c toggles ref) s

/-- ARC_SCORE_UPDATE (R164). -/
def execArcScoreUpdate (c : Fin 128) (us f0 f1 f2 f3 : Nat) (raw : List Int) (iSlow : Int) (s : State) : Host.Outcome State Fault Refusal :=
  onUnits (fun (m : Mach) => m.arcUpdate c us f0 f1 f2 f3 raw iSlow) s

/-- ARC_BASELINE_UPDATE (R168). -/
def execArcBaselineUpdate (c : Fin 128) (s : State) : Host.Outcome State Fault Refusal :=
  onRun (onPage (fun (m : Mach) => m.baselineUpdate c)) s

/-- SNAP_GO (R170). -/
def execSnapGo (src : Src) (c : Fin 128) (s : State) : Host.Outcome State Fault Refusal :=
  onUnits (fun (m : Mach) => m.pageWrite src (pgOut c) 0x140 1) s

/-- SNAPSHOT_COMPLETE (R170). -/
def execSnapshotComplete (samples : List (BitVec 16)) (s : State) : Host.Outcome State Fault Refusal :=
  onState (fun (t : State) => snapStore samples t) s

/-- LOAD_CLASSIFICATION (R172). -/
def execLoadClassification (c : Fin 128) (final peak20 settle b0 b1 b2 b3 : Nat) (s : State) : Host.Outcome State Fault Refusal :=
  onUnits (fun (m : Mach) => m.classify c final peak20 settle b0 b1 b2 b3) s

/-- PLUG (R174). -/
def execPlug (c : Fin 128) (mean iSlow : Int) (ms : Nat) (s : State) : Host.Outcome State Fault Refusal :=
  onRun (onPage (fun (m : Mach) => m.plug c mean iSlow ms)) s

/-- LEDGER_SAMPLE (R176). -/
def execLedgerSample (c : Fin 128) (tj : Int) (s : State) : Host.Outcome State Fault Refusal :=
  onRun (onUnits (fun (m : Mach) => m.ledgerSample c tj)) s

/-- DERATING_RECOMPUTE (R179). -/
def execDeratingRecompute (c : Fin 128) (s : State) : Host.Outcome State Fault Refusal :=
  onRun (onUnits (fun (m : Mach) => m.derate c)) s

/-- LEDGER_STORE (R181). -/
def execLedgerStore (c : Fin 128) (s : State) : Host.Outcome State Fault Refusal :=
  onPage (fun (m : Mach) => m.ledgerStore c) s

end Sys2Proof.Machine
end

