-- ==== Sys2Proof/Machine/ExecSplice.lean ====
section
/-! DEFINITION. The meanings of the rows of Splice pairs (18_splice_pairs.md): one definition for each row, over the operations of the
chapter. -/

namespace Sys2Proof.Machine

/-- SPLICE_HELLO (R454). -/
def execSpliceHello (ok : Bool) (fseq dev pref role : Nat) (digest : List Byte) (s : State) : Host.Outcome State Fault Refusal :=
  onState (fun (t : State) => { t with m := t.m.helloIn t.mem ok fseq dev pref role digest }) s

/-- INTENT (R459). -/
def execIntent (ok : Bool) (fseq : Nat) (units : List IntentUnit) (log : List (Nat × Bool × Word × Nat)) (dly off : BitVec 16) (s : State) : Host.Outcome State Fault Refusal :=
  onLink (fun (m : Mach) => m.intentIn ok fseq units (log.map (fun (i : Nat × Bool × Word × Nat) => LogItem.mk i.1 i.2.1 i.2.2.1 i.2.2.2)) dly off) s

/-- INTENT_SEND (R456). -/
def execIntentSend (us : Nat) (s : State) : Host.Outcome State Fault Refusal :=
  onRun (onUnits (fun (m : Mach) => m.intentSend us)) s

/-- EDGE (R458). -/
def execEdge (ok : Bool) (fseq : Nat) (e : Edge) (s : State) : Host.Outcome State Fault Refusal :=
  onLink (fun (m : Mach) => m.edgeIn ok fseq e) s

/-- EDGE_APPLY (R458). -/
def execEdgeApply (s : State) : Host.Outcome State Fault Refusal :=
  onLink (fun (m : Mach) => m.edgeApply) s

/-- ACK (R456). -/
def execAck (ok : Bool) (fseq acked : Nat) (legs : List (Nat × Nat × Bool)) (dly : BitVec 16) (s : State) : Host.Outcome State Fault Refusal :=
  onUnits (fun (m : Mach) => m.ackIn ok fseq acked legs dly) s

/-- ACK_SEND (R456). -/
def execAckSend (us : Nat) (s : State) : Host.Outcome State Fault Refusal :=
  onRun (onUnits (fun (m : Mach) => m.ackSend us)) s

/-- CKPT (R463). -/
def execCkpt (ms : Nat) (sent : Bool) (s : State) : Host.Outcome State Fault Refusal :=
  onRun (onState (fun (t : State) => ckptRow ms sent t)) s

/-- CKPT_RECEIVED (R465). -/
def execCkptReceived (ok : Bool) (fseq : Nat) (crcOk : Bool) (c : Fin 6) (img : CkptImg) (s : State) : Host.Outcome State Fault Refusal :=
  onState (fun (t : State) => ckptReceived ok fseq crcOk c img t) s

/-- SPLICE_HEALTH (R467). -/
def execSpliceHealth (coreOk memOk : Bool) (rx : Option (Bool × Nat × BitVec 4 × List Nat)) (s : State) : Host.Outcome State Fault Refusal :=
  onRun (onUnits (fun (m : Mach) => m.spliceHealth coreOk memOk rx)) s

/-- PARTNER_UNFIT (R467). -/
def execPartnerUnfit (ms : Nat) (s : State) : Host.Outcome State Fault Refusal :=
  onUnits (fun (m : Mach) => m.partnerUnfit ms) s

/-- LEAD_LOST (R454). -/
def execLeadLost (ms : Nat) (s : State) : Host.Outcome State Fault Refusal :=
  onUnits (fun (m : Mach) => m.leadLost ms) s

/-- SPLICE_PROBE (R454). -/
def execSpliceProbe (answered : Bool) (s : State) : Host.Outcome State Fault Refusal :=
  onUnits (fun (m : Mach) => m.spliceProbe answered) s

/-- CONFIRM_END (R454). -/
def execConfirmEnd (ms : Nat) (s : State) : Host.Outcome State Fault Refusal :=
  onUnits (fun (m : Mach) => m.confirmEnd ms) s

/-- RESTORE_COMPLETE (R466). -/
def execRestoreComplete (s : State) : Host.Outcome State Fault Refusal :=
  onState (fun (t : State) => restoreComplete t) s

/-- REPLAY_COMPLETE (R466). -/
def execReplayComplete (us : Nat) (s : State) : Host.Outcome State Fault Refusal :=
  onUnits (fun (m : Mach) => m.replayComplete us) s

/-- PARTNER_LOST (R454). -/
def execPartnerLost (ms : Nat) (s : State) : Host.Outcome State Fault Refusal :=
  onUnits (fun (m : Mach) => m.partnerLost ms) s

/-- LEG_MISMATCH (R459). -/
def execLegMismatch (n : Fin 32768) (on : Bool) (us : Nat) (s : State) : Host.Outcome State Fault Refusal :=
  onUnits (fun (m : Mach) => m.legMismatch n on us) s

/-- PAIR_TRIP (R460). -/
def execPairTrip (c : Fin 128) (cur tenths : Nat) (s : State) : Host.Outcome State Fault Refusal :=
  onUnits (fun (m : Mach) => m.pairTrip c cur tenths) s

/-- GUARD_READ (R468). -/
def execGuardRead (src : Src) (s : State) : Host.Outcome State Fault Refusal :=
  onPage (fun (m : Mach) => m.pageWrite src pgSplice 0x05C 1) s

/-- GUARD_WRITE (R452). -/
def execGuardWrite (src : Src) (s : State) : Host.Outcome State Fault Refusal :=
  onUnits (fun (m : Mach) => m.pageWrite src pgSplice 0x05C 2) s

/-- SPLICE_LINK_CHANGE (R45). -/
def execSpliceLinkChange (up : Bool) (s : State) : Host.Outcome State Fault Refusal :=
  onUnits (fun (m : Mach) => m.spliceLink up) s

/-- SPLICE_HELLO_TIMER (R454). -/
def execSpliceHelloTimer (ms : Nat) (s : State) : Host.Outcome State Fault Refusal :=
  onRun (onUnits (fun (m : Mach) => m.helloTimer ms)) s

end Sys2Proof.Machine
end

