-- ==== Sys2Proof/Machine/ExecStrand.lean ====
section
/-! DEFINITION. The meanings of the rows of the M, L and C units and the control of the Strand cores (14_strand_architecture.md, 15_strand_instructions.md, R473): one definition for each row, over the operations of the
chapter. -/

namespace Sys2Proof.Machine

/-- ISSUE_GROUP (R374). -/
def execIssueGroup (c : Fin 6) (ecc : Fin 4) (s : State) : Host.Outcome State Fault Refusal :=
  onRun (onState (fun (t : State) => issueFetched c ecc t)) s

/-- MUL (R398). -/
def execMul (c : Fin 6) (pr : Fin 8) (rd rs1 rs2 : Fin 32) (s : State) : Host.Outcome State Fault Refusal :=
  onRun (onState (fun (t : State) => issueOp c ⟨2, pr, .mul .mul rd rs1 rs2⟩ t)) s

/-- MULH (R398). -/
def execMulh (c : Fin 6) (pr : Fin 8) (rd rs1 rs2 : Fin 32) (s : State) : Host.Outcome State Fault Refusal :=
  onRun (onState (fun (t : State) => issueOp c ⟨2, pr, .mul .mulh rd rs1 rs2⟩ t)) s

/-- MULHU (R398). -/
def execMulhu (c : Fin 6) (pr : Fin 8) (rd rs1 rs2 : Fin 32) (s : State) : Host.Outcome State Fault Refusal :=
  onRun (onState (fun (t : State) => issueOp c ⟨2, pr, .mul .mulhu rd rs1 rs2⟩ t)) s

/-- MULQ (R398). -/
def execMulq (c : Fin 6) (pr : Fin 8) (rd rs1 rs2 : Fin 32) (s : State) : Host.Outcome State Fault Refusal :=
  onRun (onState (fun (t : State) => issueOp c ⟨2, pr, .mul .mulq rd rs1 rs2⟩ t)) s

/-- MAC (R398). -/
def execMac (c : Fin 6) (pr : Fin 8) (acc : Fin 2) (neg uns : Bool) (rs1 rs2 : Fin 32) (s : State) : Host.Outcome State Fault Refusal :=
  onRun (onState (fun (t : State) => issueOp c ⟨2, pr, .mac acc neg uns false rs1 rs2⟩ t)) s

/-- MACH (R398). -/
def execMach (c : Fin 6) (pr : Fin 8) (acc : Fin 2) (neg cross : Bool) (rs1 rs2 : Fin 32) (s : State) : Host.Outcome State Fault Refusal :=
  onRun (onState (fun (t : State) => issueOp c ⟨2, pr, .mach acc neg cross rs1 rs2⟩ t)) s

/-- MACZ (R398). -/
def execMacz (c : Fin 6) (pr : Fin 8) (acc : Fin 2) (neg uns : Bool) (rs1 rs2 : Fin 32) (s : State) : Host.Outcome State Fault Refusal :=
  onRun (onState (fun (t : State) => issueOp c ⟨2, pr, .mac acc neg uns true rs1 rs2⟩ t)) s

/-- MACD (R399). -/
def execMacd (c : Fin 6) (pr : Fin 8) (acc : Fin 2) (neg word : Bool) (ix j : Fin 8) (s : State) : Host.Outcome State Fault Refusal :=
  onRun (onState (fun (t : State) => issueOp c ⟨2, pr, .macd acc neg word ix j⟩ t)) s

/-- MVFACC (R398). -/
def execMvfacc (c : Fin 6) (pr : Fin 8) (rd : Fin 32) (acc : Fin 2) (sh : Fin 41) (rnd sat : Bool) (s : State) : Host.Outcome State Fault Refusal :=
  onRun (onState (fun (t : State) => issueOp c ⟨2, pr, .mvfacc rd acc sh rnd sat⟩ t)) s

/-- MVTACC (R398). -/
def execMvtacc (c : Fin 6) (pr : Fin 8) (acc : Fin 2) (rs1 : Fin 32) (sh : Fin 41) (s : State) : Host.Outcome State Fault Refusal :=
  onRun (onState (fun (t : State) => issueOp c ⟨2, pr, .mvtacc acc rs1 sh⟩ t)) s

/-- LDO_B (R400). -/
def execLdoB (c : Fin 6) (pr : Fin 8) (rd : Fin 32) (ix : Fin 8) (imm : BitVec 9) (s : State) : Host.Outcome State Fault Refusal :=
  onRun (onState (fun (t : State) => issueOp c ⟨3, pr, .ldo .byte false rd ix imm.toInt⟩ t)) s

/-- LDO_BU (R400). -/
def execLdoBu (c : Fin 6) (pr : Fin 8) (rd : Fin 32) (ix : Fin 8) (imm : BitVec 9) (s : State) : Host.Outcome State Fault Refusal :=
  onRun (onState (fun (t : State) => issueOp c ⟨3, pr, .ldo .byte true rd ix imm.toInt⟩ t)) s

/-- LDO_H (R400). -/
def execLdoH (c : Fin 6) (pr : Fin 8) (rd : Fin 32) (ix : Fin 8) (imm : BitVec 9) (s : State) : Host.Outcome State Fault Refusal :=
  onRun (onState (fun (t : State) => issueOp c ⟨3, pr, .ldo .half false rd ix imm.toInt⟩ t)) s

/-- LDO_HU (R400). -/
def execLdoHu (c : Fin 6) (pr : Fin 8) (rd : Fin 32) (ix : Fin 8) (imm : BitVec 9) (s : State) : Host.Outcome State Fault Refusal :=
  onRun (onState (fun (t : State) => issueOp c ⟨3, pr, .ldo .half true rd ix imm.toInt⟩ t)) s

/-- LDO_W (R400). -/
def execLdoW (c : Fin 6) (pr : Fin 8) (rd : Fin 32) (ix : Fin 8) (imm : BitVec 9) (s : State) : Host.Outcome State Fault Refusal :=
  onRun (onState (fun (t : State) => issueOp c ⟨3, pr, .ldo .word true rd ix imm.toInt⟩ t)) s

/-- STO_B (R400). -/
def execStoB (c : Fin 6) (pr : Fin 8) (rd : Fin 32) (ix : Fin 8) (imm : BitVec 9) (s : State) : Host.Outcome State Fault Refusal :=
  onRun (onState (fun (t : State) => issueOp c ⟨3, pr, .sto .byte rd ix imm.toInt⟩ t)) s

/-- STO_H (R400). -/
def execStoH (c : Fin 6) (pr : Fin 8) (rd : Fin 32) (ix : Fin 8) (imm : BitVec 9) (s : State) : Host.Outcome State Fault Refusal :=
  onRun (onState (fun (t : State) => issueOp c ⟨3, pr, .sto .half rd ix imm.toInt⟩ t)) s

/-- STO_W (R400). -/
def execStoW (c : Fin 6) (pr : Fin 8) (rd : Fin 32) (ix : Fin 8) (imm : BitVec 9) (s : State) : Host.Outcome State Fault Refusal :=
  onRun (onState (fun (t : State) => issueOp c ⟨3, pr, .sto .word rd ix imm.toInt⟩ t)) s

/-- LDP (R400). -/
def execLdp (c : Fin 6) (pr : Fin 8) (z : Size) (uns : Bool) (rd : Fin 32) (ix : Fin 8) (s : State) : Host.Outcome State Fault Refusal :=
  onRun (onState (fun (t : State) => issueOp c ⟨3, pr, .ldp z uns rd ix⟩ t)) s

/-- STP (R400). -/
def execStp (c : Fin 6) (pr : Fin 8) (z : Size) (rd : Fin 32) (ix : Fin 8) (s : State) : Host.Outcome State Fault Refusal :=
  onRun (onState (fun (t : State) => issueOp c ⟨3, pr, .stp z rd ix⟩ t)) s

/-- LDX (R400). -/
def execLdx (c : Fin 6) (pr : Fin 8) (z : Size) (uns : Bool) (rd : Fin 32) (ix : Fin 8) (rs2 : Fin 32) (s : State) : Host.Outcome State Fault Refusal :=
  onRun (onState (fun (t : State) => issueOp c ⟨3, pr, .ldx z uns rd ix rs2⟩ t)) s

/-- STX (R400). -/
def execStx (c : Fin 6) (pr : Fin 8) (z : Size) (rd : Fin 32) (ix : Fin 8) (rs2 : Fin 32) (s : State) : Host.Outcome State Fault Refusal :=
  onRun (onState (fun (t : State) => issueOp c ⟨3, pr, .stx z rd ix rs2⟩ t)) s

/-- PUSH (R378). -/
def execPush (c : Fin 6) (pr : Fin 8) (rd : Fin 32) (s : State) : Host.Outcome State Fault Refusal :=
  onRun (onState (fun (t : State) => issueOp c ⟨3, pr, .push rd⟩ t)) s

/-- POP (R378). -/
def execPop (c : Fin 6) (pr : Fin 8) (rd : Fin 32) (s : State) : Host.Outcome State Fault Refusal :=
  onRun (onState (fun (t : State) => issueOp c ⟨3, pr, .pop rd⟩ t)) s

/-- SWAP (R402). -/
def execSwap (c : Fin 6) (pr : Fin 8) (rd : Fin 32) (ix : Fin 8) (s : State) : Host.Outcome State Fault Refusal :=
  onRun (onState (fun (t : State) => issueOp c ⟨3, pr, .swap rd ix⟩ t)) s

/-- SYNC (R402). -/
def execSync (c : Fin 6) (pr : Fin 8) (s : State) : Host.Outcome State Fault Refusal :=
  onRun (onState (fun (t : State) => issueOp c ⟨3, pr, .sync⟩ t)) s

/-- NOP (R403). -/
def execNop (c : Fin 6) (pr : Fin 8) (s : State) : Host.Outcome State Fault Refusal :=
  onRun (onState (fun (t : State) => issueOp c ⟨4, pr, .nop⟩ t)) s

/-- BR (R403). -/
def execBr (c : Fin 6) (pr : Fin 8) (off : BitVec 19) (s : State) : Host.Outcome State Fault Refusal :=
  onRun (onState (fun (t : State) => issueOp c ⟨4, pr, .br off.toInt⟩ t)) s

/-- CALL (R377). -/
def execCall (c : Fin 6) (pr : Fin 8) (off : BitVec 19) (s : State) : Host.Outcome State Fault Refusal :=
  onRun (onState (fun (t : State) => issueOp c ⟨4, pr, .call off.toInt⟩ t)) s

/-- BRDEC (R403). -/
def execBrdec (c : Fin 6) (pr : Fin 8) (off : BitVec 19) (s : State) : Host.Outcome State Fault Refusal :=
  onRun (onState (fun (t : State) => issueOp c ⟨4, pr, .brdec off.toInt⟩ t)) s

/-- BRR (R403). -/
def execBrr (c : Fin 6) (pr : Fin 8) (rs1 : Fin 32) (s : State) : Host.Outcome State Fault Refusal :=
  onRun (onState (fun (t : State) => issueOp c ⟨4, pr, .brr rs1⟩ t)) s

/-- CALLR (R404). -/
def execCallr (c : Fin 6) (pr : Fin 8) (rs1 : Fin 32) (s : State) : Host.Outcome State Fault Refusal :=
  onRun (onState (fun (t : State) => issueOp c ⟨4, pr, .callr rs1⟩ t)) s

/-- RET (R377). -/
def execRet (c : Fin 6) (pr : Fin 8) (s : State) : Host.Outcome State Fault Refusal :=
  onRun (onState (fun (t : State) => issueOp c ⟨4, pr, .ret⟩ t)) s

/-- RETI (R380). -/
def execReti (c : Fin 6) (pr : Fin 8) (s : State) : Host.Outcome State Fault Refusal :=
  onRun (onState (fun (t : State) => issueOp c ⟨4, pr, .reti⟩ t)) s

/-- REP (R379). -/
def execRep (c : Fin 6) (pr : Fin 8) (k : BitVec 14) (s : State) : Host.Outcome State Fault Refusal :=
  onRun (onState (fun (t : State) => issueOp c ⟨4, pr, .rep k.toNat⟩ t)) s

/-- REPR (R379). -/
def execRepr (c : Fin 6) (pr : Fin 8) (rs1 : Fin 32) (s : State) : Host.Outcome State Fault Refusal :=
  onRun (onState (fun (t : State) => issueOp c ⟨4, pr, .repr rs1⟩ t)) s

/-- WAIT (R381). -/
def execWait (c : Fin 6) (pr : Fin 8) (s : State) : Host.Outcome State Fault Refusal :=
  onRun (onState (fun (t : State) => issueOp c ⟨4, pr, .wait⟩ t)) s

/-- TRAP (R403). -/
def execTrap (c : Fin 6) (pr : Fin 8) (code : Fin 16) (s : State) : Host.Outcome State Fault Refusal :=
  onRun (onState (fun (t : State) => issueOp c ⟨4, pr, .trap code⟩ t)) s

/-- BREAK (R403). -/
def execBreakOp (c : Fin 6) (pr : Fin 8) (s : State) : Host.Outcome State Fault Refusal :=
  onRun (onState (fun (t : State) => issueOp c ⟨4, pr, .brk⟩ t)) s

/-- ACCESS_COMPLETE (R376). -/
def execAccessComplete (c : Fin 6) (s : State) : Host.Outcome State Fault Refusal :=
  onRun (onState (fun (t : State) => accessComplete c t)) s

/-- WRITE_BUFFER_DRAIN (R374). -/
def execWriteBufferDrain (c : Fin 6) (s : State) : Host.Outcome State Fault Refusal :=
  onRun (onState (fun (t : State) => bufferDrain c t)) s

/-- INTERRUPT_ACCEPT (R381). -/
def execInterruptAccept (c : Fin 6) (s : State) : Host.Outcome State Fault Refusal :=
  onRun (onUnits (fun (m : Mach) => m.irqRow c)) s

/-- IRQ_SET (R381). -/
def execIrqSet (src : Src) (core : Fin 8) (vec : Fin 32) (s : State) : Host.Outcome State Fault Refusal :=
  onUnits (fun (m : Mach) => m.pageWrite src pgStrand 0x048 (Strandctl.VECTOR.put (Strandctl.CORE.put 0 core) vec)) s

/-- CORE_START (R388). -/
def execCoreStart (src : Src) (c : Fin 6) (s : State) : Host.Outcome State Fault Refusal :=
  onUnits (fun (m : Mach) => m.pageWrite src pgStrand (0x100 + 0x40 * c) 1) s

/-- CORE_STOP (R388). -/
def execCoreStop (src : Src) (c : Fin 6) (s : State) : Host.Outcome State Fault Refusal :=
  onUnits (fun (m : Mach) => m.pageWrite src pgStrand (0x100 + 0x40 * c) 2) s

/-- LOAD (R387). -/
def execLoad (src : Src) (c : Fin 6) (s : State) : Host.Outcome State Fault Refusal :=
  onUnits (fun (m : Mach) => m.pageWrite src pgStrand (0x100 + 0x40 * c) 3) s

/-- LOAD_COMPLETE (R387). -/
def execLoadComplete (c : Fin 6) (s : State) : Host.Outcome State Fault Refusal :=
  onRun (onState (fun (t : State) => loadComplete c t)) s

/-- CORE_RESET (R546). -/
def execCoreReset (src : Src) (c : Fin 6) (s : State) : Host.Outcome State Fault Refusal :=
  onUnits (fun (m : Mach) => m.pageWrite src pgStrand (0x100 + 0x40 * c) 4) s

/-- DOZE_REQ (R473). -/
def execDozeReq (src : Src) (mask : BitVec 4) (s : State) : Host.Outcome State Fault Refusal :=
  onUnits (fun (m : Mach) => m.pageWrite src pgPwr 0x048 (Pwr.DOZE_REQ.put 0 mask.toNat)) s

/-- DOZE_EXIT (R473). -/
def execDozeExit (c : Fin 6) (s : State) : Host.Outcome State Fault Refusal :=
  onRun (onUnits (fun (m : Mach) => if m.coreMirrors c then m else m.dozeExit c)) s

end Sys2Proof.Machine
end

