-- ==== Sys2Proof/Machine/ExecTether.lean ====
section
/-! DEFINITION. The meanings of the rows of Tether (21_tether_access.md): one definition for each row, over the operations of the
chapter. -/

namespace Sys2Proof.Machine

/-- REQUEST (R516). -/
def execRequest (src : Src) (s : State) : Host.Outcome State Fault Refusal :=
  onUnits (fun (m : Mach) => m.pageWrite src pgTether 0x070 1) s

/-- WITHDRAW (R518). -/
def execWithdraw (src : Src) (s : State) : Host.Outcome State Fault Refusal :=
  onUnits (fun (m : Mach) => m.pageWrite src pgTether 0x070 2) s

/-- TOKEN_READ (R524). -/
def execTokenRead (src : Src) (s : State) : Host.Outcome State Fault Refusal :=
  onPage (fun (m : Mach) => m.pageWrite src pgTether 0x084 1) s

/-- TOKEN_WRITE (R524). -/
def execTokenWrite (src : Src) (s : State) : Host.Outcome State Fault Refusal :=
  onPage (fun (m : Mach) => m.pageWrite src pgTether 0x084 2) s

/-- ROUND (R512). -/
def execRound (s : State) : Host.Outcome State Fault Refusal :=
  onUnits (fun (m : Mach) => m.tetherRound) s

/-- TOKEN_ANSWER (R514). -/
def execTokenAnswer (slot : Fin 16) (dbm : Int) (id cnt : Word) (stat : Nat) (tag : List Nat) (crc : Nat) (s : State) : Host.Outcome State Fault Refusal :=
  onUnits (fun (m : Mach) => m.tokenAnswer slot dbm id cnt stat tag crc) s

/-- ROUND_OUTCOME (R515). -/
def execRoundOutcome (s : State) : Host.Outcome State Fault Refusal :=
  onUnits (fun (m : Mach) => m.roundOutcome) s

/-- LOCKOUT_END (R517). -/
def execLockoutEnd (s : State) : Host.Outcome State Fault Refusal :=
  onKept (fun (m : Mach) => m.lockoutEnd) s

/-- PRESENCE_ROUND (R518). -/
def execPresenceRound (ms : Nat) (s : State) : Host.Outcome State Fault Refusal :=
  onUnits (fun (m : Mach) => m.presenceRound ms) s

/-- ABSENCE (R518). -/
def execAbsence (sec : Nat) (s : State) : Host.Outcome State Fault Refusal :=
  onUnits (fun (m : Mach) => m.absence sec) s

/-- RELEASE_MESSAGE (R519). -/
def execReleaseMessage (ms : Nat) (s : State) : Host.Outcome State Fault Refusal :=
  onUnits (fun (m : Mach) => m.releaseMessage ms) s

/-- ANT_SHORT (R510). -/
def execAntShort (a : Fin 6) (ms : Nat) (s : State) : Host.Outcome State Fault Refusal :=
  onUnits (fun (m : Mach) => m.antShort a ms) s

/-- ANT_OPEN (R510). -/
def execAntOpen (a : Fin 6) (mA : Nat) (s : State) : Host.Outcome State Fault Refusal :=
  onUnits (fun (m : Mach) => m.antOpen a mA) s

/-- FAILED_ATTEMPT_EXPIRY (R517). -/
def execFailedAttemptExpiry (s : State) : Host.Outcome State Fault Refusal :=
  onKept (fun (m : Mach) => m.failExpiry) s

end Sys2Proof.Machine
end

