-- ==== Sys2Proof/Machine/ExecValves.lean ====
section
/-! DEFINITION. The meanings of the rows of valves, switches and boost (09_valve_drivers.md): one definition for each row, over the operations of the
chapter. -/

namespace Sys2Proof.Machine

/-- PEAK_END (R265). -/
def execPeakEnd (v : Fin 8) (ms mj : Nat) (s : State) : Host.Outcome State Fault Refusal :=
  onUnits (fun (m : Mach) => m.peakEnd v ms mj) s

/-- PULL_IN (R265). -/
def execPullIn (v : Fin 8) (tens top cur : Nat) (s : State) : Host.Outcome State Fault Refusal :=
  onUnits (fun (m : Mach) => m.pullIn v tens top cur) s

/-- VALVE_TURN_OFF (R268). -/
def execValveTurnOff (v : Fin 8) (s : State) : Host.Outcome State Fault Refusal :=
  onUnits (fun (m : Mach) => m.valveTurnOff v) s

/-- DECAY_END (R267). -/
def execDecayEnd (v : Fin 8) (cur : Nat) (s : State) : Host.Outcome State Fault Refusal :=
  onUnits (fun (m : Mach) => m.decayEnd v cur) s

/-- RAIL_UP (R263). -/
def execRailUp (v : Fin 8) (duty cur ms : Nat) (s : State) : Host.Outcome State Fault Refusal :=
  onUnits (fun (m : Mach) => m.railUp v duty cur ms) s

/-- RECOVERING (R270). -/
def execRecovering (vc : Nat) (cur : Int) (mj : Nat) (s : State) : Host.Outcome State Fault Refusal :=
  onUnits (fun (m : Mach) => m.recovering vc cur mj) s

/-- BOOST_OV (R270). -/
def execBoostOv (vc : Nat) (s : State) : Host.Outcome State Fault Refusal :=
  onUnits (fun (m : Mach) => m.boostOv vc) s

/-- BOOST_UV (R270). -/
def execBoostUv (vc ms : Nat) (s : State) : Host.Outcome State Fault Refusal :=
  onUnits (fun (m : Mach) => m.boostUv vc ms) s

/-- BOOST_FAULT (R282). -/
def execBoostFault (vc ms : Nat) (s : State) : Host.Outcome State Fault Refusal :=
  onUnits (fun (m : Mach) => m.boostFault vc ms) s

/-- COIL_RESISTANCE_UPDATE (R271). -/
def execCoilResistanceUpdate (v : Fin 8) (vm : Int) (im : Nat) (s : State) : Host.Outcome State Fault Refusal :=
  onUnits (fun (m : Mach) => m.coilUpdate v vm im) s

/-- OPEN_COIL (R272). -/
def execOpenCoil (v : Fin 8) (duty cur ms vm im rmMs : Nat) (s : State) : Host.Outcome State Fault Refusal :=
  onUnits (fun (m : Mach) => m.openCoil v duty cur ms vm im rmMs) s

/-- DUTY_BIN (R274). -/
def execDutyBin (k : Fin 4) (a b ea eb : Nat) (s : State) : Host.Outcome State Fault Refusal :=
  onUnits (fun (m : Mach) => m.dutyBin k a b ea eb) s

/-- VHS_STUCK (R281). -/
def execVhsStuck (k : Fin 4) (ms : Nat) (s : State) : Host.Outcome State Fault Refusal :=
  onUnits (fun (m : Mach) => m.vhsStuck k ms) s

/-- BOOST_READY (R282). -/
def execBoostReady (vc : Nat) (cur : Int) (s : State) : Host.Outcome State Fault Refusal :=
  onUnits (fun (m : Mach) => m.boostRead vc cur) s

end Sys2Proof.Machine
end

