-- ==== Sys2Proof/Machine/Dispatch.lean ====
section
/-! DEFINITION. The dispatch: one arm for each command. -/

namespace Sys2Proof.Machine

/-- What a command does to everything but the queue. -/
def exec (i : Instr) (s : State) : Host.Outcome State Fault Refusal :=
  match i with
  | .cmdNop src n seq => Sys2Proof.Machine.execCmdNop src n seq s
  | .enable src n seq => Sys2Proof.Machine.execEnable src n seq s
  | .disable src n seq => Sys2Proof.Machine.execDisable src n seq s
  | .apply src n seq => Sys2Proof.Machine.execApply src n seq s
  | .clearFaults src n seq persist => Sys2Proof.Machine.execClearFaults src n seq persist s
  | .selftest src n seq => Sys2Proof.Machine.execSelftest src n seq s
  | .freeze src n seq => Sys2Proof.Machine.execFreeze src n seq s
  | .thaw src n seq => Sys2Proof.Machine.execThaw src n seq s
  | .heldCommandExecute n => Sys2Proof.Machine.execHeldCommandExecute n s
  | .testComplete n pass fail => Sys2Proof.Machine.execTestComplete n pass fail s
  | .registerWrite src n r v => Sys2Proof.Machine.execRegisterWrite src n r v s
  | .shadowWrite src n r v => Sys2Proof.Machine.execShadowWrite src n r v s
  | .faultSetClear src n v persist => Sys2Proof.Machine.execFaultSetClear src n v persist s
  | .faultSourceSet n b holds => Sys2Proof.Machine.execFaultSourceSet n b holds s
  | .parentWrite src n v => Sys2Proof.Machine.execParentWrite src n v s
  | .lockWrite src n v => Sys2Proof.Machine.execLockWrite src n v s
  | .strayWrite src n r v => Sys2Proof.Machine.execStrayWrite src n r v s
  | .narrowAccess c n off => Sys2Proof.Machine.execNarrowAccess c n off s
  | .bightWindowWrite src b r v => Sys2Proof.Machine.execBightWindowWrite src b r v s
  | .markFire k => Sys2Proof.Machine.execMarkFire k s
  | .markRead src k => Sys2Proof.Machine.execMarkRead src k s
  | .markArm src k => Sys2Proof.Machine.execMarkArm src k s
  | .markDisarm src k => Sys2Proof.Machine.execMarkDisarm src k s
  | .baseCapWrite src n v => Sys2Proof.Machine.execBaseCapWrite src n v s
  | .advance src k v => Sys2Proof.Machine.execAdvance src k v s
  | .setpos src k v => Sys2Proof.Machine.execSetpos src k v s
  | .axleEdge k fwd both ns => Sys2Proof.Machine.execAxleEdge k fwd both ns s
  | .standstill k ms => Sys2Proof.Machine.execStandstill k ms s
  | .framePulse k ns => Sys2Proof.Machine.execFramePulse k ns s
  | .mainsZeroCrossing k ns amp locked => Sys2Proof.Machine.execMainsZeroCrossing k ns amp locked s
  | .los k t => Sys2Proof.Machine.execLos k t s
  | .holdoverExpiry k turns => Sys2Proof.Machine.execHoldoverExpiry k turns s
  | .relock k phase => Sys2Proof.Machine.execRelock k phase s
  | .powGo src k slot v => Sys2Proof.Machine.execPowGo src k slot v s
  | .powCloseDetect k slot us => Sys2Proof.Machine.execPowCloseDetect k slot us s
  | .powTimeout k slot us => Sys2Proof.Machine.execPowTimeout k slot us s
  | .startSuccess c vOut => Sys2Proof.Machine.execStartSuccess c vOut s
  | .startTimeout c ms => Sys2Proof.Machine.execStartTimeout c ms s
  | .startEnergyCap c mj => Sys2Proof.Machine.execStartEnergyCap c mj s
  | .inrushEnd c ms => Sys2Proof.Machine.execInrushEnd c ms s
  | .shortCircuit n ma => Sys2Proof.Machine.execShortCircuit n ma s
  | .overcurrent c avg sum t => Sys2Proof.Machine.execOvercurrent c avg sum t s
  | .thermal n tj => Sys2Proof.Machine.execThermal n tj s
  | .tjWarn n tj => Sys2Proof.Machine.execTjWarn n tj s
  | .retry c ms tj => Sys2Proof.Machine.execRetry c ms tj s
  | .retrySeriesReset c ms => Sys2Proof.Machine.execRetrySeriesReset c ms s
  | .clamp n mj => Sys2Proof.Machine.execClamp n mj s
  | .switchOpen c cur vOut us => Sys2Proof.Machine.execSwitchOpen c cur vOut us s
  | .switchStuck c cur us => Sys2Proof.Machine.execSwitchStuck c cur us s
  | .openOn c cur ms => Sys2Proof.Machine.execOpenOn c cur ms s
  | .offdiagPulse c vOut => Sys2Proof.Machine.execOffdiagPulse c vOut s
  | .bfArm c vOut ms => Sys2Proof.Machine.execBfArm c vOut ms s
  | .backfeed c vOut us pulse partnerOff => Sys2Proof.Machine.execBackfeed c vOut us pulse partnerOff s
  | .parallelUndeclared c d e => Sys2Proof.Machine.execParallelUndeclared c d e s
  | .share c cur sum ms => Sys2Proof.Machine.execShare c cur sum ms s
  | .syncLost n => Sys2Proof.Machine.execSyncLost n s
  | .pwmPeriodStart n => Sys2Proof.Machine.execPwmPeriodStart n s
  | .idealDiodeOff k b cur => Sys2Proof.Machine.execIdealDiodeOff k b cur s
  | .aLost k b v ms => Sys2Proof.Machine.execALost k b v ms s
  | .railLost k v ms => Sys2Proof.Machine.execRailLost k v ms s
  | .sag k v ms => Sys2Proof.Machine.execSag k v ms s
  | .overvolt k b v ms => Sys2Proof.Machine.execOvervolt k b v ms s
  | .bankOc k mean now => Sys2Proof.Machine.execBankOc k mean now s
  | .bankTrip k cur ms => Sys2Proof.Machine.execBankTrip k cur ms s
  | .bpWarn k tb => Sys2Proof.Machine.execBpWarn k tb s
  | .bpTrip k tb ms => Sys2Proof.Machine.execBpTrip k tb ms s
  | .diode k b v ms => Sys2Proof.Machine.execDiode k b v ms s
  | .unusedLive k b v => Sys2Proof.Machine.execUnusedLive k b v s
  | .bankClassWrite src k v => Sys2Proof.Machine.execBankClassWrite src k v s
  | .offsetRecalibration c offset => Sys2Proof.Machine.execOffsetRecalibration c offset s
  | .digiFault c toggles ref => Sys2Proof.Machine.execDigiFault c toggles ref s
  | .arcScoreUpdate c us f0 f1 f2 f3 raw iSlow => Sys2Proof.Machine.execArcScoreUpdate c us f0 f1 f2 f3 raw iSlow s
  | .arcBaselineUpdate c => Sys2Proof.Machine.execArcBaselineUpdate c s
  | .snapGo src c => Sys2Proof.Machine.execSnapGo src c s
  | .snapshotComplete samples => Sys2Proof.Machine.execSnapshotComplete samples s
  | .loadClassification c final peak20 settle b0 b1 b2 b3 => Sys2Proof.Machine.execLoadClassification c final peak20 settle b0 b1 b2 b3 s
  | .plug c mean iSlow ms => Sys2Proof.Machine.execPlug c mean iSlow ms s
  | .ledgerSample c tj => Sys2Proof.Machine.execLedgerSample c tj s
  | .deratingRecompute c => Sys2Proof.Machine.execDeratingRecompute c s
  | .ledgerStore c => Sys2Proof.Machine.execLedgerStore c s
  | .ripple b ns v cur => Sys2Proof.Machine.execRipple b ns v cur s
  | .rippleInsert b ns => Sys2Proof.Machine.execRippleInsert b ns s
  | .posWrite src b v => Sys2Proof.Machine.execPosWrite src b v s
  | .stopRecognition b ms cur => Sys2Proof.Machine.execStopRecognition b ms cur s
  | .pinchCheck b cur => Sys2Proof.Machine.execPinchCheck b cur s
  | .reverseDriveStart b ms => Sys2Proof.Machine.execReverseDriveStart b ms s
  | .reversalEnd b ms cur => Sys2Proof.Machine.execReversalEnd b ms cur s
  | .brakeEnd b ms v cur => Sys2Proof.Machine.execBrakeEnd b ms v cur s
  | .reverseBrakeEnd b ms => Sys2Proof.Machine.execReverseBrakeEnd b ms s
  | .limiting b cur => Sys2Proof.Machine.execLimiting b cur s
  | .limitLong b ms => Sys2Proof.Machine.execLimitLong b ms s
  | .openLoad b cur ms => Sys2Proof.Machine.execOpenLoad b cur ms s
  | .positionTargetReached b => Sys2Proof.Machine.execPositionTargetReached b s
  | .parkInputEdge b rising => Sys2Proof.Machine.execParkInputEdge b rising s
  | .parked b => Sys2Proof.Machine.execParked b s
  | .parkFail b ns => Sys2Proof.Machine.execParkFail b ns s
  | .intervalWaitEnd b tenths => Sys2Proof.Machine.execIntervalWaitEnd b tenths s
  | .rungTurnStart p ticks => Sys2Proof.Machine.execRungTurnStart p ticks s
  | .rungEdge p ns step => Sys2Proof.Machine.execRungEdge p ns step s
  | .easeStep p => Sys2Proof.Machine.execEaseStep p s
  | .pLimit p v cur vLow curLow => Sys2Proof.Machine.execPLimit p v cur vLow curLow s
  | .openString p v cur ms => Sys2Proof.Machine.execOpenString p v cur ms s
  | .shortString p v cur ms => Sys2Proof.Machine.execShortString p v cur ms s
  | .regulatorResume n tj => Sys2Proof.Machine.execRegulatorResume n tj s
  | .regFault n cur ms => Sys2Proof.Machine.execRegFault n cur ms s
  | .ledClamp p r v cur => Sys2Proof.Machine.execLedClamp p r v cur s
  | .rungRetest p r sec again => Sys2Proof.Machine.execRungRetest p r sec again s
  | .bypassRelease src p ix v => Sys2Proof.Machine.execBypassRelease src p ix v s
  | .divChoice n => Sys2Proof.Machine.execDivChoice n s
  | .dimLost p => Sys2Proof.Machine.execDimLost p s
  | .sinkOpen k v us => Sys2Proof.Machine.execSinkOpen k v us s
  | .highV k v ms => Sys2Proof.Machine.execHighV k v ms s
  | .foldback k v => Sys2Proof.Machine.execFoldback k v s
  | .jb4410ImageWrite src a v => Sys2Proof.Machine.execJb4410ImageWrite src a v s
  | .latch src v => Sys2Proof.Machine.execLatch src v s
  | .modeWrite src v => Sys2Proof.Machine.execModeWrite src v s
  | .messengerFrame c => Sys2Proof.Machine.execMessengerFrame c s
  | .refresh c ms => Sys2Proof.Machine.execRefresh c ms s
  | .syncHeave c => Sys2Proof.Machine.execSyncHeave c s
  | .echo c ofHeave tag hop replies => Sys2Proof.Machine.execEcho c ofHeave tag hop replies s
  | .noEcho c begun ns lowNs => Sys2Proof.Machine.execNoEcho c begun ns lowNs s
  | .nodeInsertion p ms => Sys2Proof.Machine.execNodeInsertion p ms s
  | .nodeRemoval p => Sys2Proof.Machine.execNodeRemoval p s
  | .discover src c => Sys2Proof.Machine.execDiscover src c s
  | .mapChain src c => Sys2Proof.Machine.execMapChain src c s
  | .accept src c => Sys2Proof.Machine.execAccept src c s
  | .locate src c => Sys2Proof.Machine.execLocate src c s
  | .enumComplete c nodes heard falls => Sys2Proof.Machine.execEnumComplete c nodes heard falls s
  | .lineShort c ms => Sys2Proof.Machine.execLineShort c ms s
  | .poll c k ms => Sys2Proof.Machine.execPoll c k ms s
  | .satelliteSyncWrite src c k v => Sys2Proof.Machine.execSatelliteSyncWrite src c k v s
  | .peakEnd v ms mj => Sys2Proof.Machine.execPeakEnd v ms mj s
  | .pullIn v tens top cur => Sys2Proof.Machine.execPullIn v tens top cur s
  | .valveTurnOff v => Sys2Proof.Machine.execValveTurnOff v s
  | .decayEnd v cur => Sys2Proof.Machine.execDecayEnd v cur s
  | .railUp v duty cur ms => Sys2Proof.Machine.execRailUp v duty cur ms s
  | .recovering vc cur mj => Sys2Proof.Machine.execRecovering vc cur mj s
  | .boostOv vc => Sys2Proof.Machine.execBoostOv vc s
  | .boostUv vc ms => Sys2Proof.Machine.execBoostUv vc ms s
  | .boostFault vc ms => Sys2Proof.Machine.execBoostFault vc ms s
  | .coilResistanceUpdate v vm im => Sys2Proof.Machine.execCoilResistanceUpdate v vm im s
  | .openCoil v duty cur ms vm im rmMs => Sys2Proof.Machine.execOpenCoil v duty cur ms vm im rmMs s
  | .dutyBin k a b ea eb => Sys2Proof.Machine.execDutyBin k a b ea eb s
  | .vhsStuck k ms => Sys2Proof.Machine.execVhsStuck k ms s
  | .inWindow ix cur lim v => Sys2Proof.Machine.execInWindow ix cur lim v s
  | .long ix ms => Sys2Proof.Machine.execLong ix ms s
  | .bandErr ix ms => Sys2Proof.Machine.execBandErr ix ms s
  | .broken ix ms => Sys2Proof.Machine.execBroken ix ms s
  | .cleaningPulse ix ms => Sys2Proof.Machine.execCleaningPulse ix ms s
  | .touchScan readings => Sys2Proof.Machine.execTouchScan readings s
  | .stuck tc sec => Sys2Proof.Machine.execStuck tc sec s
  | .water tc sec => Sys2Proof.Machine.execWater tc sec s
  | .shield tc ms => Sys2Proof.Machine.execShield tc ms s
  | .shedTriggerBegin k => Sys2Proof.Machine.execShedTriggerBegin k s
  | .shedStageRaise k ms => Sys2Proof.Machine.execShedStageRaise k ms s
  | .shedStageLower k ms => Sys2Proof.Machine.execShedStageLower k ms s
  | .shedEnWrite src v => Sys2Proof.Machine.execShedEnWrite src v s
  | .ceilWrite src k v => Sys2Proof.Machine.execCeilWrite src k v s
  | .alive src c v => Sys2Proof.Machine.execAlive src c v s
  | .slackExpiry c ms => Sys2Proof.Machine.execSlackExpiry c ms s
  | .automaticResumption c ms => Sys2Proof.Machine.execAutomaticResumption c ms s
  | .policyRead src sel => Sys2Proof.Machine.execPolicyRead src sel s
  | .policyWrite src sel => Sys2Proof.Machine.execPolicyWrite src sel s
  | .store src => Sys2Proof.Machine.execStore src s
  | .storeComplete => Sys2Proof.Machine.execStoreComplete s
  | .gfreezeWrite src v => Sys2Proof.Machine.execGfreezeWrite src v s
  | .boundWriteClamp src n r v => Sys2Proof.Machine.execBoundWriteClamp src n r v s
  | .layAssert l => Sys2Proof.Machine.execLayAssert l s
  | .laybreak n b clocks agree => Sys2Proof.Machine.execLaybreak n b clocks agree s
  | .faultnErr conducts ms => Sys2Proof.Machine.execFaultnErr conducts ms s
  | .softWrite src v => Sys2Proof.Machine.execSoftWrite src v s
  | .entryRead src => Sys2Proof.Machine.execEntryRead src s
  | .entryWrite src => Sys2Proof.Machine.execEntryWrite src s
  | .haltNInput mv => Sys2Proof.Machine.execHaltNInput mv s
  | .halt us => Sys2Proof.Machine.execHalt us s
  | .faultEntry => Sys2Proof.Machine.execFaultEntry s
  | .tlogRead src => Sys2Proof.Machine.execTlogRead src s
  | .append src => Sys2Proof.Machine.execAppend src s
  | .loglineRecordWrite good => Sys2Proof.Machine.execLoglineRecordWrite good s
  | .topStore => Sys2Proof.Machine.execTopStore s
  | .clkDegraded cycles => Sys2Proof.Machine.execClkDegraded cycles s
  | .crystalReturn ms => Sys2Proof.Machine.execCrystalReturn ms s
  | .reckonCalibration units => Sys2Proof.Machine.execReckonCalibration units s
  | .utcSet src => Sys2Proof.Machine.execUtcSet src s
  | .srcWrite src v => Sys2Proof.Machine.execSrcWrite src v s
  | .issueGroup c ecc => Sys2Proof.Machine.execIssueGroup c ecc s
  | .add c y pr f rd rs1 rs2 => Sys2Proof.Machine.execAdd c y pr f rd rs1 rs2 s
  | .sub c y pr f rd rs1 rs2 => Sys2Proof.Machine.execSub c y pr f rd rs1 rs2 s
  | .adc c y pr f rd rs1 rs2 => Sys2Proof.Machine.execAdc c y pr f rd rs1 rs2 s
  | .sbc c y pr f rd rs1 rs2 => Sys2Proof.Machine.execSbc c y pr f rd rs1 rs2 s
  | .adds c y pr rd rs1 rs2 => Sys2Proof.Machine.execAdds c y pr rd rs1 rs2 s
  | .subs c y pr rd rs1 rs2 => Sys2Proof.Machine.execSubs c y pr rd rs1 rs2 s
  | .andOp c y pr rd rs1 rs2 => Sys2Proof.Machine.execAndOp c y pr rd rs1 rs2 s
  | .orOp c y pr rd rs1 rs2 => Sys2Proof.Machine.execOrOp c y pr rd rs1 rs2 s
  | .xorOp c y pr rd rs1 rs2 => Sys2Proof.Machine.execXorOp c y pr rd rs1 rs2 s
  | .andn c y pr rd rs1 rs2 => Sys2Proof.Machine.execAndn c y pr rd rs1 rs2 s
  | .shl c y pr rd rs1 rs2 => Sys2Proof.Machine.execShl c y pr rd rs1 rs2 s
  | .shr c y pr rd rs1 rs2 => Sys2Proof.Machine.execShr c y pr rd rs1 rs2 s
  | .sar c y pr rd rs1 rs2 => Sys2Proof.Machine.execSar c y pr rd rs1 rs2 s
  | .ror c y pr rd rs1 rs2 => Sys2Proof.Machine.execRor c y pr rd rs1 rs2 s
  | .minOp c y pr rd rs1 rs2 => Sys2Proof.Machine.execMinOp c y pr rd rs1 rs2 s
  | .maxOp c y pr rd rs1 rs2 => Sys2Proof.Machine.execMaxOp c y pr rd rs1 rs2 s
  | .minu c y pr rd rs1 rs2 => Sys2Proof.Machine.execMinu c y pr rd rs1 rs2 s
  | .maxu c y pr rd rs1 rs2 => Sys2Proof.Machine.execMaxu c y pr rd rs1 rs2 s
  | .clz c y pr rd rs1 => Sys2Proof.Machine.execClz c y pr rd rs1 s
  | .perm c y pr rd rs1 rs2 => Sys2Proof.Machine.execPerm c y pr rd rs1 rs2 s
  | .bfx c y pr rd rs1 rs2 => Sys2Proof.Machine.execBfx c y pr rd rs1 rs2 s
  | .bfxs c y pr rd rs1 rs2 => Sys2Proof.Machine.execBfxs c y pr rd rs1 rs2 s
  | .bfi c y pr rd rs1 rs2 => Sys2Proof.Machine.execBfi c y pr rd rs1 rs2 s
  | .sel c y pr p rd rs1 rs2 => Sys2Proof.Machine.execSel c y pr p rd rs1 rs2 s
  | .cmpeq c y pr pd rs1 rs2 => Sys2Proof.Machine.execCmpeq c y pr pd rs1 rs2 s
  | .cmpne c y pr pd rs1 rs2 => Sys2Proof.Machine.execCmpne c y pr pd rs1 rs2 s
  | .cmplt c y pr pd rs1 rs2 => Sys2Proof.Machine.execCmplt c y pr pd rs1 rs2 s
  | .cmpltu c y pr pd rs1 rs2 => Sys2Proof.Machine.execCmpltu c y pr pd rs1 rs2 s
  | .cmple c y pr pd rs1 rs2 => Sys2Proof.Machine.execCmple c y pr pd rs1 rs2 s
  | .cmpleu c y pr pd rs1 rs2 => Sys2Proof.Machine.execCmpleu c y pr pd rs1 rs2 s
  | .plog c y pr pd ps1 ps2 tbl => Sys2Proof.Machine.execPlog c y pr pd ps1 ps2 tbl s
  | .mvtx c y pr f idx rs1 => Sys2Proof.Machine.execMvtx c y pr f idx rs1 s
  | .mvfx c y pr rd f idx => Sys2Proof.Machine.execMvfx c y pr rd f idx s
  | .mvts c y pr r rs1 => Sys2Proof.Machine.execMvts c y pr r rs1 s
  | .mvfs c y pr rd r => Sys2Proof.Machine.execMvfs c y pr rd r s
  | .addi c y pr rd rs1 imm => Sys2Proof.Machine.execAddi c y pr rd rs1 imm s
  | .andi c y pr rd rs1 imm => Sys2Proof.Machine.execAndi c y pr rd rs1 imm s
  | .ori c y pr rd rs1 imm => Sys2Proof.Machine.execOri c y pr rd rs1 imm s
  | .xori c y pr rd rs1 imm => Sys2Proof.Machine.execXori c y pr rd rs1 imm s
  | .shli c y pr rd rs1 sh => Sys2Proof.Machine.execShli c y pr rd rs1 sh s
  | .shri c y pr rd rs1 sh => Sys2Proof.Machine.execShri c y pr rd rs1 sh s
  | .sari c y pr rd rs1 sh => Sys2Proof.Machine.execSari c y pr rd rs1 sh s
  | .bfxi c y pr rd rs1 pos width => Sys2Proof.Machine.execBfxi c y pr rd rs1 pos width s
  | .bfii c y pr rd rs1 pos width => Sys2Proof.Machine.execBfii c y pr rd rs1 pos width s
  | .cmpeqi c y pr pd rs1 imm => Sys2Proof.Machine.execCmpeqi c y pr pd rs1 imm s
  | .cmplti c y pr pd rs1 imm => Sys2Proof.Machine.execCmplti c y pr pd rs1 imm s
  | .cmpltui c y pr pd rs1 imm => Sys2Proof.Machine.execCmpltui c y pr pd rs1 imm s
  | .movi c y pr rd imm => Sys2Proof.Machine.execMovi c y pr rd imm s
  | .movh c y pr rd imm => Sys2Proof.Machine.execMovh c y pr rd imm s
  | .mul c pr rd rs1 rs2 => Sys2Proof.Machine.execMul c pr rd rs1 rs2 s
  | .mulh c pr rd rs1 rs2 => Sys2Proof.Machine.execMulh c pr rd rs1 rs2 s
  | .mulhu c pr rd rs1 rs2 => Sys2Proof.Machine.execMulhu c pr rd rs1 rs2 s
  | .mulq c pr rd rs1 rs2 => Sys2Proof.Machine.execMulq c pr rd rs1 rs2 s
  | .mac c pr acc neg uns rs1 rs2 => Sys2Proof.Machine.execMac c pr acc neg uns rs1 rs2 s
  | .mach c pr acc neg cross rs1 rs2 => Sys2Proof.Machine.execMach c pr acc neg cross rs1 rs2 s
  | .macz c pr acc neg uns rs1 rs2 => Sys2Proof.Machine.execMacz c pr acc neg uns rs1 rs2 s
  | .macd c pr acc neg word ix j => Sys2Proof.Machine.execMacd c pr acc neg word ix j s
  | .mvfacc c pr rd acc sh rnd sat => Sys2Proof.Machine.execMvfacc c pr rd acc sh rnd sat s
  | .mvtacc c pr acc rs1 sh => Sys2Proof.Machine.execMvtacc c pr acc rs1 sh s
  | .ldoB c pr rd ix imm => Sys2Proof.Machine.execLdoB c pr rd ix imm s
  | .ldoBu c pr rd ix imm => Sys2Proof.Machine.execLdoBu c pr rd ix imm s
  | .ldoH c pr rd ix imm => Sys2Proof.Machine.execLdoH c pr rd ix imm s
  | .ldoHu c pr rd ix imm => Sys2Proof.Machine.execLdoHu c pr rd ix imm s
  | .ldoW c pr rd ix imm => Sys2Proof.Machine.execLdoW c pr rd ix imm s
  | .stoB c pr rd ix imm => Sys2Proof.Machine.execStoB c pr rd ix imm s
  | .stoH c pr rd ix imm => Sys2Proof.Machine.execStoH c pr rd ix imm s
  | .stoW c pr rd ix imm => Sys2Proof.Machine.execStoW c pr rd ix imm s
  | .ldp c pr z uns rd ix => Sys2Proof.Machine.execLdp c pr z uns rd ix s
  | .stp c pr z rd ix => Sys2Proof.Machine.execStp c pr z rd ix s
  | .ldx c pr z uns rd ix rs2 => Sys2Proof.Machine.execLdx c pr z uns rd ix rs2 s
  | .stx c pr z rd ix rs2 => Sys2Proof.Machine.execStx c pr z rd ix rs2 s
  | .push c pr rd => Sys2Proof.Machine.execPush c pr rd s
  | .pop c pr rd => Sys2Proof.Machine.execPop c pr rd s
  | .swap c pr rd ix => Sys2Proof.Machine.execSwap c pr rd ix s
  | .sync c pr => Sys2Proof.Machine.execSync c pr s
  | .accessComplete c => Sys2Proof.Machine.execAccessComplete c s
  | .writeBufferDrain c => Sys2Proof.Machine.execWriteBufferDrain c s
  | .nop c pr => Sys2Proof.Machine.execNop c pr s
  | .br c pr off => Sys2Proof.Machine.execBr c pr off s
  | .call c pr off => Sys2Proof.Machine.execCall c pr off s
  | .brdec c pr off => Sys2Proof.Machine.execBrdec c pr off s
  | .brr c pr rs1 => Sys2Proof.Machine.execBrr c pr rs1 s
  | .callr c pr rs1 => Sys2Proof.Machine.execCallr c pr rs1 s
  | .ret c pr => Sys2Proof.Machine.execRet c pr s
  | .reti c pr => Sys2Proof.Machine.execReti c pr s
  | .rep c pr k => Sys2Proof.Machine.execRep c pr k s
  | .repr c pr rs1 => Sys2Proof.Machine.execRepr c pr rs1 s
  | .wait c pr => Sys2Proof.Machine.execWait c pr s
  | .trap c pr code => Sys2Proof.Machine.execTrap c pr code s
  | .breakOp c pr => Sys2Proof.Machine.execBreakOp c pr s
  | .interruptAccept c => Sys2Proof.Machine.execInterruptAccept c s
  | .irqSet src core vec => Sys2Proof.Machine.execIrqSet src core vec s
  | .coreStart src c => Sys2Proof.Machine.execCoreStart src c s
  | .coreStop src c => Sys2Proof.Machine.execCoreStop src c s
  | .load src c => Sys2Proof.Machine.execLoad src c s
  | .loadComplete c => Sys2Proof.Machine.execLoadComplete c s
  | .coreReset src c => Sys2Proof.Machine.execCoreReset src c s
  | .dozeReq src mask => Sys2Proof.Machine.execDozeReq src mask s
  | .dozeExit c => Sys2Proof.Machine.execDozeExit c s
  | .txReq src c => Sys2Proof.Machine.execTxReq src c s
  | .canObjRead src c => Sys2Proof.Machine.execCanObjRead src c s
  | .canObjWrite src c => Sys2Proof.Machine.execCanObjWrite src c s
  | .abort src c => Sys2Proof.Machine.execAbort src c s
  | .recover src c => Sys2Proof.Machine.execRecover src c s
  | .canFrameSent c => Sys2Proof.Machine.execCanFrameSent c s
  | .canFrameReceived c f => Sys2Proof.Machine.execCanFrameReceived c f s
  | .canError c tx kind major => Sys2Proof.Machine.execCanError c tx kind major s
  | .busOffRecovery c sequences => Sys2Proof.Machine.execBusOffRecovery c sequences s
  | .txdDom c ms => Sys2Proof.Machine.execTxdDom c ms s
  | .canWup c => Sys2Proof.Machine.execCanWup c s
  | .canPn c f => Sys2Proof.Machine.execCanPn c f s
  | .canFec c => Sys2Proof.Machine.execCanFec c s
  | .linStart src c => Sys2Proof.Machine.execLinStart src c s
  | .linStop src c => Sys2Proof.Machine.execLinStop src c s
  | .goToSleep src c => Sys2Proof.Machine.execGoToSleep src c s
  | .linWake src c => Sys2Proof.Machine.execLinWake src c s
  | .linFrameRead src c => Sys2Proof.Machine.execLinFrameRead src c s
  | .linFrameWrite src c => Sys2Proof.Machine.execLinFrameWrite src c s
  | .linSlot c ms result data sum => Sys2Proof.Machine.execLinSlot c ms result data sum s
  | .linHeader c ident result data sum => Sys2Proof.Machine.execLinHeader c ident result data sum s
  | .linWakePulse c us => Sys2Proof.Machine.execLinWakePulse c us s
  | .busShort c ms => Sys2Proof.Machine.execBusShort c ms s
  | .ptpSync port domain masterNs hops utcOff gmChange => Sys2Proof.Machine.execPtpSync port domain masterNs hops utcOff gmChange s
  | .ptpLost intervals offset => Sys2Proof.Machine.execPtpLost intervals offset s
  | .pdFrameReceived passing f => Sys2Proof.Machine.execPdFrameReceived passing f s
  | .trdpPublish ix => Sys2Proof.Machine.execTrdpPublish ix s
  | .prReceived comid => Sys2Proof.Machine.execPrReceived comid s
  | .pdTmo ix ms => Sys2Proof.Machine.execPdTmo ix ms s
  | .prpSupervision ms => Sys2Proof.Machine.execPrpSupervision ms s
  | .linkChange port up => Sys2Proof.Machine.execLinkChange port up s
  | .telRead src => Sys2Proof.Machine.execTelRead src s
  | .telWrite src => Sys2Proof.Machine.execTelWrite src s
  | .hitchLookup => Sys2Proof.Machine.execHitchLookup s
  | .gapExpire ix => Sys2Proof.Machine.execGapExpire ix s
  | .hitchRead src => Sys2Proof.Machine.execHitchRead src s
  | .hitchWrite src => Sys2Proof.Machine.execHitchWrite src s
  | .fidRead k h items => Sys2Proof.Machine.execFidRead k h items s
  | .fidWrite k h items => Sys2Proof.Machine.execFidWrite k h items s
  | .fidCmd k h items => Sys2Proof.Machine.execFidCmd k h items s
  | .resp k h ack items => Sys2Proof.Machine.execResp k h ack items s
  | .report k h unit caps state fset ffirst => Sys2Proof.Machine.execReport k h unit caps state fset ffirst s
  | .hello k h echo => Sys2Proof.Machine.execHello k h echo s
  | .subscribe k h items => Sys2Proof.Machine.execSubscribe k h items s
  | .fidResend k seq ms => Sys2Proof.Machine.execFidResend k seq ms s
  | .helloTimer ms => Sys2Proof.Machine.execHelloTimer ms s
  | .peerLost k ms => Sys2Proof.Machine.execPeerLost k ms s
  | .epochEnd => Sys2Proof.Machine.execEpochEnd s
  | .reportSend k n ms => Sys2Proof.Machine.execReportSend k n ms s
  | .proxyGatherFlush k us => Sys2Proof.Machine.execProxyGatherFlush k us s
  | .proxyCacheRefresh p ms => Sys2Proof.Machine.execProxyCacheRefresh p ms s
  | .fidPeerRead src => Sys2Proof.Machine.execFidPeerRead src s
  | .fidPeerWrite src => Sys2Proof.Machine.execFidPeerWrite src s
  | .fidProxyRead src => Sys2Proof.Machine.execFidProxyRead src s
  | .fidProxyWrite src => Sys2Proof.Machine.execFidProxyWrite src s
  | .spliceHello ok fseq dev pref role digest => Sys2Proof.Machine.execSpliceHello ok fseq dev pref role digest s
  | .intent ok fseq units log dly off => Sys2Proof.Machine.execIntent ok fseq units log dly off s
  | .intentSend us => Sys2Proof.Machine.execIntentSend us s
  | .edge ok fseq e => Sys2Proof.Machine.execEdge ok fseq e s
  | .edgeApply => Sys2Proof.Machine.execEdgeApply s
  | .ack ok fseq acked legs dly => Sys2Proof.Machine.execAck ok fseq acked legs dly s
  | .ackSend us => Sys2Proof.Machine.execAckSend us s
  | .ckpt ms sent => Sys2Proof.Machine.execCkpt ms sent s
  | .ckptReceived ok fseq crcOk c img => Sys2Proof.Machine.execCkptReceived ok fseq crcOk c img s
  | .spliceHealth coreOk memOk rx => Sys2Proof.Machine.execSpliceHealth coreOk memOk rx s
  | .partnerUnfit ms => Sys2Proof.Machine.execPartnerUnfit ms s
  | .leadLost ms => Sys2Proof.Machine.execLeadLost ms s
  | .spliceProbe answered => Sys2Proof.Machine.execSpliceProbe answered s
  | .confirmEnd ms => Sys2Proof.Machine.execConfirmEnd ms s
  | .restoreComplete => Sys2Proof.Machine.execRestoreComplete s
  | .replayComplete us => Sys2Proof.Machine.execReplayComplete us s
  | .partnerLost ms => Sys2Proof.Machine.execPartnerLost ms s
  | .legMismatch n on us => Sys2Proof.Machine.execLegMismatch n on us s
  | .pairTrip c cur tenths => Sys2Proof.Machine.execPairTrip c cur tenths s
  | .guardRead src => Sys2Proof.Machine.execGuardRead src s
  | .guardWrite src => Sys2Proof.Machine.execGuardWrite src s
  | .sleep src => Sys2Proof.Machine.execSleep src s
  | .rollback => Sys2Proof.Machine.execRollback s
  | .prepareTimeout us n => Sys2Proof.Machine.execPrepareTimeout us n s
  | .commit => Sys2Proof.Machine.execCommit s
  | .commitComplete => Sys2Proof.Machine.execCommitComplete s
  | .wake us table => Sys2Proof.Machine.execWake us table s
  | .wakeN mv us => Sys2Proof.Machine.execWakeN mv us s
  | .falseWake ms => Sys2Proof.Machine.execFalseWake ms s
  | .pllEnWrite src v => Sys2Proof.Machine.execPllEnWrite src v s
  | .coreSrcWrite src v => Sys2Proof.Machine.execCoreSrcWrite src v s
  | .pllLock us => Sys2Proof.Machine.execPllLock us s
  | .pllUnlock => Sys2Proof.Machine.execPllUnlock s
  | .hfRcTrim trim err => Sys2Proof.Machine.execHfRcTrim trim err s
  | .watchStep ins touches => Sys2Proof.Machine.execWatchStep ins touches s
  | .supply c => Sys2Proof.Machine.execSupply c s
  | .staticComparator ix v us => Sys2Proof.Machine.execStaticComparator ix v us s
  | .nmMessage q => Sys2Proof.Machine.execNmMessage q s
  | .nmForward ms => Sys2Proof.Machine.execNmForward ms s
  | .ringSkip ms => Sys2Proof.Machine.execRingSkip ms s
  | .ringListenTimeout ms => Sys2Proof.Machine.execRingListenTimeout ms s
  | .ringLost ms => Sys2Proof.Machine.execRingLost ms s
  | .graceEnd ms => Sys2Proof.Machine.execGraceEnd ms s
  | .networkRace => Sys2Proof.Machine.execNetworkRace s
  | .consentWrite src v => Sys2Proof.Machine.execConsentWrite src v s
  | .nmEnWrite src v => Sys2Proof.Machine.execNmEnWrite src v s
  | .generate src c slot slot2 => Sys2Proof.Machine.execGenerate src c slot slot2 s
  | .importKey src c slot slot2 => Sys2Proof.Machine.execImportKey src c slot slot2 s
  | .exportKey src c slot slot2 => Sys2Proof.Machine.execExportKey src c slot slot2 s
  | .derive src c slot slot2 => Sys2Proof.Machine.execDerive src c slot slot2 s
  | .macGen src c slot slot2 => Sys2Proof.Machine.execMacGen src c slot slot2 s
  | .macVer src c slot slot2 => Sys2Proof.Machine.execMacVer src c slot slot2 s
  | .encrypt src c slot slot2 => Sys2Proof.Machine.execEncrypt src c slot slot2 s
  | .decrypt src c slot slot2 => Sys2Proof.Machine.execDecrypt src c slot slot2 s
  | .signMsg src c slot slot2 => Sys2Proof.Machine.execSignMsg src c slot slot2 s
  | .verify src c slot slot2 => Sys2Proof.Machine.execVerify src c slot slot2 s
  | .attest src c slot slot2 => Sys2Proof.Machine.execAttest src c slot slot2 s
  | .random src c slot slot2 => Sys2Proof.Machine.execRandom src c slot slot2 s
  | .zeroise src c slot slot2 => Sys2Proof.Machine.execZeroise src c slot slot2 s
  | .lockSlot src c slot slot2 => Sys2Proof.Machine.execLockSlot src c slot slot2 s
  | .hash src c slot slot2 => Sys2Proof.Machine.execHash src c slot slot2 s
  | .lockerNop src c slot slot2 => Sys2Proof.Machine.execLockerNop src c slot slot2 s
  | .lockerRequestDone => Sys2Proof.Machine.execLockerRequestDone s
  | .slotRead src => Sys2Proof.Machine.execSlotRead src s
  | .writeAttr src => Sys2Proof.Machine.execWriteAttr src s
  | .tamper sensor v k => Sys2Proof.Machine.execTamper sensor v k s
  | .tamperCfgWrite src v => Sys2Proof.Machine.execTamperCfgWrite src v s
  | .rngFail bits => Sys2Proof.Machine.execRngFail bits s
  | .drbgReseed => Sys2Proof.Machine.execDrbgReseed s
  | .request src => Sys2Proof.Machine.execRequest src s
  | .withdraw src => Sys2Proof.Machine.execWithdraw src s
  | .tokenRead src => Sys2Proof.Machine.execTokenRead src s
  | .tokenWrite src => Sys2Proof.Machine.execTokenWrite src s
  | .round => Sys2Proof.Machine.execRound s
  | .tokenAnswer slot dbm id cnt stat tag crc => Sys2Proof.Machine.execTokenAnswer slot dbm id cnt stat tag crc s
  | .roundOutcome => Sys2Proof.Machine.execRoundOutcome s
  | .lockoutEnd => Sys2Proof.Machine.execLockoutEnd s
  | .presenceRound ms => Sys2Proof.Machine.execPresenceRound ms s
  | .absence sec => Sys2Proof.Machine.execAbsence sec s
  | .releaseMessage ms => Sys2Proof.Machine.execReleaseMessage ms s
  | .antShort a ms => Sys2Proof.Machine.execAntShort a ms s
  | .antOpen a mA => Sys2Proof.Machine.execAntOpen a mA s
  | .logicFeedStart b mV us fuses fail config => Sys2Proof.Machine.execLogicFeedStart b mV us fuses fail config s
  | .logicFeedStop b mV us => Sys2Proof.Machine.execLogicFeedStop b mV us s
  | .watchdog ms config => Sys2Proof.Machine.execWatchdog ms config s
  | .update config => Sys2Proof.Machine.execUpdate config s
  | .recoveryImage image config => Sys2Proof.Machine.execRecoveryImage image config s
  | .rollbackFloorRaise h => Sys2Proof.Machine.execRollbackFloorRaise h s
  | .spliceLinkChange up => Sys2Proof.Machine.execSpliceLinkChange up s
  | .busIntegration c => Sys2Proof.Machine.execBusIntegration c s
  | .feedReturn k vA vB vR iA iB iR ms => Sys2Proof.Machine.execFeedReturn k vA vB vR iA iB iR ms s
  | .motorStopped b v cur => Sys2Proof.Machine.execMotorStopped b v cur s
  | .thermalResume n tj => Sys2Proof.Machine.execThermalResume n tj s
  | .boostReady vc cur => Sys2Proof.Machine.execBoostReady vc cur s
  | .failedAttemptExpiry => Sys2Proof.Machine.execFailedAttemptExpiry s
  | .spliceHelloTimer ms => Sys2Proof.Machine.execSpliceHelloTimer ms s

end Sys2Proof.Machine
end

