-- ==== Sys2Proof/Machine/Tick.lean ====
section
/-! DEFINITION. The passing of time: what a page clock, or in Watch and Stasis a Reckoner tick, does where no command waits (03_capstan_bases_and_marks.md R94, R110;
06_motor_bridges.md R187; 13_trouble_log_and_logline.md R343, R344, R346; 17_backbone_hitch_and_fid.md R432; 19_power_states_and_network_sleep.md
R477; 21_tether_access.md R517). The table of rows has no row for a tick (notes/assumptions/2.md). -/

namespace Sys2Proof.Machine

/-- Milliseconds that pass with the count `k` of 1/32,768 s. -/
def tickMs (k : Nat) : Nat := (k + 1) * 1000 / 32768 - k * 1000 / 32768

/-- One count of the always-on domain's clock, 1/32,768 s (R343, R344, R346): UTC advances by `d`/64 ns and takes at most 100 ppm of its
slew; t_op counts while the main domain runs. -/
def Mach.reckonTick (d : Nat) (m : Mach) : Mach :=
  let s : Int := max (-195) (min m.log.slew 195)
  { m with log := { m.log with
      rk := (m.log.rk + 1) % 2 ^ 48
      utc := ((m.log.utc : Int) + d + s).toNat
      slew := m.log.slew - s
      topMs := if m.mainOff then m.log.topMs else m.log.topMs + tickMs m.log.rk } }

/-- UTC and PTP time over one page clock of 15.625 ns: in Run both are interpolated on it (R344, R432). -/
def Mach.clockOn (m : Mach) : Mach :=
  { m with ptp := m.ptp + 1000, log := { m.log with utc := m.log.utc + 1000 } }

/-- R_EST of the valves and CT_NOW of the inputs go to MRAM every 600 s of operation (R271, R289). -/
def Mach.storeAdapted (m : Mach) : Mach :=
  (List.range 96).foldl (fun (m : Mach) (i : Nat) => m.ctStore i) ((List.range 8).foldl (fun (m : Mach) (v : Nat) => m.coilStore v) m)

/-- The Reckoner's own tick in Run: the count, the slews, ramps and the lock-out. -/
def Mach.unitOn (m : Mach) : Mach :=
  let top := m.log.topMs
  let m := (m.reckonTick 0).ptpSlew
  let m := if m.log.topMs / 600000 = top / 600000 then m else m.storeAdapted
  ((List.range 8).foldl (fun (m : Mach) (b : Nat) => m.brRamp b) m.lockTick).pulsesEnd

/-- The Reckoner over one page clock in Run (R343): a tick every 1,953.125 page clocks on the crystal; degraded, the accumulator adds CAL
ticks, Q2.30, at each LF-RC cycle. -/
def Mach.countOn (m : Mach) : Mach :=
  if m.flag pgReckon Reckon.DEGRADED then
    if m.clk + 8 < 8 * (1 + Config.lfClocks) then { m with clk := m.clk + 8 }
    else
      let acc := m.lfAcc + m.fld pgReckon Reckon.CAL
      (List.range (acc / 2 ^ 30)).foldl (fun (m : Mach) (_ : Nat) => m.unitOn) { m with clk := 0, lfAcc := acc % 2 ^ 30 }
  else if m.clk + 8 < 15625 then { m with clk := m.clk + 8 }
  else { m with clk := m.clk + 8 - 15625 }.unitOn

/-- One page clock while the main domain runs: the clocks go on, the valves' regulators
run (R266), the frames queued at a port leave (R431), every base takes its position (R92), and due Marks fire (R110). -/
def Mach.mainTick (m : Mach) : Mach :=
  let m := m.clockOn.countOn.regulatorsOn.egressOn
  ((List.range 8).foldl (fun (m : Mach) (k : Nat) => m.capTick k) m).fireDue

/-- What an idle step is: one page clock while the main domain runs, one Reckoner tick in Watch and Stasis; nothing counts in Off. -/
def Mach.tick (m : Mach) : Mach :=
  if m.pwr.asleep = 3 then m
  else if m.mainOff then ((m.reckonTick 1953125).lockTick).reckonWake
  else (Mach.settleAll m m.mainTick).watchChanges m

end Sys2Proof.Machine
end

