-- ==== Sys2Proof/Machine/Step.lean ====
section
/-! DEFINITION. The step: the first command that waits, or the passing of time where none does (notes/assumptions/2.md). -/

namespace Sys2Proof.Machine

/-- One step of the block: the command at the front of the queue runs on the state with the queue's rest; with no command waiting, time
passes: one page clock in Run, one count of the Reckoner in Watch and Stasis. -/
def step (s : State) : Host.Outcome State Fault Refusal :=
  match s.pending with
  | [] => .next { s with m := s.m.tick }
  | i :: rest => exec i { s with pending := rest }

/-- A state with the command that a table word spells put at the front of its queue. -/
def State.withFetchWord (s : State) (nbits w : Nat) : State :=
  match decodeTableWord nbits w with
  | some i => { s with pending := i :: s.pending }
  | none => s

end Sys2Proof.Machine
end

