-- ==== Sys2Proof/Safety.lean ====
section
/-! DEFINITION. What counts as a safe run of the block, and the terms the claims use: what stands after a row whose own effect is given,
and when a write or a command is taken. -/

namespace Sys2Proof

open Machine

/-- The byte memory is in its canonical form: addresses strictly rising, and no byte that equals what an unlisted address reads as. -/
def MemOk (s : State) : Prop := s.mem.wf = true

/-- A step that stops: a fault or a refusal. -/
def Stops (s : State) : Prop :=
  match step s with
  | .next _ => False
  | _ => True

/-- A run is safe for `k` steps: none of them stops. -/
def SafeRun : Nat → State → Prop
  | 0, _ => True
  | k + 1, s =>
    match step s with
    | .next t => SafeRun k t
    | _ => False

namespace Machine

/-! ## What stands after a row -/

/-- After a row whose own effect leaves the machine `u`: the other units follow it (R333, R339, R448, R454, R458, R469, R518), Hitch sees the
changes it watches (R440); memory and the queue stand. -/
def State.after (s : State) (u : Mach) : State := { s with m := (Mach.settleAll s.m u).watchChanges s.m }

/-- After a row that touches its own pages only. -/
def State.afterPage (s : State) (u : Mach) : State := { s with m := u.watchChanges s.m }

/-- After a row that a link frame of the partner brought. -/
def State.afterLink (s : State) (u : Mach) : State := { s with m := (Mach.settleLink s.m u).watchChanges s.m }

/-- After a row whose own effect leaves machine and memory as `u` has them. -/
def State.afterState (s u : State) : State := { m := (Mach.settleAll s.m u.m).watchChanges s.m, mem := u.mem, pending := s.pending }

/-- After a row of the supply or of a start. -/
def State.afterFeed (s u : State) : State := { m := u.m, mem := u.mem, pending := s.pending }

/-! ## Writes and commands that are taken (R66, R67, R74) -/

/-- A source may reach an own register of the unit page `n`: the page is a present unit's, no Bight's and no proxy's, the register is not one
an OUT follower reads from its head, and neither the Locker nor a pair turns the source away. -/
def Mach.reaches (m : Mach) (src : Src) (n off : Nat) : Bool :=
  m.occupied n && clsOf n != .bight && clsOf n != .proxy && (m.gate src n off).isNone && !m.ofHead n off

/-- The operation `f` on page `n` refuses nothing. -/
def Mach.accepts (m : Mach) (n : Nat) (f : Mach → Mach) : Bool := !(m.attempt n f).1

/-- What stands after the operation `f` on page `n` that a write of `src` at `off` asked for: REJECT as before, and the override noted (R87). -/
def Mach.ran (m : Mach) (src : Src) (n off : Nat) (f : Mach → Mach) : Mach := (m.attempt n f).2.setDirect src false n off

/-- A write of `w` to an own register of page `n` is taken: no reason of R74 refuses it. -/
def Mach.takes (m : Mach) (src : Src) (n off : Nat) (w : Word) : Bool :=
  m.reaches src n off && m.accepts n fun m => m.unitWrite src n off w

/-- A command of `code` and `seq` at the unit page `n` executes at once (R66, R67): it is no duplicate, does not wait for BUSY, and no pair
delays it. -/
def Mach.cmdOpen (m : Mach) (src : Src) (n : Nat) (seq : BitVec 16) (code : Nat) : Bool :=
  m.reaches src n 0x008 && !(decide (seq.toNat ≠ 0) && decide (seq.toNat = m.fld n Hdr.LAST_SEQ))
    && !(m.flag n Hdr.BUSY && !m.atOnce n code) && !(m.leadHeld n && src != .splice)

/-- LAST_SEQ takes the SEQ of an executed command that is not 0 (R66). -/
def Mach.seqSet (m : Mach) (n : Nat) (seq : BitVec 16) : Mach := if seq.toNat = 0 then m else m.setFld n Hdr.LAST_SEQ seq.toNat

/-- What stands after the command with effect `f`. -/
def Mach.commanded (m : Mach) (src : Src) (n : Nat) (seq : BitVec 16) (f : Mach → Mach) : Mach :=
  ((m.attempt n f).2.seqSet n seq).setDirect src false n 0x008

/-! ## Groups on a core (R374) -/

/-- A running core at a plain boundary: no access outstanding, no transfer pending, no REP body, no replay, no command under way, and no
enabled vector pending. -/
def Mach.plain (m : Mach) (c : Nat) : Bool :=
  let k := m.core c
  m.coreSt c == 2 && k.stall.isNone && !k.closing && !k.replay && k.jumps.isEmpty && k.rep.isNone && !k.dozeReq && m.irqDue c == 0

/-- The writes of an operation under its guard: none where the predicate is 0. -/
def Core.guarded (k : Core) (pr : Nat) (w : Writes) : Writes := if k.pred pr then w else Writes.none

/-- The address that follows the word a core issues. -/
def Core.nextWord (k : Core) : Nat := k.pc / 4 * 4 + 4

/-- A group of one operation has issued: its writes are due, the core goes to the next word and changes by `f`, and PC shows the group. -/
def State.grouped (s : State) (c : Nat) (f : Core → Core) (w : Writes) : State :=
  let k := s.m.core c
  { s with m := (s.m.setCore c (f { k.commit w with pc := k.nextWord })).setFld pgStrand (Strandctl.C_PC c) k.pc }

/-- A store of a group: local data memory takes it at once, the write buffer any other (R376, R402). -/
def State.stored (s : State) (c a n : Nat) (v : Word) : State :=
  if regionOf a = some .dm then { s with mem := writeBytes (memKey c a) (leBytes n v.toNat) s.mem }
  else { s with m := s.m.modCore c fun k => { k with wbuf := k.wbuf ++ [⟨a, n, v⟩] } }

/-- The number of `n` bytes in the local data memory of core `c`. -/
def State.localNum (s : State) (c a n : Nat) : Nat := leNat (readBytes s.mem (memKey c a) n)

/-- An aligned access to local data memory. -/
def inLocal (a n : Nat) : Bool := regionOf a == some .dm && a % n == 0

/-- A target that a transfer may take (R373). -/
def State.goodTarget (s : State) (c t : Nat) : Bool := t % 2 == 0 && !badTarget s.m s.mem c t

/-! ## Kinds of rows -/

/-- A row of the main domain: it does nothing while that domain is without power (R470, R471). The others belong to the supply, to starts, or to
what runs asleep. -/
def mainDomain : Instr → Bool
  | .canWup .. | .canPn .. | .canFec .. | .lockoutEnd .. | .failedAttemptExpiry .. | .commitComplete .. | .wake .. | .wakeN ..
  | .watchStep .. | .supply .. | .staticComparator .. | .logicFeedStart .. | .logicFeedStop .. | .watchdog .. | .update ..
  | .recoveryImage .. | .linWakePulse .. | .tamper .. | .clkDegraded .. | .crystalReturn .. | .reckonCalibration .. | .haltNInput .. => false
  | _ => true

/-- A row that may change the byte memory: a core's groups, the snapshot engine, the pair's checkpoints, the Locker's requests, and starts. -/
def movesMemory : Instr → Bool
  | .add .. | .sub .. | .adc .. | .sbc .. | .adds .. | .subs .. | .andOp .. | .orOp .. | .xorOp .. | .andn .. | .shl .. | .shr ..
  | .sar .. | .ror .. | .minOp .. | .maxOp .. | .minu .. | .maxu .. | .clz .. | .perm .. | .bfx .. | .bfxs .. | .bfi .. | .sel ..
  | .cmpeq .. | .cmpne .. | .cmplt .. | .cmpltu .. | .cmple .. | .cmpleu .. | .plog .. | .mvtx .. | .mvfx .. | .mvts .. | .mvfs ..
  | .addi .. | .andi .. | .ori .. | .xori .. | .shli .. | .shri .. | .sari .. | .bfxi .. | .bfii .. | .cmpeqi .. | .cmplti ..
  | .cmpltui .. | .movi .. | .movh .. | .narrowAccess .. | .issueGroup .. | .mul .. | .mulh .. | .mulhu .. | .mulq .. | .mac ..
  | .mach .. | .macz .. | .macd .. | .mvfacc .. | .mvtacc .. | .ldoB .. | .ldoBu .. | .ldoH .. | .ldoHu .. | .ldoW .. | .stoB ..
  | .stoH .. | .stoW .. | .ldp .. | .stp .. | .ldx .. | .stx .. | .push .. | .pop .. | .swap .. | .sync .. | .nop .. | .br ..
  | .call .. | .brdec .. | .brr .. | .callr .. | .ret .. | .reti .. | .rep .. | .repr .. | .wait .. | .trap .. | .breakOp ..
  | .accessComplete .. | .writeBufferDrain .. | .loadComplete .. | .snapshotComplete .. | .commitComplete .. | .wake ..
  | .logicFeedStart .. | .logicFeedStop .. | .watchdog .. | .update .. | .recoveryImage .. | .spliceHello .. | .ckpt ..
  | .ckptReceived .. | .restoreComplete .. | .lockerRequestDone .. => true
  | _ => false

end Machine

end Sys2Proof
end

