-- ==== Sys2Proof/WellFormed.lean ====
section
/-! DEFINITION. Which commands are well formed: what the types of the operands leave open (the notes at each check cite spec/). A command
that is not well formed stands for nothing the module can be told; the step is total on it all the same. -/

namespace Sys2Proof

open Machine

/-- A register with shadow bits (R70), on a page whose class is fixed. -/
def shadowReg (n off : Nat) : Bool := isRws (clsOf n) off || clsOf n == .bight || clsOf n == .proxy

/-- An offset in a Bight's class window (R81, R84). -/
def windowReg (off : Nat) : Bool := decide (0x040 ≤ off) && decide (off < 0xF00)

/-- A page that no class occupies for good (R55): reserved, or one that may be unoccupied. -/
def strayPage (n : Nat) : Bool := clsOf n == .none || clsOf n == .sat || clsOf n == .proxy

/-- A page of one of the classes that a row's table names. -/
def pageOfClass (l : List Cls) (n : Nat) : Bool := l.contains (clsOf n)

/-- A node's reply: its place on the chain and at most four positions (R249, R253). -/
def goodReply (q : NodeReply) : Bool := decide (q.h < 1024) && decide (q.drops.length ≤ 4)

/-- A CAN frame: identifier, length code and data within the format's bounds (R414). -/
def goodFrame (f : CanFrame) : Bool :=
  decide (f.id < (if f.ide then 2 ^ 29 else 2 ^ 11)) && decide (f.dlc < 16) && decide (f.data.length ≤ (if f.fdf then 64 else 8))

/-- An Ethernet frame: its port, VLAN and priority (R430, R431). -/
def goodEth (f : EthFrame) : Bool := decide (f.port < 6) && decide (f.vid < 4096) && decide (f.pcp < 8)

/-- A process-data frame: a dataset of at most 1,432 bytes (R434). -/
def goodPd (f : PdFrame) : Bool := goodEth f.eth && decide (f.data.length ≤ 1432) && decide (f.seq < 2 ^ 32)

/-- A Fid message: at most 64 items (R443). -/
def goodItems (k : Nat) : Bool := decide (k ≤ 64)

/-- A ring message: nodes of 48 (R482). -/
def goodNm (q : NmMsg) : Bool := decide (q.src < 48) && decide (q.dest < 48) && decide (q.consent < 2 ^ 48)

/-- The writes of a configuration (R535): aligned words of pages. -/
def goodConfig (c : Option (List (Nat × Nat × Word))) : Bool :=
  match c with
  | none => true
  | some l => l.all fun w => decide (w.1 < 32768) && decide (w.2.1 < 4096) && w.2.1 % 4 == 0

/-- A well-formed command. -/
def wellFormed (i : Instr) : Bool :=
  match i with
  | .cmdNop _ _ _ => true
  | .enable _ _ _ => true
  | .disable _ _ _ => true
  | .apply _ _ _ => true
  | .clearFaults _ _ _ _ => true
  | .selftest _ _ _ => true
  | .freeze _ _ _ => true
  | .thaw _ _ _ => true
  | .heldCommandExecute _ => true
  | .testComplete _ _ _ => true
  | .registerWrite _ _ _ _ => true
  | .shadowWrite _ n r _ => shadowReg n (4 * r)
  | .faultSetClear _ _ _ _ => true
  | .faultSourceSet _ _ _ => true
  | .parentWrite _ _ _ => true
  | .lockWrite _ _ _ => true
  | .strayWrite _ n _ _ => strayPage n
  | .narrowAccess _ _ _ => true
  | .bightWindowWrite _ _ r _ => windowReg (4 * r)
  | .markFire _ => true
  | .markRead _ _ => true
  | .markArm _ _ => true
  | .markDisarm _ _ => true
  | .baseCapWrite _ _ _ => true
  | .advance _ _ _ => true
  | .setpos _ _ _ => true
  | .axleEdge _ _ _ _ => true
  | .standstill _ _ => true
  | .framePulse _ _ => true
  | .mainsZeroCrossing _ _ _ _ => true
  | .los _ _ => true
  | .holdoverExpiry _ _ => true
  | .relock _ _ => true
  | .powGo _ _ _ _ => true
  | .powCloseDetect _ _ _ => true
  | .powTimeout _ _ _ => true
  | .startSuccess _ _ => true
  | .startTimeout _ _ => true
  | .startEnergyCap _ _ => true
  | .inrushEnd _ _ => true
  | .shortCircuit n _ => pageOfClass [.out, .bridge, .valve, .vhs] n
  | .overcurrent _ _ _ _ => true
  | .thermal n _ => pageOfClass [.out, .bridge, .rat, .valve, .vhs, .boost] n
  | .tjWarn n _ => pageOfClass [.out, .bridge] n
  | .retry _ _ _ => true
  | .retrySeriesReset _ _ => true
  | .clamp n _ => pageOfClass [.out, .valve] n
  | .switchOpen _ _ _ _ => true
  | .switchStuck _ _ _ => true
  | .openOn _ _ _ => true
  | .offdiagPulse _ _ => true
  | .bfArm _ _ _ => true
  | .backfeed _ _ _ _ _ => true
  | .parallelUndeclared _ _ _ => true
  | .share _ _ _ _ => true
  | .syncLost n => pageOfClass [.out, .sink] n
  | .pwmPeriodStart n => pageOfClass [.out, .sink, .bridge] n
  | .idealDiodeOff _ _ _ => true
  | .aLost _ _ _ _ => true
  | .railLost _ _ _ => true
  | .sag _ _ _ => true
  | .overvolt _ _ _ _ => true
  | .bankOc _ _ _ => true
  | .bankTrip _ _ _ => true
  | .bpWarn _ _ => true
  | .bpTrip _ _ _ => true
  | .diode _ _ _ _ => true
  | .unusedLive _ _ _ => true
  | .bankClassWrite _ _ _ => true
  | .offsetRecalibration _ _ => true
  | .digiFault _ _ _ => true
  | .arcScoreUpdate _ _ _ _ _ _ raw _ => raw.length == 10
  | .arcBaselineUpdate _ => true
  | .snapGo _ _ => true
  | .snapshotComplete samples => samples.length == 4096
  | .loadClassification _ _ _ _ _ _ _ _ => true
  | .plug _ _ _ _ => true
  | .ledgerSample _ _ => true
  | .deratingRecompute _ => true
  | .ledgerStore _ => true
  | .ripple _ _ _ _ => true
  | .rippleInsert _ _ => true
  | .posWrite _ _ _ => true
  | .stopRecognition _ _ _ => true
  | .pinchCheck _ _ => true
  | .reverseDriveStart _ _ => true
  | .reversalEnd _ _ _ => true
  | .brakeEnd _ _ _ _ => true
  | .reverseBrakeEnd _ _ => true
  | .limiting _ _ => true
  | .limitLong _ _ => true
  | .openLoad _ _ _ => true
  | .positionTargetReached _ => true
  | .parkInputEdge _ _ => true
  | .parked _ => true
  | .parkFail _ _ => true
  | .intervalWaitEnd _ _ => true
  | .rungTurnStart _ _ => true
  | .rungEdge _ _ _ => true
  | .easeStep _ => true
  | .pLimit _ _ _ _ _ => true
  | .openString _ _ _ _ => true
  | .shortString _ _ _ _ => true
  | .regulatorResume n _ => pageOfClass [.rat, .bridge] n
  | .regFault n _ _ => pageOfClass [.rat, .valve] n
  | .ledClamp _ _ _ _ => true
  | .rungRetest _ _ _ _ => true
  | .bypassRelease _ _ _ _ => true
  | .divChoice n => pageOfClass [.out, .rat, .sink] n
  | .dimLost _ => true
  | .sinkOpen _ _ _ => true
  | .highV _ _ _ => true
  | .foldback _ _ => true
  | .jb4410ImageWrite _ _ _ => true
  | .latch _ _ => true
  | .modeWrite _ _ => true
  | .messengerFrame _ => true
  | .refresh _ _ => true
  | .syncHeave _ => true
  | .echo _ _ _ _ replies => replies.all goodReply
  | .noEcho _ _ _ _ => true
  | .nodeInsertion _ _ => true
  | .nodeRemoval _ => true
  | .discover _ _ => true
  | .mapChain _ _ => true
  | .accept _ _ => true
  | .locate _ _ => true
  | .enumComplete _ nodes heard falls => decide (nodes.length ≤ 1024) && nodes.all (fun q => decide (q.drops.length ≤ 4)) && decide (heard.length ≤ 6) && decide (falls.length ≤ 11)
  | .lineShort _ _ => true
  | .poll _ _ _ => true
  | .satelliteSyncWrite _ _ _ _ => true
  | .peakEnd _ _ _ => true
  | .pullIn _ _ _ _ => true
  | .valveTurnOff _ => true
  | .decayEnd _ _ => true
  | .railUp _ _ _ _ => true
  | .recovering _ _ _ => true
  | .boostOv _ => true
  | .boostUv _ _ => true
  | .boostFault _ _ => true
  | .coilResistanceUpdate _ _ _ => true
  | .openCoil _ _ _ _ _ _ _ => true
  | .dutyBin _ _ _ _ _ => true
  | .vhsStuck _ _ => true
  | .inWindow _ _ _ _ => true
  | .long _ _ => true
  | .bandErr _ _ => true
  | .broken _ _ => true
  | .cleaningPulse _ _ => true
  | .touchScan readings => readings.length == 16
  | .stuck _ _ => true
  | .water _ _ => true
  | .shield _ _ => true
  | .shedTriggerBegin _ => true
  | .shedStageRaise _ _ => true
  | .shedStageLower _ _ => true
  | .shedEnWrite _ _ => true
  | .ceilWrite _ _ _ => true
  | .alive _ _ _ => true
  | .slackExpiry _ _ => true
  | .automaticResumption _ _ => true
  | .policyRead _ _ => true
  | .policyWrite _ _ => true
  | .store _ => true
  | .storeComplete => true
  | .gfreezeWrite _ _ => true
  | .boundWriteClamp _ _ _ _ => true
  | .layAssert _ => true
  | .laybreak _ _ _ _ => true
  | .faultnErr _ _ => true
  | .softWrite _ _ => true
  | .entryRead _ => true
  | .entryWrite _ => true
  | .haltNInput _ => true
  | .halt _ => true
  | .faultEntry => true
  | .tlogRead _ => true
  | .append _ => true
  | .loglineRecordWrite _ => true
  | .topStore => true
  | .clkDegraded _ => true
  | .crystalReturn _ => true
  | .reckonCalibration _ => true
  | .utcSet _ => true
  | .srcWrite _ _ => true
  | .issueGroup _ _ => true
  | .add _ _ _ _ _ _ _ => true
  | .sub _ _ _ _ _ _ _ => true
  | .adc _ _ _ _ _ _ _ => true
  | .sbc _ _ _ _ _ _ _ => true
  | .adds _ _ _ _ _ _ => true
  | .subs _ _ _ _ _ _ => true
  | .andOp _ _ _ _ _ _ => true
  | .orOp _ _ _ _ _ _ => true
  | .xorOp _ _ _ _ _ _ => true
  | .andn _ _ _ _ _ _ => true
  | .shl _ _ _ _ _ _ => true
  | .shr _ _ _ _ _ _ => true
  | .sar _ _ _ _ _ _ => true
  | .ror _ _ _ _ _ _ => true
  | .minOp _ _ _ _ _ _ => true
  | .maxOp _ _ _ _ _ _ => true
  | .minu _ _ _ _ _ _ => true
  | .maxu _ _ _ _ _ _ => true
  | .clz _ _ _ _ _ => true
  | .perm _ _ _ _ _ _ => true
  | .bfx _ _ _ _ _ _ => true
  | .bfxs _ _ _ _ _ _ => true
  | .bfi _ _ _ _ _ _ => true
  | .sel _ _ _ _ _ _ _ => true
  | .cmpeq _ _ _ _ _ _ => true
  | .cmpne _ _ _ _ _ _ => true
  | .cmplt _ _ _ _ _ _ => true
  | .cmpltu _ _ _ _ _ _ => true
  | .cmple _ _ _ _ _ _ => true
  | .cmpleu _ _ _ _ _ _ => true
  | .plog _ _ _ _ _ _ _ => true
  | .mvtx _ _ _ _ _ _ => true
  | .mvfx _ _ _ _ _ _ => true
  | .mvts _ _ _ _ _ => true
  | .mvfs _ _ _ _ _ => true
  | .addi _ _ _ _ _ _ => true
  | .andi _ _ _ _ _ _ => true
  | .ori _ _ _ _ _ _ => true
  | .xori _ _ _ _ _ _ => true
  | .shli _ _ _ _ _ _ => true
  | .shri _ _ _ _ _ _ => true
  | .sari _ _ _ _ _ _ => true
  | .bfxi _ _ _ _ _ _ _ => true
  | .bfii _ _ _ _ _ _ _ => true
  | .cmpeqi _ _ _ _ _ _ => true
  | .cmplti _ _ _ _ _ _ => true
  | .cmpltui _ _ _ _ _ _ => true
  | .movi _ _ _ _ _ => true
  | .movh _ _ _ _ _ => true
  | .mul _ _ _ _ _ => true
  | .mulh _ _ _ _ _ => true
  | .mulhu _ _ _ _ _ => true
  | .mulq _ _ _ _ _ => true
  | .mac _ _ _ _ _ _ _ => true
  | .mach _ _ _ _ _ _ _ => true
  | .macz _ _ _ _ _ _ _ => true
  | .macd _ _ _ _ _ _ _ => true
  | .mvfacc _ _ _ _ _ _ _ => true
  | .mvtacc _ _ _ _ _ => true
  | .ldoB _ _ _ _ _ => true
  | .ldoBu _ _ _ _ _ => true
  | .ldoH _ _ _ _ _ => true
  | .ldoHu _ _ _ _ _ => true
  | .ldoW _ _ _ _ _ => true
  | .stoB _ _ _ _ _ => true
  | .stoH _ _ _ _ _ => true
  | .stoW _ _ _ _ _ => true
  | .ldp _ _ _ _ _ _ => true
  | .stp _ _ _ _ _ => true
  | .ldx _ _ _ _ _ _ _ => true
  | .stx _ _ _ _ _ _ => true
  | .push _ _ _ => true
  | .pop _ _ _ => true
  | .swap _ _ _ _ => true
  | .sync _ _ => true
  | .accessComplete _ => true
  | .writeBufferDrain _ => true
  | .nop _ _ => true
  | .br _ _ _ => true
  | .call _ _ _ => true
  | .brdec _ _ _ => true
  | .brr _ _ _ => true
  | .callr _ _ _ => true
  | .ret _ _ => true
  | .reti _ _ => true
  | .rep _ _ _ => true
  | .repr _ _ _ => true
  | .wait _ _ => true
  | .trap _ _ _ => true
  | .breakOp _ _ => true
  | .interruptAccept _ => true
  | .irqSet _ _ _ => true
  | .coreStart _ _ => true
  | .coreStop _ _ => true
  | .load _ _ => true
  | .loadComplete _ => true
  | .coreReset _ _ => true
  | .dozeReq _ _ => true
  | .dozeExit _ => true
  | .txReq _ _ => true
  | .canObjRead _ _ => true
  | .canObjWrite _ _ => true
  | .abort _ _ => true
  | .recover _ _ => true
  | .canFrameSent _ => true
  | .canFrameReceived _ f => goodFrame f
  | .canError _ _ _ _ => true
  | .busOffRecovery _ _ => true
  | .txdDom _ _ => true
  | .canWup _ => true
  | .canPn _ f => goodFrame f
  | .canFec _ => true
  | .linStart _ _ => true
  | .linStop _ _ => true
  | .goToSleep _ _ => true
  | .linWake _ _ => true
  | .linFrameRead _ _ => true
  | .linFrameWrite _ _ => true
  | .linSlot _ _ _ data _ => decide (data.length ≤ 8)
  | .linHeader _ _ _ data _ => decide (data.length ≤ 8)
  | .linWakePulse _ _ => true
  | .busShort _ _ => true
  | .ptpSync port domain _ _ _ _ => decide (port < 6) && decide (domain < 256)
  | .ptpLost _ _ => true
  | .pdFrameReceived passing f => passing.all goodEth && goodPd f
  | .trdpPublish _ => true
  | .prReceived _ => true
  | .pdTmo _ _ => true
  | .prpSupervision _ => true
  | .linkChange _ _ => true
  | .telRead _ => true
  | .telWrite _ => true
  | .hitchLookup => true
  | .gapExpire _ => true
  | .hitchRead _ => true
  | .hitchWrite _ => true
  | .fidRead _ h items => goodEth h.eth && goodItems items.length
  | .fidWrite _ h items => goodEth h.eth && goodItems items.length
  | .fidCmd _ h items => goodEth h.eth && goodItems items.length
  | .resp _ h _ items => goodEth h.eth && goodItems items.length
  | .report _ h _ _ _ _ _ => goodEth h.eth
  | .hello _ h _ => goodEth h.eth
  | .subscribe _ h items => goodEth h.eth && goodItems items.length
  | .fidResend _ _ _ => true
  | .helloTimer _ => true
  | .peerLost _ _ => true
  | .epochEnd => true
  | .reportSend _ _ _ => true
  | .proxyGatherFlush _ _ => true
  | .proxyCacheRefresh _ _ => true
  | .fidPeerRead _ => true
  | .fidPeerWrite _ => true
  | .fidProxyRead _ => true
  | .fidProxyWrite _ => true
  | .spliceHello _ _ dev pref role digest => decide (dev < 65536) && decide (pref < 4) && decide (role < 4) && digest.length == 32
  | .intent _ _ units log _ _ => decide (units.length ≤ 128) && log.all (fun i => decide (i.1 < 6))
  | .intentSend _ => true
  | .edge _ _ e => decide (e.unit < 65536)
  | .edgeApply => true
  | .ack _ _ _ legs _ => decide (legs.length ≤ 128)
  | .ackSend _ => true
  | .ckpt _ _ => true
  | .ckptReceived _ _ _ _ img => ckptSound img
  | .spliceHealth _ _ _ => true
  | .partnerUnfit _ => true
  | .leadLost _ => true
  | .spliceProbe _ => true
  | .confirmEnd _ => true
  | .restoreComplete => true
  | .replayComplete _ => true
  | .partnerLost _ => true
  | .legMismatch _ _ _ => true
  | .pairTrip _ _ _ => true
  | .guardRead _ => true
  | .guardWrite _ => true
  | .sleep _ => true
  | .rollback => true
  | .prepareTimeout _ _ => true
  | .commit => true
  | .commitComplete => true
  | .wake _ table => table.all (fun e => e.2.length == 7)
  | .wakeN _ _ => true
  | .falseWake _ => true
  | .pllEnWrite _ _ => true
  | .coreSrcWrite _ _ => true
  | .pllLock _ => true
  | .pllUnlock => true
  | .hfRcTrim _ _ => true
  | .watchStep _ _ => true
  | .supply _ => true
  | .staticComparator _ _ _ => true
  | .nmMessage q => goodNm q
  | .nmForward _ => true
  | .ringSkip _ => true
  | .ringListenTimeout _ => true
  | .ringLost _ => true
  | .graceEnd _ => true
  | .networkRace => true
  | .consentWrite _ _ => true
  | .nmEnWrite _ _ => true
  | .generate _ _ _ _ => true
  | .importKey _ _ _ _ => true
  | .exportKey _ _ _ _ => true
  | .derive _ _ _ _ => true
  | .macGen _ _ _ _ => true
  | .macVer _ _ _ _ => true
  | .encrypt _ _ _ _ => true
  | .decrypt _ _ _ _ => true
  | .signMsg _ _ _ _ => true
  | .verify _ _ _ _ => true
  | .attest _ _ _ _ => true
  | .random _ _ _ _ => true
  | .zeroise _ _ _ _ => true
  | .lockSlot _ _ _ _ => true
  | .hash _ _ _ _ => true
  | .lockerNop _ _ _ _ => true
  | .lockerRequestDone => true
  | .slotRead _ => true
  | .writeAttr _ => true
  | .tamper _ _ _ => true
  | .tamperCfgWrite _ _ => true
  | .rngFail _ => true
  | .drbgReseed => true
  | .request _ => true
  | .withdraw _ => true
  | .tokenRead _ => true
  | .tokenWrite _ => true
  | .round => true
  | .tokenAnswer _ _ _ _ stat tag _ => decide (stat < 256) && tag.length == 8 && tag.all (fun b => decide (b < 256))
  | .roundOutcome => true
  | .lockoutEnd => true
  | .presenceRound _ => true
  | .absence _ => true
  | .releaseMessage _ => true
  | .antShort _ _ => true
  | .antOpen _ _ => true
  | .logicFeedStart _ _ _ fuses _ config => (fuses.order == 1 || fuses.order == 2) && fuses.bootOn.all (fun c => decide (c < 128)) && goodConfig config
  | .logicFeedStop _ _ _ => true
  | .watchdog _ config => goodConfig config
  | .update config => goodConfig config
  | .recoveryImage image config => decide (image.length ≤ 0x400000) && goodConfig config
  | .rollbackFloorRaise _ => true
  | .spliceLinkChange _ => true
  | .busIntegration _ => true
  | .feedReturn _ _ _ _ _ _ _ _ => true
  | .motorStopped _ _ _ => true
  | .thermalResume n _ => pageOfClass [.out, .bridge, .valve, .vhs, .boost] n
  | .boostReady _ _ => true
  | .failedAttemptExpiry => true
  | .spliceHelloTimer _ => true

end Sys2Proof
end

