-- ==== Sys2Proof/Certificates/Slice0/Obligations.lean ====
section
/-! DEFINITION. The statements for the provers. A row whose clause reads `exec … = .next (s.after u)` says where the row completes and what its
own effect `u` is; what follows in other units is `State.after` (Sys2Proof/Safety.lean). -/

open Sys2Proof Sys2Proof.Machine

/-- A command at a present unit's page that no rule turns away, that is no duplicate, finds the unit not BUSY and is not refused takes its code's effect, LAST_SEQ takes its SEQ, and the block goes on; a self-test that ends and a command held while BUSY likewise. (02_units_and_pages.md R63, 02_units_and_pages.md R66, 02_units_and_pages.md R67, 02_units_and_pages.md R69) -/
def Obligations.CommandsComplete : Prop :=
  (∀ (s : State) (src : Src) (n : Fin 32768) (seq : BitVec 16), s.m.mainOff = false →
      s.m.cmdOpen src n seq 0 →
      exec (.cmdNop src n seq) s = .next (s.after (s.m.commanded src n seq (fun m => m)))) ∧
  (∀ (s : State) (src : Src) (n : Fin 32768) (seq : BitVec 16), s.m.mainOff = false →
      n.val ≠ pgTether →
      n.val ≠ pgSplice →
      s.m.cmdOpen src n seq 1 →
      s.m.accepts n (fun m => m.enableUnit n) →
      exec (.enable src n seq) s = .next (s.after (s.m.commanded src n seq (fun m => m.enableUnit n)))) ∧
  (∀ (s : State) (src : Src) (n : Fin 32768) (seq : BitVec 16), s.m.mainOff = false →
      (info (clsOf n)).noDisable = false →
      s.m.cmdOpen src n seq 2 →
      s.m.accepts n (fun m => m.disableUnit n) →
      exec (.disable src n seq) s = .next (s.after (s.m.commanded src n seq (fun m => m.disableUnit n)))) ∧
  (∀ (s : State) (src : Src) (n : Fin 32768) (seq : BitVec 16), s.m.mainOff = false →
      n.val ≠ pgPolicy →
      s.m.cmdOpen src n seq 3 →
      s.m.accepts n (fun m => m.applyUnit n) →
      exec (.apply src n seq) s = .next (s.after (s.m.commanded src n seq (fun m => m.applyUnit n)))) ∧
  (∀ (s : State) (src : Src) (n : Fin 32768) (seq : BitVec 16) (persist : Word), s.m.mainOff = false →
      n.val ≠ pgLocker →
      ((s.m.persist n persist).cmdOpen src n seq 4) →
      exec (.clearFaults src n seq persist) s = .next (s.after ((((s.m.persist n persist).clearFaults n).seqSet n seq).setDirect src false n 0x008))) ∧
  (∀ (s : State) (src : Src) (n : Fin 32768) (seq : BitVec 16), s.m.mainOff = false →
      s.m.cmdOpen src n seq 5 →
      (s.m.accepts n (fun m => m.selftestUnit n)) →
      exec (.selftest src n seq) s = .next (s.after (s.m.commanded src n seq (fun m => m.selftestUnit n)))) ∧
  (∀ (s : State) (src : Src) (n : Fin 32768) (seq : BitVec 16), s.m.mainOff = false →
      s.m.cmdOpen src n seq 6 →
      s.m.accepts n (fun m => m.freezeUnit n) →
      exec (.freeze src n seq) s = .next (s.after (s.m.commanded src n seq (fun m => m.freezeUnit n)))) ∧
  (∀ (s : State) (src : Src) (n : Fin 32768) (seq : BitVec 16), s.m.mainOff = false →
      s.m.cmdOpen src n seq 7 →
      s.m.accepts n (fun m => m.thawLogged n) →
      exec (.thaw src n seq) s = .next (s.after (s.m.commanded src n seq (fun m => m.thawLogged n)))) ∧
  (∀ (s : State) (n : Fin 32768) (w : Word), s.m.mainOff = false →
      (s.m.unit n).held = some w →
      s.m.flag n Hdr.BUSY = false →
      s.m.leadHeld n = false →
      exec (.heldCommandExecute n) s = .next (s.after (((s.m.modUnit n fun u => { u with held := none }).runCode n w).2))) ∧
  (∀ (s : State) (n : Fin 32768) (pass : Bool) (fail : Fin 16), s.m.mainOff = false →
      n.val ≠ pgLocker →
      (s.m.unit n).test.isSome = true →
      s.m.st n = 5 →
      exec (.testComplete n pass fail) s = .next (s.after (s.m.testDone n pass)))

/-- A write of a page register that no reason of R74 refuses stores what its register takes; the header registers, a Bight's window, a reserved page and a narrow access have the effects of their own rules. (02_units_and_pages.md R55, 02_units_and_pages.md R58, 02_units_and_pages.md R62, 02_units_and_pages.md R70, 02_units_and_pages.md R74, 02_units_and_pages.md R79, 02_units_and_pages.md R84) -/
def Obligations.PageWritesComplete : Prop :=
  (∀ (s : State) (src : Src) (n : Fin 32768) (r : Fin 1024) (v : Word), s.m.mainOff = false →
      r.val ≠ 2 →
      s.m.takes src n (4 * r) v →
      exec (.registerWrite src n r v) s = .next (s.after (s.m.ran src n (4 * r) (fun m => if 4 * r.val < 0x040 then m.headerWrite n (4 * r) v else m.classWrite src n (4 * r) v)))) ∧
  (∀ (s : State) (src : Src) (n : Fin 32768) (r : Fin 1024) (v : Word), s.m.mainOff = false →
      0x40 ≤ 4 * r.val →
      (((s.m.setFlag n Hdr.REJECT false).special src n (4 * r) v).isNone = true) →
      ((rwsOffs (clsOf n)).contains (4 * r.val) = true) →
      s.m.takes src n (4 * r) v →
      exec (.shadowWrite src n r v) s = .next (s.after (s.m.ran src n (4 * r) (fun m => (m.store n (4 * r) v).stored n (4 * r) (m.reg n (4 * r)))))) ∧
  (∀ (s : State) (src : Src) (n : Fin 32768) (v persist : Word), s.m.mainOff = false →
      ((s.m.persist n persist).takes src n 0x018 v) →
      exec (.faultSetClear src n v persist) s = .next (s.after ((s.m.persist n persist).ran src n 0x018 (fun m => m.clearBits n v)))) ∧
  (∀ (s : State) (n : Fin 32768) (b : Fin 32) (holds : Bool), s.m.mainOff = false →
      s.m.occupied n →
      s.m.absent n = false →
      (Nat.testBit (info (clsOf n)).srcs b = true) →
      holds = false →
      exec (.faultSourceSet n b holds) s = .next (s.after (((s.m.modUnit n fun u => u).raise n b).actUnit n b))) ∧
  (∀ (s : State) (src : Src) (n : Fin 32768) (v : Word), s.m.mainOff = false →
      s.m.takes src n 0x024 v →
      exec (.parentWrite src n v) s = .next (s.after (s.m.ran src n 0x024 (fun m => m.parentWrite n (v.toNat % 65536))))) ∧
  (∀ (s : State) (src : Src) (n : Fin 32768) (v : Word), s.m.mainOff = false →
      s.m.takes src n 0x02C v →
      exec (.lockWrite src n v) s = .next (s.after (s.m.ran src n 0x02C (fun m => m.lockWrite n v)))) ∧
  (∀ (s : State) (src : Src) (n : Fin 32768) (r : Fin 1024) (v : Word), s.m.mainOff = false →
      r.val ≠ 2 →
      s.m.occupied n = false →
      exec (.strayWrite src n r v) s = .next (s.after (s.m.stray n (4 * r)))) ∧
  (∀ (s : State) (c : Fin 6) (n : Fin 32768) (off : Fin 4096), s.m.mainOff = false →
      s.m.entering = false →
      s.m.coreSt c = 2 →
      (s.m.core c).stall.isNone = true →
      (s.m.core c).closing = false →
      exec (.narrowAccess c n off) s = .next (s.afterState ({ s with m := s.m.coreTrap c ⟨2, 6, 0, 3, some (0x60000000 + 4096 * n + off)⟩ (s.m.core c).pc (s.m.core c).status }))) ∧
  (∀ (s : State) (src : Src) (b : Fin 8192) (r : Fin 1024) (v : Word), s.m.mainOff = false →
      0x40 ≤ 4 * r.val →
      4 * r.val < 0xF00 →
      ((s.m.gate src (pgBight b) (4 * r)).isNone = true) →
      s.m.leafCode (pgBight b) ≠ 0 →
      s.m.flag (pgBight b) Hdr.LOCKED = false →
      exec (.bightWindowWrite src b r v) s = .next (s.after (s.m.fanWrite src (pgBight b) (4 * r) v 0xFFFFFFFF#32))) ∧
  (∀ (s : State) (src : Src) (n : Fin 32768) (v : Word), s.m.mainOff = false →
      s.m.takes src n 0x028 v →
      exec (.baseCapWrite src n v) s = .next (s.after (s.m.ran src n 0x028 (fun m => m.baseWrite n (v.toNat % 8))))) ∧
  (∀ (s : State) (src : Src) (n : Fin 32768) (r : Fin 1024) (v : Word), s.m.mainOff = false →
      0x40 ≤ 4 * r.val →
      (((s.m.setFlag n Hdr.REJECT false).special src n (4 * r) v).isNone = true) →
      s.m.takes src n (4 * r) v →
      exec (.boundWriteClamp src n r v) s = .next (s.after (s.m.ran src n (4 * r) (fun m => (m.store n (4 * r) v).stored n (4 * r) (m.reg n (4 * r))))))

/-- Each event at an output channel whose condition the readings meet has the effect its rule gives: the start phase, the inrush window, trips and retries, and the checks of chapter 4. (04_protected_outputs.md R130, 04_protected_outputs.md R131, 04_protected_outputs.md R132, 04_protected_outputs.md R133, 04_protected_outputs.md R134, 04_protected_outputs.md R135, 04_protected_outputs.md R137) -/
def Obligations.OutputsComplete : Prop :=
  (∀ (s : State) (c : Fin 128) (vOut : Int), s.m.mainOff = false →
      ((s.m.readOut c vOut).flag (pgOut c) Out.STARTING) →
      (((s.m.readOut c vOut).rail (bankOf (pgOut c)) : Int) - 150 ≤ vOut) →
      exec (.startSuccess c vOut) s = .next (s.after ((s.m.readOut c vOut).startEnds c))) ∧
  (∀ (s : State) (c : Fin 128) (ms : Nat), s.m.mainOff = false →
      s.m.flag (pgOut c) Out.STARTING →
      s.m.fld (s.m.outCfg c) Out.TSTART ≤ ms →
      exec (.startTimeout c ms) s = .next (s.after (s.m.outTrip c (2 ^ 4)))) ∧
  (∀ (s : State) (c : Fin 128) (mj : Nat), s.m.mainOff = false →
      s.m.flag (pgOut c) Out.STARTING →
      (outStartMj c * s.m.fld (pgOut c) Out.F ≤ mj * 100) →
      exec (.startEnergyCap c mj) s = .next (s.after (s.m.outTrip c (2 ^ 4)))) ∧
  (∀ (s : State) (c : Fin 128) (ms : Nat), s.m.mainOff = false →
      s.m.fld (s.m.outCfg c) Out.TINRUSH ≤ ms →
      exec (.inrushEnd c ms) s = .next (s.after (s.m.setFlag (pgOut c) Out.INRUSH false))) ∧
  (∀ (s : State) (n : Fin 32768) (ma : Int), s.m.mainOff = false →
      clsOf n = .out →
      (s.m.flag (pgOut (n - 0x20)) Out.STARTING = false) →
      2 * s.m.outRating (n - 0x20) < ma.natAbs →
      exec (.shortCircuit n ma) s = .next (s.after (s.m.outTrip (n - 0x20) (2 ^ 0)))) ∧
  (∀ (s : State) (c : Fin 128) (avg sum : Int) (t : Nat), s.m.mainOff = false →
      (s.m.group c).length ≤ 1 →
      s.m.outThreshold c < avg.natAbs →
      s.m.flag (pgOut c) Out.STARTING = false →
      s.m.fld (s.m.outCfg c) Out.TRIP ≤ t →
      exec (.overcurrent c avg sum t) s = .next (s.after (s.m.outTrip c (2 ^ 1)))) ∧
  (∀ (s : State) (c : Fin 128) (avg sum : Int) (t : Nat), s.m.mainOff = false →
      1 < (s.m.group c).length →
      ((s.m.group c).length * s.m.groupLimit c < sum.natAbs ∨ s.m.outRating c < avg.natAbs) →
      s.m.flag (pgOut c) Out.STARTING = false →
      s.m.fld (s.m.outCfg c) Out.TRIP ≤ t →
      exec (.overcurrent c avg sum t) s = .next (s.after (s.m.outTrip c (2 ^ 1)))) ∧
  (∀ (s : State) (n : Fin 32768) (tj : Int), s.m.mainOff = false →
      clsOf n = .out →
      1700 ≤ tj →
      exec (.thermal n tj) s = .next (s.after (((s.m.setSFld (pgOut (n - 0x20)) Out.TJ tj).modOut (n - 0x20) fun a => { a with hot := true }).outTrip (n - 0x20) (2 ^ 2)))) ∧
  (∀ (s : State) (n : Fin 32768) (tj : Int), s.m.mainOff = false →
      clsOf n = .out →
      (((s.m.setSFld (pgOut (n - 0x20)) Out.TJ tj).out (n - 0x20)).hot = true) →
      tj < 1500 →
      exec (.thermalResume n tj) s = .next (s.after (((s.m.setSFld (pgOut (n - 0x20)) Out.TJ tj).modOut (n - 0x20) fun a => { a with hot := false }).groupSettle (n - 0x20)))) ∧
  (∀ (s : State) (n : Fin 32768) (tj : Int), s.m.mainOff = false →
      clsOf n = .bridge →
      (((s.m.setSFld n Bridge.TJ tj).br (n - 0xA0)).hot = true) →
      tj < 1500 →
      exec (.thermalResume n tj) s = .next (s.after (((s.m.setSFld n Bridge.TJ tj).modBr (n - 0xA0) fun a => { a with hot := false }).brSettle (n - 0xA0) true))) ∧
  (∀ (s : State) (n : Fin 32768) (tj : Int), s.m.mainOff = false →
      clsOf n = .out →
      (((s.m.setSFld n Out.TJ tj).out (n - 0x20)).warm = false) →
      (10 * ((s.m.setSFld n Out.TJ tj).fld ((s.m.setSFld n Out.TJ tj).outCfg (n - 0x20)) Out.TJ_WARN : Int) < tj) →
      (10 * (s.m.fld (s.m.outCfg (n - 0x20)) Out.TJ_WARN : Int) < tj) →
      exec (.tjWarn n tj) s = .next (s.after (((s.m.setSFld n Out.TJ tj).modOut (n - 0x20) fun a => { a with warm := true }).outRaise (n - 0x20) (2 ^ 3)))) ∧
  (∀ (s : State) (c : Fin 128) (ms : Nat) (tj : Int) (w : Nat), s.m.mainOff = false →
      s.m.secondHeld (pgOut c) = false →
      (((s.m.setSFld (pgOut c) Out.TJ tj).out c).wait = some w) →
      w ≤ ms →
      exec (.retry c ms tj) s = .next (s.after (((s.m.setSFld (pgOut c) Out.TJ tj).modOut c fun a => { a with hot := a.hot && decide (1500 ≤ tj), retryDue := true }).groupSettle c))) ∧
  (∀ (s : State) (c : Fin 128) (ms : Nat), s.m.mainOff = false →
      s.m.outDemand c →
      (s.m.flag (pgOut c) Out.RETRY_WAIT = false) →
      10000 ≤ ms →
      exec (.retrySeriesReset c ms) s = .next (s.after (s.m.setFld (pgOut c) Out.RETRIES 0))) ∧
  (∀ (s : State) (n : Fin 32768) (mj : Nat), s.m.mainOff = false →
      clsOf n = .out →
      outClampMj (n - 0x20) < mj →
      exec (.clamp n mj) s = .next (s.after ((s.m.modOut (n - 0x20) fun a => { a with clampMj := mj }).outRaise (n - 0x20) (2 ^ 11)))) ∧
  (∀ (s : State) (c : Fin 128) (cur vOut : Int) (us : Nat), s.m.mainOff = false →
      ((s.m.readOut c vOut).flag (pgOut c) Out.GATE) →
      ((s.m.readOut c vOut).flag (pgOut c) Out.STARTING = false) →
      (cur < (s.m.readOut c vOut).fld ((s.m.readOut c vOut).outCfg c) Out.ILIM) →
      (vOut < ((s.m.readOut c vOut).rail (bankOf (pgOut c)) : Int) - 300) →
      ((s.m.readOut c vOut).fld (pgBank (bankOf (pgOut c))) Bank.LOSS_V ≤ (s.m.readOut c vOut).rail (bankOf (pgOut c))) →
      1000 ≤ us →
      exec (.switchOpen c cur vOut us) s = .next (s.after ((s.m.readOut c vOut).outRaise c (2 ^ 12)))) ∧
  (∀ (s : State) (c : Fin 128) (cur : Int) (us : Nat), s.m.mainOff = false →
      s.m.flag (pgOut c) Out.GATE = false →
      50 < cur →
      1000 ≤ us →
      exec (.switchStuck c cur us) s = .next (s.after (s.m.outRaise c (2 ^ 13))))

/-- The diagnostics of an output (open load, back-feed, parallel channels, sharing, synchronisation) whose condition the readings meet have the effect their rules give. (04_protected_outputs.md R128, 04_protected_outputs.md R129, 04_protected_outputs.md R138, 04_protected_outputs.md R139, 04_protected_outputs.md R140, 04_protected_outputs.md R143, 04_protected_outputs.md R145) -/
def Obligations.OutputChecksComplete : Prop :=
  (∀ (s : State) (c : Fin 128) (cur : Int) (ms : Nat), s.m.mainOff = false →
      s.m.fld (pgOut c) Out.OPEN_ON ≠ 0 →
      cur < s.m.fld (pgOut c) Out.OPEN_ON →
      s.m.flag (pgOut c) Out.GATE →
      (s.m.fld (pgBank (bankOf (pgOut c))) Bank.LOSS_V ≤ s.m.rail (bankOf (pgOut c))) →
      100 ≤ ms →
      exec (.openOn c cur ms) s = .next (s.after (s.m.outRaise c (2 ^ 6)))) ∧
  (∀ (s : State) (c : Fin 128) (vOut : Int), s.m.mainOff = false →
      s.m.flag (pgOut c) Out.OFFDIAG →
      s.m.flag (pgOut c) Out.GATE = false →
      350 < vOut →
      exec (.offdiagPulse c vOut) s = .next (s.after ((s.m.readOut c vOut).outRaise c (2 ^ 7)))) ∧
  (∀ (s : State) (c : Fin 128) (vOut : Int) (ms : Nat), s.m.mainOff = false →
      ((s.m.readOut c vOut).flag (pgOut c) Out.GATE = false) →
      (vOut < 200 ∨ (s.m.readOut c vOut).fld (pgOut c) Out.BF_BLANK ≤ ms) →
      exec (.bfArm c vOut ms) s = .next (s.after ((s.m.readOut c vOut).setFlag (pgOut c) Out.BF_ARMED true))) ∧
  (∀ (s : State) (c : Fin 128) (vOut : Int) (us : Nat) (pulse partnerOff : Bool), s.m.mainOff = false →
      ((s.m.readOut c vOut).flag (pgOut c) Out.GATE = false) →
      ((s.m.readOut c vOut).flag (pgOut c) Out.BF_ARMED = true) →
      ((s.m.readOut c vOut).flag (pgOut c) Out.DUPLEX = false) →
      ((s.m.readOut c vOut).src (pgOut c) 9 = false) →
      pulse = false →
      200 < vOut →
      50 ≤ us →
      exec (.backfeed c vOut us pulse partnerOff) s = .next (s.after (((s.m.readOut c vOut).incSat (pgOut c) Out.BACKFEEDS).outRaise c (2 ^ 8)))) ∧
  (∀ (s : State) (c : Fin 128) (vOut : Int) (us : Nat) (pulse partnerOff : Bool), s.m.mainOff = false →
      ((s.m.readOut c vOut).flag (pgOut c) Out.GATE = true) →
      (((s.m.readOut c vOut).rail (bankOf (pgOut c)) : Int) + 200 < vOut) →
      10 ≤ us →
      exec (.backfeed c vOut us pulse partnerOff) s = .next (s.after (((s.m.readOut c vOut).incSat (pgOut c) Out.BACKFEEDS).outRaise c (2 ^ 8)))) ∧
  (∀ (s : State) (c d : Fin 128) (e : WireEdge), s.m.mainOff = false →
      c.val ≠ d.val →
      bankOf (pgOut c) = bankOf (pgOut d) →
      s.m.fld (pgOut c) Out.GROUP = 0 →
      s.m.wiredAt c d e →
      exec (.parallelUndeclared c d e) s = .next (s.after ((s.m.outRaise c (2 ^ 9)).outRaise d (2 ^ 9)))) ∧
  (∀ (s : State) (c : Fin 128) (cur sum ms : Nat), s.m.mainOff = false →
      s.m.flag (pgOut c) Out.DUPLEX = false →
      2 ≤ (s.m.group c).length →
      ((s.m.group c).length * s.m.fld (s.m.outCfg c) Out.ILIM ≤ 4 * sum) →
      1000 ≤ ms →
      (s.m.fld (pgOut c) Out.IMB * sum < 100 * (((s.m.group c).length * cur : Int) - sum).natAbs) →
      exec (.share c cur sum ms) s = .next (s.after (s.m.outRaise c (2 ^ 10)))) ∧
  (∀ (s : State) (c : Fin 128) (cur sum ms : Nat), s.m.mainOff = false →
      s.m.flag (pgOut c) Out.DUPLEX = true →
      (2 * s.m.fld (s.m.outCfg c) Out.ILIM ≤ 4 * sum) →
      1000 ≤ ms →
      (s.m.fld (pgOut c) Out.IMB * sum < 100 * ((2 * cur : Int) - sum).natAbs) →
      exec (.share c cur sum ms) s = .next (s.after (s.m.outRaise c (2 ^ 10)))) ∧
  (∀ (s : State) (n : Fin 32768), s.m.mainOff = false →
      clsOf n = .out →
      (s.m.out (n - 0x20)).drive.mode = 2 →
      s.m.flag (pgOut (n - 0x20)) Out.GATE →
      s.m.baseLost (pgOut (n - 0x20)) →
      exec (.syncLost n) s = .next (s.after ((s.m.takeDrive (n - 0x20) (s.m.out (n - 0x20)).drive).outRaise (n - 0x20) (2 ^ 15)))) ∧
  (∀ (s : State) (n : Fin 32768), s.m.mainOff = false →
      clsOf n = .out →
      s.m.flag (pgOut (n - 0x20)) Out.GATE →
      (s.m.wantDrive (n - 0x20)).conducts →
      (s.m.wantDrive (n - 0x20)).mode ≠ 0 →
      exec (.pwmPeriodStart n) s = .next (s.after (s.m.takeDrive (n - 0x20) (s.m.wantDrive (n - 0x20))))) ∧
  (∀ (s : State) (n : Fin 32768), s.m.mainOff = false →
      clsOf n = .bridge →
      exec (.pwmPeriodStart n) s = .next (s.after (s.m.setFlag n Bridge.LIMITING false)))

/-- Each reading of a bank that meets a condition of R153 sets the status, count and source the rule gives; a trip reaches the units of the bank; a taken CFG write changes the class. (04_protected_outputs.md R153, 04_protected_outputs.md R154, 04_protected_outputs.md R156, 01_module_and_connectors.md R17) -/
def Obligations.BanksComplete : Prop :=
  (∀ (s : State) (k : Fin 4) (b : Bool) (cur : Int), s.m.mainOff = false →
      cur < 0 →
      exec (.idealDiodeOff k b cur) s = .next (s.after (((s.m.setFlag (pgBank k) (if b then Bank.B_ON else Bank.A_ON) false).setFld (pgBank k) (if b then Bank.IB else Bank.IA) 0).bankAfter k))) ∧
  (∀ (s : State) (k : Fin 4) (b : Bool) (v ms : Nat), s.m.mainOff = false →
      b = false →
      (s.m.setFeed k false v).feedUsed k false →
      (v < (s.m.setFeed k false v).fld (pgBank k) Bank.LOSS_V) →
      ((s.m.setFeed k false v).fld (pgBank k) Bank.LOSS_T ≤ ms) →
      ((s.m.setFeed k false v).flag (pgBank k) Bank.A_LOST = false) →
      exec (.aLost k b v ms) s = .next (s.after (((((s.m.setFeed k false v).incSat (pgBank k) Bank.A_LOSSES).setFlag (pgBank k) Bank.A_LOST true).raise (pgBank k) 0).bankAfter k))) ∧
  (∀ (s : State) (k : Fin 4) (v ms : Nat), s.m.mainOff = false →
      (s.m.setRail k v).anyUsed k →
      (v < (s.m.setRail k v).fld (pgBank k) Bank.LOSS_V) →
      ((s.m.setRail k v).fld (pgBank k) Bank.LOSS_T ≤ ms) →
      exec (.railLost k v ms) s = .next (s.after (((s.m.setRail k v).raise (pgBank k) 2).bankAfter k))) ∧
  (∀ (s : State) (k : Fin 4) (v ms : Nat), s.m.mainOff = false →
      (s.m.setRail k v).anyUsed k →
      (v < (s.m.setRail k v).fld (pgBank k) Bank.SAG_V) →
      ((s.m.setRail k v).fld (pgBank k) Bank.SAG_T ≤ ms) →
      exec (.sag k v ms) s = .next (s.after ((((s.m.setRail k v).setFlag (pgBank k) Bank.SAG true).raise (pgBank k) 3).bankAfter k))) ∧
  (∀ (s : State) (k : Fin 4) (b : Bool) (v ms : Nat), s.m.mainOff = false →
      b = true →
      ((s.m.setFeed k true v).fld (pgBank k) Bank.OV_V < (s.m.setFeed k true v).fld (pgBank k) Bank.VB) →
      ((s.m.setFeed k true v).fld (pgBank k) Bank.OV_T ≤ ms) →
      exec (.overvolt k b v ms) s = .next (s.after ((((s.m.setFeed k true v).setFlag (pgBank k) Bank.OV true).raise (pgBank k) 4).bankAfter k))) ∧
  (∀ (s : State) (k : Fin 4) (mean now : Int), s.m.mainOff = false →
      (((s.m.setSFld (pgBank k) Bank.IR now).fld (pgBank k) Bank.LIM : Int) < mean) →
      exec (.bankOc k mean now) s = .next (s.after (((s.m.setSFld (pgBank k) Bank.IR now).setFlag (pgBank k) Bank.OC true).raise (pgBank k) 5))) ∧
  (∀ (s : State) (k : Fin 4) (cur : Int) (ms : Nat), s.m.mainOff = false →
      15000 < cur →
      10 ≤ ms →
      ((s.m.setSFld (pgBank k) Bank.IR cur).src (pgBank k) 6 = false) →
      exec (.bankTrip k cur ms) s = .next (s.after ((s.m.setSFld (pgBank k) Bank.IR cur).bankTrip k 6))) ∧
  (∀ (s : State) (k : Fin 4) (tb : Int), s.m.mainOff = false →
      (10 * ((s.m.setSFld (pgBank k) Bank.TEMP tb).fld (pgBank k) Bank.BP_WARN : Int) < tb) →
      exec (.bpWarn k tb) s = .next (s.after (((s.m.setSFld (pgBank k) Bank.TEMP tb).setFlag (pgBank k) Bank.BP_WARN_64 true).raise (pgBank k) 7))) ∧
  (∀ (s : State) (k : Fin 4) (tb : Int) (ms : Nat), s.m.mainOff = false →
      1000 ≤ tb →
      1000 ≤ ms →
      ((s.m.setSFld (pgBank k) Bank.TEMP tb).src (pgBank k) 8 = false) →
      exec (.bpTrip k tb ms) s = .next (s.after ((s.m.setSFld (pgBank k) Bank.TEMP tb).bankTrip k 8))) ∧
  (∀ (s : State) (k : Fin 4) (b : Bool) (v ms : Nat), s.m.mainOff = false →
      b = false →
      ((s.m.readFeed k false v).flag (pgBank k) Bank.A_ON = false) →
      (s.m.readFeed k false v).rail k + 50 < v →
      10 ≤ ms →
      exec (.diode k b v ms) s = .next (s.after (((s.m.readFeed k false v).raise (pgBank k) 9).bankAfter k))) ∧
  (∀ (s : State) (k : Fin 4) (b : Bool) (v : Nat), s.m.mainOff = false →
      b = false →
      ((s.m.setFeed k false v).feedUsed k false = false) →
      500 < v →
      exec (.unusedLive k b v) s = .next (s.after ((((s.m.setFeed k false v).setFlag (pgBank k) Bank.UNUSED_LIVE true).raise (pgBank k) 10).bankAfter k))) ∧
  (∀ (s : State) (src : Src) (k : Fin 4) (v : Word), s.m.mainOff = false →
      s.m.takes src (pgBank k) 0x040 v →
      exec (.bankClassWrite src k v) s = .next (s.after (s.m.ran src (pgBank k) 0x040 (fun m => m.bankCfg k v)))) ∧
  (∀ (s : State) (k : Fin 4) (vA vB vR : Nat) (iA iB iR : Int) (ms : Nat), s.m.mainOff = false →
      exec (.feedReturn k vA vB vR iA iB iR ms) s = .next (s.after (((s.m.readCurrents k iA iB iR).feedReturn k vA vB vR ms).bankAfter k)))

/-- Each window, check, classification and ledger event of an output has the effect its rule gives. (05_load_sensing_and_lifetime.md R159, 05_load_sensing_and_lifetime.md R160, 05_load_sensing_and_lifetime.md R164, 05_load_sensing_and_lifetime.md R168, 05_load_sensing_and_lifetime.md R170, 05_load_sensing_and_lifetime.md R173, 05_load_sensing_and_lifetime.md R174, 05_load_sensing_and_lifetime.md R176, 05_load_sensing_and_lifetime.md R179, 05_load_sensing_and_lifetime.md R181) -/
def Obligations.SensingComplete : Prop :=
  (∀ (s : State) (c : Fin 128) (offset : Int), s.m.mainOff = false →
      s.m.entering = false →
      s.m.flag (pgOut c) Out.GATE = false →
      exec (.offsetRecalibration c offset) s = .next (s.afterPage (s.m.modOut c fun a => { a with offset := offset }))) ∧
  (∀ (s : State) (c : Fin 128) (toggles : Bool) (ref : Nat), s.m.mainOff = false →
      toggles = false →
      970 ≤ ref →
      ref ≤ 1030 →
      (s.m.out c).digiFails = 1 →
      exec (.digiFault c toggles ref) s = .next (s.after ((s.m.modOut c fun a => { a with digiFails := 2, refFails := 0 }).outRaise c (2 ^ 22)))) ∧
  (∀ (s : State) (c : Fin 128) (us f0 f1 f2 f3 : Nat) (raw : List Int) (iSlow : Int), s.m.mainOff = false →
      500 ≤ us →
      exec (.arcScoreUpdate c us f0 f1 f2 f3 raw iSlow) s = .next (s.after ((s.m.readWindow c raw iSlow).arcScored c f0 f1 f2 f3))) ∧
  (∀ (s : State) (c : Fin 128) (us f0 f1 f2 f3 : Nat) (raw : List Int) (iSlow : Int), s.m.mainOff = false →
      us < 500 →
      exec (.arcScoreUpdate c us f0 f1 f2 f3 raw iSlow) s = .next (s.after (((s.m.readWindow c raw iSlow).modOut c fun a => { a with blind := min (((s.m.readWindow c raw iSlow).out c).blind + 1) 100 }).setFlag (pgOut c) Out.BLIND (min (((s.m.readWindow c raw iSlow).out c).blind + 1) 100 == 100)))) ∧
  (∀ (s : State) (c : Fin 128), s.m.mainOff = false →
      s.m.entering = false →
      s.m.trains c →
      exec (.arcBaselineUpdate c) s = .next (s.afterPage (((((s.m.trainBase c 0 Out.BASE0).trainBase c 1 Out.BASE1).trainBase c 2 Out.BASE2).trainBase c 3 Out.BASE3).nextSecond c))) ∧
  (∀ (s : State) (src : Src) (c : Fin 128), s.m.mainOff = false →
      s.m.takes src (pgOut c) 0x140 1 →
      exec (.snapGo src c) s = .next (s.after (s.m.ran src (pgOut c) 0x140 (fun m => (m.store (pgOut c) 0x140 1).snapGo c)))) ∧
  (∀ (s : State) (samples : List (BitVec 16)), s.m.mainOff = false →
      s.m.snap = some 5 →
      exec (.snapshotComplete samples) s = .next (s.afterState ({ s with m := s.m.snapDone, mem := writeHalves (s.m.reg (pgOut 5) Out.SNAP_ADDR.off).toNat (samples.take 4096) s.mem }))) ∧
  (∀ (s : State) (c : Fin 128) (final peak20 settle b0 b1 b2 b3 : Nat), s.m.mainOff = false →
      s.m.flag (pgOut c) Out.GATE →
      (s.m.out c).byRetry = false →
      final ≠ 0 →
      exec (.loadClassification c final peak20 settle b0 b1 b2 b3) s = .next (s.after (s.m.classified c (min 0xFFFF (peak20 * 100 / final)) final settle b0 b1 b2 b3))) ∧
  (∀ (s : State) (c : Fin 128) (final peak20 settle b0 b1 b2 b3 : Nat), s.m.mainOff = false →
      s.m.flag (pgOut c) Out.GATE →
      (s.m.out c).byRetry = false →
      final = 0 →
      exec (.loadClassification c final peak20 settle b0 b1 b2 b3) s = .next (s.after (s.m.free.2.classified c (s.m.free.1 % 65536) 0 settle b0 b1 b2 b3))) ∧
  (∀ (s : State) (c : Fin 128) (mean iSlow : Int) (ms : Nat), s.m.mainOff = false →
      s.m.entering = false →
      s.m.flag (pgOut c) Out.EN →
      s.m.flag (pgOut c) Out.GATE →
      s.m.flag (pgOut c) Out.STARTING = false →
      s.m.flag (pgOut c) Out.INRUSH = false →
      (s.m.flag (pgOut c) Out.RETRY_WAIT = false) →
      (s.m.out c).drive.mode = 0 →
      (s.m.out c).refStale = false →
      (s.m.fld (pgOut c) Out.STEP ≤ (mean - s.m.sfld (pgOut c) Out.REF).natAbs) →
      0 < s.m.fld (pgOut c) Out.STEP →
      s.m.fld (pgOut c) Out.HOLD * 10 ≤ ms →
      0 < mean - s.m.sfld (pgOut c) Out.REF →
      exec (.plug c mean iSlow ms) s = .next (s.afterPage (((s.m.incWrap (pgOut c) Out.PLUGS).setSFld (pgOut c) Out.STEP_LAST (mean - s.m.sfld (pgOut c) Out.REF)).setSFld (pgOut c) Out.REF mean))) ∧
  (∀ (s : State) (c : Fin 128) (mean iSlow : Int) (ms : Nat), s.m.mainOff = false →
      s.m.entering = false →
      s.m.flag (pgOut c) Out.EN →
      s.m.flag (pgOut c) Out.GATE →
      s.m.flag (pgOut c) Out.STARTING = false →
      s.m.flag (pgOut c) Out.INRUSH = false →
      (s.m.flag (pgOut c) Out.RETRY_WAIT = false) →
      (s.m.out c).drive.mode = 0 →
      (s.m.out c).refStale = false →
      (s.m.fld (pgOut c) Out.STEP ≤ (mean - s.m.sfld (pgOut c) Out.REF).natAbs) →
      0 < s.m.fld (pgOut c) Out.STEP →
      s.m.fld (pgOut c) Out.HOLD * 10 ≤ ms →
      mean - s.m.sfld (pgOut c) Out.REF < 0 →
      exec (.plug c mean iSlow ms) s = .next (s.afterPage (((s.m.incWrap (pgOut c) Out.UNPLUGS).setSFld (pgOut c) Out.STEP_LAST (mean - s.m.sfld (pgOut c) Out.REF)).setSFld (pgOut c) Out.REF mean))) ∧
  (∀ (s : State) (c : Fin 128) (tj : Int), s.m.mainOff = false →
      s.m.entering = false →
      (((s.m.setSFld (pgOut c) Out.TJ tj).out c).closeNext = false) →
      exec (.ledgerSample c tj) s = .next (s.after (((s.m.setSFld (pgOut c) Out.TJ tj).rainAdd c tj).showRho c))) ∧
  (∀ (s : State) (c : Fin 128) (tj : Int), s.m.mainOff = false →
      s.m.entering = false →
      (((s.m.setSFld (pgOut c) Out.TJ tj).out c).closeNext = true) →
      exec (.ledgerSample c tj) s = .next (s.after (((((s.m.setSFld (pgOut c) Out.TJ tj).closeResidue c (tj :: ((s.m.setSFld (pgOut c) Out.TJ tj).out c).residue)).modOut c fun o => { o with residue := [tj], closeNext := false }).showRho c)))) ∧
  (∀ (s : State) (c : Fin 128), s.m.mainOff = false →
      s.m.entering = false →
      s.m.isFrozen (pgOut c) = false →
      s.m.deratePct c < 100 →
      exec (.deratingRecompute c) s = .next (s.after ((((s.m.setFld (pgOut c) Out.F (s.m.deratePct c)).showLed c).adapt 2 (pgOut c) 0 (s.m.fld (pgOut c) Out.F) (s.m.deratePct c)).outRaise c (2 ^ 19)))) ∧
  (∀ (s : State) (c : Fin 128), s.m.mainOff = false →
      s.m.entering = false →
      s.m.isFrozen (pgOut c) = false →
      100 ≤ s.m.deratePct c →
      exec (.deratingRecompute c) s = .next (s.after ((((s.m.setFld (pgOut c) Out.F (s.m.deratePct c)).showLed c).adapt 2 (pgOut c) 0 (s.m.fld (pgOut c) Out.F) (s.m.deratePct c)).clearSrc (pgOut c) (2 ^ 19)))) ∧
  (∀ (s : State) (c : Fin 128), s.m.mainOff = false →
      exec (.ledgerStore c) s = .next (s.afterPage (s.m.modOut c fun o => { o with damageStored := o.damage, residueStored := o.residue, halvesStored := (s.m.reg (pgOut c) Out.HALVES.off).toNat })))

/-- Each write, edge, pulse, loss and slot event of a Capstan base that its rule takes has the effect the rule gives. (03_capstan_bases_and_marks.md R94, 03_capstan_bases_and_marks.md R97, 03_capstan_bases_and_marks.md R98, 03_capstan_bases_and_marks.md R99, 03_capstan_bases_and_marks.md R102, 03_capstan_bases_and_marks.md R104, 03_capstan_bases_and_marks.md R107, 03_capstan_bases_and_marks.md R109, 03_capstan_bases_and_marks.md R110, 03_capstan_bases_and_marks.md R117, 03_capstan_bases_and_marks.md R118) -/
def Obligations.CapstanComplete : Prop :=
  (∀ (s : State) (k : Fin 8) (e : Nat), s.m.mainOff = false →
      s.m.ready →
      s.m.marksFire k →
      s.m.firstDue k = some e →
      exec (.markFire k) s = .next (s.after (s.m.fireMark e (((s.m.mark e).due).getD 1)))) ∧
  (∀ (s : State) (k : Fin 8) (e : Nat), s.m.mainOff = false →
      s.m.ready →
      s.m.marksFire k →
      s.m.firstDue k = none →
      s.m.nextMark k = some e →
      s.m.canReach k (s.m.mark e).pos →
      s.m.flag (pgCap k) Cap.COAST = false →
      exec (.markFire k) s = .next (s.after ((s.m.moveTo k (s.m.mark e).pos).fireFirst k))) ∧
  (∀ (s : State) (src : Src) (k : Fin 8), s.m.mainOff = false →
      s.m.takes src (pgCap k) 0x094 1 →
      exec (.markRead src k) s = .next (s.after (s.m.ran src (pgCap k) 0x094 (fun m => m.markRead k)))) ∧
  (∀ (s : State) (src : Src) (k : Fin 8), s.m.mainOff = false →
      s.m.takes src (pgCap k) 0x094 2 →
      exec (.markArm src k) s = .next (s.after (s.m.ran src (pgCap k) 0x094 (fun m => m.markArm k)))) ∧
  (∀ (s : State) (src : Src) (k : Fin 8), s.m.mainOff = false →
      s.m.takes src (pgCap k) 0x094 3 →
      exec (.markDisarm src k) s = .next (s.after (s.m.ran src (pgCap k) 0x094 (fun m => m.markDisarm k)))) ∧
  (∀ (s : State) (src : Src) (k : Fin 8) (v : Word), s.m.mainOff = false →
      s.m.takes src (pgCap k) 0x05C v →
      exec (.advance src k v) s = .next (s.after (s.m.ran src (pgCap k) 0x05C (fun m => m.advance k v)))) ∧
  (∀ (s : State) (src : Src) (k : Fin 8) (v : Word), s.m.mainOff = false →
      s.m.takes src (pgCap k) 0x060 v →
      exec (.setpos src k v) s = .next (s.after (s.m.ran src (pgCap k) 0x060 (fun m => m.setpos k v)))) ∧
  (∀ (s : State) (k : Fin 8) (fwd both : Bool) (ns : Nat), s.m.mainOff = false →
      s.m.capType k = 2 →
      s.m.capRuns k →
      ((s.m.reg (pgCap k) Cap.PERIOD.off).toNat ≠ 0) →
      both = false →
      exec (.axleEdge k fwd both ns) s = .next (s.after (((s.m.axleSeen k fwd ns).axleStep k fwd).showBacklog k))) ∧
  (∀ (s : State) (k : Fin 8) (ms : Nat), s.m.mainOff = false →
      s.m.capType k = 2 →
      s.m.capRuns k →
      s.m.fld (pgCap k) Cap.STILL ≠ 0 →
      s.m.fld (pgCap k) Cap.STILL ≤ ms →
      exec (.standstill k ms) s = .next (s.after ((s.m.setFlag (pgCap k) Cap.STANDSTILL true).setFld (pgCap k) Cap.RATE 0))) ∧
  (∀ (s : State) (k : Fin 8) (ns : Nat), s.m.mainOff = false →
      s.m.capType k = 4 →
      s.m.capPulsed k →
      s.m.capHeld k = false →
      s.m.capRuns k →
      s.m.flag (pgCap k) Cap.LOS_68 = false →
      s.m.flag (pgCap k) Cap.COAST = false →
      s.m.flag (pgCap k) Cap.FALLBACK = false →
      exec (.framePulse k ns) s = .next (s.after (s.m.frameTaken k ns))) ∧
  (∀ (s : State) (k : Fin 8) (ns amp : Nat) (locked : Bool), s.m.mainOff = false →
      s.m.capType k = 3 →
      ((s.m.setFld (pgCap k) Cap.AUX (min 0xFFFF amp)).capHeld k = false) →
      ((s.m.setFld (pgCap k) Cap.AUX (min 0xFFFF amp)).capRuns k) →
      ((s.m.setFld (pgCap k) Cap.AUX (min 0xFFFF amp)).flag (pgCap k) Cap.LOS_68 = false) →
      ((s.m.setFld (pgCap k) Cap.AUX (min 0xFFFF amp)).flag (pgCap k) Cap.COAST = false) →
      exec (.mainsZeroCrossing k ns amp locked) s = .next (s.after ((s.m.setFld (pgCap k) Cap.AUX (min 0xFFFF amp)).mainsTaken k ns amp locked))) ∧
  (∀ (s : State) (k : Fin 8) (t : Nat), s.m.mainOff = false →
      s.m.capRuns k →
      s.m.flag (pgCap k) Cap.LOS_68 = false →
      s.m.capHeld k = false →
      s.m.flag (pgCap k) Cap.LOCKED →
      s.m.lossSeen k t →
      s.m.fld (pgCap k) Cap.LOS = 1 →
      s.m.fld (pgCap k) Cap.HOLDOVER ≠ 0 →
      exec (.los k t) s = .next (s.after ((((s.m.modCap k fun c => { c with coasted := 0, sub := 0 }).setFlag (pgCap k) Cap.COAST true).setFlag (pgCap k) Cap.LOCKED false).setFlag (pgCap k) Cap.LOS_68 true))) ∧
  (∀ (s : State) (k : Fin 8) (t : Nat), s.m.mainOff = false →
      s.m.capRuns k →
      s.m.flag (pgCap k) Cap.LOS_68 = false →
      s.m.capHeld k = false →
      s.m.lossSeen k t →
      s.m.fld (pgCap k) Cap.LOS = 0 →
      exec (.los k t) s = .next (s.after (s.m.capHold k))) ∧
  (∀ (s : State) (k : Fin 8) (t : Nat), s.m.mainOff = false →
      s.m.capRuns k →
      s.m.flag (pgCap k) Cap.LOS_68 = false →
      s.m.capHeld k = false →
      s.m.lossSeen k t →
      s.m.fld (pgCap k) Cap.LOS = 2 →
      s.m.capPulsed k →
      s.m.capType k = 4 →
      exec (.los k t) s = .next (s.after (s.m.capFallback k))) ∧
  (∀ (s : State) (k : Fin 8) (turns : Nat), s.m.mainOff = false →
      s.m.flag (pgCap k) Cap.COAST →
      s.m.fld (pgCap k) Cap.HOLDOVER ≤ turns →
      exec (.holdoverExpiry k turns) s = .next (s.after ((Mach.drainDue 8192 (s.m.coastBy k (s.m.fld (pgCap k) Cap.HOLDOVER * 65536))).capHold k))) ∧
  (∀ (s : State) (k : Fin 8) (phase : Fin 65536), s.m.mainOff = false →
      s.m.flag (pgCap k) Cap.LOS_68 →
      s.m.capPulsed k →
      (((s.m.setFlag (pgCap k) Cap.LOS_68 false).setFlag (pgCap k) Cap.FALLBACK false).capPulsed k) →
      (((s.m.setFlag (pgCap k) Cap.LOS_68 false).setFlag (pgCap k) Cap.FALLBACK false).capRuns k) →
      exec (.relock k phase) s = .next (s.after (((s.m.setFlag (pgCap k) Cap.LOS_68 false).setFlag (pgCap k) Cap.FALLBACK false).relockTo k (nearestTo (((s.m.setFlag (pgCap k) Cap.LOS_68 false).setFlag (pgCap k) Cap.FALLBACK false).pos k) (phase % 65536)) (s.m.flag (pgCap k) Cap.FALLBACK) (s.m.cap k).resume))) ∧
  (∀ (s : State) (k : Fin 8) (phase : Fin 65536), s.m.mainOff = false →
      s.m.flag (pgCap k) Cap.LOS_68 →
      s.m.capPulsed k →
      (((s.m.setFlag (pgCap k) Cap.LOS_68 false).setFlag (pgCap k) Cap.FALLBACK false).capPulsed k) →
      (((s.m.setFlag (pgCap k) Cap.LOS_68 false).setFlag (pgCap k) Cap.FALLBACK false).st (pgCap k) = 4) →
      exec (.relock k phase) s = .next (s.after (((s.m.setFlag (pgCap k) Cap.LOS_68 false).setFlag (pgCap k) Cap.FALLBACK false).modCap k fun c => { c with relock := some (nearestTo (((s.m.setFlag (pgCap k) Cap.LOS_68 false).setFlag (pgCap k) Cap.FALLBACK false).pos k) (phase % 65536)) }))) ∧
  (∀ (s : State) (src : Src) (k : Fin 8) (slot : Fin 8) (v : Word), s.m.mainOff = false →
      (s.m.takes src (pgCap k) (0x110 + 0x20 * slot) v) →
      v.getLsbD 0 = true →
      exec (.powGo src k slot v) s = .next (s.after (s.m.ran src (pgCap k) (0x110 + 0x20 * slot) (fun m => m.powGo k slot)))) ∧
  (∀ (s : State) (k : Fin 8) (slot : Fin 8) (us : Nat), s.m.mainOff = false →
      s.m.powPhase k slot = 2 →
      s.m.capType k = 3 →
      (us ≤ s.m.fld (pgCap k) (Cap.POW_MAX slot) + 20000) →
      exec (.powCloseDetect k slot us) s = .next (s.after (s.m.powClose k slot us))) ∧
  (∀ (s : State) (k : Fin 8) (slot : Fin 8) (us : Nat), s.m.mainOff = false →
      s.m.powPhase k slot = 2 →
      s.m.capType k = 3 →
      (s.m.fld (pgCap k) (Cap.POW_MAX slot) + 20000 ≤ us) →
      exec (.powTimeout k slot us) s = .next (s.after ((s.m.setFld (pgCap k) (Cap.POW_PHASE slot) 4).raise (pgCap k) 4)))

/-- Each ripple, stop, pinch, brake, park and current event of a bridge whose condition holds has the effect its rule gives. (06_motor_bridges.md R187, 06_motor_bridges.md R188, 06_motor_bridges.md R190, 06_motor_bridges.md R191, 06_motor_bridges.md R192, 06_motor_bridges.md R193, 06_motor_bridges.md R195, 06_motor_bridges.md R196, 06_motor_bridges.md R198, 06_motor_bridges.md R199, 06_motor_bridges.md R200) -/
def Obligations.BridgesComplete : Prop :=
  (∀ (s : State) (b : Fin 8) (ns : Nat) (v cur : Int), s.m.mainOff = false →
      (s.m.flag (pgBridge b) Bridge.MOVING = false) →
      exec (.ripple b ns v cur) s = .next (s.after (((s.m.brTurning b (s.m.backEmf b v cur)).brAccept b ns (s.m.backEmf b v cur) true).brSettle b false))) ∧
  (∀ (s : State) (b : Fin 8) (ns : Nat) (v cur : Int), s.m.mainOff = false →
      (s.m.flag (pgBridge b) Bridge.MOVING = true) →
      (s.m.br b).tau ≤ 2 * ns →
      exec (.ripple b ns v cur) s = .next (s.after (((s.m.brTurning b (s.m.backEmf b v cur)).brAccept b ns (s.m.backEmf b v cur) false).brSettle b false))) ∧
  (∀ (s : State) (b : Fin 8) (ns : Nat) (v cur : Int), s.m.mainOff = false →
      (s.m.flag (pgBridge b) Bridge.MOVING = true) →
      2 * ns < (s.m.br b).tau →
      exec (.ripple b ns v cur) s = .next (s.after ((((s.m.brTurning b (s.m.backEmf b v cur)).incSat (pgBridge b) Bridge.REJECTED).brUncertain b).brSettle b false))) ∧
  (∀ (s : State) (b : Fin 8) (ns : Nat), s.m.mainOff = false →
      s.m.flag (pgBridge b) Bridge.MOVING →
      (s.m.br b).tau ≠ 0 →
      16 * (s.m.br b).tau ≤ 10 * ns →
      exec (.rippleInsert b ns) s = .next (s.after (((s.m.brCount b (s.m.flag (pgBridge b) Bridge.DIR)).incSat (pgBridge b) Bridge.INSERTED).brUncertain b))) ∧
  (∀ (s : State) (src : Src) (b : Fin 8) (v : Word), s.m.mainOff = false →
      s.m.takes src (pgBridge b) 0x070 v →
      exec (.posWrite src b v) s = .next (s.after (s.m.ran src (pgBridge b) 0x070 (fun m => m.brPosWrite b v)))) ∧
  (∀ (s : State) (b : Fin 8) (ms : Nat) (cur : Int), s.m.mainOff = false →
      (s.m.br b).phase = .drive →
      s.m.brAbsDuty b ≠ 0 →
      s.m.fld (pgBridge b) Bridge.STALL_T ≤ ms →
      (s.m.fld (pgBridge b) Bridge.ILIM ≤ 2 * cur.natAbs) →
      s.m.closing b = false →
      (s.m.flag (pgBridge b) Bridge.HOMED = false) →
      exec (.stopRecognition b ms cur) s = .next (s.after (((s.m.raise (pgBridge b) 4).incSat (pgBridge b) Bridge.STALLS).brStop b))) ∧
  (∀ (s : State) (b : Fin 8) (ms : Nat) (cur : Int), s.m.mainOff = false →
      (s.m.br b).phase = .drive →
      s.m.brAbsDuty b ≠ 0 →
      s.m.fld (pgBridge b) Bridge.STALL_T ≤ ms →
      (s.m.fld (pgBridge b) Bridge.ILIM ≤ 2 * cur.natAbs) →
      s.m.closing b →
      (s.m.flag (pgBridge b) Bridge.HOMED = false) →
      exec (.stopRecognition b ms cur) s = .next (s.after (((((s.m.setBrPos b 0).setFlag (pgBridge b) Bridge.HOMED true).setFld (pgBridge b) Bridge.UNCERT 0).setFlag (pgBridge b) Bridge.AT_CLOSED true).brStop b))) ∧
  (∀ (s : State) (b : Fin 8) (cur : Int), s.m.mainOff = false →
      ((s.m.setSFld (pgBridge b) Bridge.I_MOT cur).pinchWatch b) →
      ((s.m.setSFld (pgBridge b) Bridge.I_MOT cur).flag (pgBridge b) Bridge.PINCH_EN) →
      ((s.m.setSFld (pgBridge b) Bridge.I_MOT cur).pinchOver b cur) →
      (((s.m.setSFld (pgBridge b) Bridge.I_MOT cur).br b).exceeded = true) →
      exec (.pinchCheck b cur) s = .next (s.after (((s.m.setSFld (pgBridge b) Bridge.I_MOT cur).pinchSeen b cur).brPinch b))) ∧
  (∀ (s : State) (b : Fin 8) (cur : Int), s.m.mainOff = false →
      ((s.m.setSFld (pgBridge b) Bridge.I_MOT cur).pinchWatch b) →
      ((s.m.setSFld (pgBridge b) Bridge.I_MOT cur).flag (pgBridge b) Bridge.PINCH_EN) →
      ((s.m.setSFld (pgBridge b) Bridge.I_MOT cur).pinchOver b cur = false) →
      exec (.pinchCheck b cur) s = .next (s.after ((s.m.setSFld (pgBridge b) Bridge.I_MOT cur).pinchSeen b cur))) ∧
  (∀ (s : State) (b : Fin 8) (cur : Int), s.m.mainOff = false →
      ((s.m.setSFld (pgBridge b) Bridge.I_MOT cur).pinchWatch b) →
      ((s.m.setSFld (pgBridge b) Bridge.I_MOT cur).flag (pgBridge b) Bridge.PINCH_EN = false) →
      exec (.pinchCheck b cur) s = .next (s.after ((s.m.setSFld (pgBridge b) Bridge.I_MOT cur).pinchNote b cur))) ∧
  (∀ (s : State) (b : Fin 8) (ms : Nat), s.m.mainOff = false →
      (s.m.br b).phase = .pinchBrake →
      (s.m.fld (pgBridge b) Bridge.DEAD_REV ≤ ms) →
      exec (.reverseDriveStart b ms) s = .next (s.after ((s.m.modBr b fun a => { a with phase := .pinchBack, duty := a.closeDuty * 32768 }).setFlag (pgBridge b) Bridge.BRAKING false))) ∧
  (∀ (s : State) (b : Fin 8) (ms : Nat) (cur : Int), s.m.mainOff = false →
      (s.m.br b).phase = .pinchBack →
      ((s.m.br b).ppos + s.m.fld (pgBridge b) Bridge.REV ≤ s.m.brPos b) →
      ms < s.m.fld (pgBridge b) Bridge.STALL_T →
      exec (.reversalEnd b ms cur) s = .next (s.after ((s.m.brBrake b .pinchHold).brStore b))) ∧
  (∀ (s : State) (b : Fin 8) (ms : Nat) (v cur : Int), s.m.mainOff = false →
      (s.m.br b).phase = .stopBrake →
      100 ≤ ms →
      exec (.brakeEnd b ms v cur) s = .next (s.after (((s.m.brCoast b).brTurning b (s.m.backEmf b v cur)).brSettle b false))) ∧
  (∀ (s : State) (b : Fin 8) (ms : Nat), s.m.mainOff = false →
      (s.m.br b).phase = .turnBrake →
      (s.m.fld (pgBridge b) Bridge.DEAD_REV ≤ ms) →
      exec (.reverseBrakeEnd b ms) s = .next (s.after ((s.m.modBr b fun a => { a with turned := true }).brMotion b))) ∧
  (∀ (s : State) (b : Fin 8) (cur : Int), s.m.mainOff = false →
      (s.m.br b).duty ≠ 0 →
      s.m.brLimit b ≤ cur.natAbs →
      exec (.limiting b cur) s = .next (s.after ((s.m.setFlag (pgBridge b) Bridge.LIMITING true).modBr b fun a => { a with train := false }))) ∧
  (∀ (s : State) (b : Fin 8) (ms : Nat), s.m.mainOff = false →
      (s.m.br b).duty ≠ 0 →
      2000 ≤ ms →
      exec (.limitLong b ms) s = .next (s.after ((s.m.raise (pgBridge b) 1).brGiveUp b))) ∧
  (∀ (s : State) (b : Fin 8) (cur : Int) (ms : Nat), s.m.mainOff = false →
      (s.m.br b).phase = .drive →
      32767 ≤ 4 * s.m.brAbsDuty b →
      cur.natAbs < 50 →
      100 ≤ ms →
      exec (.openLoad b cur ms) s = .next (s.after ((s.m.raise (pgBridge b) 8).brSettle b false))) ∧
  (∀ (s : State) (b : Fin 8), s.m.mainOff = false →
      s.m.fld (pgBridge b) Bridge.MODE = 3 →
      (s.m.br b).phase = .drive →
      (s.m.br b).aimUp = true →
      (s.m.sfld (pgBridge b) Bridge.TARGET - s.m.fld (pgBridge b) Bridge.LEAD ≤ s.m.brPos b) →
      exec (.positionTargetReached b) s = .next (s.after ((((s.m.brBrake b .brake).brDone b).brStore b).brSettle b false))) ∧
  (∀ (s : State) (b : Fin 8), s.m.mainOff = false →
      s.m.fld (pgBridge b) Bridge.MODE = 3 →
      (s.m.br b).phase = .drive →
      (s.m.br b).aimUp = false →
      (s.m.brPos b ≤ s.m.sfld (pgBridge b) Bridge.TARGET + s.m.fld (pgBridge b) Bridge.LEAD) →
      exec (.positionTargetReached b) s = .next (s.after ((((s.m.brBrake b .brake).brDone b).brStore b).brSettle b false))) ∧
  (∀ (s : State) (b : Fin 8) (rising : Bool), s.m.mainOff = false →
      s.m.flag (pgBridge b) Bridge.WIPER →
      (s.m.fld (pgBridge b) Bridge.PARK_IN ≠ 0xFFFF) →
      (s.m.flag (pgBridge b) Bridge.PARK_POL = rising) →
      exec (.parkInputEdge b rising) s = .next (s.after ((s.m.setBrPos b 0).modBr b fun a => { a with parkEdge := true, lastCycNs := a.cycNs, cycNs := 0 }))) ∧
  (∀ (s : State) (b : Fin 8), s.m.mainOff = false →
      (s.m.br b).phase = .drive →
      s.m.fld (pgBridge b) Bridge.MODE = 6 →
      (s.m.fld (pgBridge b) Bridge.PARK_IN ≠ 0xFFFF) →
      (s.m.br b).parkEdge = true →
      ((s.m.fld (pgBridge b) Bridge.PARK_OFS : Int) ≤ s.m.brPos b) →
      exec (.parked b) s = .next (s.after (((((s.m.brBrake b .brake).setFlag (pgBridge b) Bridge.PARKED true).brStore b).brDone b).brSettle b false))) ∧
  (∀ (s : State) (b : Fin 8), s.m.mainOff = false →
      (s.m.br b).phase = .drive →
      s.m.fld (pgBridge b) Bridge.MODE = 5 →
      (s.m.fld (pgBridge b) Bridge.PARK_IN ≠ 0xFFFF) →
      (s.m.br b).parkEdge = true →
      ((s.m.fld (pgBridge b) Bridge.PARK_OFS : Int) ≤ s.m.brPos b) →
      exec (.parked b) s = .next (s.after (((((s.m.brBrake b .brake).setFlag (pgBridge b) Bridge.PARKED true).brStore b).setFld (pgBridge b) Bridge.INTERVAL ((((s.m.brBrake b .brake).setFlag (pgBridge b) Bridge.PARKED true).brStore b).wipePause b)).setFlag (pgBridge b) Bridge.WAIT true))) ∧
  (∀ (s : State) (b : Fin 8) (ns : Nat), s.m.mainOff = false →
      (s.m.br b).phase = .drive →
      s.m.fld (pgBridge b) Bridge.MODE = 6 →
      (2 * s.m.fld (pgBridge b) Bridge.CYCLE ≤ (s.m.br b).parkRipples) →
      exec (.parkFail b ns) s = .next (s.after ((s.m.raise (pgBridge b) 7).brGiveUp b))) ∧
  (∀ (s : State) (b : Fin 8) (tenths : Nat), s.m.mainOff = false →
      s.m.flag (pgBridge b) Bridge.WAIT →
      (s.m.fld (pgBridge b) Bridge.INTERVAL ≤ tenths) →
      s.m.st (pgBridge b) = 2 →
      (s.m.br b).hot = false →
      (s.m.holdOn (pgBridge b)).defer = false →
      (s.m.holdOn (pgBridge b)).off = false →
      exec (.intervalWaitEnd b tenths) s = .next (s.after (s.m.brMotion b))) ∧
  (∀ (s : State) (b : Fin 8) (v cur : Int), s.m.mainOff = false →
      (s.m.backEmf b v cur).natAbs < 500000 →
      exec (.motorStopped b v cur) s = .next (s.after ((s.m.brStands b).brSettle b false)))

/-- Each turn, Ease step, limit, string fault, failed LED and period choice of a Ratline port, each check of a linear sink and each write of the JB4410 image whose condition holds has the effect its rule gives. (07_ratline_lighting.md R207, 07_ratline_lighting.md R208, 07_ratline_lighting.md R209, 07_ratline_lighting.md R213, 07_ratline_lighting.md R218, 07_ratline_lighting.md R220, 07_ratline_lighting.md R222, 07_ratline_lighting.md R223, 07_ratline_lighting.md R225, 07_ratline_lighting.md R230, 07_ratline_lighting.md R234, 07_ratline_lighting.md R237) -/
def Obligations.LightingComplete : Prop :=
  (∀ (s : State) (p : Fin 24) (ticks : Nat) (t : RatTarget), s.m.mainOff = false →
      s.m.entering = false →
      (s.m.rat p).turnDue = true →
      (s.m.rat p).hot = false →
      (s.m.rat p).ready = some t →
      t.fresh = true →
      ((s.m.turnOpened p ticks).dimAvail p = true) →
      ((s.m.turnOpened p ticks).running (pgRat p) = true) →
      exec (.rungTurnStart p ticks) s = .next (s.after (((((((s.m.turnOpened p ticks).modRat p fun a => { a with ready := none }).easeEval p ticks).easeStart p t).turnRow p t.div).ratSettle p)))) ∧
  (∀ (s : State) (p : Fin 24) (ns step : Nat) (i : Nat), s.m.mainOff = false →
      (s.m.rat p).pattern ≠ 0 →
      (nextEdge (s.m.rat p).turnTicks (s.m.rat p).pattern (s.m.fld (pgRat p) Rat.DIV_NOW) (s.m.rat p).edge (s.m.rat p).lit = some i) →
      (625 * rungTick (s.m.rat p).turnTicks (s.m.rat p).pattern (s.m.fld (pgRat p) Rat.DIV_NOW) i ≤ 10 * ns + 100 * s.m.fld (pgRat p) Rat.LEAD) →
      (100 * ((step : Int) - s.m.ffStep p).natAbs ≤ s.m.fld (pgRat p) Rat.FF_TOL * s.m.ffStep p) →
      (s.m.rat p).ffGood < 255 →
      exec (.rungEdge p ns step) s = .next (s.after ((s.m.modRat p fun a => { a with edge := i + 1, lit := i % 2 == 0, ffV := if i % 2 == 0 then a.ffV + s.m.ffStep p else a.ffV - s.m.ffStep p }).modRat p fun a => { a with ffBad := 0, ffGood := min 256 (a.ffGood + 1) }))) ∧
  (∀ (s : State) (p : Fin 24), s.m.mainOff = false →
      s.m.entering = false →
      s.m.dimAvail p = false →
      s.m.running (pgRat p) →
      (s.m.rat p).hot = false →
      (((s.m.easeEval p 16000).rat p).pending = none) →
      exec (.easeStep p) s = .next (s.after ((s.m.easeEval p 16000).ratSettle p))) ∧
  (∀ (s : State) (p : Fin 24) (t : RatTarget), s.m.mainOff = false →
      s.m.entering = false →
      s.m.dimAvail p = false →
      s.m.running (pgRat p) →
      (s.m.rat p).hot = false →
      (((s.m.easeEval p 16000).rat p).pending = some t) →
      exec (.easeStep p) s = .next (s.after ((((s.m.easeEval p 16000).modRat p RatAux.forget).easeStart p t).ratSettle p))) ∧
  (∀ (s : State) (p : Fin 24) (v cur vLow curLow : Nat), s.m.mainOff = false →
      s.m.flag (pgRat p) Rat.REGULATING →
      (s.m.fld (pgRat p) Rat.PMAX * 10000 < v * cur) →
      v ≤ s.m.fld (pgRat p) Rat.VMAX * 10 →
      s.m.flag (pgRat p) Rat.P_LIMIT = false →
      exec (.pLimit p v cur vLow curLow) s = .next (s.after (let m1 := (s.m.setFlag (pgRat p) Rat.P_LIMIT true).setFlag (pgRat p) Rat.V_LIMIT false; let low := min curLow (m1.fld (pgRat p) Rat.PMAX * 10000 / max 1 vLow); (((m1.modRat p fun a => { a with cap := some low }).ratMeasure p vLow low).ratRaise p (2 ^ 3))))) ∧
  (∀ (s : State) (p : Fin 24) (v cur ms : Nat), s.m.mainOff = false →
      ((s.m.ratMeasure p v cur).flag (pgRat p) Rat.REGULATING) →
      ((s.m.ratMeasure p v cur).fld (pgRat p) Rat.VMAX * 10 ≤ v) →
      (2 * cur < (s.m.ratMeasure p v cur).ratSetpoint p) →
      2 ≤ ms →
      exec (.openString p v cur ms) s = .next (s.after ((s.m.ratMeasure p v cur).ratRaise p (2 ^ 0)))) ∧
  (∀ (s : State) (p : Fin 24) (v cur ms : Nat), s.m.mainOff = false →
      ((s.m.ratMeasure p v cur).flag (pgRat p) Rat.REGULATING) →
      (600 ≤ (s.m.ratMeasure p v cur).fld (pgRat p) Rat.V_EXP) →
      (4 * v < (s.m.ratMeasure p v cur).fld (pgRat p) Rat.V_EXP) →
      1 ≤ ms →
      exec (.shortString p v cur ms) s = .next (s.after ((s.m.ratMeasure p v cur).ratRaise p (2 ^ 1)))) ∧
  (∀ (s : State) (n : Fin 32768) (tj : Int), s.m.mainOff = false →
      clsOf n = .rat →
      (((s.m.setSFld n Rat.TJ tj).rat (n - 0xC0)).hot = true) →
      tj < 1500 →
      exec (.regulatorResume n tj) s = .next (s.after (((s.m.setSFld n Rat.TJ tj).modRat (n - 0xC0) fun a => { a with hot := false }).ratSettle (n - 0xC0)))) ∧
  (∀ (s : State) (n : Fin 32768) (cur ms : Nat), s.m.mainOff = false →
      clsOf n = .rat →
      ((s.m.setSat n Rat.I_STR cur).flag n Rat.REGULATING) →
      ((s.m.setSat n Rat.I_STR cur).flag n Rat.P_LIMIT = false) →
      ((s.m.setSat n Rat.I_STR cur).flag n Rat.V_LIMIT = false) →
      (s.m.ratSetpoint (n - 0xC0) < 5 * ((cur : Int) - s.m.ratSetpoint (n - 0xC0)).natAbs) →
      10 ≤ ms →
      exec (.regFault n cur ms) s = .next (s.after ((s.m.setSat n Rat.I_STR cur).ratRaise (n - 0xC0) (2 ^ 11)))) ∧
  (∀ (s : State) (p : Fin 24) (r : Fin 256) (v cur : Nat), s.m.mainOff = false →
      s.m.rungClosed p r = false →
      exec (.ledClamp p r v cur) s = .next (s.after ((s.m.modRat p fun a => { a with clamped := insertUp r a.clamped }).ratMeasure p v cur))) ∧
  (∀ (s : State) (p : Fin 24) (r : Fin 256) (sec : Nat) (again : Bool), s.m.mainOff = false →
      s.m.entering = false →
      (s.m.rat p).clamped.contains r.val →
      tget (s.m.rat p).retests 0 r.val = 0 →
      s.m.fld (pgRat p) Rat.RETEST_T ≤ sec →
      s.m.isFrozen (pgRat p) = false →
      exec (.rungRetest p r sec again) s = .next (s.after ((s.m.modRat p fun a => { a with retests := tput a.retests 0 r.val 1 }).pushRetest p r))) ∧
  (∀ (s : State) (p : Fin 24) (r : Fin 256) (sec : Nat) (again : Bool), s.m.mainOff = false →
      s.m.entering = false →
      (s.m.rat p).clamped.contains r.val →
      tget (s.m.rat p).retests 0 r.val = 4 →
      again = true →
      s.m.isFrozen (pgRat p) = false →
      exec (.rungRetest p r sec again) s = .next (s.after (s.m.bypassSet p r))) ∧
  (∀ (s : State) (src : Src) (p : Fin 24) (ix : Fin 8) (v : Word), s.m.mainOff = false →
      (s.m.takes src (pgRat p) (0x100 + 4 * ix) v) →
      exec (.bypassRelease src p ix v) s = .next (s.after (s.m.ran src (pgRat p) (0x100 + 4 * ix) (fun m => m.bypassRelease p ix v)))) ∧
  (∀ (s : State) (n : Fin 32768), s.m.mainOff = false →
      s.m.divHanded n →
      (s.m.fld (pgCap (s.m.fld n Hdr.BASE_CAP)) Cap.RATE ≠ 0) →
      tget s.m.policy.chosen none n = none →
      s.m.isFrozen n = false →
      clsOf n = .out →
      exec (.divChoice n) s = .next (s.after (let c := chooseDiv (s.m.capType (s.m.fld n Hdr.BASE_CAP) == 4) (s.m.reg (pgCap (s.m.fld n Hdr.BASE_CAP)) Cap.SCALE.off).toNat (s.m.fld (pgCap (s.m.fld n Hdr.BASE_CAP)) Cap.RATE) (s.m.divBounds n).1 (s.m.divBounds n).2; (((({ s.m with policy := { s.m.policy with chosen := tput s.m.policy.chosen none n (some [s.m.fld (pgCap (s.m.fld n Hdr.BASE_CAP)) Cap.RATE, (s.m.reg (pgCap (s.m.fld n Hdr.BASE_CAP)) Cap.SCALE.off).toNat, (s.m.divBounds n).1, (s.m.divBounds n).2]) } } : Mach).setShFld n (divFld n) c.1).setFld n (divFld n) c.1).adapt 8 n 0 (s.m.fld n (divFld n)) c.1).settleUnit n))) ∧
  (∀ (s : State) (p : Fin 24), s.m.mainOff = false →
      (s.m.heaveRun (chainOf p) (s.m.fld (pgRat p) Hdr.BASE_CAP) = false) →
      (s.m.rat p).hadDim →
      ((s.m.setFlag (pgRat p) Rat.CHAIN_READY false).fld (pgRat p) Rat.LEVEL_NOW < 65536) →
      ((s.m.setFlag (pgRat p) Rat.CHAIN_READY false).dimAvail p = false) →
      ((s.m.setFlag (pgRat p) Rat.CHAIN_READY false).flag (pgRat p) Rat.CHAIN_READY = false) →
      exec (.dimLost p) s = .next (s.after (let m1 := (s.m.setFlag (pgRat p) Rat.CHAIN_READY false).modRat p fun a => { a with hadDim := false }; ((((((s.m.setFlag (pgRat p) Rat.CHAIN_READY false).nodesOf (chainOf p) p).foldl (fun m k => m.pushMode (chainOf p) k p) m1).setFlag (pgRat p) Rat.DIM_LOST true).raise (pgRat p) 8).ratCarry p)))) ∧
  (∀ (s : State) (k : Fin 16) (v us : Nat), s.m.mainOff = false →
      ((s.m.sinkPin k v).flag (pgSink k) Sink.SINKING) →
      v < 25 →
      1000 ≤ us →
      exec (.sinkOpen k v us) s = .next (s.after (((s.m.sinkPin k v).raise (pgSink k) 0).sinkSettle k))) ∧
  (∀ (s : State) (k : Fin 16) (v ms : Nat), s.m.mainOff = false →
      ((s.m.sinkPin k v).flag (pgSink k) Sink.SINKING) →
      ((s.m.sinkPin k v).fld (pgSink k) Sink.VHIGH < v) →
      10 ≤ ms →
      exec (.highV k v ms) s = .next (s.after (((s.m.sinkPin k v).raise (pgSink k) 1).sinkSettle k))) ∧
  (∀ (s : State) (k : Fin 16) (v : Nat), s.m.mainOff = false →
      s.m.flag (pgSink k) Sink.SINKING →
      (6000000 < v * sinkCurrent (s.m.fld pgCompat Compat.GLOBAL) (s.m.sink k).cur) →
      (((s.m.setFlag (pgSink k) Sink.FOLDBACK true).setSat (pgSink k) Sink.V_PIN v).flag (pgSink k) Sink.SINKING) →
      exec (.foldback k v) s = .next (s.after (((((s.m.setFlag (pgSink k) Sink.FOLDBACK true).setSat (pgSink k) Sink.V_PIN v).sinkCarry k (s.m.sink k).cur true).raise (pgSink k) 2).sinkPin k v))) ∧
  (∀ (s : State) (src : Src) (a : Fin 48) (v : Word), s.m.mainOff = false →
      s.m.takes src pgCompat (0x100 + 4 * a) v →
      exec (.jb4410ImageWrite src a v) s = .next (s.after (s.m.ran src pgCompat (0x100 + 4 * a) (fun m => m.imageSet a (v.toNat % 256))))) ∧
  (∀ (s : State) (src : Src) (v : Word), s.m.mainOff = false →
      s.m.takes src pgCompat 0x1A8 v →
      exec (.latch src v) s = .next (s.after (s.m.ran src pgCompat 0x1A8 (fun m => m.imageSet 42 (v.toNat % 256))))) ∧
  (∀ (s : State) (src : Src) (v : Word), s.m.mainOff = false →
      s.m.takes src pgCompat 0x100 v →
      exec (.modeWrite src v) s = .next (s.after (s.m.ran src pgCompat 0x100 (fun m => m.imageSet 0 (v.toNat % 256)))))

/-- Each phase end, pull-in, turn-off, decay, rail change, boost reading, coil measurement, duty bin and stuck switch whose condition holds has the effect its rule gives. (09_valve_drivers.md R263, 09_valve_drivers.md R265, 09_valve_drivers.md R267, 09_valve_drivers.md R268, 09_valve_drivers.md R270, 09_valve_drivers.md R271, 09_valve_drivers.md R272, 09_valve_drivers.md R273, 09_valve_drivers.md R281, 09_valve_drivers.md R282) -/
def Obligations.ValvesComplete : Prop :=
  (∀ (s : State) (v : Fin 8) (ms mj : Nat), s.m.mainOff = false →
      s.m.vPhase v = 2 →
      s.m.fld (pgValve v) Valve.T_PEAK ≤ ms →
      ((s.m.setSat (pgValve v) Valve.PK_LAST mj).flag (pgValve v) Valve.PI_DET = false) →
      (((s.m.setSat (pgValve v) Valve.PK_LAST mj).valveWant v).1 = 2) →
      exec (.peakEnd v ms mj) s = .next (s.after (((s.m.setSat (pgValve v) Valve.PK_LAST mj).toProp v).valveSettle v))) ∧
  (∀ (s : State) (v : Fin 8) (tens top cur : Nat), s.m.mainOff = false →
      ((s.m.setSat (pgValve v) Valve.I_COIL cur).vPhase v = 2) →
      ((s.m.setSat (pgValve v) Valve.I_COIL cur).flag (pgValve v) Valve.PI_DET) →
      ((s.m.setSat (pgValve v) Valve.I_COIL cur).flag (pgValve v) Valve.PULLED = false) →
      (top < (s.m.setSat (pgValve v) Valve.I_COIL cur).fld (pgValve v) Valve.I_PEAK) →
      (cur + 10 * (s.m.setSat (pgValve v) Valve.I_COIL cur).fld (pgValve v) Valve.PI_DIP ≤ top) →
      exec (.pullIn v tens top cur) s = .next (s.after ((((((s.m.setSat (pgValve v) Valve.I_COIL cur).setSat (pgValve v) Valve.T_PULL tens).setFlag (pgValve v) Valve.PULLED true).incSat (pgValve v) Valve.PULLINS).modValve v fun a => { a with pullAt := tens })))) ∧
  (∀ (s : State) (v : Fin 8), s.m.mainOff = false →
      s.m.driving v →
      exec (.valveTurnOff v) s = .next (s.after (((s.m.valveOff v).valveStep (partner v)).vhsShow (switchOf v)))) ∧
  (∀ (s : State) (v : Fin 8) (cur : Nat), s.m.mainOff = false →
      s.m.vPhase v = 5 →
      cur < 10 →
      exec (.decayEnd v cur) s = .next (s.after ((((s.m.setPhase v 0).setFlag (pgValve v) Valve.CLAMPING false).modValve v fun a => { a with path := 0 }).valveSettle v))) ∧
  (∀ (s : State) (v : Fin 8) (duty cur ms : Nat), s.m.mainOff = false →
      ((s.m.setSat (pgValve v) Valve.I_COIL cur).boosted) →
      ((s.m.setSat (pgValve v) Valve.I_COIL cur).flag pgBoost Boost.READY) →
      ((s.m.setSat (pgValve v) Valve.I_COIL cur).vPhase v = 4) →
      ((s.m.setSat (pgValve v) Valve.I_COIL cur).flag (pgVhs (switchOf v)) Vhs.RAIL = false) →
      1000 ≤ duty →
      (100 * cur < 95 * (s.m.setSat (pgValve v) Valve.I_COIL cur).valveSet v) →
      10 ≤ ms →
      exec (.railUp v duty cur ms) s = .next (s.after (((s.m.setSat (pgValve v) Valve.I_COIL cur).modValve v fun a => { a with railUp := true }).vhsShow (switchOf v)))) ∧
  (∀ (s : State) (vc : Nat) (cur : Int) (mj : Nat), s.m.mainOff = false →
      s.m.boosted →
      (s.m.flag pgBoost Boost.RECOVERING = false) →
      (10 * s.m.fld pgBoost Boost.V_SET + 200 < vc) →
      exec (.recovering vc cur mj) s = .next (s.after ((s.m.setFlag pgBoost Boost.RECOVERING true).boostRead vc cur))) ∧
  (∀ (s : State) (vc : Nat), s.m.mainOff = false →
      (s.m.boostVc vc).boosted →
      6500 < vc →
      exec (.boostOv vc) s = .next (s.after (((s.m.boostVc vc).setFlag pgBoost Boost.CLAMP true).raise pgBoost 0))) ∧
  (∀ (s : State) (vc ms : Nat), s.m.mainOff = false →
      (s.m.boostVc vc).boosted →
      (s.m.boostVc vc).anyPeak →
      (vc + 600 < 10 * (s.m.boostVc vc).fld pgBoost Boost.V_SET) →
      10 ≤ ms →
      exec (.boostUv vc ms) s = .next (s.after ((s.m.boostVc vc).raise pgBoost 1))) ∧
  (∀ (s : State) (vc ms : Nat), s.m.mainOff = false →
      (s.m.boostVc vc).boosted →
      (s.m.boostVc vc).boostOk →
      ((s.m.boostVc vc).flag pgBoost Boost.READY = false) →
      20 ≤ ms →
      exec (.boostFault vc ms) s = .next (s.after (((s.m.boostVc vc).raise pgBoost 3).boostSettle))) ∧
  (∀ (s : State) (v : Fin 8) (vm : Int) (im : Nat), s.m.mainOff = false →
      (s.m.coilSteady v).isSome →
      (s.m.valve v).touched = false →
      100 ≤ im →
      ((s.m.coilMeasured v vm im).isFrozen (pgValve v) = false) →
      (((s.m.coilMeasured v vm im).fld (pgValve v) Valve.R_MIN : Int) ≤ (s.m.coilMeasured v vm im).coilEstimate v vm im) →
      ((s.m.coilMeasured v vm im).coilEstimate v vm im ≤ ((s.m.coilMeasured v vm im).fld (pgValve v) Valve.R_MAX : Int)) →
      exec (.coilResistanceUpdate v vm im) s = .next (s.after (let m1 := s.m.coilMeasured v vm im; let new := (m1.coilEstimate v vm im).toNat; ((((m1.setFld (pgValve v) Valve.R_EST new).adapt 5 (pgValve v) 0 (m1.fld (pgValve v) Valve.R_EST) new).modValve v fun a => { a with bound := false }).coilShow v)))) ∧
  (∀ (s : State) (v : Fin 8) (duty cur ms vm im rmMs : Nat), s.m.mainOff = false →
      ((s.m.setSat (pgValve v) Valve.I_COIL cur).driving v) →
      100 ≤ im →
      (4 * (s.m.setSat (pgValve v) Valve.I_COIL cur).fld (pgValve v) Valve.R_MAX * im < 1000 * vm) →
      1000 ≤ rmMs →
      exec (.openCoil v duty cur ms vm im rmMs) s = .next (s.after ((s.m.setSat (pgValve v) Valve.I_COIL cur).valveRaise v 1))) ∧
  (∀ (s : State) (k : Fin 4) (a b ea eb : Nat), s.m.mainOff = false →
      exec (.dutyBin k a b ea eb) s = .next (s.after (let m1 := ((s.m.binPush (2 * k) a ea).binPush (2 * k + 1) b eb).showDuty k; let m2 := ((m1.dutyHit (2 * k)).dutyHit (2 * k + 1)).vhsHit k; ((((m2.dutyReturn (2 * k)).dutyReturn (2 * k + 1)).vhsReturn k).valveSettle (2 * k))))) ∧
  (∀ (s : State) (k : Fin 4) (ms : Nat), s.m.mainOff = false →
      s.m.flag (pgVhs k) Vhs.ON = false →
      1 ≤ ms →
      exec (.vhsStuck k ms) s = .next (s.after ((s.m.raise (pgVhs k) 4).valveSettle (2 * k)))) ∧
  (∀ (s : State) (vc : Nat) (cur : Int), s.m.mainOff = false →
      exec (.boostReady vc cur) s = .next (s.after (((s.m.setSFld pgBoost Boost.I_IN cur).setSat pgBoost Boost.V_C vc).boostSettle)))

/-- Each window, hold time, cleaning pulse and touch scan, and each check of an input or a touch channel whose condition holds, has the effect its rule gives. (10_inputs_and_touch.md R285, 10_inputs_and_touch.md R286, 10_inputs_and_touch.md R288, 10_inputs_and_touch.md R294, 10_inputs_and_touch.md R296, 10_inputs_and_touch.md R297, 10_inputs_and_touch.md R300, 10_inputs_and_touch.md R301) -/
def Obligations.InputsComplete : Prop :=
  (∀ (s : State) (ix : Fin 96) (cur : Nat) (lim : Bool) (v : Nat), s.m.mainOff = false →
      s.m.entering = false →
      (s.m.unit (pgIn ix)).enabled →
      s.m.st (pgIn ix) ≠ 0 →
      s.m.st (pgIn ix) ≠ 5 →
      exec (.inWindow ix cur lim v) s = .next (s.after (let band := bandOf (s.m.flag (pgIn ix) Inp.NETWORK) cur lim; ((((s.m.windowRead ix cur lim v).windowChatter ix band).windowTrain ix band).windowCount ix band (s.m.inp ix))))) ∧
  (∀ (s : State) (ix : Fin 96) (ms : Nat), s.m.mainOff = false →
      s.m.entering = false →
      s.m.flag (pgIn ix) Inp.ACTIVE →
      s.m.flag (pgIn ix) Inp.LONG_T →
      s.m.fld (pgIn ix) Inp.LONG_T ≤ ms →
      (s.m.inp ix).longDone = false →
      (s.m.inp ix).recheck = false →
      exec (.long ix ms) s = .next (s.after ((s.m.modInp ix fun a => { a with longDone := true }).inEvent ix Inp.LONGS Inp.IRQ_LONG))) ∧
  (∀ (s : State) (ix : Fin 96) (ms : Nat), s.m.mainOff = false →
      s.m.running (pgIn ix) →
      s.m.fld (pgIn ix) Inp.BAND = 4 →
      50 ≤ ms →
      exec (.bandErr ix ms) s = .next (s.after ((s.m.modInp ix fun a => { a with indet := true }).raise (pgIn ix) 2))) ∧
  (∀ (s : State) (ix : Fin 96) (ms : Nat), s.m.mainOff = false →
      s.m.running (pgIn ix) →
      s.m.fld (pgIn ix) Inp.BAND = 0 →
      20 ≤ ms →
      exec (.broken ix ms) s = .next (s.after (((s.m.modInp ix fun a => { a with bad := a.bad ||| 1 }).raise (pgIn ix) 0).inFail ix))) ∧
  (∀ (s : State) (ix : Fin 96) (ms : Nat), s.m.mainOff = false →
      s.m.running (pgIn ix) →
      s.m.fld (pgIn ix) Inp.BAND = 3 →
      20 ≤ ms →
      exec (.broken ix ms) s = .next (s.after (((s.m.modInp ix fun a => { a with bad := a.bad ||| 2 }).raise (pgIn ix) 1).inFail ix))) ∧
  (∀ (s : State) (ix : Fin 96) (ms : Nat), s.m.mainOff = false →
      s.m.entering = false →
      (s.m.inp ix).train →
      s.m.flag (pgIn ix) Inp.CLEAN_EN →
      (s.m.inp ix).pulses = 0 →
      exec (.cleaningPulse ix ms) s = .next (s.after ((s.m.modInp ix fun a => { a with pulses := a.pulses + 1, pulseEnd := s.m.rk + (s.m.fld (pgIn ix) Inp.CT_NOW * 32768 + 9999) / 10000 }).setFlag (pgIn ix) Inp.CLEANING (s.m.fld (pgIn ix) Inp.BAND == 2)))) ∧
  (∀ (s : State) (readings : List (BitVec 16 × BitVec 16)), s.m.mainOff = false →
      s.m.entering = false →
      exec (.touchScan readings) s = .next (s.after (((readings.take 16).zip (List.range 16)).foldl (fun m q => m.touchScan q.2 q.1.1.toNat q.1.2.toNat) s.m))) ∧
  (∀ (s : State) (tc : Fin 16) (sec : Nat), s.m.mainOff = false →
      s.m.flag (pgTouch tc) Touch.TOUCHED →
      s.m.flag (pgTouch tc) Touch.STUCK_EN →
      s.m.fld (pgTouch tc) Touch.STUCK_T ≤ sec →
      (((((s.m.setFlag (pgTouch tc) Touch.TOUCHED false).touchEvent tc Touch.STUCKS Touch.IRQ_STUCK).raise (pgTouch tc) 0).isFrozen (pgTouch tc))) →
      exec (.stuck tc sec) s = .next (s.after ((((s.m.setFlag (pgTouch tc) Touch.TOUCHED false).touchEvent tc Touch.STUCKS Touch.IRQ_STUCK).raise (pgTouch tc) 0).setFlag (pgTouch tc) Touch.STUCK_HELD true))) ∧
  (∀ (s : State) (tc : Fin 16) (sec : Nat), s.m.mainOff = false →
      s.m.flag (pgTouch tc) Touch.TOUCHED →
      s.m.flag (pgTouch tc) Touch.STUCK_EN →
      s.m.fld (pgTouch tc) Touch.STUCK_T ≤ sec →
      (((((s.m.setFlag (pgTouch tc) Touch.TOUCHED false).touchEvent tc Touch.STUCKS Touch.IRQ_STUCK).raise (pgTouch tc) 0).isFrozen (pgTouch tc)) = false) →
      exec (.stuck tc sec) s = .next (s.after (let m1 := ((s.m.setFlag (pgTouch tc) Touch.TOUCHED false).touchEvent tc Touch.STUCKS Touch.IRQ_STUCK).raise (pgTouch tc) 0; (((m1.setBases tc (m1.fld (pgTouch tc) Touch.RAW_D) (m1.fld (pgTouch tc) Touch.RAW_G)).setFlag (pgTouch tc) Touch.STUCK_HELD false).modTouch tc fun a => { a with pressRun := 0 })))) ∧
  (∀ (s : State) (tc : Fin 16) (sec : Nat), s.m.mainOff = false →
      s.m.flag (pgTouch tc) Touch.WATER →
      10 ≤ sec →
      exec (.water tc sec) s = .next (s.after (s.m.raise (pgTouch tc) 1))) ∧
  (∀ (s : State) (tc : Fin 16) (ms : Nat), s.m.mainOff = false →
      10 ≤ ms →
      exec (.shield tc ms) s = .next (s.after (s.m.raise (pgTouch tc) 3)))

/-- Each beginning, rise and fall of a shed stage, each write and operation of the policy table and each expiry, count and resumption of application silence whose condition holds has the effect its rule gives. (11_policy_and_adaptation.md R311, 11_policy_and_adaptation.md R315, 11_policy_and_adaptation.md R317, 11_policy_and_adaptation.md R318, 11_policy_and_adaptation.md R322, 11_policy_and_adaptation.md R323, 11_policy_and_adaptation.md R324) -/
def Obligations.PolicyComplete : Prop :=
  (∀ (s : State) (k : Fin 4), s.m.mainOff = false →
      s.m.entering = false →
      ((s.m.trigShow.setCalm k false).triggered k) →
      ((s.m.trigShow.setCalm k false).flag pgPolicy Policy.SHED_EN) →
      ((s.m.trigShow.setCalm k false).isFrozen pgPolicy = false) →
      exec (.shedTriggerBegin k) s = .next (s.after ((s.m.trigShow.setCalm k false).stageTo k (min ((s.m.trigShow.setCalm k false).ceil k) (max ((s.m.trigShow.setCalm k false).stage k) 1))))) ∧
  (∀ (s : State) (k : Fin 4) (ms : Nat), s.m.mainOff = false →
      s.m.entering = false →
      s.m.triggered k →
      s.m.flag pgPolicy Policy.SHED_EN →
      s.m.isFrozen pgPolicy = false →
      s.m.stepT k ≤ ms →
      s.m.stage k < s.m.ceil k →
      exec (.shedStageRaise k ms) s = .next (s.after (s.m.stageTo k (s.m.stage k + 1)))) ∧
  (∀ (s : State) (k : Fin 4) (ms : Nat), s.m.mainOff = false →
      s.m.entering = false →
      s.m.flag pgPolicy Policy.SHED_EN = false →
      s.m.isFrozen pgPolicy = false →
      s.m.stepT k ≤ ms →
      exec (.shedStageLower k ms) s = .next (s.after ((s.m.setCalm k true).stageTo k (s.m.stage k - 1)))) ∧
  (∀ (s : State) (src : Src) (v : Word), s.m.mainOff = false →
      s.m.takes src pgPolicy 0x040 v →
      exec (.shedEnWrite src v) s = .next (s.after (s.m.ran src pgPolicy 0x040 (fun m => m.classWrite src pgPolicy 0x040 v)))) ∧
  (∀ (s : State) (src : Src) (k : Fin 4) (v : Word), s.m.mainOff = false →
      s.m.takes src pgPolicy (0x088 + 4 * k) v →
      exec (.ceilWrite src k v) s = .next (s.after (s.m.ran src pgPolicy (0x088 + 4 * k) (fun m => m.classWrite src pgPolicy (0x088 + 4 * k) v)))) ∧
  (∀ (s : State) (src : Src) (c : Fin 4) (v : Word), s.m.mainOff = false →
      s.m.takes src pgPolicy (0x048 + 4 * c) v →
      exec (.alive src c v) s = .next (s.after (s.m.ran src pgPolicy (0x048 + 4 * c) (fun m => m.alive src (2 + c) (v.toNat % 65536))))) ∧
  (∀ (s : State) (c : Fin 4) (ms : Nat), s.m.mainOff = false →
      s.m.coreSt (2 + c) ≠ 4 →
      s.m.monitored (2 + c) →
      tget s.m.policy.window 0 (2 + c) ≠ 0 →
      tget s.m.policy.window 0 (2 + c) ≤ ms →
      exec (.slackExpiry c ms) s = .next (s.after (slackUnits.foldl (fun m n => if Nat.testBit (m.slackOf n) c then m.enterSafe n false else m) (((s.m.silencesUp (2 + c)).setSilent (2 + c) true).windowStop (2 + c))))) ∧
  (∀ (s : State) (c : Fin 4) (ms : Nat), s.m.mainOff = false →
      s.m.entering = false →
      s.m.resumeDue (2 + c) ms →
      exec (.automaticResumption c ms) s = .next (s.after (((s.m.resumable (2 + c)).filter fun n => !s.m.secondHeld n).foldl (fun (m : Mach) n => (m.unitCmd (.core 0) n (cmdWord 4 0)).2) s.m))) ∧
  (∀ (s : State) (src : Src) (sel : BitVec 8), s.m.mainOff = false →
      (s.m.takes src pgPolicy 0x0C0 (BitVec.ofNat 32 (sel.toNat * 256 + 1))) →
      exec (.policyRead src sel) s = .next (s.afterPage (s.m.ran src pgPolicy 0x0C0 (fun m => m.polRead sel.toNat)))) ∧
  (∀ (s : State) (src : Src) (sel : BitVec 8), s.m.mainOff = false →
      (s.m.takes src pgPolicy 0x0C0 (BitVec.ofNat 32 (sel.toNat * 256 + 2))) →
      exec (.policyWrite src sel) s = .next (s.afterPage (s.m.ran src pgPolicy 0x0C0 (fun m => m.polWrite sel.toNat)))) ∧
  (∀ (s : State) (src : Src), s.m.mainOff = false →
      s.m.takes src pgPolicy 0x0C0 3 →
      exec (.store src) s = .next (s.afterPage (s.m.ran src pgPolicy 0x0C0 (fun m => m.polStore)))) ∧
  (∀ (s : State), s.m.mainOff = false →
      s.m.flag pgPolicy Hdr.BUSY →
      s.m.st pgPolicy ≠ 5 →
      exec (.storeComplete) s = .next (s.afterPage (({ s.m with policy := { s.m.policy with stored := s.m.policy.live, storedBad := false } } : Mach).setFlag pgPolicy Hdr.BUSY false))) ∧
  (∀ (s : State) (src : Src) (v : Word), s.m.mainOff = false →
      s.m.takes src pgPolicy 0x040 v →
      exec (.gfreezeWrite src v) s = .next (s.after (s.m.ran src pgPolicy 0x040 (fun m => m.classWrite src pgPolicy 0x040 v))))

/-- Each source that starts to assert, each break of a pair, each write of SOFT and of a reaction entry, and each reading of FAULT_N and HALT_N whose condition holds has the effect its rule gives. (12_lay_fault_collection.md R327, 12_lay_fault_collection.md R330, 12_lay_fault_collection.md R335, 12_lay_fault_collection.md R336, 12_lay_fault_collection.md R338, 12_lay_fault_collection.md R341, 01_module_and_connectors.md R30) -/
def Obligations.LayComplete : Prop :=
  (∀ (s : State) (l : List (Fin 32768 × Fin 32)) (n : Fin 32768) (b : Fin 32), s.m.mainOff = false →
      l = [(n, b)] →
      s.m.src n b →
      (s.m.reg n 0x01C).getLsbD b →
      s.m.occupied n →
      (s.m.layLive n).getLsbD b = false →
      exec (.layAssert l) s = .next (s.after (({ s.m with lay := { s.m.lay with asserting := tput s.m.lay.asserting 0 n (tget s.m.lay.asserting 0 n ||| BitVec.ofNat 32 (2 ^ b.val)) } } : Mach).assertStarts n b false))) ∧
  (∀ (s : State) (n : Fin 32768) (b : Fin 32) (clocks : Nat) (agree : Bool), s.m.mainOff = false →
      agree = false →
      2 < clocks →
      (s.m.lay.bad.contains (n.val, b.val) = false) →
      (info (clsOf n)).srcs.testBit b →
      s.m.occupied n →
      (s.m.layLive n).getLsbD b = false →
      exec (.laybreak n b clocks agree) s = .next (s.after ((((({ s.m with lay := { s.m.lay with breaks := tput s.m.lay.breaks 0 n (tget s.m.lay.breaks 0 n ||| BitVec.ofNat 32 (2 ^ b.val)), bad := (n.val, b.val) :: s.m.lay.bad } } : Mach).incSat pgLay Lay.BREAKS).setReg pgLay 0x068 (BitVec.ofNat 32 (2 ^ 31 + b % 32 * 65536 + n))).raise pgLay 1).assertStarts n b true))) ∧
  (∀ (s : State) (conducts : Bool) (ms : Nat), s.m.mainOff = false →
      (conducts ≠ (s.m.setFlag pgLay Lay.FAULTN_PIN conducts).flag pgLay Lay.FAULTN_ON) →
      1 ≤ ms →
      exec (.faultnErr conducts ms) s = .next (s.after ((s.m.setFlag pgLay Lay.FAULTN_PIN conducts).raise pgLay 2))) ∧
  (∀ (s : State) (src : Src) (v : Word), s.m.mainOff = false →
      s.m.takes src pgLay 0x05C v →
      exec (.softWrite src v) s = .next (s.after (s.m.ran src pgLay 0x05C (fun m => m.softWrite (v.toNat % 65536))))) ∧
  (∀ (s : State) (src : Src), s.m.mainOff = false →
      s.m.takes src pgLay 0x084 1 →
      exec (.entryRead src) s = .next (s.afterPage (s.m.ran src pgLay 0x084 (fun m => m.entryRead)))) ∧
  (∀ (s : State) (src : Src), s.m.mainOff = false →
      s.m.takes src pgLay 0x084 2 →
      exec (.entryWrite src) s = .next (s.after (s.m.ran src pgLay 0x084 (fun m => m.entryWrite)))) ∧
  (∀ (s : State) (mv : Nat), s.m.pwr.asleep ≠ 3 →
      s.m.mainOff = false →
      s.m.flag pgLay Lay.HALT_LOW = false →
      mv ≤ 5000 →
      exec (.haltNInput mv) s = .next (s.after (s.m.setFlag pgLay Lay.HALT_LOW true))) ∧
  (∀ (s : State) (us : Nat), s.m.mainOff = false →
      s.m.flag pgLay Lay.HALT_LOW →
      s.m.fld pgLay Lay.HALT_FLT ≤ us →
      exec (.halt us) s = .next (s.after (s.m.raise pgLay 0)))

/-- The Trouble-log and Logline operations, the settings of UTC and the clock events whose condition holds have the effect their rules give. (13_trouble_log_and_logline.md R344, 13_trouble_log_and_logline.md R346, 13_trouble_log_and_logline.md R349, 13_trouble_log_and_logline.md R352, 13_trouble_log_and_logline.md R354, 13_trouble_log_and_logline.md R358) -/
def Obligations.LogsComplete : Prop :=
  (∀ (s : State), s.m.mainOff = false →
      s.m.lay.notes ≠ [] →
      exec (.faultEntry) s = .next (s.afterPage s.m.faultEntry)) ∧
  (∀ (s : State) (src : Src), s.m.mainOff = false →
      s.m.takes src pgTlog 0x064 1 →
      exec (.tlogRead src) s = .next (s.afterPage (s.m.ran src pgTlog 0x064 (fun m => m.tlogRead)))) ∧
  (∀ (s : State) (src : Src), s.m.mainOff = false →
      s.m.takes src pgTlog 0x064 2 →
      exec (.append src) s = .next (s.afterPage (s.m.ran src pgTlog 0x064 (fun m => m.tlogAppend src)))) ∧
  (∀ (s : State) (good : Bool), s.m.mainOff = false →
      good →
      s.m.log.stopped = false →
      s.m.log.queue ≠ [] →
      exec (.loglineRecordWrite good) s = .next (s.after (s.m.loglineWrite true))) ∧
  (∀ (s : State), s.m.mainOff = false →
      (s.m.log.topStored + 10000 ≤ s.m.log.topMs) →
      exec (.topStore) s = .next (s.afterPage ({ s.m with log := { s.m.log with topStored := s.m.log.topMs } }))) ∧
  (∀ (s : State) (cycles : Nat), s.m.pwr.asleep ≠ 3 →
      s.m.mainOff = false →
      4 ≤ cycles →
      (s.m.flag pgReckon Reckon.DEGRADED = false) →
      exec (.clkDegraded cycles) s = .next (s.after (((s.m.setFlag pgReckon Reckon.XTAL_OK false).setFlag pgReckon Reckon.DEGRADED true).raise pgReckon 0))) ∧
  (∀ (s : State) (ms : Nat), s.m.pwr.asleep ≠ 3 →
      s.m.mainOff = false →
      1000 ≤ ms →
      exec (.crystalReturn ms) s = .next (s.after ((s.m.setFlag pgReckon Reckon.XTAL_OK true).setFlag pgReckon Reckon.DEGRADED false))) ∧
  (∀ (s : State) (units : Word), s.m.pwr.asleep ≠ 3 →
      s.m.mainOff = false →
      s.m.flag pgReckon Reckon.XTAL_OK →
      exec (.reckonCalibration units) s = .next (s.after (s.m.setReg pgReckon Reckon.CAL.off units))) ∧
  (∀ (s : State) (src : Src), s.m.mainOff = false →
      s.m.takes src pgReckon 0x068 1 →
      exec (.utcSet src) s = .next (s.after (s.m.ran src pgReckon 0x068 (fun m => m.utcSet)))) ∧
  (∀ (s : State) (src : Src) (v : Word), s.m.mainOff = false →
      s.m.takes src pgReckon 0x05C v →
      exec (.srcWrite src v) s = .next (s.after (s.m.ran src pgReckon 0x05C (fun m => m.srcWrite (v.toNat % 2)))))

/-- The object operations, the sending and receiving of frames, bus errors, recovery, integration and wake-up of a CAN controller whose condition holds have the effect their rules give. (16_can_and_lin.md R411, 16_can_and_lin.md R412, 16_can_and_lin.md R413, 16_can_and_lin.md R414, 16_can_and_lin.md R417, 16_can_and_lin.md R420, 16_can_and_lin.md R421, 16_can_and_lin.md R422, 16_can_and_lin.md R423, 16_can_and_lin.md R424) -/
def Obligations.CanComplete : Prop :=
  (∀ (s : State) (src : Src) (c : Fin 6), s.m.mainOff = false →
      s.m.takes src (pgCan c) 0x07C 3 →
      exec (.txReq src c) s = .next (s.after (s.m.ran src (pgCan c) 0x07C (fun m => m.canTxReq c)))) ∧
  (∀ (s : State) (src : Src) (c : Fin 6), s.m.mainOff = false →
      s.m.takes src (pgCan c) 0x07C 1 →
      exec (.canObjRead src c) s = .next (s.afterPage (s.m.ran src (pgCan c) 0x07C (fun m => m.canObjRead c)))) ∧
  (∀ (s : State) (src : Src) (c : Fin 6), s.m.mainOff = false →
      s.m.takes src (pgCan c) 0x07C 2 →
      exec (.canObjWrite src c) s = .next (s.after (s.m.ran src (pgCan c) 0x07C (fun m => m.canObjWrite c)))) ∧
  (∀ (s : State) (src : Src) (c : Fin 6), s.m.mainOff = false →
      s.m.takes src (pgCan c) 0x07C 4 →
      exec (.abort src c) s = .next (s.after (s.m.ran src (pgCan c) 0x07C (fun m => m.canAbort c)))) ∧
  (∀ (s : State) (src : Src) (c : Fin 6), s.m.mainOff = false →
      s.m.takes src (pgCan c) 0x054 1 →
      exec (.recover src c) s = .next (s.after (s.m.ran src (pgCan c) 0x054 (fun m => m.canRecover c)))) ∧
  (∀ (s : State) (c : Fin 6) (o : Nat), s.m.mainOff = false →
      (s.m.can c).onBus = some o →
      s.m.st (pgCan c) ≠ 0 →
      (s.m.canObj c o).again = false →
      exec (.canFrameSent c) s = .next (s.after (let m1 := s.m.setCanObj c o { s.m.canObj c o with status := 2, ts := (s.m.can c).startTs, again := false, aborting := false }; let m2 := (m1.incWrap (pgCan c) Can.FRAMES_TX).setFld (pgCan c) Can.TEC (m1.fld (pgCan c) Can.TEC - 1); (((((((m2.canNotAlone c).setFlag (pgCan c) Can.TX false).modCan c fun a => { a with onBus := none }).canCounters c).canIrq (s.m.canObj c o)).canKick c))))) ∧
  (∀ (s : State) (c : Fin 6) (f : CanFrame) (o : Nat), s.m.mainOff = false →
      s.m.canOperates c →
      s.m.flag (pgCan c) Can.SYNC →
      s.m.flag (pgCan c) Can.BUS_OFF = false →
      (s.m.can c).onBus = none →
      ((f.fdf && !s.m.flag (pgCan c) Can.FD_EN) = false) →
      ((s.m.canCounted c).canFilter c f = some o) →
      exec (.canFrameReceived c f) s = .next (s.after ((((s.m.canCounted c).canStore c o f).canKick c).frameSeen (pgCan c)))) ∧
  (∀ (s : State) (c : Fin 6) (f : CanFrame), s.m.mainOff = false →
      s.m.canOperates c →
      s.m.flag (pgCan c) Can.SYNC →
      s.m.flag (pgCan c) Can.BUS_OFF = false →
      (s.m.can c).onBus = none →
      ((f.fdf && !s.m.flag (pgCan c) Can.FD_EN) = false) →
      (s.m.canCounted c).canFilter c f = none →
      exec (.canFrameReceived c f) s = .next (s.after (((s.m.canCounted c).canKick c).frameSeen (pgCan c)))) ∧
  (∀ (s : State) (c : Fin 6) (tx : Bool) (kind : Fin 8) (major : Bool), s.m.mainOff = false →
      0 < kind.val →
      kind.val ≤ 6 →
      tx = false →
      s.m.canOperates c →
      s.m.flag (pgCan c) Can.SYNC →
      ((s.m.setFld (pgCan c) Can.LEC kind).flag (pgCan c) Can.RESTRICTED = false) →
      ((s.m.setFld (pgCan c) Can.LEC kind).fld (pgCan c) Can.REC + (if major then 8 else 1) < 128) →
      exec (.canError c tx kind major) s = .next (s.after (((s.m.setFld (pgCan c) Can.LEC kind).setFld (pgCan c) Can.REC ((s.m.setFld (pgCan c) Can.LEC kind).fld (pgCan c) Can.REC + (if major then 8 else 1))).canCounters c))) ∧
  (∀ (s : State) (c : Fin 6) (sequences : Nat), s.m.mainOff = false →
      s.m.flag (pgCan c) Can.RECOVERING →
      128 ≤ sequences →
      s.m.canOperates c →
      exec (.busOffRecovery c sequences) s = .next (s.after ((((((((s.m.setFlag (pgCan c) Can.RECOVERING false).setFlag (pgCan c) Can.BUS_OFF false).setFld (pgCan c) Can.TEC 0).setFld (pgCan c) Can.REC 0).setFlag (pgCan c) Can.RP false).canCounters c).canIntegrate c)))) ∧
  (∀ (s : State) (c : Fin 6) (ms : Nat), s.m.mainOff = false →
      4 ≤ ms →
      s.m.canOperates c →
      exec (.txdDom c ms) s = .next (s.after ((s.m.raise (pgCan c) 5).canOff c))) ∧
  (∀ (s : State) (c : Fin 6), s.m.pwr.asleep ≠ 3 →
      s.m.mainOff = true →
      (s.m.can c).asleep →
      s.m.canSelective c = false →
      s.m.flag (pgCan c) Can.WAKE_EN →
      exec (.canWup c) s = .next { s with m := s.m.wakeEvent 4 (pgCan c) }) ∧
  (∀ (s : State) (c : Fin 6) (f : CanFrame), s.m.pwr.asleep ≠ 3 →
      s.m.mainOff = true →
      (s.m.can c).asleep →
      s.m.canSelective c →
      f.fdf = false →
      ((s.m.setFld (pgCan c) Can.FEC (s.m.fld (pgCan c) Can.FEC - 1)).canPnMatch (pgCan c) f = false) →
      exec (.canPn c f) s = .next { s with m := (s.m.setFld (pgCan c) Can.FEC (s.m.fld (pgCan c) Can.FEC - 1)) }) ∧
  (∀ (s : State) (c : Fin 6) (f : CanFrame), s.m.pwr.asleep ≠ 3 →
      s.m.mainOff = true →
      (s.m.can c).asleep →
      s.m.canSelective c →
      f.fdf = false →
      ((s.m.setFld (pgCan c) Can.FEC (s.m.fld (pgCan c) Can.FEC - 1)).canPnMatch (pgCan c) f) →
      exec (.canPn c f) s = .next { s with m := (s.m.setFld (pgCan c) Can.FEC (s.m.fld (pgCan c) Can.FEC - 1)).wakeEvent 5 (pgCan c) }) ∧
  (∀ (s : State) (c : Fin 6), s.m.pwr.asleep ≠ 3 →
      s.m.mainOff = true →
      (s.m.can c).asleep →
      s.m.canSelective c →
      (min 32 (s.m.fld (pgCan c) Can.FEC + 1) < 32) →
      ((s.m.setFld (pgCan c) Can.FEC (min 32 (s.m.fld (pgCan c) Can.FEC + 1))).fld (pgCan c) Can.FEC < 32) →
      exec (.canFec c) s = .next { s with m := s.m.setFld (pgCan c) Can.FEC (min 32 (s.m.fld (pgCan c) Can.FEC + 1)) }) ∧
  (∀ (s : State) (c : Fin 6), s.m.pwr.asleep ≠ 3 →
      s.m.mainOff = true →
      (s.m.can c).asleep →
      s.m.canSelective c →
      31 ≤ s.m.fld (pgCan c) Can.FEC →
      ((s.m.setFld (pgCan c) Can.FEC 32).fld (pgCan c) Can.FEC = 32) →
      exec (.canFec c) s = .next { s with m := (s.m.setFld (pgCan c) Can.FEC 32).wakeEvent 11 (pgCan c) }) ∧
  (∀ (s : State) (c : Fin 6), s.m.mainOff = false →
      s.m.canOperates c →
      s.m.flag pgClk Clk.LOCKED →
      s.m.flag (pgCan c) Can.BUS_OFF = false →
      exec (.busIntegration c) s = .next (s.after (((s.m.setFlag (pgCan c) Can.SYNC true).canSettle c).canKick c)))

/-- The schedule operations, the frame window, slots, headers, the wake pulse and the bus short of a LIN channel whose condition holds have the effect their rules give. (16_can_and_lin.md R425, 16_can_and_lin.md R426, 16_can_and_lin.md R427, 16_can_and_lin.md R428) -/
def Obligations.LinComplete : Prop :=
  (∀ (s : State) (src : Src) (c : Fin 4), s.m.mainOff = false →
      s.m.takes src (pgLin c) 0x060 1 →
      exec (.linStart src c) s = .next (s.after (s.m.ran src (pgLin c) 0x060 (fun m => m.linStart c)))) ∧
  (∀ (s : State) (src : Src) (c : Fin 4), s.m.mainOff = false →
      s.m.takes src (pgLin c) 0x060 2 →
      exec (.linStop src c) s = .next (s.after (s.m.ran src (pgLin c) 0x060 (fun m => m.linStop c)))) ∧
  (∀ (s : State) (src : Src) (c : Fin 4), s.m.mainOff = false →
      s.m.takes src (pgLin c) 0x060 3 →
      exec (.goToSleep src c) s = .next (s.after (s.m.ran src (pgLin c) 0x060 (fun m => m.modLin c fun a => { a with sleepDue := true })))) ∧
  (∀ (s : State) (src : Src) (c : Fin 4), s.m.mainOff = false →
      s.m.takes src (pgLin c) 0x060 4 →
      exec (.linWake src c) s = .next (s.after (s.m.ran src (pgLin c) 0x060 (fun m => m.linAwake c)))) ∧
  (∀ (s : State) (src : Src) (c : Fin 4), s.m.mainOff = false →
      s.m.takes src (pgLin c) 0x05C 1 →
      exec (.linFrameRead src c) s = .next (s.afterPage (s.m.ran src (pgLin c) 0x05C (fun m => m.linFrmRead c)))) ∧
  (∀ (s : State) (src : Src) (c : Fin 4), s.m.mainOff = false →
      s.m.takes src (pgLin c) 0x05C 2 →
      exec (.linFrameWrite src c) s = .next (s.afterPage (s.m.ran src (pgLin c) 0x05C (fun m => m.linFrmWrite c)))) ∧
  (∀ (s : State) (c : Fin 4) (ms : Nat) (result : Fin 8) (data : List Byte) (sum : Byte) (i : Nat), s.m.mainOff = false →
      s.m.entering = false →
      s.m.running (pgLin c) →
      (s.m.lin c).slot ≤ ms →
      (s.m.lin c).sleepDue = false →
      s.m.flag (pgLin c) Lin.RUNNING →
      (s.m.lin c).polls = [] →
      s.m.linUpcoming c = some i →
      (s.m.linFrame c i).en →
      (s.m.linFrame c i).type = 0 →
      result = 1 →
      exec (.linSlot c ms result data sum) s = .next (s.after (((s.m.modLin c fun a => { a with slot := Lin.SLOT_T.of (s.m.linFrame c i).ctl, polls := a.polls.drop 1, next := i + 1 }).linFrameRuns c i 1 data sum).frameSeen (pgLin c)))) ∧
  (∀ (s : State) (c : Fin 4) (ms : Nat) (result : Fin 8) (data : List Byte) (sum : Byte), s.m.mainOff = false →
      s.m.entering = false →
      (s.m.lin c).sleepDue →
      s.m.running (pgLin c) →
      (s.m.lin c).slot ≤ ms →
      result.val ≠ 1 →
      exec (.linSlot c ms result data sum) s = .next (s.after ((s.m.linStop c).linAsleep c))) ∧
  (∀ (s : State) (c : Fin 4) (ident : Fin 64) (result : Fin 8) (data : List Byte) (sum : Byte) (k : Nat) (g : LinFrame), s.m.mainOff = false →
      s.m.flag (pgLin c) Lin.ROLE →
      s.m.running (pgLin c) →
      ident.val ≠ 0x3C →
      result = 1 →
      ((s.m.linAwake c).linFrames.find? (fun p => p.1 / 64 == c.val && p.2.en && p.2.ident == ident.val) = some (k, g)) →
      exec (.linHeader c ident result data sum) s = .next (s.after (((s.m.linAwake c).linFrameRuns c (k % 64) 1 data sum).frameSeen (pgLin c)))) ∧
  (∀ (s : State) (c : Fin 4) (ident : Fin 64) (result : Fin 8) (data : List Byte) (sum : Byte), s.m.mainOff = false →
      s.m.flag (pgLin c) Lin.ROLE →
      s.m.running (pgLin c) →
      1 < result.val →
      result.val ≤ 6 →
      ((s.m.linAwake c).linFrames.find? (fun p => p.1 / 64 == c.val && p.2.en && p.2.ident == ident.val) = none) →
      exec (.linHeader c ident result data sum) s = .next (s.after (s.m.linAwake c))) ∧
  (∀ (s : State) (c : Fin 4) (us : Nat), s.m.pwr.asleep ≠ 3 →
      s.m.mainOff = true →
      150 ≤ us →
      s.m.flag (pgLin c) Lin.WAKE_EN →
      exec (.linWakePulse c us) s = .next { s with m := s.m.wakeEvent 6 (pgLin c) }) ∧
  (∀ (s : State) (c : Fin 4) (ms : Nat), s.m.mainOff = false →
      20 ≤ ms →
      exec (.busShort c ms) s = .next (s.after (((s.m.modLin c fun _ => linReset).setFlag (pgLin c) Lin.RUNNING false).raise (pgLin c) 2)))

/-- Each Sync, telegram, time-out, supervision frame and link change, and each operation of the telegram window whose condition holds has the effect its rule gives. (17_backbone_hitch_and_fid.md R432, 17_backbone_hitch_and_fid.md R433, 17_backbone_hitch_and_fid.md R434, 17_backbone_hitch_and_fid.md R435, 17_backbone_hitch_and_fid.md R449) -/
def Obligations.BackboneComplete : Prop :=
  (∀ (s : State) (port domain : Nat) (masterNs hops : Nat) (utcOff : Int) (gmChange : Bool), s.m.mainOff = false →
      s.m.ethOn →
      s.m.ptpPort port →
      domain = s.m.fld pgEth Eth.DOMAIN →
      ((s.m.ptpRead ((s.m.ptp / 64 : Int) - masterNs) hops).ptpSync) →
      gmChange = false →
      ((s.m.ptpRead ((s.m.ptp / 64 : Int) - masterNs) hops).eth.slew = 0) →
      (((s.m.ptp / 64 : Int) - masterNs).natAbs ≤ 10000) →
      exec (.ptpSync port domain masterNs hops utcOff gmChange) s = .next (s.after (((s.m.ptpRead ((s.m.ptp / 64 : Int) - masterNs) hops).ptpSet masterNs false).utcCompare utcOff))) ∧
  (∀ (s : State) (port domain : Nat) (masterNs hops : Nat) (utcOff : Int) (gmChange : Bool), s.m.mainOff = false →
      s.m.ethOn →
      s.m.ptpPort port →
      domain = s.m.fld pgEth Eth.DOMAIN →
      ((s.m.ptpRead ((s.m.ptp / 64 : Int) - masterNs) hops).ptpSync = false) →
      (1000 ≤ ((s.m.ptp / 64 : Int) - masterNs).natAbs) →
      exec (.ptpSync port domain masterNs hops utcOff gmChange) s = .next (s.after (let m1 := (s.m.ptpRead ((s.m.ptp / 64 : Int) - masterNs) hops); (({ m1 with eth := { m1.eth with good := 0 } } : Mach).ptpSet masterNs (decide (1000000 < ((s.m.ptp / 64 : Int) - masterNs).natAbs)))))) ∧
  (∀ (s : State) (intervals : Nat) (offset : Int), s.m.mainOff = false →
      s.m.ptpSync →
      offset.natAbs ≤ 10000 →
      3 ≤ intervals →
      exec (.ptpLost intervals offset) s = .next (s.after s.m.ptpDrop)) ∧
  (∀ (s : State) (passing : List EthFrame) (f : PdFrame) (ix : Nat) (t : Telegram), s.m.mainOff = false →
      passing = [] →
      (s.m.ingress f.eth).1 →
      (s.m.ingress f.eth).2.trdpOn →
      (s.m.ingress f.eth).2.ready →
      f.fcsOk →
      ((s.m.ingress f.eth).2.reg pgEth 0x060 = 0) →
      ((s.m.ingress f.eth).2.reg pgEth 0x064 = 0) →
      ((s.m.ingress f.eth).2.eth.tels.find? (fun p => p.2.en && !p.2.publish && p.2.comid == f.comid) = some (ix, t)) →
      t.rxSeq ≠ some f.seq →
      exec (.pdFrameReceived passing f) s = .next (s.after (((s.m.ingress f.eth).2.setTel ix { t with rxSeq := some f.seq, ctl := Eth.TIMEOUT.put (Eth.LAN_B.put t.ctl (decide (f.eth.port = 3)).toNat) 0 }).hitchQueue ⟨2, f.comid, 0, f.data⟩))) ∧
  (∀ (s : State) (ix : Fin 256), s.m.mainOff = false →
      s.m.entering = false →
      s.m.ready →
      s.m.trdpOn →
      (s.m.tel ix).en →
      (s.m.tel ix).publish →
      ((s.m.tel ix).grid < (s.m.tel ix).gridNow s.m.ptp) →
      (s.m.tel ix).stepped = false →
      s.m.mirror 2 ix = none →
      exec (.trdpPublish ix) s = .next (s.after ((s.m.setTel ix { s.m.tel ix with grid := (s.m.tel ix).gridNow s.m.ptp, stepped := false }).telSend ix))) ∧
  (∀ (s : State) (comid : Word) (ix : Nat), s.m.mainOff = false →
      s.m.ready →
      s.m.trdpOn →
      (s.m.eth.tels.find? (fun p => p.2.en && p.2.publish && p.2.comid == comid) = some (ix, s.m.tel ix)) →
      exec (.prReceived comid) s = .next (s.after (s.m.telSend ix))) ∧
  (∀ (s : State) (ix : Fin 256) (ms : Nat), s.m.mainOff = false →
      s.m.ready →
      s.m.trdpOn →
      (s.m.tel ix).en →
      (s.m.tel ix).publish = false →
      (s.m.tel ix).tmo.toNat % 65536 ≠ 0 →
      (s.m.tel ix).tmo.toNat % 65536 ≤ ms →
      (s.m.tel ix).ctl.getLsbD 27 = false →
      (s.m.tel ix).ctl.getLsbD 29 = false →
      exec (.pdTmo ix ms) s = .next (s.after ((s.m.setTel ix { s.m.tel ix with ctl := Eth.TIMEOUT.put (s.m.tel ix).ctl 1 }).raise pgEth 1))) ∧
  (∀ (s : State) (ms : Nat), s.m.mainOff = false →
      s.m.entering = false →
      s.m.ethOn →
      2000 ≤ ms →
      exec (.prpSupervision ms) s = .next (s.afterPage ({ s.m with eth := { s.m.eth with supervised := s.m.eth.supervised + 1 } }))) ∧
  (∀ (s : State) (port : Fin 6) (up : Bool), s.m.mainOff = false →
      port.val ≠ 2 →
      port.val ≠ 3 →
      up →
      exec (.linkChange port up) s = .next (s.after ((s.m.setFld pgEth Eth.LINK (s.m.fld pgEth Eth.LINK ||| 2 ^ port.val)).ethSettle))) ∧
  (∀ (s : State) (src : Src), s.m.mainOff = false →
      s.m.takes src pgEth 0x07C 1 →
      exec (.telRead src) s = .next (s.afterPage (s.m.ran src pgEth 0x07C (fun m => m.telRead)))) ∧
  (∀ (s : State) (src : Src), s.m.mainOff = false →
      s.m.takes src pgEth 0x07C 2 →
      exec (.telWrite src) s = .next (s.afterPage (s.m.ran src pgEth 0x07C (fun m => m.telWrite))))

/-- A lookup of the first queued request walks the table from its home slot, the release of a waiting request, and the window operations of Hitch have the effect their rules give. (17_backbone_hitch_and_fid.md R437, 17_backbone_hitch_and_fid.md R439, 17_backbone_hitch_and_fid.md R440, 17_backbone_hitch_and_fid.md R441, 17_backbone_hitch_and_fid.md R450) -/
def Obligations.HitchComplete : Prop :=
  (∀ (s : State) (sk : Nat) (key : Word), s.m.mainOff = false →
      s.m.entering = false →
      s.m.ready →
      s.m.st pgHitch ≠ 4 →
      s.m.hitch.fifo = ⟨sk, key, 0, []⟩ :: [] →
      ((s.m.walk 32 (homeSlot sk key 0)).2 = false) →
      exec (.hitchLookup) s = .next (s.after (((s.m.walk 32 (homeSlot sk key 0)).1.foldl (fun (m : Mach) ix => if (m.hentry ix).fits sk key 0 then m.hitchEval ix ⟨sk, key, 0, []⟩ else m) (({ s.m with hitch := { s.m.hitch with fifo := [] } } : Mach).incWrap pgHitch Hitch.LOOKUPS))))) ∧
  (∀ (s : State) (ix : Fin 16384), s.m.mainOff = false →
      s.m.entering = false →
      s.m.ready →
      (s.m.hentry ix).waiting →
      exec (.gapExpire ix) s = .next (s.after (s.m.trigRequest ix))) ∧
  (∀ (s : State) (src : Src), s.m.mainOff = false →
      s.m.takes src pgHitch 0x064 1 →
      exec (.hitchRead src) s = .next (s.afterPage (s.m.ran src pgHitch 0x064 (fun m => m.hitchRead)))) ∧
  (∀ (s : State) (src : Src), s.m.mainOff = false →
      s.m.takes src pgHitch 0x064 2 →
      exec (.hitchWrite src) s = .next (s.after (s.m.ran src pgHitch 0x064 (fun m => m.hitchWrite))))

/-- A request, answer, report or HELLO of a joined peer is acted on as its rule gives, each timed step of a session acts when its condition holds, and the window operations of FID have their effect. (17_backbone_hitch_and_fid.md R443, 17_backbone_hitch_and_fid.md R444, 17_backbone_hitch_and_fid.md R445, 17_backbone_hitch_and_fid.md R446, 17_backbone_hitch_and_fid.md R447, 17_backbone_hitch_and_fid.md R448, 17_backbone_hitch_and_fid.md R451) -/
def Obligations.FidComplete : Prop :=
  (∀ (s : State) (k : Fin 256) (h : FidHead) (items : List (BitVec 16 × BitVec 16)), s.m.mainOff = false →
      s.m.ready →
      (s.m.fidIn k h).1 = 2 →
      exec (.fidRead k h items) s = .next (s.after ((s.m.fidIn k h).2.fidActed k h.seq.toNat (items.map (fun (q : BitVec 16 × BitVec 16) => FItem.read q.1.toNat q.2.toNat))))) ∧
  (∀ (s : State) (k : Fin 256) (h : FidHead) (items : List (BitVec 16 × BitVec 16 × Word × Word)), s.m.mainOff = false →
      s.m.ready →
      (s.m.fidIn k h).1 = 2 →
      exec (.fidWrite k h items) s = .next (s.after ((s.m.fidIn k h).2.fidActed k h.seq.toNat (items.map (fun (q : BitVec 16 × BitVec 16 × Word × Word) => FItem.write q.1.toNat q.2.1.toNat q.2.2.1 q.2.2.2))))) ∧
  (∀ (s : State) (k : Fin 256) (h : FidHead) (items : List (BitVec 16 × Word × Word)), s.m.mainOff = false →
      s.m.ready →
      (s.m.fidIn k h).1 = 2 →
      exec (.fidCmd k h items) s = .next (s.after ((s.m.fidIn k h).2.fidActed k h.seq.toNat (items.map (fun (q : BitVec 16 × Word × Word) => FItem.cmd q.1.toNat q.2.1 q.2.2))))) ∧
  (∀ (s : State) (k : Fin 256) (h : FidHead) (items : List (BitVec 16)), s.m.mainOff = false →
      s.m.ready →
      (s.m.fidIn k h).1 = 2 →
      exec (.subscribe k h items) s = .next (s.after ((s.m.fidIn k h).2.fidActed k h.seq.toNat (items.map (fun (q : BitVec 16) => FItem.subscribe q.toNat))))) ∧
  (∀ (s : State) (k : Fin 256) (h : FidHead) (ack : Word) (items : List FResp) (o : FOut), s.m.mainOff = false →
      s.m.ready →
      (s.m.fidIn k h).1 = 2 →
      (((s.m.fidIn k h).2.peer k).out.find? (fun q => q.seq == ack.toNat) = some o) →
      exec (.resp k h ack items) s = .next (s.after (((s.m.fidIn k h).2.modPeer k (fun p => { p with out := p.out.filter fun x => x.seq != ack.toNat })).proxyAnswers o.items items))) ∧
  (∀ (s : State) (k : Fin 256) (h : FidHead) (unit : BitVec 16) (caps state fset ffirst : Word), s.m.mainOff = false →
      s.m.ready →
      (s.m.fidIn k h).1 = 2 →
      exec (.report k h unit caps state fset ffirst) s = .next (s.after ((((s.m.fidIn k h).2.proxiesOf k).filter fun n => ((s.m.fidIn k h).2.proxy n).remote == unit.toNat).foldl (fun (m : Mach) n => (((m.proxyFetched n 0x004 caps).proxyFetched n 0x014 ffirst).proxyFetched n 0x018 fset).proxyFetched n 0x00C state) (s.m.fidIn k h).2))) ∧
  (∀ (s : State) (k : Fin 256) (h : FidHead) (echo : Word), s.m.mainOff = false →
      s.m.ready →
      (s.m.fidArrives k h).1 →
      h.epoch ≠ 0 →
      (((s.m.fidArrives k h).2.peer k).pstate = 2) →
      (((s.m.fidArrives k h).2.peer k).epoch = h.epoch) →
      (((s.m.fidArrives k h).2.peer k).replayed h.seq.toNat = false) →
      echo = (s.m.fidArrives k h).2.fid.epoch →
      echo ≠ 0 →
      exec (.hello k h echo) s = .next (s.after (let m1 := (s.m.fidArrives k h).2; (((m1.setPeer k { (m1.peer k).take h.seq.toNat with pstate := 2 }).incWrap pgFid Fid.RX_MSGS).peerShow k)))) ∧
  (∀ (s : State) (k : Fin 256) (seq : Word) (ms : Nat) (o : FOut), s.m.mainOff = false →
      s.m.entering = false →
      s.m.ready →
      s.m.fidRuns →
      s.m.fld pgFid Fid.TMO ≤ ms →
      ((s.m.peer k).out.find? (fun q => q.seq == seq.toNat) = some o) →
      o.resent < s.m.fld pgFid Fid.RETRY →
      exec (.fidResend k seq ms) s = .next (s.after ((s.m.modPeer k fun p => { p with out := p.out.map fun x => if x.seq == seq.toNat then { x with resent := x.resent + 1 } else x }).incWrap pgFid Fid.TX_MSGS))) ∧
  (∀ (s : State) (ms : Nat), s.m.mainOff = false →
      s.m.entering = false →
      s.m.ready →
      s.m.fld pgFid Fid.HELLO_T ≤ ms →
      s.m.fid.epoch ≠ 0 →
      s.m.fidRuns →
      exec (.helloTimer ms) s = .next (s.after ((s.m.fid.peers.filter fun p => p.2.en).foldl (fun (m : Mach) p => m.fidTx p.1) s.m))) ∧
  (∀ (s : State) (k : Fin 256) (ms : Nat), s.m.mainOff = false →
      s.m.ready →
      s.m.fidRuns →
      (s.m.peer k).en →
      (s.m.peer k).pstate = 2 →
      3 * s.m.fld pgFid Fid.HELLO_T ≤ ms →
      exec (.peerLost k ms) s = .next (s.after (((s.m.modPeer k fun p => { p with pstate := 3 }).raise pgFid 2).peerShow k))) ∧
  (∀ (s : State), s.m.mainOff = false →
      s.m.entering = false →
      s.m.ready →
      s.m.fidRuns →
      s.m.drbgOk →
      s.m.fid.ending →
      (s.m.fid.peers.all (fun p => p.2.out.isEmpty)) →
      exec (.epochEnd) s = .next (s.after s.m.fidRenew.fidHelloAll)) ∧
  (∀ (s : State) (k : Fin 256) (n : Fin 32768) (ms : Nat), s.m.mainOff = false →
      s.m.entering = false →
      s.m.ready →
      s.m.fidRuns →
      s.m.fid.ending = false →
      (s.m.peer k).pstate = 2 →
      ((s.m.peer k).subs.find? (fun q => q.1 == n.val) = some (n.val, none)) →
      exec (.reportSend k n ms) s = .next (s.after ((s.m.modPeer k fun p => { p with subs := p.subs.map fun x => if x.1 == n.val then (n.val, some (s.m.peek n 0x00C, s.m.peek n 0x018)) else x }).fidTx k))) ∧
  (∀ (s : State) (k : Fin 256) (us : Nat), s.m.mainOff = false →
      s.m.entering = false →
      s.m.ready →
      s.m.fidRuns →
      s.m.fid.ending = false →
      (s.m.peer k).pstate = 2 →
      200 ≤ us →
      exec (.proxyGatherFlush k us) s = .next (s.after ((itemRuns ((s.m.peer k).gather.take 64)).foldl (fun (m : Mach) r => (m.fidTx k).modPeer k fun p => { p with out := p.out ++ [⟨p.tx, r, 0⟩] }) (s.m.setPeer k { s.m.peer k with gather := (s.m.peer k).gather.drop 64 })))) ∧
  (∀ (s : State) (p : Fin 8192) (ms : Nat), s.m.mainOff = false →
      s.m.entering = false →
      s.m.ready →
      s.m.fld pgFid Fid.REPORT_T ≤ ms →
      (s.m.proxy (pgProxy p)).bind →
      s.m.fidRuns →
      ((s.m.peer (s.m.proxy (pgProxy p)).peer).pstate = 2) →
      exec (.proxyCacheRefresh p ms) s = .next (s.after ((List.range (s.m.proxy (pgProxy p)).len).foldl (fun (m : Mach) j => m.gather (pgProxy p) (.read (s.m.proxy (pgProxy p)).remote ((s.m.proxy (pgProxy p)).ofs + 4 * j))) s.m))) ∧
  (∀ (s : State) (src : Src), s.m.mainOff = false →
      s.m.takes src pgFid 0x064 1 →
      exec (.fidPeerRead src) s = .next (s.afterPage (s.m.ran src pgFid 0x064 (fun m => m.peerRead)))) ∧
  (∀ (s : State) (src : Src), s.m.mainOff = false →
      s.m.takes src pgFid 0x064 2 →
      exec (.fidPeerWrite src) s = .next (s.after (s.m.ran src pgFid 0x064 (fun m => m.peerWrite)))) ∧
  (∀ (s : State) (src : Src), s.m.mainOff = false →
      s.m.takes src pgFid 0x064 3 →
      exec (.fidProxyRead src) s = .next (s.afterPage (s.m.ran src pgFid 0x064 (fun m => m.proxyRead)))) ∧
  (∀ (s : State) (src : Src), s.m.mainOff = false →
      s.m.takes src pgFid 0x064 4 →
      exec (.fidProxyWrite src) s = .next (s.after (s.m.ran src pgFid 0x064 (fun m => m.proxyBind))))

/-- Each frame of the pair, each timed step of formation, running, confirmation and take-over, and each operation of the guard window whose condition holds has the effect its rule gives. (18_splice_pairs.md R453, 18_splice_pairs.md R454, 18_splice_pairs.md R456, 18_splice_pairs.md R457, 18_splice_pairs.md R458, 18_splice_pairs.md R459, 18_splice_pairs.md R460, 18_splice_pairs.md R463, 18_splice_pairs.md R465, 18_splice_pairs.md R466, 18_splice_pairs.md R467, 18_splice_pairs.md R468) -/
def Obligations.SpliceComplete : Prop :=
  (∀ (s : State) (ok : Bool) (fseq dev pref role : Nat) (digest : List Byte), s.m.mainOff = false →
      s.m.fld pgSplice Splice.PSTATE = 1 →
      ((s.m.frameIn (ok && dev == s.m.fld pgSplice Splice.PEER_DEV) fseq).1) →
      (((s.m.frameIn (ok && dev == s.m.fld pgSplice Splice.PEER_DEV) fseq).2.setFlag pgSplice Splice.KEYED true).splice.mismatchAt = none) →
      exec (.spliceHello ok fseq dev pref role digest) s = .next (s.afterState (let u := (s.m.frameIn (ok && dev == s.m.fld pgSplice Splice.PEER_DEV) fseq).2.setFlag pgSplice Splice.KEYED true; { s with m := if u.digestEq s.mem digest && u.guarded.all (fun n => u.heldOk n) then u.pairFormed (u.becomesLead dev pref role) else (u.modSplice fun x => { x with mismatchAt := some u.rk }).raise pgSplice 1 }))) ∧
  (∀ (s : State) (ok : Bool) (fseq : Nat) (units : List IntentUnit) (log : List (Nat × Bool × Word × Nat)) (dly off : BitVec 16), s.m.mainOff = false →
      s.m.fld pgSplice Splice.PSTATE = 2 →
      s.m.isSecond →
      (s.m.frameIn ok fseq).1 →
      exec (.intent ok fseq units log dly off) s = .next (s.afterLink ((s.m.frameIn ok fseq).2.intentTake units (log.map (fun (q : Nat × Bool × Word × Nat) => LogItem.mk q.1 q.2.1 q.2.2.1 q.2.2.2)) dly off))) ∧
  (∀ (s : State) (us : Nat), s.m.mainOff = false →
      s.m.entering = false →
      s.m.leadPair →
      1000 ≤ us →
      logBytes s.m.splice.log ≤ 65536 →
      exec (.intentSend us) s = .next (s.after (s.m.frameOut.modSplice fun x => { x with log := [] }))) ∧
  (∀ (s : State) (us : Nat), s.m.mainOff = false →
      s.m.entering = false →
      s.m.leadPair →
      1000 ≤ us →
      65536 < logBytes s.m.splice.log →
      exec (.intentSend us) s = .next (s.after ((s.m.frameOut.modSplice fun x => { x with log := [] }).ckptTake false))) ∧
  (∀ (s : State) (ok : Bool) (fseq : Nat) (e : Edge), s.m.mainOff = false →
      s.m.secondPair →
      (s.m.frameIn ok fseq).1 →
      e.cause ≠ 1 →
      e.cause ≠ 2 →
      (s.m.frameIn ok fseq).2.isLead = false →
      (s.m.frameIn ok fseq).2.linkNs ≤ e.at_ →
      exec (.edge ok fseq e) s = .next (s.afterLink ((s.m.frameIn ok fseq).2.modSplice fun x => { x with edges := x.edges ++ [e] }))) ∧
  (∀ (s : State) (e : Edge), s.m.mainOff = false →
      (s.m.splice.edges.find? (fun e => decide (e.at_ ≤ s.m.linkNs)) = some e) →
      exec (.edgeApply) s = .next (s.afterLink ((s.m.modSplice fun x => { x with edges := x.edges.erase e }).applyEdge e))) ∧
  (∀ (s : State) (ok : Bool) (fseq acked : Nat) (legs : List (Nat × Nat × Bool)) (dly : BitVec 16), s.m.mainOff = false →
      s.m.leadPair →
      (s.m.frameIn ok fseq).1 →
      exec (.ack ok fseq acked legs dly) s = .next (s.after ({ (s.m.frameIn ok fseq).2.setFld pgSplice Splice.DLY dly.toNat with splice := { ((s.m.frameIn ok fseq).2).splice with acked := acked, legs := legs, heardAt := ((s.m.frameIn ok fseq).2).rk } }))) ∧
  (∀ (s : State) (us : Nat), s.m.mainOff = false →
      s.m.entering = false →
      s.m.fld pgSplice Splice.PSTATE = 2 →
      s.m.isSecond →
      1000 ≤ us →
      exec (.ackSend us) s = .next (s.after s.m.frameOut)) ∧
  (∀ (s : State) (ms : Nat) (sent : Bool), s.m.mainOff = false →
      s.m.entering = false →
      s.m.leadPair →
      s.m.fld pgSplice Splice.CKPT_T ≤ ms →
      exec (.ckpt ms sent) s = .next (s.afterState ({ s with m := s.m.ckptTake sent }))) ∧
  (∀ (s : State) (ok : Bool) (fseq : Nat) (crcOk : Bool) (c : Fin 6) (img : CkptImg), s.m.mainOff = false →
      s.m.fld pgSplice Splice.PSTATE = 2 →
      s.m.isSecond →
      appCore c →
      (s.m.frameIn ok fseq).1 →
      crcOk →
      ckptSound img →
      exec (.ckptReceived ok fseq crcOk c img) s = .next (s.afterState (ckptGood c img { s with m := (s.m.frameIn ok fseq).2.ckptJoin c }))) ∧
  (∀ (s : State) (coreOk memOk : Bool) (rx : Option (Bool × Nat × BitVec 4 × List Nat)), s.m.mainOff = false →
      s.m.entering = false →
      s.m.paired →
      rx = none →
      exec (.spliceHealth coreOk memOk rx) s = .next (s.after (s.m.frameOut.modSplice fun x => { x with healthTx := x.healthTx + 1, healthOut := (s.m.healthBits coreOk memOk, s.m.feedStates) }))) ∧
  (∀ (s : State) (coreOk memOk : Bool) (rx : Option (Bool × Nat × BitVec 4 × List Nat)) (ok : Bool) (fseq : Nat) (bits : BitVec 4) (banks : List Nat), s.m.mainOff = false →
      s.m.entering = false →
      s.m.paired →
      rx = some (ok, fseq, bits, banks) →
      (s.m.frameIn ok fseq).1 →
      (((((s.m.frameIn ok fseq).2.setFld pgSplice Splice.PEER_HFLAGS bits.toNat).modSplice fun x => { x with peerBanks := banks })).isLead) →
      exec (.spliceHealth coreOk memOk rx) s = .next (s.after ((((s.m.frameIn ok fseq).2.setFld pgSplice Splice.PEER_HFLAGS bits.toNat).modSplice fun x => { x with peerBanks := banks }).setFlag pgSplice Splice.PARTNER_FIT (bits == 15#4)))) ∧
  (∀ (s : State) (ms : Nat), s.m.mainOff = false →
      s.m.leadPair →
      3000 ≤ ms →
      exec (.partnerUnfit ms) s = .next (s.after (s.m.setFlag pgSplice Splice.PARTNER_FIT false))) ∧
  (∀ (s : State) (ms : Nat), s.m.mainOff = false →
      s.m.fld pgSplice Splice.PSTATE = 2 →
      s.m.isSecond →
      3 ≤ ms →
      exec (.leadLost ms) s = .next (s.after (((s.m.setPstate 3).raise pgSplice 2).stepCores.foldl (fun (m : Mach) (c : Nat) => m.modCore c fun k => { k with replay := false }) ((s.m.setPstate 3).raise pgSplice 2)))) ∧
  (∀ (s : State) (answered : Bool), s.m.mainOff = false →
      s.m.fld pgSplice Splice.PSTATE = 3 →
      answered = false →
      exec (.spliceProbe answered) s = .next (s.after (s.m.modSplice fun x => { x with probes := x.probes + 1 }))) ∧
  (∀ (s : State) (ms : Nat), s.m.mainOff = false →
      s.m.fld pgSplice Splice.PSTATE = 3 →
      20 ≤ ms →
      s.m.ownHealth ≤ 1 →
      (s.m.backboneUp ∨ s.m.flag pgSplice Splice.BLIND = false) →
      exec (.confirmEnd ms) s = .next (s.after ((s.m.setPstate 4).setFld pgSplice Splice.ROLE 1))) ∧
  (∀ (s : State), s.m.mainOff = false →
      s.m.fld pgSplice Splice.PSTATE = 4 →
      exec (.restoreComplete) s = .next (s.afterState (s.m.coldCores.foldl (fun (s : State) (c : Nat) => restoreCore c s) s))) ∧
  (∀ (s : State) (us : Nat), s.m.mainOff = false →
      s.m.fld pgSplice Splice.PSTATE = 4 →
      (s.m.splice.log.any (fun x => (s.m.core x.core).replay) = false) →
      exec (.replayComplete us) s = .next (s.after (let m1 := ((((s.m.setFld pgSplice Splice.LAST_GAP (min ((us + 999) / 1000) 65535)).incSat pgSplice Splice.TAKEOVERS).setPstate 5).setFld pgSplice Splice.STEP_CORES 0).setFld pgSplice Splice.COLD_CORES 0; ((List.range 6).foldl (fun (m : Mach) (c : Nat) => m.modCore c fun k => { k with replay := false }) m1)))) ∧
  (∀ (s : State) (ms : Nat), s.m.mainOff = false →
      s.m.leadPair →
      3 ≤ ms →
      exec (.partnerLost ms) s = .next (s.after ((s.m.raise pgSplice 3).setPstate 5))) ∧
  (∀ (s : State) (n : Fin 32768) (on : Bool) (us : Nat), s.m.mainOff = false →
      s.m.pairHeld n →
      on ≠ s.m.legIntent n →
      2000 < us →
      exec (.legMismatch n on us) s = .next (s.after ((s.m.modSplice fun x => { x with misUnit := n }).raise pgSplice 5))) ∧
  (∀ (s : State) (c : Fin 128) (cur tenths : Nat), s.m.mainOff = false →
      s.m.leadPair →
      s.m.flag (pgOut c) Out.DUPLEX →
      s.m.splice.legs = [] →
      s.m.fld (pgOut c) Out.ILIM < cur →
      (max (s.m.fld (pgOut c) Out.TRIP) 20 ≤ tenths) →
      exec (.pairTrip c cur tenths) s = .next (s.after (s.m.outTrip c 2))) ∧
  (∀ (s : State) (src : Src), s.m.mainOff = false →
      s.m.takes src pgSplice 0x05C 1 →
      exec (.guardRead src) s = .next (s.afterPage (s.m.ran src pgSplice 0x05C (fun m => m.guardRead)))) ∧
  (∀ (s : State) (src : Src), s.m.mainOff = false →
      s.m.takes src pgSplice 0x05C 2 →
      exec (.guardWrite src) s = .next (s.after (s.m.ran src pgSplice 0x05C (fun m => m.guardWrite)))) ∧
  (∀ (s : State) (up : Bool), s.m.mainOff = false →
      up = false →
      exec (.spliceLinkChange up) s = .next (s.after ((s.m.setFlag pgSplice Splice.LINK false).raise pgSplice 0))) ∧
  (∀ (s : State) (ms : Nat), s.m.mainOff = false →
      s.m.entering = false →
      10 ≤ ms →
      s.m.fld pgSplice Splice.PSTATE = 1 →
      exec (.spliceHelloTimer ms) s = .next (s.after s.m.frameOut))

/-- Each step of a sleep entry, each wake source, each clock change and each event of the coordinated network sleep whose condition holds has the effect its rule gives. (19_power_states_and_network_sleep.md R471, 19_power_states_and_network_sleep.md R472, 19_power_states_and_network_sleep.md R474, 19_power_states_and_network_sleep.md R475, 19_power_states_and_network_sleep.md R476, 19_power_states_and_network_sleep.md R477, 19_power_states_and_network_sleep.md R478, 19_power_states_and_network_sleep.md R479, 19_power_states_and_network_sleep.md R480, 19_power_states_and_network_sleep.md R482, 19_power_states_and_network_sleep.md R483) -/
def Obligations.PowerComplete : Prop :=
  (∀ (s : State) (src : Src), s.m.mainOff = false →
      s.m.takes src pgPwr 0x044 1 →
      exec (.sleep src) s = .next (s.after (s.m.ran src pgPwr 0x044 (fun m => m.sleepOp src)))) ∧
  (∀ (s : State) (n : Nat), s.m.mainOff = false →
      s.m.pstate = 2 →
      s.m.refuser = some n →
      exec (.rollback) s = .next (s.after (s.m.rollback false false n))) ∧
  (∀ (s : State) (us : Nat) (n : Fin 32768), s.m.mainOff = false →
      s.m.pstate = 2 →
      200 ≤ us →
      exec (.prepareTimeout us n) s = .next (s.after (s.m.rollback true false n))) ∧
  (∀ (s : State), s.m.mainOff = false →
      s.m.pstate = 2 →
      s.m.refuser = none →
      exec (.commit) s = .next (s.after s.m.commit)) ∧
  (∀ (s : State), s.m.mainOff = false →
      s.m.pstate = 3 →
      exec (.commitComplete) s = .next (s.afterFeed ({ s with m := s.m.commitDone, mem := keepMem keptAsleep s.mem }))) ∧
  (∀ (s : State) (us : Nat) (table : List (Fin 16384 × List Word)), s.m.mainOff = true →
      s.m.pstate = 4 →
      s.m.pwr.asleep = 1 →
      exec (.wake us table) s = .next (s.afterFeed (wakeRow us table s))) ∧
  (∀ (s : State) (mv us : Nat), s.m.pwr.asleep ≠ 3 →
      s.m.mainOff = true →
      mv ≤ 2000 →
      1000 ≤ us →
      exec (.wakeN mv us) s = .next { s with m := s.m.wakeEvent 1 pgPwr }) ∧
  (∀ (s : State) (ms : Nat) (n : Nat), s.m.mainOff = false →
      s.m.pwr.suspect = some n →
      s.m.fld pgPwr Pwr.FW_T ≤ ms →
      exec (.falseWake ms) s = .next (s.after ((({ s.m with pwr := { s.m.pwr with suspect := none } } : Mach).incSat pgPwr Pwr.FALSE_WAKES).raise pgPwr 1))) ∧
  (∀ (s : State) (src : Src) (v : Word), s.m.mainOff = false →
      s.m.takes src pgClk 0x040 v →
      exec (.pllEnWrite src v) s = .next (s.after (s.m.ran src pgClk 0x040 (fun m => m.classWrite src pgClk 0x040 v)))) ∧
  (∀ (s : State) (src : Src) (v : Word), s.m.mainOff = false →
      s.m.takes src pgClk 0x040 v →
      exec (.coreSrcWrite src v) s = .next (s.after (s.m.ran src pgClk 0x040 (fun m => m.classWrite src pgClk 0x040 v)))) ∧
  (∀ (s : State) (us : Nat), s.m.mainOff = false →
      s.m.flag pgClk Clk.PLL_EN →
      exec (.pllLock us) s = .next (s.after (((s.m.setFlag pgClk Clk.LOCKED true).setFld pgClk Clk.LOCK_T (min us 65535)).settleUnit pgClk))) ∧
  (∀ (s : State), s.m.mainOff = false →
      s.m.flag pgClk Clk.LOCKED →
      exec (.pllUnlock) s = .next (s.after (((((s.m.setFlag pgClk Clk.LOCKED false).onPll false).incSat pgClk Clk.UNLOCKS).raise pgClk 0).settleUnit pgClk))) ∧
  (∀ (s : State) (trim err : Int), s.m.mainOff = false →
      s.m.entering = false →
      s.m.flag pgReckon Reckon.XTAL_OK →
      s.m.flag pgClk Clk.TRIM_EN →
      exec (.hfRcTrim trim err) s = .next (s.after ((s.m.setSFld pgClk Clk.HF_TRIM (max (-32768) (min trim 32767))).setFlag pgClk Clk.TRIMMED (decide (err.natAbs ≤ 10))))) ∧
  (∀ (s : State) (trim err : Int), s.m.mainOff = false →
      s.m.entering = false →
      s.m.flag pgReckon Reckon.XTAL_OK = false →
      exec (.hfRcTrim trim err) s = .next (s.after (((s.m.setFlag pgClk Clk.TRIMMED false).setFld pgClk Clk.HF_TRIM 0).raise pgClk 1))) ∧
  (∀ (s : State) (ins : List (BitVec 16 × Bool)) (touches : List (BitVec 16 × BitVec 16)), s.m.pwr.asleep ≠ 3 →
      s.m.mainOff = true →
      s.m.pwr.asleep = 1 →
      s.m.watchSteps ≠ [] →
      exec (.watchStep ins touches) s = .next { s with m := s.m.watchStep ins touches }) ∧
  (∀ (s : State) (c : Fin 128), s.m.pwr.asleep ≠ 3 →
      s.m.mainOff = true →
      s.m.pwr.asleep = 1 →
      s.m.pwr.supplies.contains (pgOut c) →
      exec (.supply c) s = .next { s with m := ({ s.m with pwr := { s.m.pwr with supplies := s.m.pwr.supplies.filter fun a => a != pgOut c } } : Mach).wakeEvent 10 (pgOut c) }) ∧
  (∀ (s : State) (ix : Fin 96) (v us : Nat), s.m.pwr.asleep ≠ 3 →
      s.m.mainOff = true →
      ix.val < 16 →
      s.m.flag (pgIn ix) Inp.STATIC →
      s.m.flag (pgIn ix) Inp.NETWORK = false →
      1000 ≤ us →
      (s.m.unit (pgIn ix)).enabled →
      s.m.fld (pgIn ix) Inp.CLASS = 0 →
      1200 ≤ v →
      s.m.flag (pgIn ix) Inp.INVERT = false →
      s.m.flag (pgIn ix) Inp.ACTIVE = false →
      (s.m.fld (pgIn ix) Inp.WAKE).testBit 0 →
      exec (.staticComparator ix v us) s = .next { s with m := s.m.wakeEvent 2 (pgIn ix) }) ∧
  (∀ (s : State) (q : NmMsg), s.m.mainOff = false →
      s.m.nmState = 1 →
      q.wake →
      (q.src ≠ (s.m.setSeen q.consent).fld pgPwr Pwr.SUCC) →
      exec (.nmMessage q) s = .next (s.after (s.m.setSeen q.consent))) ∧
  (∀ (s : State) (q : NmMsg), s.m.mainOff = false →
      s.m.nmState = 2 →
      q.wake = false →
      q.confirm = false →
      q.dest = (s.m.setSeen q.consent).nmNode →
      (q.src ≠ (s.m.setSeen q.consent).fld pgPwr Pwr.SUCC) →
      exec (.nmMessage q) s = .next (s.after (let m1 := s.m.setSeen q.consent; let anchor := decide (m1.nmNode < q.src) || nmAlone m1.nmMembers m1.nmNode; let r := (if !m1.consent then 0 else if !anchor then q.rounds else if nmAll m1.nmMembers q.consent then min (q.rounds + 1) 2 else 0); let m2 := (m1.setFlag pgPwr Pwr.ANCHOR anchor).setNm 2; { m2 with pwr := { m2.pwr with fwd := some ⟨m2.nmNode, nmNext m1.nmMembers m1.nmNode, false, anchor && r == 2, r, 0⟩ } }))) ∧
  (∀ (s : State) (ms : Nat) (q : NmMsg), s.m.mainOff = false →
      s.m.pwr.fwd = some q →
      s.m.nmState = 2 →
      s.m.fld pgPwr Pwr.T_HOP ≤ ms →
      (q.confirm && s.m.consent) = false →
      exec (.nmForward ms) s = .next (s.after (s.m.nmSend { q with rounds := if s.m.consent then q.rounds else 0, confirm := false, consent := s.m.nmBits }))) ∧
  (∀ (s : State) (ms : Nat), s.m.mainOff = false →
      s.m.nmState = 2 →
      s.m.pwr.await →
      s.m.fld pgPwr Pwr.SKIP_T ≤ ms →
      exec (.ringSkip ms) s = .next (s.after (let u := ((s.m.setSeen (nmBit s.m.nmSeen (s.m.fld pgPwr Pwr.SUCC) true)).incSat pgPwr Pwr.SKIPS).raise pgPwr 2; u.nmSend { u.pwr.last with dest := nmNext u.nmMembers (s.m.fld pgPwr Pwr.SUCC), consent := u.nmBits }))) ∧
  (∀ (s : State) (ms : Nat), s.m.mainOff = false →
      s.m.nmState = 1 →
      (s.m.fld pgPwr Pwr.LOST_T + s.m.nmNode * s.m.fld pgPwr Pwr.T_HOP ≤ ms) →
      exec (.ringListenTimeout ms) s = .next (s.after ((s.m.setNm 2).nmSend ⟨s.m.nmNode, nmNext s.m.nmMembers s.m.nmNode, false, false, 0, s.m.nmBits⟩))) ∧
  (∀ (s : State) (ms : Nat), s.m.mainOff = false →
      s.m.nmState = 2 →
      s.m.fld pgPwr Pwr.LOST_T ≤ ms →
      exec (.ringLost ms) s = .next (s.after (({ s.m with pwr := { s.m.pwr with fwd := none, await := false } } : Mach).setNm 1))) ∧
  (∀ (s : State) (ms : Nat), s.m.mainOff = false →
      s.m.nmState = 3 →
      s.m.pstate ≤ 1 →
      s.m.fld pgPwr Pwr.T_GRACE ≤ ms →
      exec (.graceEnd ms) s = .next (s.after s.m.prepare)) ∧
  (∀ (s : State), s.m.mainOff = false →
      s.m.nmState = 3 →
      s.m.fld pgPwr Pwr.PSTATE ≤ 1 →
      exec (.networkRace) s = .next (s.after s.m.nmRace)) ∧
  (∀ (s : State) (src : Src) (v : Word), s.m.mainOff = false →
      s.m.takes src pgPwr 0x078 v →
      exec (.consentWrite src v) s = .next (s.after (s.m.ran src pgPwr 0x078 (fun m => m.consentWrite (v.getLsbD 0))))) ∧
  (∀ (s : State) (src : Src) (v : Word), s.m.mainOff = false →
      s.m.takes src pgPwr 0x064 v →
      exec (.nmEnWrite src v) s = .next (s.after (s.m.ran src pgPwr 0x064 (fun m => m.classWrite src pgPwr 0x064 v))))

/-- The start of the logic feed, a watchdog reset, an update and a recovery image have the start that chapter 22 gives, the loss of both logic feeds leaves the module in Off, and the rollback floor rises to the running version. (22_startup_and_electrical.md R528, 22_startup_and_electrical.md R530, 22_startup_and_electrical.md R533, 22_startup_and_electrical.md R534, 22_startup_and_electrical.md R536) -/
def Obligations.StartsComplete : Prop :=
  (∀ (s : State) (b : Fin 2) (mV us : Nat) (fuses : Fuses) (fail : Option (Fin 16)) (config : Option (List (Nat × Nat × Word))), 13000 ≤ mV →
      1000 ≤ us →
      s.m.pwr.upA = false →
      s.m.pwr.upB = false →
      exec (.logicFeedStart b mV us fuses fail config) s = .next (s.afterFeed (bootFrom config 0 { s with m := (s.m.fed fuses (fail.map (fun (k : Fin 16) => k.val)) (tamperCode config)).setLogicFeed b true, mem := keepMem keptOff s.mem }))) ∧
  (∀ (s : State) (b : Fin 2) (mV us : Nat) (fuses : Fuses) (fail : Option (Fin 16)) (config : Option (List (Nat × Nat × Word))), 13000 ≤ mV →
      1000 ≤ us →
      s.m.pwr.upA ∨ s.m.pwr.upB →
      exec (.logicFeedStart b mV us fuses fail config) s = .next (s.afterFeed ({ s with m := s.m.setLogicFeed b true }))) ∧
  (∀ (s : State) (b : Fin 2) (mV us : Nat), mV < 12000 →
      10000 ≤ us →
      s.m.feedAbove b →
      ((s.m.setLogicFeed b false).pwr.upA = false) →
      ((s.m.setLogicFeed b false).pwr.upB = false) →
      exec (.logicFeedStop b mV us) s = .next (s.afterFeed ({ s with m := (s.m.setLogicFeed b false).unfed, mem := keepMem keptOff s.mem }))) ∧
  (∀ (s : State) (b : Fin 2) (mV us : Nat), mV < 12000 →
      10000 ≤ us →
      s.m.feedAbove b →
      ((s.m.setLogicFeed b false).pwr.upA ∨ (s.m.setLogicFeed b false).pwr.upB) →
      exec (.logicFeedStop b mV us) s = .next (s.afterFeed ({ s with m := s.m.setLogicFeed b false }))) ∧
  (∀ (s : State) (ms : Nat) (config : Option (List (Nat × Nat × Word))), s.m.mainOff = false →
      100 < ms →
      exec (.watchdog ms config) s = .next (s.afterFeed (bootFrom config 1 { s with m := s.m.domainLost.bootChannels, mem := keepMem keptAsleep s.mem }))) ∧
  (∀ (s : State) (config : Option (List (Nat × Nat × Word))), s.m.mainOff = false →
      exec (.update config) s = .next (s.afterFeed (bootFrom config 2 { s with m := s.m.domainLost.bootChannels, mem := keepMem keptAsleep s.mem }))) ∧
  (∀ (s : State) (image : List Byte) (config : Option (List (Nat × Nat × Word))), s.m.mainOff = false →
      s.m.flag pgPwr Pwr.READY = false →
      s.m.fld pgDev Dev.FWVER = 0 →
      image.length ≤ 0x400000 →
      exec (.recoveryImage image config) s = .next (s.afterFeed (if firmwareOk s.m (writeBytes (bankAt 0) image (eraseRange (bankAt 0) 0x400000 s.mem)) 0 then bootFrom config 0 { s with mem := writeBytes (bankAt 0) image (eraseRange (bankAt 0) 0x400000 s.mem) } else s))) ∧
  (∀ (s : State) (h : Nat), s.m.mainOff = false →
      1 ≤ h →
      exec (.rollbackFloorRaise h) s = .next (s.after ({ s.m with floors := tput s.m.floors 0 0 (max (tget s.m.floors 0 0) (s.m.fld pgDev Dev.FWVER)) })))

/-- A write of a mailbox that is not BUSY starts the request of its service in the Locker's order; the first request runs to its end; the slot window, tamper events, health tests and the reseed have the effect their rules give. (20_locker_security.md R492, 20_locker_security.md R494, 20_locker_security.md R497, 20_locker_security.md R498, 20_locker_security.md R499, 20_locker_security.md R503, 20_locker_security.md R504, 20_locker_security.md R508) -/
def Obligations.LockerComplete : Prop :=
  (∀ (s : State) (src : Src) (c : Fin 6) (slot slot2 : Fin 64), s.m.mainOff = false →
      (s.m.takes src pgLocker (0x100 + 0x20 * c) (svcWord 0 slot slot2)) →
      exec (.lockerNop src c slot slot2) s = .next (s.after (s.m.ran src pgLocker (0x100 + 0x20 * c) (fun m => m.mbCmd c (svcWord 0 slot slot2))))) ∧
  (∀ (s : State) (src : Src) (c : Fin 6) (slot slot2 : Fin 64), s.m.mainOff = false →
      (s.m.takes src pgLocker (0x100 + 0x20 * c) (svcWord 1 slot slot2)) →
      exec (.generate src c slot slot2) s = .next (s.after (s.m.ran src pgLocker (0x100 + 0x20 * c) (fun m => m.mbCmd c (svcWord 1 slot slot2))))) ∧
  (∀ (s : State) (src : Src) (c : Fin 6) (slot slot2 : Fin 64), s.m.mainOff = false →
      (s.m.takes src pgLocker (0x100 + 0x20 * c) (svcWord 2 slot slot2)) →
      exec (.importKey src c slot slot2) s = .next (s.after (s.m.ran src pgLocker (0x100 + 0x20 * c) (fun m => m.mbCmd c (svcWord 2 slot slot2))))) ∧
  (∀ (s : State) (src : Src) (c : Fin 6) (slot slot2 : Fin 64), s.m.mainOff = false →
      (s.m.takes src pgLocker (0x100 + 0x20 * c) (svcWord 3 slot slot2)) →
      exec (.exportKey src c slot slot2) s = .next (s.after (s.m.ran src pgLocker (0x100 + 0x20 * c) (fun m => m.mbCmd c (svcWord 3 slot slot2))))) ∧
  (∀ (s : State) (src : Src) (c : Fin 6) (slot slot2 : Fin 64), s.m.mainOff = false →
      (s.m.takes src pgLocker (0x100 + 0x20 * c) (svcWord 4 slot slot2)) →
      exec (.derive src c slot slot2) s = .next (s.after (s.m.ran src pgLocker (0x100 + 0x20 * c) (fun m => m.mbCmd c (svcWord 4 slot slot2))))) ∧
  (∀ (s : State) (src : Src) (c : Fin 6) (slot slot2 : Fin 64), s.m.mainOff = false →
      (s.m.takes src pgLocker (0x100 + 0x20 * c) (svcWord 5 slot slot2)) →
      exec (.macGen src c slot slot2) s = .next (s.after (s.m.ran src pgLocker (0x100 + 0x20 * c) (fun m => m.mbCmd c (svcWord 5 slot slot2))))) ∧
  (∀ (s : State) (src : Src) (c : Fin 6) (slot slot2 : Fin 64), s.m.mainOff = false →
      (s.m.takes src pgLocker (0x100 + 0x20 * c) (svcWord 6 slot slot2)) →
      exec (.macVer src c slot slot2) s = .next (s.after (s.m.ran src pgLocker (0x100 + 0x20 * c) (fun m => m.mbCmd c (svcWord 6 slot slot2))))) ∧
  (∀ (s : State) (src : Src) (c : Fin 6) (slot slot2 : Fin 64), s.m.mainOff = false →
      (s.m.takes src pgLocker (0x100 + 0x20 * c) (svcWord 7 slot slot2)) →
      exec (.encrypt src c slot slot2) s = .next (s.after (s.m.ran src pgLocker (0x100 + 0x20 * c) (fun m => m.mbCmd c (svcWord 7 slot slot2))))) ∧
  (∀ (s : State) (src : Src) (c : Fin 6) (slot slot2 : Fin 64), s.m.mainOff = false →
      (s.m.takes src pgLocker (0x100 + 0x20 * c) (svcWord 8 slot slot2)) →
      exec (.decrypt src c slot slot2) s = .next (s.after (s.m.ran src pgLocker (0x100 + 0x20 * c) (fun m => m.mbCmd c (svcWord 8 slot slot2))))) ∧
  (∀ (s : State) (src : Src) (c : Fin 6) (slot slot2 : Fin 64), s.m.mainOff = false →
      (s.m.takes src pgLocker (0x100 + 0x20 * c) (svcWord 9 slot slot2)) →
      exec (.signMsg src c slot slot2) s = .next (s.after (s.m.ran src pgLocker (0x100 + 0x20 * c) (fun m => m.mbCmd c (svcWord 9 slot slot2))))) ∧
  (∀ (s : State) (src : Src) (c : Fin 6) (slot slot2 : Fin 64), s.m.mainOff = false →
      (s.m.takes src pgLocker (0x100 + 0x20 * c) (svcWord 10 slot slot2)) →
      exec (.verify src c slot slot2) s = .next (s.after (s.m.ran src pgLocker (0x100 + 0x20 * c) (fun m => m.mbCmd c (svcWord 10 slot slot2))))) ∧
  (∀ (s : State) (src : Src) (c : Fin 6) (slot slot2 : Fin 64), s.m.mainOff = false →
      (s.m.takes src pgLocker (0x100 + 0x20 * c) (svcWord 11 slot slot2)) →
      exec (.attest src c slot slot2) s = .next (s.after (s.m.ran src pgLocker (0x100 + 0x20 * c) (fun m => m.mbCmd c (svcWord 11 slot slot2))))) ∧
  (∀ (s : State) (src : Src) (c : Fin 6) (slot slot2 : Fin 64), s.m.mainOff = false →
      (s.m.takes src pgLocker (0x100 + 0x20 * c) (svcWord 12 slot slot2)) →
      exec (.random src c slot slot2) s = .next (s.after (s.m.ran src pgLocker (0x100 + 0x20 * c) (fun m => m.mbCmd c (svcWord 12 slot slot2))))) ∧
  (∀ (s : State) (src : Src) (c : Fin 6) (slot slot2 : Fin 64), s.m.mainOff = false →
      (s.m.takes src pgLocker (0x100 + 0x20 * c) (svcWord 13 slot slot2)) →
      exec (.zeroise src c slot slot2) s = .next (s.after (s.m.ran src pgLocker (0x100 + 0x20 * c) (fun m => m.mbCmd c (svcWord 13 slot slot2))))) ∧
  (∀ (s : State) (src : Src) (c : Fin 6) (slot slot2 : Fin 64), s.m.mainOff = false →
      (s.m.takes src pgLocker (0x100 + 0x20 * c) (svcWord 14 slot slot2)) →
      exec (.lockSlot src c slot slot2) s = .next (s.after (s.m.ran src pgLocker (0x100 + 0x20 * c) (fun m => m.mbCmd c (svcWord 14 slot slot2))))) ∧
  (∀ (s : State) (src : Src) (c : Fin 6) (slot slot2 : Fin 64), s.m.mainOff = false →
      (s.m.takes src pgLocker (0x100 + 0x20 * c) (svcWord 15 slot slot2)) →
      exec (.hash src c slot slot2) s = .next (s.after (s.m.ran src pgLocker (0x100 + 0x20 * c) (fun m => m.mbCmd c (svcWord 15 slot slot2))))) ∧
  (∀ (s : State), s.m.mainOff = false →
      s.m.st pgLocker ≠ 5 →
      s.m.locker.queue ≠ [] →
      exec (.lockerRequestDone) s = .next (s.afterState ({ s with m := (s.m.requestDone s.mem).1, mem := (s.m.requestDone s.mem).2 }))) ∧
  (∀ (s : State) (src : Src), s.m.mainOff = false →
      s.m.takes src pgLocker 0x060 1 →
      exec (.slotRead src) s = .next (s.afterPage (s.m.ran src pgLocker 0x060 (fun m => m.slotRead)))) ∧
  (∀ (s : State) (src : Src), s.m.mainOff = false →
      s.m.takes src pgLocker 0x060 2 →
      exec (.writeAttr src) s = .next (s.afterPage (s.m.ran src pgLocker 0x060 (fun m => m.writeAttr)))) ∧
  (∀ (s : State) (sensor : Fin 7) (v : Int) (k : Nat), s.m.pwr.asleep ≠ 3 →
      s.m.mainOff = false →
      tamperWrong sensor v = false →
      exec (.tamper sensor v k) s = .next (s.after (((s.m.setFld pgLocker Locker.TAMPER_NOW (s.m.fld pgLocker Locker.TAMPER_NOW &&& (127 - 2 ^ sensor.val))).modUnit pgLocker fun u => { u with holding := u.holding &&& ~~~(BitVec.ofNat 32 (2 ^ sensor.val)) }).sliplineShow))) ∧
  (∀ (s : State) (sensor : Fin 7) (v : Int) (k : Nat), s.m.pwr.asleep ≠ 3 →
      s.m.mainOff = false →
      tamperWrong sensor v →
      tamperFilter sensor ≤ k →
      exec (.tamper sensor v k) s = .next (s.after (s.m.tamperOn sensor))) ∧
  (∀ (s : State) (src : Src) (v : Word), s.m.mainOff = false →
      s.m.takes src pgLocker 0x040 v →
      exec (.tamperCfgWrite src v) s = .next (s.after (s.m.ran src pgLocker 0x040 (fun m => m.tamperCfg (v.toNat % 2 ^ 14))))) ∧
  (∀ (s : State) (bits : List Bool), s.m.mainOff = false →
      s.m.drbgOk →
      repetitionFails bits →
      exec (.rngFail bits) s = .next (s.after ((((s.m.setFlag pgLocker Locker.DRBG_OK false).raise pgLocker 9).actUnit pgLocker 9).security 4 0 0 0))) ∧
  (∀ (s : State) (bits : List Bool), s.m.mainOff = false →
      s.m.drbgOk →
      repetitionFails bits = false →
      proportionFails bits →
      exec (.rngFail bits) s = .next (s.after (s.m.rngStop 1))) ∧
  (∀ (s : State) (bits : List Bool), s.m.mainOff = false →
      s.m.drbgOk →
      repetitionFails bits = false →
      proportionFails bits = false →
      exec (.rngFail bits) s = .next (s.after s.m)) ∧
  (∀ (s : State), s.m.mainOff = false →
      s.m.drbgOk →
      65536 ≤ s.m.locker.drbg →
      exec (.drbgReseed) s = .next (s.afterPage ({ s.m with locker := { s.m.locker with drbg := 0 } })))

/-- Requests, rounds, answers, outcomes, release messages, lock-outs and antenna checks of TETHER, and its token window, have the effect their rules give where their conditions hold. (21_tether_access.md R510, 21_tether_access.md R512, 21_tether_access.md R514, 21_tether_access.md R515, 21_tether_access.md R516, 21_tether_access.md R517, 21_tether_access.md R518, 21_tether_access.md R519, 21_tether_access.md R524) -/
def Obligations.TetherComplete : Prop :=
  (∀ (s : State) (src : Src), s.m.mainOff = false →
      s.m.takes src pgTether 0x070 1 →
      exec (.request src) s = .next (s.after (s.m.ran src pgTether 0x070 (fun m => m.tetherRequest)))) ∧
  (∀ (s : State) (src : Src), s.m.mainOff = false →
      s.m.takes src pgTether 0x070 2 →
      exec (.withdraw src) s = .next (s.after (s.m.ran src pgTether 0x070 (fun m => m.tetherWithdraw)))) ∧
  (∀ (s : State) (src : Src), s.m.mainOff = false →
      s.m.takes src pgTether 0x084 1 →
      exec (.tokenRead src) s = .next (s.afterPage (s.m.ran src pgTether 0x084 (fun m => m.tokenRead)))) ∧
  (∀ (s : State) (src : Src), s.m.mainOff = false →
      s.m.takes src pgTether 0x084 2 →
      exec (.tokenWrite src) s = .next (s.afterPage (s.m.ran src pgTether 0x084 (fun m => m.tokenWrite)))) ∧
  (∀ (s : State), s.m.mainOff = false →
      s.m.flag pgTether Tether.REQ →
      (s.m.roundStart 1).roundMask ≠ 0 →
      exec (.round) s = .next (s.after (s.m.roundStart 1))) ∧
  (∀ (s : State) (slot : Fin 16) (dbm : Int) (id cnt : Word) (stat : Nat) (tag : List Nat) (crc : Nat), s.m.mainOff = false →
      s.m.tether.round ≠ 0 →
      s.m.roundMask ≠ 0 →
      s.m.tether.slots = [] →
      answerCrc id cnt stat tag crc = false →
      -100 < dbm →
      exec (.tokenAnswer slot dbm id cnt stat tag crc) s = .next (s.after ({ s.m with tether := { s.m.tether with slots := [(slot.val, 3, id)] } }))) ∧
  (∀ (s : State) (slot : Fin 16) (dbm : Int) (id cnt : Word) (stat : Nat) (tag : List Nat) (crc : Nat), s.m.mainOff = false →
      s.m.tether.round ≠ 0 →
      s.m.roundMask ≠ 0 →
      s.m.tether.slots = [] →
      answerCrc id cnt stat tag crc →
      (s.m.token slot).en = false →
      exec (.tokenAnswer slot dbm id cnt stat tag crc) s = .next (s.after ({ s.m with tether := { s.m.tether with slots := [(slot.val, 2, id)] } }))) ∧
  (∀ (s : State) (slot : Fin 16) (dbm : Int) (id cnt : Word) (stat : Nat) (tag : List Nat) (crc : Nat), s.m.mainOff = false →
      s.m.tether.round ≠ 0 →
      s.m.roundMask ≠ 0 →
      s.m.tether.slots = [] →
      answerCrc id cnt stat tag crc →
      (s.m.token slot).en →
      (s.m.token slot).id = id →
      (s.m.token slot).last < cnt.toNat →
      s.m.tagRight id cnt stat tag →
      exec (.tokenAnswer slot dbm id cnt stat tag crc) s = .next (s.after (let m1 := s.m.setToken slot { s.m.token slot with last := cnt.toNat }; { m1 with tether := { m1.tether with slots := m1.tether.slots ++ [(slot.val, 1, id)] } }))) ∧
  (∀ (s : State), s.m.mainOff = false →
      s.m.tether.round = 1 →
      ((s.m.roundOver.engineKey (s.m.roundOver.fld pgTether Tether.TOKSLOT) 2 [2]).isSome) →
      s.m.tether.slots = [] →
      exec (.roundOutcome) s = .next (s.after (s.m.roundOver.requestRound 2))) ∧
  (∀ (s : State) (k : Nat) (id : Word), s.m.mainOff = false →
      s.m.tether.round = 1 →
      ((s.m.roundOver.engineKey (s.m.roundOver.fld pgTether Tether.TOKSLOT) 2 [2]).isSome) →
      s.m.tether.slots = [(k, 1, id)] →
      k < 16 →
      (({ s.m.roundOver with tether := { s.m.roundOver.tether with collides := 0 } } : Mach).flag pgTether Tether.REQ) →
      exec (.roundOutcome) s = .next (s.after ((({ s.m.roundOver with tether := { s.m.roundOver.tether with collides := 0 } } : Mach).requestEnd 1).release k))) ∧
  (∀ (s : State), s.m.pwr.asleep ≠ 3 →
      s.m.mainOff = false →
      s.m.flag pgTether Tether.LOCKOUT →
      (s.m.fld pgTether Tether.LOCK_T * 60 * 32768 ≤ (s.m.rk + 2 ^ 48 - s.m.tether.lockAt) % 2 ^ 48) →
      exec (.lockoutEnd) s = .next (s.after (((({ s.m with tether := { s.m.tether with fails := [] } } : Mach).setFlag pgTether Tether.LOCKOUT false).setFld pgTether Tether.LOCK_LEFT 0).setFld pgTether Tether.FAILS 0))) ∧
  (∀ (s : State) (ms : Nat), s.m.mainOff = false →
      s.m.released →
      s.m.fld pgTether Tether.PRES_T ≤ ms →
      (s.m.roundStart 2).roundMask ≠ 0 →
      exec (.presenceRound ms) s = .next (s.after (s.m.roundStart 2))) ∧
  (∀ (s : State) (sec : Nat), s.m.mainOff = false →
      s.m.released →
      s.m.fld pgTether Tether.ABSENT_T ≤ sec →
      (s.m.capType ((s.m.reg pgTether 0x028).toNat % 8) ≠ 2) →
      exec (.absence sec) s = .next (s.after s.m.endRelease)) ∧
  (∀ (s : State) (ms : Nat), s.m.mainOff = false →
      100 ≤ ms →
      s.m.released →
      exec (.releaseMessage ms) s = .next (s.after (s.m.sendRelease 1))) ∧
  (∀ (s : State) (a : Fin 6) (ms : Nat), s.m.mainOff = false →
      1 ≤ ms →
      s.m.absent pgTether = false →
      exec (.antShort a ms) s = .next (s.after ((s.m.setFld pgTether Tether.ANT_SHORT (s.m.fld pgTether Tether.ANT_SHORT ||| 2 ^ a.val)).raise pgTether 1))) ∧
  (∀ (s : State) (a : Fin 6) (mA : Nat), s.m.mainOff = false →
      s.m.absent pgTether = false →
      mA * 100 < 30 * s.m.antDrive a →
      exec (.antOpen a mA) s = .next (s.after ((s.m.setFld pgTether Tether.ANT_OPEN (s.m.fld pgTether Tether.ANT_OPEN ||| 2 ^ a.val)).raise pgTether 0))) ∧
  (∀ (s : State) (a : Fin 6) (mA : Nat), s.m.mainOff = false →
      s.m.absent pgTether = false →
      30 * s.m.antDrive a ≤ mA * 100 →
      exec (.antOpen a mA) s = .next (s.after (s.m.setFld pgTether Tether.ANT_OPEN (s.m.fld pgTether Tether.ANT_OPEN &&& (63 - 2 ^ a.val))))) ∧
  (∀ (s : State), s.m.pwr.asleep ≠ 3 →
      s.m.mainOff = false →
      exec (.failedAttemptExpiry) s = .next (s.after (let l := s.m.tether.fails.filter fun q => !failOld s.m.rk q; (({ s.m with tether := { s.m.tether with fails := l } } : Mach).setFld pgTether Tether.FAILS (min 5 l.length)))))

/-- At a plain boundary of a running core, a two-register operation of X or Y writes its result to rd, with C and V where F asks for them, under its guard; the core goes to the next word, and nothing else changes in its registers. (15_strand_instructions.md R390, 15_strand_instructions.md R391, 15_strand_instructions.md R393) -/
def Obligations.AluComplete : Prop :=
  (∀ (s : State) (c : Fin 6) (y : Bool) (pr : Fin 8) (f : Bool) (rd rs1 rs2 : Fin 32), s.m.mainOff = false →
      s.m.entering = false →
      s.m.plain c →
      exec (.add c y pr f rd rs1 rs2) s = .next (s.afterState (let q := s.m.core c; s.grouped c id (q.guarded pr { Writes.none.addG rd ((q.gr rs1) + (q.gr rs2)) with cv := if f then some (decide (4294967296 ≤ (q.gr rs1).toNat + (q.gr rs2).toNat), !(decide (-2147483648 ≤ (q.gr rs1).toInt + (q.gr rs2).toInt) && decide ((q.gr rs1).toInt + (q.gr rs2).toInt < 2147483648))) else none })))) ∧
  (∀ (s : State) (c : Fin 6) (y : Bool) (pr : Fin 8) (f : Bool) (rd rs1 rs2 : Fin 32), s.m.mainOff = false →
      s.m.entering = false →
      s.m.plain c →
      exec (.sub c y pr f rd rs1 rs2) s = .next (s.afterState (let q := s.m.core c; s.grouped c id (q.guarded pr { Writes.none.addG rd ((q.gr rs1) - (q.gr rs2)) with cv := if f then some (decide ((q.gr rs2).toNat ≤ (q.gr rs1).toNat), !(decide (-2147483648 ≤ (q.gr rs1).toInt - (q.gr rs2).toInt) && decide ((q.gr rs1).toInt - (q.gr rs2).toInt < 2147483648))) else none })))) ∧
  (∀ (s : State) (c : Fin 6) (y : Bool) (pr : Fin 8) (f : Bool) (rd rs1 rs2 : Fin 32), s.m.mainOff = false →
      s.m.entering = false →
      s.m.plain c →
      exec (.adc c y pr f rd rs1 rs2) s = .next (s.afterState (let q := s.m.core c; s.grouped c id (q.guarded pr { Writes.none.addG rd (BitVec.ofNat 32 ((q.gr rs1).toNat + (q.gr rs2).toNat + (q.stBit stC).toNat)) with cv := if f then some (decide (4294967296 ≤ (q.gr rs1).toNat + (q.gr rs2).toNat + (q.stBit stC).toNat), !(decide (-2147483648 ≤ (q.gr rs1).toInt + (q.gr rs2).toInt + ((q.stBit stC).toNat : Int)) && decide ((q.gr rs1).toInt + (q.gr rs2).toInt + ((q.stBit stC).toNat : Int) < 2147483648))) else none })))) ∧
  (∀ (s : State) (c : Fin 6) (y : Bool) (pr : Fin 8) (f : Bool) (rd rs1 rs2 : Fin 32), s.m.mainOff = false →
      s.m.entering = false →
      s.m.plain c →
      exec (.sbc c y pr f rd rs1 rs2) s = .next (s.afterState (let q := s.m.core c; s.grouped c id (q.guarded pr { Writes.none.addG rd (BitVec.ofInt 32 (((q.gr rs1).toNat : Int) - ((q.gr rs2).toNat : Int) - 1 + ((q.stBit stC).toNat : Int))) with cv := if f then some (decide ((q.gr rs2).toNat + 1 ≤ (q.gr rs1).toNat + (q.stBit stC).toNat), !(decide (-2147483648 ≤ (q.gr rs1).toInt - (q.gr rs2).toInt - 1 + ((q.stBit stC).toNat : Int)) && decide ((q.gr rs1).toInt - (q.gr rs2).toInt - 1 + ((q.stBit stC).toNat : Int) < 2147483648))) else none })))) ∧
  (∀ (s : State) (c : Fin 6) (y : Bool) (pr : Fin 8) (rd rs1 rs2 : Fin 32), s.m.mainOff = false →
      s.m.entering = false →
      s.m.plain c →
      exec (.adds c y pr rd rs1 rs2) s = .next (s.afterState (let q := s.m.core c; s.grouped c id (q.guarded pr { Writes.none.addG rd (BitVec.ofInt 32 (max (-2147483648) (min 2147483647 ((q.gr rs1).toInt + (q.gr rs2).toInt)))) with sat := !(decide (-2147483648 ≤ (q.gr rs1).toInt + (q.gr rs2).toInt) && decide ((q.gr rs1).toInt + (q.gr rs2).toInt < 2147483648)) })))) ∧
  (∀ (s : State) (c : Fin 6) (y : Bool) (pr : Fin 8) (rd rs1 rs2 : Fin 32), s.m.mainOff = false →
      s.m.entering = false →
      s.m.plain c →
      exec (.subs c y pr rd rs1 rs2) s = .next (s.afterState (let q := s.m.core c; s.grouped c id (q.guarded pr { Writes.none.addG rd (BitVec.ofInt 32 (max (-2147483648) (min 2147483647 ((q.gr rs1).toInt - (q.gr rs2).toInt)))) with sat := !(decide (-2147483648 ≤ (q.gr rs1).toInt - (q.gr rs2).toInt) && decide ((q.gr rs1).toInt - (q.gr rs2).toInt < 2147483648)) })))) ∧
  (∀ (s : State) (c : Fin 6) (y : Bool) (pr : Fin 8) (rd rs1 rs2 : Fin 32), s.m.mainOff = false →
      s.m.entering = false →
      s.m.plain c →
      exec (.andOp c y pr rd rs1 rs2) s = .next (s.afterState (let q := s.m.core c; s.grouped c id (q.guarded pr (Writes.none.addG rd ((q.gr rs1) &&& (q.gr rs2))))))) ∧
  (∀ (s : State) (c : Fin 6) (y : Bool) (pr : Fin 8) (rd rs1 rs2 : Fin 32), s.m.mainOff = false →
      s.m.entering = false →
      s.m.plain c →
      exec (.orOp c y pr rd rs1 rs2) s = .next (s.afterState (let q := s.m.core c; s.grouped c id (q.guarded pr (Writes.none.addG rd ((q.gr rs1) ||| (q.gr rs2))))))) ∧
  (∀ (s : State) (c : Fin 6) (y : Bool) (pr : Fin 8) (rd rs1 rs2 : Fin 32), s.m.mainOff = false →
      s.m.entering = false →
      s.m.plain c →
      exec (.xorOp c y pr rd rs1 rs2) s = .next (s.afterState (let q := s.m.core c; s.grouped c id (q.guarded pr (Writes.none.addG rd ((q.gr rs1) ^^^ (q.gr rs2))))))) ∧
  (∀ (s : State) (c : Fin 6) (y : Bool) (pr : Fin 8) (rd rs1 rs2 : Fin 32), s.m.mainOff = false →
      s.m.entering = false →
      s.m.plain c →
      exec (.andn c y pr rd rs1 rs2) s = .next (s.afterState (let q := s.m.core c; s.grouped c id (q.guarded pr (Writes.none.addG rd ((q.gr rs1) &&& ~~~(q.gr rs2))))))) ∧
  (∀ (s : State) (c : Fin 6) (y : Bool) (pr : Fin 8) (rd rs1 rs2 : Fin 32), s.m.mainOff = false →
      s.m.entering = false →
      s.m.plain c →
      exec (.shl c y pr rd rs1 rs2) s = .next (s.afterState (let q := s.m.core c; s.grouped c id (q.guarded pr (Writes.none.addG rd ((q.gr rs1) <<< ((q.gr rs2).toNat % 32))))))) ∧
  (∀ (s : State) (c : Fin 6) (y : Bool) (pr : Fin 8) (rd rs1 rs2 : Fin 32), s.m.mainOff = false →
      s.m.entering = false →
      s.m.plain c →
      exec (.shr c y pr rd rs1 rs2) s = .next (s.afterState (let q := s.m.core c; s.grouped c id (q.guarded pr (Writes.none.addG rd ((q.gr rs1) >>> ((q.gr rs2).toNat % 32))))))) ∧
  (∀ (s : State) (c : Fin 6) (y : Bool) (pr : Fin 8) (rd rs1 rs2 : Fin 32), s.m.mainOff = false →
      s.m.entering = false →
      s.m.plain c →
      exec (.sar c y pr rd rs1 rs2) s = .next (s.afterState (let q := s.m.core c; s.grouped c id (q.guarded pr (Writes.none.addG rd ((q.gr rs1).sshiftRight ((q.gr rs2).toNat % 32))))))) ∧
  (∀ (s : State) (c : Fin 6) (y : Bool) (pr : Fin 8) (rd rs1 rs2 : Fin 32), s.m.mainOff = false →
      s.m.entering = false →
      s.m.plain c →
      exec (.ror c y pr rd rs1 rs2) s = .next (s.afterState (let q := s.m.core c; s.grouped c id (q.guarded pr (Writes.none.addG rd ((q.gr rs1).rotateRight ((q.gr rs2).toNat % 32))))))) ∧
  (∀ (s : State) (c : Fin 6) (y : Bool) (pr : Fin 8) (rd rs1 rs2 : Fin 32), s.m.mainOff = false →
      s.m.entering = false →
      s.m.plain c →
      exec (.minOp c y pr rd rs1 rs2) s = .next (s.afterState (let q := s.m.core c; s.grouped c id (q.guarded pr (Writes.none.addG rd (if (q.gr rs1).toInt ≤ (q.gr rs2).toInt then (q.gr rs1) else (q.gr rs2))))))) ∧
  (∀ (s : State) (c : Fin 6) (y : Bool) (pr : Fin 8) (rd rs1 rs2 : Fin 32), s.m.mainOff = false →
      s.m.entering = false →
      s.m.plain c →
      exec (.maxOp c y pr rd rs1 rs2) s = .next (s.afterState (let q := s.m.core c; s.grouped c id (q.guarded pr (Writes.none.addG rd (if (q.gr rs1).toInt ≤ (q.gr rs2).toInt then (q.gr rs2) else (q.gr rs1))))))) ∧
  (∀ (s : State) (c : Fin 6) (y : Bool) (pr : Fin 8) (rd rs1 rs2 : Fin 32), s.m.mainOff = false →
      s.m.entering = false →
      s.m.plain c →
      exec (.minu c y pr rd rs1 rs2) s = .next (s.afterState (let q := s.m.core c; s.grouped c id (q.guarded pr (Writes.none.addG rd (if (q.gr rs1).toNat ≤ (q.gr rs2).toNat then (q.gr rs1) else (q.gr rs2))))))) ∧
  (∀ (s : State) (c : Fin 6) (y : Bool) (pr : Fin 8) (rd rs1 rs2 : Fin 32), s.m.mainOff = false →
      s.m.entering = false →
      s.m.plain c →
      exec (.maxu c y pr rd rs1 rs2) s = .next (s.afterState (let q := s.m.core c; s.grouped c id (q.guarded pr (Writes.none.addG rd (if (q.gr rs1).toNat ≤ (q.gr rs2).toNat then (q.gr rs2) else (q.gr rs1)))))))

/-- At a plain boundary of a running core, each other operation of X or Y, those with an immediate among them, writes the register or predicate its rule names, under its guard; nothing else changes in its registers. (15_strand_instructions.md R393, 15_strand_instructions.md R394, 15_strand_instructions.md R395, 15_strand_instructions.md R396, 15_strand_instructions.md R397) -/
def Obligations.DataOpsComplete : Prop :=
  (∀ (s : State) (c : Fin 6) (y : Bool) (pr : Fin 8) (rd rs1 : Fin 32), s.m.mainOff = false →
      s.m.entering = false →
      s.m.plain c →
      exec (.clz c y pr rd rs1) s = .next (s.afterState (let q := s.m.core c; s.grouped c id (q.guarded pr (Writes.none.addG rd (BitVec.ofNat 32 (clz32 (q.gr rs1)))))))) ∧
  (∀ (s : State) (c : Fin 6) (y : Bool) (pr : Fin 8) (rd rs1 rs2 : Fin 32), s.m.mainOff = false →
      s.m.entering = false →
      s.m.plain c →
      exec (.perm c y pr rd rs1 rs2) s = .next (s.afterState (let q := s.m.core c; s.grouped c id (q.guarded pr (Writes.none.addG rd (perm (q.gr rs1) (q.gr rd) (q.gr rs2))))))) ∧
  (∀ (s : State) (c : Fin 6) (y : Bool) (pr : Fin 8) (rd rs1 rs2 : Fin 32), s.m.mainOff = false →
      s.m.entering = false →
      s.m.plain c →
      exec (.bfx c y pr rd rs1 rs2) s = .next (s.afterState (let q := s.m.core c; s.grouped c id (q.guarded pr (Writes.none.addG rd (extract false (q.gr rs1) ((q.gr rs2).toNat % 32) ((q.gr rs2).toNat / 256 % 64))))))) ∧
  (∀ (s : State) (c : Fin 6) (y : Bool) (pr : Fin 8) (rd rs1 rs2 : Fin 32), s.m.mainOff = false →
      s.m.entering = false →
      s.m.plain c →
      exec (.bfxs c y pr rd rs1 rs2) s = .next (s.afterState (let q := s.m.core c; s.grouped c id (q.guarded pr (Writes.none.addG rd (extract true (q.gr rs1) ((q.gr rs2).toNat % 32) ((q.gr rs2).toNat / 256 % 64))))))) ∧
  (∀ (s : State) (c : Fin 6) (y : Bool) (pr : Fin 8) (rd rs1 rs2 : Fin 32), s.m.mainOff = false →
      s.m.entering = false →
      s.m.plain c →
      exec (.bfi c y pr rd rs1 rs2) s = .next (s.afterState (let q := s.m.core c; s.grouped c id (q.guarded pr (Writes.none.addG rd (insertField (q.gr rd) (q.gr rs1) ((q.gr rs2).toNat % 32) ((q.gr rs2).toNat / 256 % 64))))))) ∧
  (∀ (s : State) (c : Fin 6) (y : Bool) (pr : Fin 8) (p : Fin 8) (rd rs1 rs2 : Fin 32), s.m.mainOff = false →
      s.m.entering = false →
      s.m.plain c →
      exec (.sel c y pr p rd rs1 rs2) s = .next (s.afterState (let q := s.m.core c; s.grouped c id (q.guarded pr (Writes.none.addG rd (if q.pred p then (q.gr rs1) else (q.gr rs2))))))) ∧
  (∀ (s : State) (c : Fin 6) (y : Bool) (pr : Fin 8) (pd : Fin 8) (rs1 rs2 : Fin 32), s.m.mainOff = false →
      s.m.entering = false →
      s.m.plain c →
      exec (.cmpeq c y pr pd rs1 rs2) s = .next (s.afterState (let q := s.m.core c; s.grouped c id (q.guarded pr { Writes.none with p := [(pd.val, (q.gr rs1) == (q.gr rs2))] })))) ∧
  (∀ (s : State) (c : Fin 6) (y : Bool) (pr : Fin 8) (pd : Fin 8) (rs1 rs2 : Fin 32), s.m.mainOff = false →
      s.m.entering = false →
      s.m.plain c →
      exec (.cmpne c y pr pd rs1 rs2) s = .next (s.afterState (let q := s.m.core c; s.grouped c id (q.guarded pr { Writes.none with p := [(pd.val, (q.gr rs1) != (q.gr rs2))] })))) ∧
  (∀ (s : State) (c : Fin 6) (y : Bool) (pr : Fin 8) (pd : Fin 8) (rs1 rs2 : Fin 32), s.m.mainOff = false →
      s.m.entering = false →
      s.m.plain c →
      exec (.cmplt c y pr pd rs1 rs2) s = .next (s.afterState (let q := s.m.core c; s.grouped c id (q.guarded pr { Writes.none with p := [(pd.val, decide ((q.gr rs1).toInt < (q.gr rs2).toInt))] })))) ∧
  (∀ (s : State) (c : Fin 6) (y : Bool) (pr : Fin 8) (pd : Fin 8) (rs1 rs2 : Fin 32), s.m.mainOff = false →
      s.m.entering = false →
      s.m.plain c →
      exec (.cmpltu c y pr pd rs1 rs2) s = .next (s.afterState (let q := s.m.core c; s.grouped c id (q.guarded pr { Writes.none with p := [(pd.val, decide ((q.gr rs1).toNat < (q.gr rs2).toNat))] })))) ∧
  (∀ (s : State) (c : Fin 6) (y : Bool) (pr : Fin 8) (pd : Fin 8) (rs1 rs2 : Fin 32), s.m.mainOff = false →
      s.m.entering = false →
      s.m.plain c →
      exec (.cmple c y pr pd rs1 rs2) s = .next (s.afterState (let q := s.m.core c; s.grouped c id (q.guarded pr { Writes.none with p := [(pd.val, decide ((q.gr rs1).toInt ≤ (q.gr rs2).toInt))] })))) ∧
  (∀ (s : State) (c : Fin 6) (y : Bool) (pr : Fin 8) (pd : Fin 8) (rs1 rs2 : Fin 32), s.m.mainOff = false →
      s.m.entering = false →
      s.m.plain c →
      exec (.cmpleu c y pr pd rs1 rs2) s = .next (s.afterState (let q := s.m.core c; s.grouped c id (q.guarded pr { Writes.none with p := [(pd.val, decide ((q.gr rs1).toNat ≤ (q.gr rs2).toNat))] })))) ∧
  (∀ (s : State) (c : Fin 6) (y : Bool) (pr : Fin 8) (pd ps1 ps2 : Fin 8) (tbl : Fin 16), s.m.mainOff = false →
      s.m.entering = false →
      s.m.plain c →
      exec (.plog c y pr pd ps1 ps2 tbl) s = .next (s.afterState (let q := s.m.core c; s.grouped c id (q.guarded pr { Writes.none with p := [(pd.val, Nat.testBit tbl (2 * (q.pred ps1).toNat + (q.pred ps2).toNat))] })))) ∧
  (∀ (s : State) (c : Fin 6) (y : Bool) (pr : Fin 8) (f : RFile) (idx : Fin 8) (rs1 : Fin 32), s.m.mainOff = false →
      s.m.entering = false →
      s.m.plain c →
      exec (.mvtx c y pr f idx rs1) s = .next (s.afterState (let q := s.m.core c; s.grouped c id (q.guarded pr { Writes.none with x := [(f, idx.val, (q.gr rs1))] })))) ∧
  (∀ (s : State) (c : Fin 6) (y : Bool) (pr : Fin 8) (rd : Fin 32) (f : RFile) (idx : Fin 8), s.m.mainOff = false →
      s.m.entering = false →
      s.m.plain c →
      exec (.mvfx c y pr rd f idx) s = .next (s.afterState (let q := s.m.core c; s.grouped c id (q.guarded pr (Writes.none.addG rd (q.xr f idx)))))) ∧
  (∀ (s : State) (c : Fin 6) (y : Bool) (pr : Fin 8) (r : SReg) (rs1 : Fin 32), s.m.mainOff = false →
      s.m.entering = false →
      s.m.plain c →
      r ≠ .trapInfo →
      exec (.mvts c y pr r rs1) s = .next (s.afterState (let q := s.m.core c; s.grouped c id (q.guarded pr (match r with | .rpt => { Writes.none with rpt := some (q.gr rs1) } | .dsp => { Writes.none with dsp := some (q.gr rs1) } | _ => { Writes.none with st := some (q.gr rs1) }))))) ∧
  (∀ (s : State) (c : Fin 6) (y : Bool) (pr : Fin 8) (rd : Fin 32) (r : SReg), s.m.mainOff = false →
      s.m.entering = false →
      s.m.plain c →
      exec (.mvfs c y pr rd r) s = .next (s.afterState (let q := s.m.core c; s.grouped c id (q.guarded pr (Writes.none.addG rd (match r with | .rpt => q.rpt | .dsp => q.dsp | .status => q.status | .trapInfo => q.trapInfo)))))) ∧
  (∀ (s : State) (c : Fin 6) (y : Bool) (pr : Fin 8) (rd rs1 : Fin 32) (imm : BitVec 9), s.m.mainOff = false →
      s.m.entering = false →
      s.m.plain c →
      exec (.addi c y pr rd rs1 imm) s = .next (s.afterState (let q := s.m.core c; s.grouped c id (q.guarded pr (Writes.none.addG rd ((q.gr rs1) + (imm.signExtend 32))))))) ∧
  (∀ (s : State) (c : Fin 6) (y : Bool) (pr : Fin 8) (rd rs1 : Fin 32) (imm : BitVec 9), s.m.mainOff = false →
      s.m.entering = false →
      s.m.plain c →
      exec (.andi c y pr rd rs1 imm) s = .next (s.afterState (let q := s.m.core c; s.grouped c id (q.guarded pr (Writes.none.addG rd ((q.gr rs1) &&& (imm.signExtend 32))))))) ∧
  (∀ (s : State) (c : Fin 6) (y : Bool) (pr : Fin 8) (rd rs1 : Fin 32) (imm : BitVec 9), s.m.mainOff = false →
      s.m.entering = false →
      s.m.plain c →
      exec (.ori c y pr rd rs1 imm) s = .next (s.afterState (let q := s.m.core c; s.grouped c id (q.guarded pr (Writes.none.addG rd ((q.gr rs1) ||| (imm.signExtend 32))))))) ∧
  (∀ (s : State) (c : Fin 6) (y : Bool) (pr : Fin 8) (rd rs1 : Fin 32) (imm : BitVec 9), s.m.mainOff = false →
      s.m.entering = false →
      s.m.plain c →
      exec (.xori c y pr rd rs1 imm) s = .next (s.afterState (let q := s.m.core c; s.grouped c id (q.guarded pr (Writes.none.addG rd ((q.gr rs1) ^^^ (imm.signExtend 32))))))) ∧
  (∀ (s : State) (c : Fin 6) (y : Bool) (pr : Fin 8) (rd rs1 : Fin 32) (sh : Fin 32), s.m.mainOff = false →
      s.m.entering = false →
      s.m.plain c →
      exec (.shli c y pr rd rs1 sh) s = .next (s.afterState (let q := s.m.core c; s.grouped c id (q.guarded pr (Writes.none.addG rd ((q.gr rs1) <<< sh.val)))))) ∧
  (∀ (s : State) (c : Fin 6) (y : Bool) (pr : Fin 8) (rd rs1 : Fin 32) (sh : Fin 32), s.m.mainOff = false →
      s.m.entering = false →
      s.m.plain c →
      exec (.shri c y pr rd rs1 sh) s = .next (s.afterState (let q := s.m.core c; s.grouped c id (q.guarded pr (Writes.none.addG rd ((q.gr rs1) >>> sh.val)))))) ∧
  (∀ (s : State) (c : Fin 6) (y : Bool) (pr : Fin 8) (rd rs1 : Fin 32) (sh : Fin 32), s.m.mainOff = false →
      s.m.entering = false →
      s.m.plain c →
      exec (.sari c y pr rd rs1 sh) s = .next (s.afterState (let q := s.m.core c; s.grouped c id (q.guarded pr (Writes.none.addG rd ((q.gr rs1).sshiftRight sh.val)))))) ∧
  (∀ (s : State) (c : Fin 6) (y : Bool) (pr : Fin 8) (rd rs1 : Fin 32) (pos : Fin 32) (width : Fin 16), s.m.mainOff = false →
      s.m.entering = false →
      s.m.plain c →
      exec (.bfxi c y pr rd rs1 pos width) s = .next (s.afterState (let q := s.m.core c; s.grouped c id (q.guarded pr (Writes.none.addG rd (extract false (q.gr rs1) pos (width.val + 1))))))) ∧
  (∀ (s : State) (c : Fin 6) (y : Bool) (pr : Fin 8) (rd rs1 : Fin 32) (pos : Fin 32) (width : Fin 16), s.m.mainOff = false →
      s.m.entering = false →
      s.m.plain c →
      exec (.bfii c y pr rd rs1 pos width) s = .next (s.afterState (let q := s.m.core c; s.grouped c id (q.guarded pr (Writes.none.addG rd (insertField (q.gr rd) (q.gr rs1) pos (width.val + 1))))))) ∧
  (∀ (s : State) (c : Fin 6) (y : Bool) (pr : Fin 8) (pd : Fin 8) (rs1 : Fin 32) (imm : BitVec 9), s.m.mainOff = false →
      s.m.entering = false →
      s.m.plain c →
      exec (.cmpeqi c y pr pd rs1 imm) s = .next (s.afterState (let q := s.m.core c; s.grouped c id (q.guarded pr { Writes.none with p := [(pd.val, (q.gr rs1) == (imm.signExtend 32))] })))) ∧
  (∀ (s : State) (c : Fin 6) (y : Bool) (pr : Fin 8) (pd : Fin 8) (rs1 : Fin 32) (imm : BitVec 9), s.m.mainOff = false →
      s.m.entering = false →
      s.m.plain c →
      exec (.cmplti c y pr pd rs1 imm) s = .next (s.afterState (let q := s.m.core c; s.grouped c id (q.guarded pr { Writes.none with p := [(pd.val, decide ((q.gr rs1).toInt < imm.toInt))] })))) ∧
  (∀ (s : State) (c : Fin 6) (y : Bool) (pr : Fin 8) (pd : Fin 8) (rs1 : Fin 32) (imm : BitVec 9), s.m.mainOff = false →
      s.m.entering = false →
      s.m.plain c →
      exec (.cmpltui c y pr pd rs1 imm) s = .next (s.afterState (let q := s.m.core c; s.grouped c id (q.guarded pr { Writes.none with p := [(pd.val, decide ((q.gr rs1).toNat < (imm.signExtend 32).toNat))] })))) ∧
  (∀ (s : State) (c : Fin 6) (y : Bool) (pr : Fin 8) (rd : Fin 32) (imm : BitVec 14), s.m.mainOff = false →
      s.m.entering = false →
      s.m.plain c →
      exec (.movi c y pr rd imm) s = .next (s.afterState (let q := s.m.core c; s.grouped c id (q.guarded pr (Writes.none.addG rd (imm.signExtend 32)))))) ∧
  (∀ (s : State) (c : Fin 6) (y : Bool) (pr : Fin 8) (rd : Fin 32) (imm : BitVec 14), s.m.mainOff = false →
      s.m.entering = false →
      s.m.plain c →
      exec (.movh c y pr rd imm) s = .next (s.afterState (let q := s.m.core c; s.grouped c id (q.guarded pr (Writes.none.addG rd ((q.gr rd) <<< 14 ||| imm.setWidth 32))))))

/-- At a plain boundary of a running core, a multiply or an accumulator operation has, under its guard, the result its rule names, due three groups later for a general register, at once for a chained accumulator. (15_strand_instructions.md R398, 15_strand_instructions.md R399, 14_strand_architecture.md R374) -/
def Obligations.MultipliesComplete : Prop :=
  (∀ (s : State) (c : Fin 6) (pr : Fin 8) (rd rs1 rs2 : Fin 32), s.m.mainOff = false →
      s.m.entering = false →
      s.m.plain c →
      exec (.mul c pr rd rs1 rs2) s = .next (s.afterState (let q := s.m.core c; s.grouped c id (q.guarded pr (Writes.none.lateG rd ((q.gr rs1) * (q.gr rs2))))))) ∧
  (∀ (s : State) (c : Fin 6) (pr : Fin 8) (rd rs1 rs2 : Fin 32), s.m.mainOff = false →
      s.m.entering = false →
      s.m.plain c →
      exec (.mulh c pr rd rs1 rs2) s = .next (s.afterState (let q := s.m.core c; s.grouped c id (q.guarded pr (Writes.none.lateG rd (BitVec.ofInt 32 ((q.gr rs1).toInt * (q.gr rs2).toInt / 4294967296))))))) ∧
  (∀ (s : State) (c : Fin 6) (pr : Fin 8) (rd rs1 rs2 : Fin 32), s.m.mainOff = false →
      s.m.entering = false →
      s.m.plain c →
      exec (.mulhu c pr rd rs1 rs2) s = .next (s.afterState (let q := s.m.core c; s.grouped c id (q.guarded pr (Writes.none.lateG rd (BitVec.ofNat 32 ((q.gr rs1).toNat * (q.gr rs2).toNat / 4294967296))))))) ∧
  (∀ (s : State) (c : Fin 6) (pr : Fin 8) (rd rs1 rs2 : Fin 32), s.m.mainOff = false →
      s.m.entering = false →
      s.m.plain c →
      exec (.mulq c pr rd rs1 rs2) s = .next (s.afterState (let q := s.m.core c; s.grouped c id (q.guarded pr { Writes.none.lateG rd (BitVec.ofInt 32 (max (-2147483648) (min 2147483647 (((q.gr rs1).toInt * (q.gr rs2).toInt + 1073741824) / 2147483648)))) with sat := !(decide (-2147483648 ≤ (((q.gr rs1).toInt * (q.gr rs2).toInt + 1073741824) / 2147483648)) && decide ((((q.gr rs1).toInt * (q.gr rs2).toInt + 1073741824) / 2147483648) < 2147483648)) })))) ∧
  (∀ (s : State) (c : Fin 6) (pr : Fin 8) (acc : Fin 2) (neg uns : Bool) (rs1 rs2 : Fin 32), s.m.mainOff = false →
      s.m.entering = false →
      s.m.plain c →
      exec (.mac c pr acc neg uns rs1 rs2) s = .next (s.afterState (let q := s.m.core c; s.grouped c id (q.guarded pr (Writes.none.addAcc acc (BitVec.ofInt 72 ((q.accOf acc).toInt + (if neg then -(if uns then (((q.gr rs1).toNat * (q.gr rs2).toNat : Nat) : Int) else (q.gr rs1).toInt * (q.gr rs2).toInt) else (if uns then (((q.gr rs1).toNat * (q.gr rs2).toNat : Nat) : Int) else (q.gr rs1).toInt * (q.gr rs2).toInt))))))))) ∧
  (∀ (s : State) (c : Fin 6) (pr : Fin 8) (acc : Fin 2) (neg uns : Bool) (rs1 rs2 : Fin 32), s.m.mainOff = false →
      s.m.entering = false →
      s.m.plain c →
      exec (.macz c pr acc neg uns rs1 rs2) s = .next (s.afterState (let q := s.m.core c; s.grouped c id (q.guarded pr (Writes.none.addAcc acc (BitVec.ofInt 72 (0 + (if neg then -(if uns then (((q.gr rs1).toNat * (q.gr rs2).toNat : Nat) : Int) else (q.gr rs1).toInt * (q.gr rs2).toInt) else (if uns then (((q.gr rs1).toNat * (q.gr rs2).toNat : Nat) : Int) else (q.gr rs1).toInt * (q.gr rs2).toInt))))))))) ∧
  (∀ (s : State) (c : Fin 6) (pr : Fin 8) (acc : Fin 2) (neg cross : Bool) (rs1 rs2 : Fin 32), s.m.mainOff = false →
      s.m.entering = false →
      s.m.plain c →
      exec (.mach c pr acc neg cross rs1 rs2) s = .next (s.afterState (let q := s.m.core c; s.grouped c id (q.guarded pr (Writes.none.addAcc acc (BitVec.ofInt 72 ((q.accOf acc).toInt + (if neg then -(if cross then (((q.gr rs1).extractLsb' 0 16).toInt * ((q.gr rs2).extractLsb' 16 16).toInt + ((q.gr rs1).extractLsb' 16 16).toInt * ((q.gr rs2).extractLsb' 0 16).toInt) else (((q.gr rs1).extractLsb' 0 16).toInt * ((q.gr rs2).extractLsb' 0 16).toInt + ((q.gr rs1).extractLsb' 16 16).toInt * ((q.gr rs2).extractLsb' 16 16).toInt)) else (if cross then (((q.gr rs1).extractLsb' 0 16).toInt * ((q.gr rs2).extractLsb' 16 16).toInt + ((q.gr rs1).extractLsb' 16 16).toInt * ((q.gr rs2).extractLsb' 0 16).toInt) else (((q.gr rs1).extractLsb' 0 16).toInt * ((q.gr rs2).extractLsb' 0 16).toInt + ((q.gr rs1).extractLsb' 16 16).toInt * ((q.gr rs2).extractLsb' 16 16).toInt)))))))))) ∧
  (∀ (s : State) (c : Fin 6) (pr : Fin 8) (acc : Fin 2) (neg word : Bool) (ix j : Fin 8), s.m.mainOff = false →
      s.m.entering = false →
      s.m.plain c →
      ix ≠ j →
      ((s.m.core c).pred pr = true → inLocal ((s.m.core c).ar ix).toNat (if word then 4 else 2) = true ∧ inLocal ((s.m.core c).ar j).toNat (if word then 4 else 2) = true) →
      exec (.macd c pr acc neg word ix j) s = .next (s.afterState (let q := s.m.core c; let b := if word then 4 else 2; let x := signedOf b (s.localNum c (q.ar ix).toNat b); let z := signedOf b (s.localNum c (q.ar j).toNat b); s.grouped c id (q.guarded pr { Writes.none.addAcc acc (BitVec.ofInt 72 ((q.accOf acc).toInt + (if neg then -(x * z) else x * z))) with x := [(.a, ix.val, q.addrUp ix), (.a, j.val, q.addrUp j)] })))) ∧
  (∀ (s : State) (c : Fin 6) (pr : Fin 8) (rd : Fin 32) (acc : Fin 2) (sh : Fin 41) (rnd sat : Bool), s.m.mainOff = false →
      s.m.entering = false →
      s.m.plain c →
      exec (.mvfacc c pr rd acc sh rnd sat) s = .next (s.afterState (let q := s.m.core c; let v := ((q.accView acc).toInt + (if rnd && decide (0 < sh.val) then 2 ^ (sh.val - 1) else 0)) / 2 ^ sh.val; s.grouped c id (q.guarded pr (if sat then { Writes.none.lateG rd (BitVec.ofInt 32 (max (-2147483648) (min 2147483647 v))) with sat := !(decide (-2147483648 ≤ v) && decide (v < 2147483648)) } else Writes.none.lateG rd (BitVec.ofInt 32 v)))))) ∧
  (∀ (s : State) (c : Fin 6) (pr : Fin 8) (acc : Fin 2) (rs1 : Fin 32) (sh : Fin 41), s.m.mainOff = false →
      s.m.entering = false →
      s.m.plain c →
      exec (.mvtacc c pr acc rs1 sh) s = .next (s.afterState (let q := s.m.core c; s.grouped c id (q.guarded pr (Writes.none.addAcc acc (((q.gr rs1).signExtend 72) <<< sh.val))))))

/-- At a plain boundary of a running core, a load from an aligned address of local data memory reads it, sign- or zero-extended, into rd three groups later, and a post-update load moves its address register; with its guard 0 it does nothing but pass. (15_strand_instructions.md R400, 15_strand_instructions.md R401, 14_strand_architecture.md R375, 14_strand_architecture.md R376) -/
def Obligations.LoadsComplete : Prop :=
  (∀ (s : State) (c : Fin 6) (pr : Fin 8) (rd : Fin 32) (ix : Fin 8) (imm : BitVec 9), s.m.mainOff = false →
      s.m.entering = false →
      s.m.plain c →
      ((s.m.core c).pred pr = true → inLocal ((s.m.core c).ar ix + imm.signExtend 32).toNat 1 = true) →
      exec (.ldoB c pr rd ix imm) s = .next (s.afterState (let q := s.m.core c; s.grouped c id (q.guarded pr (Writes.none.lateG rd ((BitVec.ofNat 8 (s.localNum c (q.ar ix + imm.signExtend 32).toNat 1)).signExtend 32)))))) ∧
  (∀ (s : State) (c : Fin 6) (pr : Fin 8) (rd : Fin 32) (ix : Fin 8) (imm : BitVec 9), s.m.mainOff = false →
      s.m.entering = false →
      s.m.plain c →
      ((s.m.core c).pred pr = true → inLocal ((s.m.core c).ar ix + imm.signExtend 32).toNat 1 = true) →
      exec (.ldoBu c pr rd ix imm) s = .next (s.afterState (let q := s.m.core c; s.grouped c id (q.guarded pr (Writes.none.lateG rd (BitVec.ofNat 32 (s.localNum c (q.ar ix + imm.signExtend 32).toNat 1))))))) ∧
  (∀ (s : State) (c : Fin 6) (pr : Fin 8) (rd : Fin 32) (ix : Fin 8) (imm : BitVec 9), s.m.mainOff = false →
      s.m.entering = false →
      s.m.plain c →
      ((s.m.core c).pred pr = true → inLocal ((s.m.core c).ar ix + imm.signExtend 32).toNat 2 = true) →
      exec (.ldoH c pr rd ix imm) s = .next (s.afterState (let q := s.m.core c; s.grouped c id (q.guarded pr (Writes.none.lateG rd ((BitVec.ofNat 16 (s.localNum c (q.ar ix + imm.signExtend 32).toNat 2)).signExtend 32)))))) ∧
  (∀ (s : State) (c : Fin 6) (pr : Fin 8) (rd : Fin 32) (ix : Fin 8) (imm : BitVec 9), s.m.mainOff = false →
      s.m.entering = false →
      s.m.plain c →
      ((s.m.core c).pred pr = true → inLocal ((s.m.core c).ar ix + imm.signExtend 32).toNat 2 = true) →
      exec (.ldoHu c pr rd ix imm) s = .next (s.afterState (let q := s.m.core c; s.grouped c id (q.guarded pr (Writes.none.lateG rd (BitVec.ofNat 32 (s.localNum c (q.ar ix + imm.signExtend 32).toNat 2))))))) ∧
  (∀ (s : State) (c : Fin 6) (pr : Fin 8) (rd : Fin 32) (ix : Fin 8) (imm : BitVec 9), s.m.mainOff = false →
      s.m.entering = false →
      s.m.plain c →
      ((s.m.core c).pred pr = true → inLocal ((s.m.core c).ar ix + imm.signExtend 32).toNat 4 = true) →
      exec (.ldoW c pr rd ix imm) s = .next (s.afterState (let q := s.m.core c; s.grouped c id (q.guarded pr (Writes.none.lateG rd (BitVec.ofNat 32 (s.localNum c (q.ar ix + imm.signExtend 32).toNat 4))))))) ∧
  (∀ (s : State) (c : Fin 6) (pr : Fin 8) (z : Size) (uns : Bool) (rd : Fin 32) (ix : Fin 8), s.m.mainOff = false →
      s.m.entering = false →
      s.m.plain c →
      ((s.m.core c).pred pr = true → inLocal ((s.m.core c).ar ix).toNat (Size.bytes z) = true) →
      exec (.ldp c pr z uns rd ix) s = .next (s.afterState (let q := s.m.core c; s.grouped c id (q.guarded pr { Writes.none.lateG rd (extend z uns (s.localNum c (q.ar ix).toNat (Size.bytes z))) with x := [(.a, ix.val, q.addrUp ix)] })))) ∧
  (∀ (s : State) (c : Fin 6) (pr : Fin 8) (z : Size) (uns : Bool) (rd : Fin 32) (ix : Fin 8) (rs2 : Fin 32), s.m.mainOff = false →
      s.m.entering = false →
      s.m.plain c →
      ((s.m.core c).pred pr = true → inLocal ((s.m.core c).ar ix + (s.m.core c).gr rs2).toNat (Size.bytes z) = true) →
      exec (.ldx c pr z uns rd ix rs2) s = .next (s.afterState (let q := s.m.core c; s.grouped c id (q.guarded pr (Writes.none.lateG rd (extend z uns (s.localNum c (q.ar ix + q.gr rs2).toNat (Size.bytes z)))))))) ∧
  (∀ (s : State) (c : Fin 6) (pr : Fin 8) (rd : Fin 32), s.m.mainOff = false →
      s.m.entering = false →
      s.m.plain c →
      ((s.m.core c).pred pr = true → (s.m.core c).dsp.toNat < s.m.fld pgStrand (Strandctl.C_DSTK_HI c) ∧ inLocal (s.m.core c).dsp.toNat 4 = true) →
      exec (.pop c pr rd) s = .next (s.afterState (let q := s.m.core c; s.grouped c id (q.guarded pr { Writes.none.lateG rd (BitVec.ofNat 32 (s.localNum c q.dsp.toNat 4)) with dsp := some (q.dsp + 4) }))))

/-- At a plain boundary of a running core, a store with an aligned, permitted address writes local data memory at once or joins the write buffer while that has room, and a post-update store moves its address register; SWAP exchanges a word of local data memory once the buffer is empty, and SYNC then passes. (15_strand_instructions.md R400, 15_strand_instructions.md R401, 15_strand_instructions.md R402, 14_strand_architecture.md R374, 14_strand_architecture.md R376) -/
def Obligations.StoresComplete : Prop :=
  (∀ (s : State) (c : Fin 6) (pr : Fin 8) (rd : Fin 32) (ix : Fin 8) (imm : BitVec 9), s.m.mainOff = false →
      s.m.entering = false →
      s.m.plain c →
      ((s.m.core c).pred pr = true → accFault c (.sto .byte rd ix imm.toInt) ⟨((s.m.core c).ar ix + imm.signExtend 32).toNat, 1, true⟩ = none ∧ (regionOf (((s.m.core c).ar ix + imm.signExtend 32).toNat) = some .dm ∨ (s.m.core c).wbuf.length < 4)) →
      exec (.stoB c pr rd ix imm) s = .next (s.afterState (let q := s.m.core c; (if q.pred pr then s.stored c ((q.ar ix + imm.signExtend 32).toNat) 1 (q.gr rd) else s).grouped c id (q.guarded pr Writes.none)))) ∧
  (∀ (s : State) (c : Fin 6) (pr : Fin 8) (rd : Fin 32) (ix : Fin 8) (imm : BitVec 9), s.m.mainOff = false →
      s.m.entering = false →
      s.m.plain c →
      ((s.m.core c).pred pr = true → accFault c (.sto .half rd ix imm.toInt) ⟨((s.m.core c).ar ix + imm.signExtend 32).toNat, 2, true⟩ = none ∧ (regionOf (((s.m.core c).ar ix + imm.signExtend 32).toNat) = some .dm ∨ (s.m.core c).wbuf.length < 4)) →
      exec (.stoH c pr rd ix imm) s = .next (s.afterState (let q := s.m.core c; (if q.pred pr then s.stored c ((q.ar ix + imm.signExtend 32).toNat) 2 (q.gr rd) else s).grouped c id (q.guarded pr Writes.none)))) ∧
  (∀ (s : State) (c : Fin 6) (pr : Fin 8) (rd : Fin 32) (ix : Fin 8) (imm : BitVec 9), s.m.mainOff = false →
      s.m.entering = false →
      s.m.plain c →
      ((s.m.core c).pred pr = true → accFault c (.sto .word rd ix imm.toInt) ⟨((s.m.core c).ar ix + imm.signExtend 32).toNat, 4, true⟩ = none ∧ (regionOf (((s.m.core c).ar ix + imm.signExtend 32).toNat) = some .dm ∨ (s.m.core c).wbuf.length < 4)) →
      exec (.stoW c pr rd ix imm) s = .next (s.afterState (let q := s.m.core c; (if q.pred pr then s.stored c ((q.ar ix + imm.signExtend 32).toNat) 4 (q.gr rd) else s).grouped c id (q.guarded pr Writes.none)))) ∧
  (∀ (s : State) (c : Fin 6) (pr : Fin 8) (z : Size) (rd : Fin 32) (ix : Fin 8), s.m.mainOff = false →
      s.m.entering = false →
      s.m.plain c →
      ((s.m.core c).pred pr = true → accFault c (.stp z rd ix) ⟨((s.m.core c).ar ix).toNat, (Size.bytes z), true⟩ = none ∧ (regionOf (((s.m.core c).ar ix).toNat) = some .dm ∨ (s.m.core c).wbuf.length < 4)) →
      exec (.stp c pr z rd ix) s = .next (s.afterState (let q := s.m.core c; (if q.pred pr then s.stored c (q.ar ix).toNat (Size.bytes z) (q.gr rd) else s).grouped c id (q.guarded pr { Writes.none with x := [(.a, ix.val, q.addrUp ix)] })))) ∧
  (∀ (s : State) (c : Fin 6) (pr : Fin 8) (z : Size) (rd : Fin 32) (ix : Fin 8) (rs2 : Fin 32), s.m.mainOff = false →
      s.m.entering = false →
      s.m.plain c →
      ((s.m.core c).pred pr = true → accFault c (.stx z rd ix rs2) ⟨((s.m.core c).ar ix + (s.m.core c).gr rs2).toNat, (Size.bytes z), true⟩ = none ∧ (regionOf (((s.m.core c).ar ix + (s.m.core c).gr rs2).toNat) = some .dm ∨ (s.m.core c).wbuf.length < 4)) →
      exec (.stx c pr z rd ix rs2) s = .next (s.afterState (let q := s.m.core c; (if q.pred pr then s.stored c (q.ar ix + q.gr rs2).toNat (Size.bytes z) (q.gr rd) else s).grouped c id (q.guarded pr Writes.none)))) ∧
  (∀ (s : State) (c : Fin 6) (pr : Fin 8) (rd : Fin 32), s.m.mainOff = false →
      s.m.entering = false →
      s.m.plain c →
      ((s.m.core c).pred pr = true → s.m.fld pgStrand (Strandctl.C_DSTK_LO c) ≤ ((s.m.core c).dsp - 4).toNat ∧ inLocal ((s.m.core c).dsp - 4).toNat 4 = true) →
      exec (.push c pr rd) s = .next (s.afterState (let q := s.m.core c; (if q.pred pr then s.stored c (q.dsp - 4).toNat 4 (q.gr rd) else s).grouped c id (q.guarded pr { Writes.none with dsp := some (q.dsp - 4) })))) ∧
  (∀ (s : State) (c : Fin 6) (pr : Fin 8) (rd : Fin 32) (ix : Fin 8), s.m.mainOff = false →
      s.m.entering = false →
      s.m.plain c →
      ((s.m.core c).pred pr = true → inLocal ((s.m.core c).ar ix).toNat 4 = true ∧ (s.m.core c).wbuf = []) →
      exec (.swap c pr rd ix) s = .next (s.afterState (let q := s.m.core c; (if q.pred pr then s.stored c (q.ar ix).toNat 4 (q.gr rd) else s).grouped c id (q.guarded pr (Writes.none.lateG rd (BitVec.ofNat 32 (s.localNum c (q.ar ix).toNat 4))))))) ∧
  (∀ (s : State) (c : Fin 6) (pr : Fin 8), s.m.mainOff = false →
      s.m.entering = false →
      s.m.plain c →
      ((s.m.core c).pred pr = true → (s.m.core c).wbuf = []) →
      exec (.sync c pr) s = .next (s.afterState (s.grouped c id Writes.none)))

/-- At a plain boundary of a running core, a transfer to a permitted target is pending behind its two delay groups, with the frame CALL pushes and RET and RETI take; REP and REPR set the count of the group that follows, or skip it for a count of 0; WAIT waits; TRAP and BREAK take their trap, which returns behind the group. (15_strand_instructions.md R403, 15_strand_instructions.md R404, 15_strand_instructions.md R405, 14_strand_architecture.md R373, 14_strand_architecture.md R377, 14_strand_architecture.md R379, 14_strand_architecture.md R383) -/
def Obligations.TransfersComplete : Prop :=
  (∀ (s : State) (c : Fin 6) (pr : Fin 8), s.m.mainOff = false →
      s.m.entering = false →
      s.m.plain c →
      exec (.nop c pr) s = .next (s.afterState (s.grouped c id Writes.none))) ∧
  (∀ (s : State) (c : Fin 6) (pr : Fin 8) (off : BitVec 19), s.m.mainOff = false →
      s.m.entering = false →
      s.m.plain c →
      ((s.m.core c).pred pr = true → s.goodTarget c (BitVec.ofInt 32 (((s.m.core c).pc : Int) + 2 * off.toInt)).toNat = true) →
      exec (.br c pr off) s = .next (s.afterState (let q := s.m.core c; s.grouped c (fun (x : Core) => if q.pred pr then { x with jumps := [⟨2, (BitVec.ofInt 32 ((q.pc : Int) + 2 * off.toInt)).toNat, none⟩] } else x) Writes.none))) ∧
  (∀ (s : State) (c : Fin 6) (pr : Fin 8) (off : BitVec 19), s.m.mainOff = false →
      s.m.entering = false →
      s.m.plain c →
      ((s.m.core c).pred pr = true → s.goodTarget c (BitVec.ofInt 32 (((s.m.core c).pc : Int) + 2 * off.toInt)).toNat = true ∧ (s.m.core c).frames.length < 28) →
      exec (.call c pr off) s = .next (s.afterState (let q := s.m.core c; s.grouped c (fun (x : Core) => if q.pred pr then { x with jumps := [⟨2, (BitVec.ofInt 32 ((q.pc : Int) + 2 * off.toInt)).toNat, none⟩], frames := ⟨(fetchAt s.m s.mem c (fetchAt s.m s.mem c q.nextWord).next).next, q.status, 0⟩ :: x.frames } else x) Writes.none))) ∧
  (∀ (s : State) (c : Fin 6) (pr : Fin 8) (off : BitVec 19), s.m.mainOff = false →
      s.m.entering = false →
      s.m.plain c →
      ((s.m.core c).pred pr = true → (s.m.core c).rpt ≠ 1 → s.goodTarget c (BitVec.ofInt 32 (((s.m.core c).pc : Int) + 2 * off.toInt)).toNat = true) →
      exec (.brdec c pr off) s = .next (s.afterState (let q := s.m.core c; s.grouped c (fun (x : Core) => if q.pred pr && decide (q.rpt ≠ 1) then { x with jumps := [⟨2, (BitVec.ofInt 32 ((q.pc : Int) + 2 * off.toInt)).toNat, none⟩] } else x) (q.guarded pr { Writes.none with rpt := some (q.rpt - 1) })))) ∧
  (∀ (s : State) (c : Fin 6) (pr : Fin 8) (rs1 : Fin 32), s.m.mainOff = false →
      s.m.entering = false →
      s.m.plain c →
      ((s.m.core c).pred pr = true → s.goodTarget c ((s.m.core c).gr rs1).toNat = true) →
      exec (.brr c pr rs1) s = .next (s.afterState (let q := s.m.core c; s.grouped c (fun (x : Core) => if q.pred pr then { x with jumps := [⟨2, (q.gr rs1).toNat, none⟩] } else x) Writes.none))) ∧
  (∀ (s : State) (c : Fin 6) (pr : Fin 8) (rs1 : Fin 32), s.m.mainOff = false →
      s.m.entering = false →
      s.m.plain c →
      ((s.m.core c).pred pr = true → s.goodTarget c ((s.m.core c).gr rs1).toNat = true ∧ (s.m.core c).frames.length < 28) →
      exec (.callr c pr rs1) s = .next (s.afterState (let q := s.m.core c; s.grouped c (fun (x : Core) => if q.pred pr then { x with jumps := [⟨2, (q.gr rs1).toNat, none⟩], frames := ⟨(fetchAt s.m s.mem c (fetchAt s.m s.mem c q.nextWord).next).next, q.status, 0⟩ :: x.frames } else x) Writes.none))) ∧
  (∀ (s : State) (c : Fin 6) (pr : Fin 8) (fr : Frame) (rest : List Frame), s.m.mainOff = false →
      s.m.entering = false →
      s.m.plain c →
      ((s.m.core c).pred pr = true → (s.m.core c).frames = fr :: rest ∧ s.goodTarget c fr.addr = true) →
      exec (.ret c pr) s = .next (s.afterState (let q := s.m.core c; s.grouped c (fun (x : Core) => if q.pred pr then { x with jumps := [⟨2, fr.addr, none⟩], frames := rest } else x) Writes.none))) ∧
  (∀ (s : State) (c : Fin 6) (pr : Fin 8) (fr : Frame) (rest : List Frame), s.m.mainOff = false →
      s.m.entering = false →
      s.m.plain c →
      ((s.m.core c).pred pr = true → (s.m.core c).frames = fr :: rest ∧ s.goodTarget c fr.addr = true) →
      exec (.reti c pr) s = .next (s.afterState (let q := s.m.core c; s.grouped c (fun (x : Core) => if q.pred pr then { x with jumps := [⟨2, fr.addr, (some fr.status)⟩], frames := rest } else x) Writes.none))) ∧
  (∀ (s : State) (c : Fin 6) (pr : Fin 8) (k : BitVec 14), s.m.mainOff = false →
      s.m.entering = false →
      s.m.plain c →
      (((sylsOf (fetchAt s.m s.mem c (s.m.core c).nextWord).decs).any fun y => y.op.rptWriter) = false) →
      exec (.rep c pr k) s = .next (s.afterState (let q := s.m.core c; s.grouped c (fun (x : Core) => if q.pred pr then (if k.toNat = 0 then { x with rpt := 0, pc := (fetchAt s.m s.mem c q.nextWord).next } else { x with rpt := BitVec.ofNat 32 k.toNat, rep := some k.toNat }) else x) Writes.none))) ∧
  (∀ (s : State) (c : Fin 6) (pr : Fin 8) (rs1 : Fin 32), s.m.mainOff = false →
      s.m.entering = false →
      s.m.plain c →
      (((sylsOf (fetchAt s.m s.mem c (s.m.core c).nextWord).decs).any fun y => y.op.rptWriter) = false) →
      exec (.repr c pr rs1) s = .next (s.afterState (let q := s.m.core c; s.grouped c (fun (x : Core) => if q.pred pr then (if (q.gr rs1).toNat = 0 then { x with rpt := 0, pc := (fetchAt s.m s.mem c q.nextWord).next } else { x with rpt := BitVec.ofNat 32 (q.gr rs1).toNat, rep := some (q.gr rs1).toNat }) else x) Writes.none))) ∧
  (∀ (s : State) (c : Fin 6) (pr : Fin 8), s.m.mainOff = false →
      s.m.entering = false →
      s.m.plain c →
      exec (.wait c pr) s = .next (s.afterState (let q := s.m.core c; if q.pred pr then { s.grouped c id Writes.none with m := (s.grouped c id Writes.none).m.setCoreSt c 3 } else s.grouped c id Writes.none))) ∧
  (∀ (s : State) (c : Fin 6) (pr : Fin 8) (code : Fin 16), s.m.mainOff = false →
      s.m.entering = false →
      s.m.plain c →
      exec (.trap c pr code) s = .next (s.afterState (let q := s.m.core c; if q.pred pr then { s with m := s.m.coreTrap c ⟨5, code, 0, 4, none⟩ q.nextWord q.status } else s.grouped c id Writes.none))) ∧
  (∀ (s : State) (c : Fin 6) (pr : Fin 8), s.m.mainOff = false →
      s.m.entering = false →
      s.m.plain c →
      exec (.breakOp c pr) s = .next (s.afterState (let q := s.m.core c; if q.pred pr then { s with m := s.m.coreTrap c ⟨6, 0, 0, 4, none⟩ q.nextWord q.status } else s.grouped c id Writes.none)))

/-- A fetched group that does not trap and waits for nothing takes effect; an outstanding access completes; the oldest buffered store reaches its region; an interrupt that may be taken is accepted; START, STOP, LOAD, RESET, DOZE_REQ and IRQ writes that are taken have the effect R388, R473 and R381 give; a load whose image is good fills the memories and registers, and a dozing core goes on. (14_strand_architecture.md R369, 14_strand_architecture.md R374, 14_strand_architecture.md R376, 14_strand_architecture.md R380, 14_strand_architecture.md R381, 14_strand_architecture.md R386, 14_strand_architecture.md R387, 14_strand_architecture.md R388, 14_strand_architecture.md R546, 19_power_states_and_network_sleep.md R473) -/
def Obligations.CoreEventsComplete : Prop :=
  (∀ (s : State) (c : Fin 6) (ecc : Fin 4), s.m.mainOff = false →
      s.m.entering = false →
      s.m.plain c →
      ecc ≠ 1 →
      ((groupFault c (fetchAt s.m s.mem c (s.m.core c).pc) ecc s).isNone = true) →
      ((s.m.core c).waits (sylsOf (fetchAt s.m s.mem c (s.m.core c).pc).decs) = .ready) →
      exec (.issueGroup c ecc) s = .next (s.afterState (runGroup c ⟨(fetchAt s.m s.mem c (s.m.core c).pc).addr, (fetchAt s.m s.mem c (s.m.core c).pc).next, sylsOf (fetchAt s.m s.mem c (s.m.core c).pc).decs⟩ s))) ∧
  (∀ (s : State) (c : Fin 6) (g : Group) (n : Nat), s.m.mainOff = false →
      s.m.entering = false →
      (s.m.core c).stall = some (g, n + 2) →
      exec (.accessComplete c) s = .next (s.afterState ({ s with m := s.m.modCore c fun k => { k with stall := some (g, n + 1) } }))) ∧
  (∀ (s : State) (c : Fin 6) (g : Group), s.m.mainOff = false →
      s.m.entering = false →
      (s.m.core c).stall = some (g, 1) →
      ((drainAll c { s with m := s.m.modCore c fun k => { k with stall := none } }).m.coreSt c = 2) →
      (((drainAll c { s with m := s.m.modCore c fun k => { k with stall := none } }).m.core c).closing = false) →
      exec (.accessComplete c) s = .next (s.afterState (runGroup c g (drainAll c { s with m := s.m.modCore c fun k => { k with stall := none } })))) ∧
  (∀ (s : State) (c : Fin 6) (x : WStore) (l : List WStore), s.m.mainOff = false →
      s.m.entering = false →
      (s.m.core c).wbuf = x :: l →
      (((storeNow c x { s with m := s.m.modCore c fun k => { k with wbuf := l } }).m.core c).closing = false) →
      (((storeNow c x { s with m := s.m.modCore c fun k => { k with wbuf := l } }).m.core c).stall = none) →
      exec (.writeBufferDrain c) s = .next (s.afterState (storeNow c x { s with m := s.m.modCore c fun k => { k with wbuf := l } }))) ∧
  (∀ (s : State) (c : Fin 6), s.m.mainOff = false →
      s.m.entering = false →
      (s.m.core c).replay = false →
      s.m.leadPair = false →
      s.m.irqTaken c →
      (s.m.core c).defer ≤ 5 →
      exec (.interruptAccept c) s = .next (s.after ((s.m.setFld pgStrand (Strandctl.C_DEFER_MAX c) (max (s.m.fld pgStrand (Strandctl.C_DEFER_MAX c)) (s.m.core c).defer)).acceptVec c (lowestBit (s.m.irqDue c))))) ∧
  (∀ (s : State) (src : Src) (core : Fin 8) (vec : Fin 32), s.m.mainOff = false →
      core.val < 6 →
      (s.m.takes src pgStrand 0x048 (Strandctl.VECTOR.put (Strandctl.CORE.put 0 core) vec)) →
      exec (.irqSet src core vec) s = .next (s.after (s.m.ran src pgStrand 0x048 (fun m => m.irq core vec)))) ∧
  (∀ (s : State) (src : Src) (c : Fin 6), s.m.mainOff = false →
      appCore c →
      s.m.coreSt c = 0 →
      (s.m.takes src pgStrand (0x100 + 0x40 * c) 1) →
      exec (.coreStart src c) s = .next (s.after (s.m.ran src pgStrand (0x100 + 0x40 * c) (fun m => if appCore c && m.coreSt c == 0 then m.coreBegin c else m.refuse pgStrand (0x100 + 0x40 * c) 3)))) ∧
  (∀ (s : State) (src : Src) (c : Fin 6), s.m.mainOff = false →
      appCore c →
      (s.m.takes src pgStrand (0x100 + 0x40 * c) 2) →
      exec (.coreStop src c) s = .next (s.after (s.m.ran src pgStrand (0x100 + 0x40 * c) (fun m => m.coreStop c)))) ∧
  (∀ (s : State) (src : Src) (c : Fin 6), s.m.mainOff = false →
      appCore c →
      s.m.coreSt c ≠ 1 →
      (s.m.takes src pgStrand (0x100 + 0x40 * c) 3) →
      exec (.load src c) s = .next (s.after (s.m.ran src pgStrand (0x100 + 0x40 * c) (fun m => m.coreLoad c)))) ∧
  (∀ (s : State) (src : Src) (c : Fin 6), s.m.mainOff = false →
      appCore c →
      s.m.coreSt c ≠ 1 →
      (s.m.takes src pgStrand (0x100 + 0x40 * c) 4) →
      exec (.coreReset src c) s = .next (s.after (s.m.ran src pgStrand (0x100 + 0x40 * c) (fun m => m.coreResetOp c)))) ∧
  (∀ (s : State) (c : Fin 6), s.m.mainOff = false →
      s.m.entering = false →
      appCore c →
      s.m.coreSt c = 1 →
      (loadErr s.m s.mem c).1 = 0 →
      exec (.loadComplete c) s = .next (s.afterState (loadDone c s))) ∧
  (∀ (s : State) (c : Fin 6), s.m.mainOff = false →
      s.m.entering = false →
      appCore c →
      s.m.coreSt c = 1 →
      (loadErr s.m s.mem c).1 ≠ 0 →
      exec (.loadComplete c) s = .next (s.afterState ({ s with m := (loadErr s.m s.mem c).2.loadFailed c (loadErr s.m s.mem c).1, mem := eraseRange (memKey c 0) 0x20000 s.mem }))) ∧
  (∀ (s : State) (src : Src) (mask : BitVec 4), s.m.mainOff = false →
      (s.m.takes src pgPwr 0x048 (Pwr.DOZE_REQ.put 0 mask.toNat)) →
      exec (.dozeReq src mask) s = .next (s.after (s.m.ran src pgPwr 0x048 (fun m => m.dozeRequest mask.toNat)))) ∧
  (∀ (s : State) (c : Fin 6), s.m.mainOff = false →
      s.m.entering = false →
      s.m.coreMirrors c = false →
      s.m.coreSt c = 4 →
      s.m.irqDue c ≠ 0 →
      exec (.dozeExit c) s = .next (s.after (s.m.setCoreSt c 2)))

/-- A frame that is due goes out while the chain sends and none is in progress; an echo, its absence, a node's arrival or departure, an enumeration operation and its completion, a short, a poll and a write of a satellite's SYNC have the effect their rules give. (08_messenger_line.md R244, 08_messenger_line.md R248, 08_messenger_line.md R251, 08_messenger_line.md R252, 08_messenger_line.md R253, 08_messenger_line.md R254, 08_messenger_line.md R255, 08_messenger_line.md R256, 08_messenger_line.md R258, 08_messenger_line.md R259, 08_messenger_line.md R260) -/
def Obligations.MessengerComplete : Prop :=
  (∀ (s : State) (c : Fin 4), s.m.mainOff = false →
      s.m.entering = false →
      (s.m.chain c).due →
      s.m.chainOn c →
      (s.m.chain c).inFrame = false →
      exec (.messengerFrame c) s = .next (s.after (s.m.sendFrame c))) ∧
  (∀ (s : State) (c : Fin 4) (ms : Nat), s.m.mainOff = false →
      s.m.entering = false →
      s.m.fld (pgMsg c) Msg.REFRESH ≤ ms →
      s.m.chainOn c →
      (s.m.chain c).inFrame = false →
      exec (.refresh c ms) s = .next (s.after (s.m.sendFrame c))) ∧
  (∀ (s : State) (c : Fin 4), s.m.mainOff = false →
      s.m.entering = false →
      (s.m.chain c).syncShare →
      s.m.anyHeaveMark c = false →
      exec (.syncHeave c) s = .next (s.after ((s.m.modChain c fun a => { a with syncShare := false }).heave c none))) ∧
  (∀ (s : State) (c : Fin 4) (ofHeave : Bool) (tag hop : Nat) (replies : List NodeReply) (e : Nat), s.m.mainOff = false →
      ofHeave →
      s.m.flag (pgMsg c) Msg.RETURN →
      s.m.chainOn c →
      (s.m.chain c).awaiting = some e →
      exec (.echo c ofHeave tag hop replies) s = .next (s.after ((s.m.modChain c fun a => { a with awaiting := none }).heaveDone c e))) ∧
  (∀ (s : State) (c : Fin 4) (ofHeave : Bool) (tag hop : Nat) (replies : List NodeReply), s.m.mainOff = false →
      ofHeave = false →
      s.m.flag (pgMsg c) Msg.RETURN →
      s.m.chainOn c →
      (s.m.chain c).inFrame →
      tag = (s.m.chain c).tag →
      hop = (s.m.chain c).awake.length →
      (replies.all fun r => s.m.replyOk c r) →
      exec (.echo c ofHeave tag hop replies) s = .next (s.after (((replies.foldl (fun (m : Mach) r => m.reply c r) ((s.m.setFld (pgMsg c) Msg.LAST_HOP hop).setFlag (pgMsg c) Msg.ECHO_OK true)).missReplies c (replies.filterMap fun r => (s.m.chain c).awake[r.h]?)).frameEnd c))) ∧
  (∀ (s : State) (c : Fin 4) (ofHeave : Bool) (tag hop : Nat) (replies : List NodeReply), s.m.mainOff = false →
      ofHeave = false →
      s.m.flag (pgMsg c) Msg.RETURN →
      s.m.chainOn c →
      (s.m.chain c).inFrame →
      ((tag ≠ (s.m.chain c).tag ∨ hop ≠ (s.m.chain c).awake.length ∨ ¬ (replies.all fun r => s.m.replyOk c r))) →
      exec (.echo c ofHeave tag hop replies) s = .next (s.after ((((replies.filter fun r => s.m.replyOk c r).foldl (fun (m : Mach) r => m.reply c r) ((((s.m.setFld (pgMsg c) Msg.LAST_HOP hop).setFlag (pgMsg c) Msg.ECHO_OK false).incSat (pgMsg c) Msg.ECHO_ERRS).msgRaise c 2)).missReplies c ((replies.filter fun r => s.m.replyOk c r).filterMap fun r => (s.m.chain c).awake[r.h]?)).frameEnd c))) ∧
  (∀ (s : State) (c : Fin 4) (begun : Bool) (ns lowNs : Nat), s.m.mainOff = false →
      s.m.flag (pgMsg c) Msg.RETURN →
      s.m.chainOn c →
      (s.m.chain c).inFrame →
      (((begun = false ∧ 20000 + 250 * (s.m.chain c).awake.length < ns) ∨ 4000 ≤ lowNs)) →
      exec (.noEcho c begun ns lowNs) s = .next (s.after (((((s.m.setFlag (pgMsg c) Msg.ECHO_OK false).msgRaise c 1).missReplies c []).modChain c (fun a => { a with runs := [], awaiting := none })).chainReady c |>.frameEnd c))) ∧
  (∀ (s : State) (p : Fin 24) (ms : Nat), s.m.mainOff = false →
      s.m.flag (pgRat p) Rat.REGULATING →
      5 ≤ ms →
      (((s.m.nodesOf (chainOf p) p).filter fun k => !(s.m.chain (chainOf p)).awake.contains k && !(s.m.chain (chainOf p)).joinSent.contains k) ≠ []) →
      exec (.nodeInsertion p ms) s = .next (s.after (s.m.modChain (chainOf p) fun a => { a with joining := ((s.m.nodesOf (chainOf p) p).filter fun k => !a.awake.contains k && !a.joinSent.contains k).foldr insertUp a.joining, due := true }))) ∧
  (∀ (s : State) (p : Fin 24), s.m.mainOff = false →
      (s.m.flag (pgRat p) Rat.REGULATING = false) →
      exec (.nodeRemoval p) s = .next (s.after ((s.m.modChain (chainOf p) fun a => { a with joining := a.joining.filter fun k => !(s.m.nodesOf (chainOf p) p).contains k }).setAwake (chainOf p) ((s.m.chain (chainOf p)).awake.filter fun k => !(s.m.nodesOf (chainOf p) p).contains k)))) ∧
  (∀ (s : State) (src : Src) (c : Fin 4), s.m.mainOff = false →
      s.m.takes src (pgMsg c) 0x048 1 →
      exec (.discover src c) s = .next (s.after (s.m.ran src (pgMsg c) 0x048 (fun m => m.enumOp c 1)))) ∧
  (∀ (s : State) (src : Src) (c : Fin 4), s.m.mainOff = false →
      s.m.takes src (pgMsg c) 0x048 2 →
      exec (.mapChain src c) s = .next (s.after (s.m.ran src (pgMsg c) 0x048 (fun m => m.enumOp c 2)))) ∧
  (∀ (s : State) (src : Src) (c : Fin 4), s.m.mainOff = false →
      s.m.takes src (pgMsg c) 0x048 3 →
      exec (.accept src c) s = .next (s.after (s.m.ran src (pgMsg c) 0x048 (fun m => m.enumOp c 3)))) ∧
  (∀ (s : State) (src : Src) (c : Fin 4), s.m.mainOff = false →
      s.m.takes src (pgMsg c) 0x048 4 →
      exec (.locate src c) s = .next (s.after (s.m.ran src (pgMsg c) 0x048 (fun m => m.enumOp c 4)))) ∧
  (∀ (s : State) (c : Fin 4) (nodes : List NodeFound) (heard : List (List Nat)) (falls : List Nat), s.m.mainOff = false →
      s.m.flag (pgMsg c) Msg.ENUM_BUSY →
      (s.m.chain c).op = 1 →
      exec (.enumComplete c nodes heard falls) s = .next (s.after (((s.m.setFlag (pgMsg c) Msg.ENUM_BUSY false).modChain c fun a => { a with op := 0 }).discovered c nodes))) ∧
  (∀ (s : State) (c : Fin 4) (nodes : List NodeFound) (heard : List (List Nat)) (falls : List Nat), s.m.mainOff = false →
      s.m.flag (pgMsg c) Msg.ENUM_BUSY →
      (s.m.chain c).op = 2 →
      s.m.mapRuns c →
      exec (.enumComplete c nodes heard falls) s = .next (s.after (((s.m.setFlag (pgMsg c) Msg.ENUM_BUSY false).modChain c fun a => { a with op := 0 }).mapped c heard))) ∧
  (∀ (s : State) (c : Fin 4) (nodes : List NodeFound) (heard : List (List Nat)) (falls : List Nat), s.m.mainOff = false →
      s.m.flag (pgMsg c) Msg.ENUM_BUSY →
      (s.m.chain c).op = 3 →
      s.m.mapRuns c →
      exec (.enumComplete c nodes heard falls) s = .next (s.after (((s.m.setFlag (pgMsg c) Msg.ENUM_BUSY false).modChain c fun a => { a with op := 0 }).accepted c heard))) ∧
  (∀ (s : State) (c : Fin 4) (nodes : List NodeFound) (heard : List (List Nat)) (falls : List Nat), s.m.mainOff = false →
      s.m.flag (pgMsg c) Msg.ENUM_BUSY →
      (s.m.chain c).op = 4 →
      exec (.enumComplete c nodes heard falls) s = .next (s.after (((s.m.setFlag (pgMsg c) Msg.ENUM_BUSY false).modChain c fun a => { a with op := 0 }).located c falls))) ∧
  (∀ (s : State) (c : Fin 4) (ms : Nat), s.m.mainOff = false →
      1 ≤ ms →
      s.m.chainOn c →
      exec (.lineShort c ms) s = .next (s.after (s.m.msgRaise c 16))) ∧
  (∀ (s : State) (c : Fin 4) (k : Fin 1024) (ms : Nat), s.m.mainOff = false →
      s.m.entering = false →
      s.m.fld (pgMsg c) Msg.POLL_T ≤ ms →
      (s.m.chain c).awake.contains k.val →
      exec (.poll c k ms) s = .next (s.after (s.m.modChain c fun a => { a with ask := insertUp k a.ask, due := true }))) ∧
  (∀ (s : State) (src : Src) (c : Fin 4) (k : Fin 1024) (v : Word), s.m.mainOff = false →
      s.m.takes src (pgSat c k) 0x04C v →
      exec (.satelliteSyncWrite src c k v) s = .next (s.after (s.m.ran src (pgSat c k) 0x04C (fun m => (m.store (pgSat c k) 0x04C v).satSync c k (v.toNat % 2)))))

/-- With a command at the front of the queue, step is exec of that command on the state with the rest of the queue: commands take effect in the order in which they arrived. (02_units_and_pages.md R68) -/
def Obligations.StepTakesFront : Prop :=
  ∀ (s : State) (i : Instr), step { s with pending := i :: s.pending } = exec i s

/-- On an empty queue a step is one page clock while the main domain runs, and one count of the Reckoner in Watch and Stasis (the model's choice: notes/assumptions/2.md). (03_capstan_bases_and_marks.md R92, 13_trouble_log_and_logline.md R343) -/
def Obligations.IdleTicks : Prop :=
  ∀ s : State, s.pending = [] → step s = .next { s with m := s.m.tick }

/-- Every command, in every state, answers a next state, and the commands that wait stay as they are. (02_units_and_pages.md R66, 02_units_and_pages.md R74) -/
def Obligations.EveryCommandAnswers : Prop :=
  ∀ (i : Instr) (s : State), ∃ t : State, exec i s = .next t ∧ t.pending = s.pending

/-- In Watch, Stasis and Off the main domain has no power: a row of the main domain changes nothing, in no register, no table and no byte of memory. (19_power_states_and_network_sleep.md R470, 19_power_states_and_network_sleep.md R471) -/
def Obligations.Unpowered : Prop :=
  ∀ (i : Instr) (s : State), mainDomain i = true → s.m.mainOff = true → exec i s = .next s

/-- Every row but the groups of the cores, the snapshot engine, the checkpoints, the Locker's requests and the starts leaves every byte of memory as it was. (14_strand_architecture.md R385, 05_load_sensing_and_lifetime.md R169, 20_locker_security.md R494) -/
def Obligations.MemoryFrame : Prop :=
  ∀ (i : Instr) (s t : State), movesMemory i = false → exec i s = .next t → ∀ a : Nat, readByte t.mem a = readByte s.mem a

/-- From every state whose byte memory is in its canonical form, every step that answers a next state leaves it in that form: addresses strictly rise, and no byte is listed that reads as an unlisted one. So equal memories are equal lists. (03_capstan_bases_and_marks.md R89, 14_strand_architecture.md R385) -/
def Obligations.MemoryStaysCanonical : Prop :=
  ∀ s t : State, MemOk s → step s = .next t → MemOk t

/-- After reset the byte memory is in its canonical form with nothing listed, no command waits, every core stands with its registers at their reset values, and no Mark is armed. (14_strand_architecture.md R367, 03_capstan_bases_and_marks.md R120) -/
def Obligations.ResetIsEmpty : Prop :=
  MemOk State.reset ∧ (∀ a : Nat, readByte State.reset.mem a = 0) ∧ State.reset.pending = [] ∧
  (∀ c r : Nat, (State.reset.m.core c).gr r = 0 ∧ (State.reset.m.core c).ar r = 0 ∧ (State.reset.m.core c).accOf r = 0 ∧
    (State.reset.m.core c).pred r = decide (r % 8 = 0) ∧ (State.reset.m.core c).status = 0 ∧ (State.reset.m.core c).frames = []) ∧
  State.reset.m.marks = []

/-- On order code JV9160-L a write to an absent unit's page, a CMD write among them, changes nothing but STATE.REJECT and REJECT_INFO of that page, whatever its source, and REASON reads 5. (00_scope.md R6) -/
def Obligations.AbsentUnitRefuses : Prop :=
  ∀ (m : Mach) (src : Src) (n off : Nat) (w : Word), m.absent n = true →
    m.pageWrite src n off w = m.refuse n off 5 ∧
    ((m.pageWrite src n off w).reg n 0x010).toNat / 4096 = 5 ∧ (m.pageWrite src n off w).flag n Hdr.REJECT = true ∧
    (m.pageWrite src n off w).shadow = m.shadow ∧
    ∀ k o : Nat, o < 4096 → (k, o) ≠ (n, 0x00C) → (k, o) ≠ (n, 0x010) → (m.pageWrite src n off w).reg k o = m.reg k o

/-- A satellite index is occupied when its chain has enumerated the node, a proxy index when the Fid configuration binds it, every Bight index always; the others of their ranges read 0 at every offset, and a write to one is recorded as stray and does nothing else. (02_units_and_pages.md R56) -/
def Obligations.Occupied : Prop :=
  (∀ (m : Mach) (c k : Nat), c < 4 → k < 1024 → (m.occupied (pgSat c k) = true ↔ k < (m.chain c).found.length)) ∧
  (∀ (m : Mach) (k : Nat), k < 0x2000 → (m.occupied (pgProxy k) = true ↔ (tget m.proxies proxyReset k).bind = true)) ∧
  (∀ (m : Mach) (n : Nat), 0x2000 ≤ n → n ≤ 0x3FFF → m.occupied n = true) ∧
  (∀ (m : Mach) (n : Nat), m.occupied n = false → (∀ off : Nat, m.peek n off = 0) ∧
    ∀ (src : Src) (off : Nat) (w : Word), m.pageWrite src n off w = m.stray n off)

/-- A core's access to a unit page is admitted when it is an aligned word; a narrower or unaligned one raises BUS_ERROR with SUB 6 and does nothing else. (02_units_and_pages.md R58) -/
def Obligations.NarrowAccessTraps : Prop :=
  (∀ (c : Nat) (op : SOp) (x : Access), regionOf x.addr = some .page → (x.bytes ≠ 4 ∨ x.addr % 4 ≠ 0) → accFault c op x = some 6) ∧
  (∀ (c : Nat) (op : SOp) (x : Access), regionOf x.addr = some .page → x.bytes = 4 → x.addr % 4 = 0 →
    (∀ rd i : Nat, op ≠ .swap rd i) → (∀ a n w i j, op ≠ .macd a n w i j) → accFault c op x = none) ∧
  (∀ (s : State) (c : Fin 6) (n : Fin 32768) (off : Fin 4096), s.m.mainOff = false → s.m.entering = false → s.m.coreSt c = 2 → (s.m.core c).stall = none → (s.m.core c).closing = false →
    exec (.narrowAccess c n off) s = .next (s.afterState
      { s with m := s.m.coreTrap c ⟨2, 6, 0, 3, some (0x60000000 + 4096 * n + off)⟩ (s.m.core c).pc (s.m.core c).status }))

/-- A command whose SEQ is not 0 and equals STATE.LAST_SEQ of a unit page is discarded: nothing at all changes. (02_units_and_pages.md R66) -/
def Obligations.DuplicateDiscarded : Prop :=
  ∀ (m : Mach) (src : Src) (n code : Nat) (seq : BitVec 16), code < 16 → m.occupied n = true → clsOf n ≠ .proxy →
    m.gate src n 0x008 = none → seq ≠ 0 → m.fld n Hdr.LAST_SEQ = seq.toNat → m.pageWrite src n 0x008 (cmdWord code seq) = m

/-- A refusal sets STATE.REJECT and writes REJECT_INFO with the register offset and the reason; every other register of every page, live or shadow, stays, and no fault source sets. (02_units_and_pages.md R73, 02_units_and_pages.md R74, 02_units_and_pages.md R76) -/
def Obligations.RefusalRecorded : Prop :=
  ∀ (m : Mach) (n off reason : Nat), off < 4096 → reason < 16 →
    (m.refuse n off reason).flag n Hdr.REJECT = true ∧
    ((m.refuse n off reason).reg n 0x010).toNat = reason * 4096 + off ∧
    (m.refuse n off reason).shadow = m.shadow ∧ (∀ k b : Nat, (m.refuse n off reason).src k b = m.src k b) ∧
    ∀ k o : Nat, o < 4096 → (k, o) ≠ (n, 0x00C) → (k, o) ≠ (n, 0x010) → (m.refuse n off reason).reg k o = m.reg k o

/-- A defined source that sets puts its bit into FAULT_SET, masked or not, and clears none. Where FAULT_SET was all zero and VALID 0, SOURCE latches it and VALID sets; while VALID is 1, a newly set source sets OVF; a source that is set already changes nothing, and no source of an absent unit sets. (02_units_and_pages.md R62, 00_scope.md R6) -/
def Obligations.FirstFaultLatched : Prop :=
  (∀ (m : Mach) (n b k : Nat), m.absent n = false → b < 32 → k < 32 → Nat.testBit (info (clsOf n)).srcs b = true →
    (m.raise n b).src n k = (decide (k = b) || m.src n k)) ∧
  (∀ (m : Mach) (n b : Nat), m.absent n = false → b < 32 → Nat.testBit (info (clsOf n)).srcs b = true → m.reg n 0x018 = 0 → m.flag n Hdr.VALID = false →
    (m.raise n b).fld n Hdr.SOURCE = b ∧ (m.raise n b).flag n Hdr.VALID = true ∧ (m.raise n b).flag n Hdr.OVF = false) ∧
  (∀ (m : Mach) (n b : Nat), m.absent n = false → b < 32 → Nat.testBit (info (clsOf n)).srcs b = true → m.src n b = false → m.flag n Hdr.VALID = true →
    (m.raise n b).fld n Hdr.SOURCE = m.fld n Hdr.SOURCE ∧ (m.raise n b).flag n Hdr.VALID = true ∧ (m.raise n b).flag n Hdr.OVF = true) ∧
  (∀ (m : Mach) (n b : Nat), m.src n b = true → m.raise n b = m) ∧
  (∀ (m : Mach) (n b : Nat), m.absent n = true → m.raise n b = m)

/-- An operation whose guard reads 0, at a plain boundary and in a group that is not ILLEGAL, does nothing but pass: no register, address register, stack, transfer, prefix, memory byte or access; and a guard that a compare writes is read so by the next group. (15_strand_instructions.md R392) -/
def Obligations.GuardZeroDoesNothing : Prop :=
  (∀ (s : State) (c : Nat) (y : Syl), s.m.mainOff = false → s.m.plain c = true → (s.m.core c).pred y.pr = false → illegal [.ok y] = none →
    (y.op.isRep = true → ((sylsOf (fetchAt s.m s.mem c (s.m.core c).nextWord).decs).any fun z => z.op.rptWriter) = false) →
    issueOp c y s = s.grouped c id Writes.none) ∧
  (∀ (k : Core) (pd : Nat) (b : Bool), pd % 8 ≠ 0 → (k.commit { Writes.none with p := [(pd, b)] }).pred pd = b)

/-- At a plain boundary PERM writes to rd a word each of whose four bytes is what its selector in rs2 says: a byte of rs1, a byte of the old rd, all ones, the sign of rs1, or zero; no selector value is refused. (15_strand_instructions.md R394) -/
def Obligations.PermSelects : Prop :=
  ∀ (s : State) (c : Fin 6) (y : Bool) (pr : Fin 8) (rd rs1 rs2 : Fin 32), s.m.mainOff = false → s.m.entering = false → s.m.plain c = true →
    (s.m.core c).pred pr = true → ∃ v : Word, exec (.perm c y pr rd rs1 rs2) s = .next (s.afterState (s.grouped c id (Writes.none.addG rd v))) ∧
    ∀ b : Nat, b < 4 → v.toNat / 256 ^ b % 256 =
      (let x := (s.m.core c).gr rs1
       let q := ((s.m.core c).gr rs2).toNat / 16 ^ b % 16
       if q ≤ 3 then x.toNat / 256 ^ q % 256
       else if q ≤ 7 then ((s.m.core c).gr rd).toNat / 256 ^ (q - 4) % 256
       else if q = 9 then 255
       else if q = 10 ∧ x.getLsbD 31 = true then 255
       else 0)

/-- At a plain boundary BFX, BFXS and BFI write to rd a word whose every bit is the one R395 gives for pos and width of the control word, a width above 32 acting as 32, a field cut short by bit 31, and a width of 0; BFI counts as a write of rd. (15_strand_instructions.md R395) -/
def Obligations.FieldBits : Prop :=
  (∀ (s : State) (c : Fin 6) (y : Bool) (pr : Fin 8) (rd rs1 rs2 : Fin 32), s.m.mainOff = false → s.m.entering = false → s.m.plain c = true →
    (s.m.core c).pred pr = true →
    let x := (s.m.core c).gr rs1
    let old := (s.m.core c).gr rd
    let pos := ((s.m.core c).gr rs2).toNat % 32
    let w := min 32 (((s.m.core c).gr rs2).toNat / 256 % 64)
    (∃ v : Word, exec (.bfx c y pr rd rs1 rs2) s = .next (s.afterState (s.grouped c id (Writes.none.addG rd v))) ∧
      ∀ i : Nat, i < 32 → v.getLsbD i = (decide (i < w) && x.getLsbD (pos + i))) ∧
    (∃ v : Word, exec (.bfxs c y pr rd rs1 rs2) s = .next (s.afterState (s.grouped c id (Writes.none.addG rd v))) ∧
      ∀ i : Nat, i < 32 → v.getLsbD i = if i < min w (32 - pos) then x.getLsbD (pos + i) else decide (0 < w) && x.getLsbD (min (pos + w) 32 - 1)) ∧
    (∃ v : Word, exec (.bfi c y pr rd rs1 rs2) s = .next (s.afterState (s.grouped c id (Writes.none.addG rd v))) ∧
      ∀ i : Nat, i < 32 → v.getLsbD i = if pos ≤ i ∧ i < pos + w then x.getLsbD (i - pos) else old.getLsbD i)) ∧
  (∀ rd rs1 rs2 : Nat, rd ≠ 0 → (SOp.bfi rd rs1 rs2).dests = [.g rd])

/-- PUSH writes the word below dsp and takes dsp there; POP reads the word at dsp and moves dsp up by 4; a PUSH whose new dsp lies below DSTK_LO and a POP with dsp at or above DSTK_HI take the DSTACK trap and change nothing else; MVTS writes dsp unchecked. (14_strand_architecture.md R378) -/
def Obligations.DataStack : Prop :=
  ∀ (s : State) (c : Fin 6) (pr : Fin 8) (rd : Fin 32), s.m.mainOff = false → s.m.entering = false → s.m.plain c = true → (s.m.core c).pred pr = true →
    let q := s.m.core c
    (s.m.fld pgStrand (Strandctl.C_DSTK_LO c) ≤ (q.dsp - 4).toNat → inLocal (q.dsp - 4).toNat 4 = true →
      exec (.push c pr rd) s = .next (s.afterState ({ s with mem := writeBytes (memKey c (q.dsp - 4).toNat) (leBytes 4 (q.gr rd).toNat) s.mem }.grouped c id
        { Writes.none with dsp := some (q.dsp - 4) }))) ∧
    ((q.dsp - 4).toNat < s.m.fld pgStrand (Strandctl.C_DSTK_LO c) →
      exec (.push c pr rd) s = .next (s.afterState { s with m := s.m.coreTrap c ⟨4, 1, 0, 3, some (q.dsp - 4).toNat⟩ q.pc q.status })) ∧
    (q.dsp.toNat < s.m.fld pgStrand (Strandctl.C_DSTK_HI c) → inLocal q.dsp.toNat 4 = true →
      exec (.pop c pr rd) s = .next (s.afterState (s.grouped c id
        { Writes.none.lateG rd (BitVec.ofNat 32 (s.localNum c q.dsp.toNat 4)) with dsp := some (q.dsp + 4) }))) ∧
    (s.m.fld pgStrand (Strandctl.C_DSTK_HI c) ≤ q.dsp.toNat →
      exec (.pop c pr rd) s = .next (s.afterState { s with m := s.m.coreTrap c ⟨4, 2, 0, 3, some q.dsp.toNat⟩ q.pc q.status })) ∧
    ∀ (y : Bool) (rs1 : Fin 32), exec (.mvts c y pr .dsp rs1) s = .next (s.afterState (s.grouped c id { Writes.none with dsp := some (q.gr rs1) }))

/-- A trap on a core whose status.TRAP is 0 and whose return stack has room lands every result, writes trap_info (and FADDR for a data fault), pushes a frame with its address and status, sets TRAP, clears IE and REP_LIVE, keeps SAT, V and C, and goes on at VBAR + 0x20 × CAUSE; no other core changes. (14_strand_architecture.md R383) -/
def Obligations.TrapEntry : Prop :=
  ∀ (m : Mach) (c : Nat) (t : TrapInfo) (ret : Nat) (st : Word), (m.core c).stBit stTRAP = false → (m.core c).frames.length < 32 →
    let k := m.core c
    let r := m.coreTrap c t ret st
    let k' := r.core c
    k'.frames = ⟨ret, st, 2⟩ :: k.frames ∧ k'.stBit stTRAP = true ∧ k'.stBit stIE = false ∧ k'.stBit stREP = false ∧
    (∀ b : Nat, b = stSAT ∨ b = stV ∨ b = stC → k'.stBit b = k.stBit b) ∧
    k'.pc = m.fld pgStrand (Strandctl.C_VBAR c) + 0x20 * t.cause ∧ k'.trapInfo = t.word ∧ k'.flight = [] ∧ k'.jumps = [] ∧ k'.rep = none ∧
    k'.g = k.landAll.g ∧ k'.a = k.a ∧ k'.dsp = k.dsp ∧ k'.acc = k.acc ∧
    r.fld pgStrand (Strandctl.C_TRAP_INFO c) = t.word.toNat ∧
    (∀ a : Nat, t.addr = some a → a < 2 ^ 32 → r.fld pgStrand (Strandctl.C_FADDR c) = a) ∧
    (∀ d : Nat, d ≠ c → r.core d = m.core d)

/-- A trap while status.TRAP is 1, or with 32 frames in use, halts the core: STATE reads HALTED and its HALT source sets; a halted core issues nothing. (14_strand_architecture.md R384, 14_strand_architecture.md R389) -/
def Obligations.TrapHalts : Prop :=
  (∀ (m : Mach) (c : Nat) (t : TrapInfo) (ret : Nat) (st : Word), c < 6 → ((m.core c).stBit stTRAP = true ∨ 32 ≤ (m.core c).frames.length) →
    (m.coreTrap c t ret st).coreSt c = 5 ∧ (m.coreTrap c t ret st).src pgStrand c = true ∧ ((m.coreTrap c t ret st).core c).frames = (m.core c).frames) ∧
  (∀ (s : State) (c : Nat) (f : Fetch) (ecc : Nat), s.m.coreSt c = 5 → issue c f ecc s = s)

/-- An interrupt of vector v that a core takes clears its bit in IRQ_PEND and no other, pushes a frame with the address of the next group and the status (REP_LIVE set in it inside a REP body, whose remaining count rpt takes), clears IE and REP_LIVE, and goes on at VBAR + 0x100 + 0x20 × v; results land, and IRQ_EN and the other cores stay. (14_strand_architecture.md R380, 14_strand_architecture.md R381) -/
def Obligations.InterruptEntry : Prop :=
  ∀ (m : Mach) (c v : Nat), v < 32 →
    let k := m.core c
    let r := m.acceptVec c v
    let k' := r.core c
    k'.frames = ⟨k.pc, (match k.rep with | some _ => setBit k.status stREP true | none => k.status), 1⟩ :: k.frames ∧
    k'.stBit stIE = false ∧ k'.stBit stREP = false ∧ k'.stBit stTRAP = k.stBit stTRAP ∧
    k'.pc = m.fld pgStrand (Strandctl.C_VBAR c) + 0x100 + 0x20 * v ∧
    (∀ n : Nat, k.rep = some n → k'.rpt = BitVec.ofNat 32 n) ∧ (k.rep = none → k'.rpt = k.rpt) ∧ k'.rep = none ∧ k'.flight = [] ∧
    (∀ b : Nat, b < 32 → (r.reg pgStrand (Strandctl.C_IRQ_PEND c).off).getLsbD b =
      (decide (b ≠ v) && (m.reg pgStrand (Strandctl.C_IRQ_PEND c).off).getLsbD b)) ∧
    r.reg pgStrand (Strandctl.C_IRQ_EN c).off = m.reg pgStrand (Strandctl.C_IRQ_EN c).off ∧
    (∀ d : Nat, d ≠ c → r.core d = m.core d)

/-- CALL with 28 or more frames in use, and RET and RETI on an empty stack, take the RSTACK trap and push or pop nothing of their own; an interrupt is not taken with 31 or more frames in use. (14_strand_architecture.md R377) -/
def Obligations.ReturnStack : Prop :=
  (∀ (s : State) (c : Fin 6) (pr : Fin 8) (off : BitVec 19), s.m.mainOff = false → s.m.entering = false → s.m.plain c = true → (s.m.core c).pred pr = true →
    28 ≤ (s.m.core c).frames.length →
    exec (.call c pr off) s = .next (s.afterState { s with m := s.m.coreTrap c ⟨3, 1, 0, 4, none⟩ (s.m.core c).pc (s.m.core c).status })) ∧
  (∀ (s : State) (c : Fin 6) (pr : Fin 8) (rs1 : Fin 32), s.m.mainOff = false → s.m.entering = false → s.m.plain c = true → (s.m.core c).pred pr = true →
    28 ≤ (s.m.core c).frames.length →
    exec (.callr c pr rs1) s = .next (s.afterState { s with m := s.m.coreTrap c ⟨3, 1, 0, 4, none⟩ (s.m.core c).pc (s.m.core c).status })) ∧
  (∀ (s : State) (c : Fin 6) (pr : Fin 8), s.m.mainOff = false → s.m.entering = false → s.m.plain c = true → (s.m.core c).pred pr = true → (s.m.core c).frames = [] →
    exec (.ret c pr) s = .next (s.afterState { s with m := s.m.coreTrap c ⟨3, 2, 0, 4, none⟩ (s.m.core c).pc (s.m.core c).status }) ∧
    exec (.reti c pr) s = .next (s.afterState { s with m := s.m.coreTrap c ⟨3, 2, 0, 4, none⟩ (s.m.core c).pc (s.m.core c).status })) ∧
  (∀ (m : Mach) (c : Nat), 31 ≤ (m.core c).frames.length → m.interruptAccept c = m)

/-- A general register that a group writes with latency 1 reads so for the next group; one written by a multiply or a local load reads its old value for the two groups that follow and the new one from the third; of a chained accumulator the next MAC reads the sum at once, another operation after three groups. (14_strand_architecture.md R374) -/
def Obligations.OldValueRule : Prop :=
  (∀ (k : Core) (r : Nat) (v : Word), r % 32 ≠ 0 → (k.commit (Writes.none.addG r v)).gr r = v) ∧
  (∀ (k : Core) (r : Nat) (v : Word), r % 32 ≠ 0 → k.flight = [] →
    let k1 := k.commit (Writes.none.lateG r v)
    let k2 := k1.commit Writes.none
    k1.gr r = k.gr r ∧ k2.gr r = k.gr r ∧ (k2.commit Writes.none).gr r = v) ∧
  (∀ (k : Core) (i : Nat) (v : BitVec 72), k.flight = [] →
    let k1 := k.commit (Writes.none.addAcc i v)
    let k2 := k1.commit Writes.none
    k1.accOf i = v ∧ k1.accView i = k.accView i ∧ k2.accView i = k.accView i ∧ (k2.commit Writes.none).accView i = v)

/-- The next value of an address register: a + m modulo 2^32 with l = 0; with l > 0 the value in the buffer that starts at a with its low ceil(log2 l) bits cleared, stepped modulo l; with BR set and BITS = N > 0 the same bits outside N + ESZ down to ESZ, where the reversed sum of the reversed field and the step stands; with BITS = 0 the value itself. (14_strand_architecture.md R375) -/
def Obligations.AddressUpdate : Prop :=
  (∀ a m am : Word, am.getLsbD 7 = false → addrNext a m 0 am = a + m) ∧
  (∀ (a m l am : Word) (k : Nat), am.getLsbD 7 = false → l ≠ 0 → 2 ^ k < 2 * l.toNat → l.toNat ≤ 2 ^ k →
    addrNext a m l am = BitVec.ofInt 32 (((a.toNat / 2 ^ k * 2 ^ k : Nat) : Int) + ((a.toNat % 2 ^ k : Nat) + m.toInt) % (l.toNat : Int))) ∧
  (∀ a m l am : Word, am.getLsbD 7 = true → am.toNat % 32 = 0 → addrNext a m l am = a) ∧
  (∀ (a m l am : Word) (i : Nat), am.getLsbD 7 = true → am.toNat % 32 ≠ 0 → i < 32 →
    let n := min 16 (am.toNat % 32)
    let e := am.toNat / 32 % 4
    (addrNext a m l am).getLsbD i = if e ≤ i ∧ i < e + n then
      Nat.testBit (revBits n (a.toNat / 2 ^ e % 2 ^ n) + m.toNat / 2 ^ e) (n - 1 - (i - e)) else a.getLsbD i) ∧
  (∀ n x i : Nat, i < n → Nat.testBit (revBits n x) i = Nat.testBit x (n - 1 - i))

/-- Once its write buffer is empty, a core under RESET stops with every register at its reset value, dsp at DSTK_HI, an empty return stack and no vector pending; IRQ_EN, TWIN_MAP, VBAR, DSTK_LO, DSTK_HI and IMG_VER are kept; STATE reads STOPPED, or LOAD_FAILED where it did. (14_strand_architecture.md R546, 14_strand_architecture.md R367) -/
def Obligations.CoreReset : Prop :=
  ∀ (m : Mach) (c : Nat), 2 ≤ c → c ≤ 5 →
    let r := m.coreClose c
    let k := r.core c
    (∀ i : Nat, k.gr i = 0 ∧ k.ar i = 0 ∧ k.xr .m i = 0 ∧ k.xr .l i = 0 ∧ k.xr .am i = 0 ∧ k.accOf i = 0 ∧ k.accView i = 0 ∧ k.pred i = decide (i % 8 = 0)) ∧
    k.rpt = 0 ∧ k.dsp = BitVec.ofNat 32 (m.fld pgStrand (Strandctl.C_DSTK_HI c)) ∧ k.status = 0 ∧ k.trapInfo = 0 ∧ k.frames = [] ∧
    r.reg pgStrand (Strandctl.C_IRQ_PEND c).off = 0 ∧
    (∀ f ∈ [Strandctl.C_IRQ_EN c, Strandctl.C_TWIN_MAP c, Strandctl.C_VBAR c, Strandctl.C_DSTK_LO c, Strandctl.C_DSTK_HI c, Strandctl.C_IMG_VER c],
      r.fld pgStrand f = m.fld pgStrand f) ∧
    r.coreSt c = if m.coreSt c = 6 then 6 else 0

/-- A good image puts its IM bytes at the start of the core's instruction memory and its DM bytes at the start of its local data memory, with zeros behind the data, and leaves every other byte of memory; VBAR, the stack bounds and IMG_VER take their header fields, the rollback floor rises to VERSION, and the registers take their reset values. (14_strand_architecture.md R386, 14_strand_architecture.md R387) -/
def Obligations.ImageLoaded : Prop :=
  ∀ (s : State) (c : Nat), 2 ≤ c → c ≤ 5 → headerOk s.m s.mem c = true →
    let t := loadDone c s
    let im := hdr32 s.mem c 0x0C
    let dm := hdr32 s.mem c 0x10
    (∀ a : Nat, a < im → readByte t.mem (memKey c a) = readByte s.mem (imageBase c + 256 + a)) ∧
    (∀ a : Nat, im ≤ a → a < 0x10000 → readByte t.mem (memKey c a) = readByte s.mem (memKey c a)) ∧
    (∀ a : Nat, a < dm → readByte t.mem (memKey c (0x10000 + a)) = readByte s.mem (imageBase c + 256 + im + a)) ∧
    (∀ a : Nat, dm ≤ a → a < 0x10000 → readByte t.mem (memKey c (0x10000 + a)) = 0) ∧
    (∀ x : Nat, (x < memKey c 0 ∨ memKey c 0 + 0x20000 ≤ x) → readByte t.mem x = readByte s.mem x) ∧
    t.m.fld pgStrand (Strandctl.C_VBAR c) = hdr32 s.mem c 0x1C ∧ t.m.fld pgStrand (Strandctl.C_DSTK_LO c) = hdr32 s.mem c 0x20 ∧
    t.m.fld pgStrand (Strandctl.C_DSTK_HI c) = hdr32 s.mem c 0x24 ∧ t.m.fld pgStrand (Strandctl.C_IMG_VER c) = hdr32 s.mem c 0x08 ∧
    tget t.m.floors 0 c = max (tget s.m.floors 0 c) (hdr32 s.mem c 0x08) ∧ (t.m.core c).entry = hdr32 s.mem c 0x14 ∧ (t.m.core c).g = []

/-- A new entry goes to slot SEQ mod 4,096 with its sequence number, its data and its kind, every other slot stays, and SEQ goes up by one. (13_trouble_log_and_logline.md R347, 13_trouble_log_and_logline.md R348) -/
def Obligations.LogRing : Prop :=
  ∀ (m : Mach) (kind unit arg : Nat) (d0 d1 : Word), kind < 256 → m.rk < 2 ^ 48 →
    let r := m.tlogWrite kind unit arg d0 d1
    let q := m.reg pgTlog 0x044
    let e := tget r.log.ring entryNone (q.toNat % 4096)
    e.seq = q ∧ e.d0 = d0 ∧ e.d1 = d1 ∧ e.kind.toNat / 2 ^ 24 = kind ∧ e.rkLo = BitVec.ofNat 32 m.rk ∧ r.reg pgTlog 0x044 = q + 1 ∧
    (∀ i : Nat, i ≠ q.toNat % 4096 → tget r.log.ring entryNone i = tget m.log.ring entryNone i)

/-- Raising vector v on a core sets its bit of IRQ_PEND and no other, takes a waiting core whose IRQ_EN has the vector back to RUNNING, and leaves every other core as it was. (14_strand_architecture.md R381) -/
def Obligations.VectorRaised : Prop :=
  ∀ (m : Mach) (c v : Nat), c < 6 → v < 32 →
    (∀ b : Nat, b < 32 → ((m.irq c v).reg pgStrand (Strandctl.C_IRQ_PEND c).off).getLsbD b =
      (decide (b = v) || (m.reg pgStrand (Strandctl.C_IRQ_PEND c).off).getLsbD b)) ∧
    (m.irq c v).coreSt c = (if m.coreSt c = 3 ∧ (m.reg pgStrand (Strandctl.C_IRQ_EN c).off).getLsbD v = true then 2 else m.coreSt c) ∧
    (∀ d : Nat, d ≠ c → (m.irq c v).coreSt d = m.coreSt d ∧
      (m.irq c v).reg pgStrand (Strandctl.C_IRQ_PEND d).off = m.reg pgStrand (Strandctl.C_IRQ_PEND d).off) ∧
    (m.irq c v).cores = m.cores

/-- No read of any register of any page depends on the key material a Locker slot holds: two machines that differ in the contents of their key slots alone read alike everywhere. (20_locker_security.md R492, 20_locker_security.md R508) -/
def Obligations.KeysUnread : Prop :=
  ∀ (m : Mach) (slots : Table KeySlot) (n off : Nat),
    (({ m with locker := { m.locker with slots := slots } } : Mach).pageRead n off).1 = (m.pageRead n off).1
end

