-- ==== Sys2Proof/Laws/Classes.lean ====
section
/-! SUPPORT. The page map (R54): the class of each unit's page, and the unit a page belongs to. -/

namespace Sys2Proof.Machine

theorem clsOf_pgCap (k : Fin 8) : clsOf (pgCap k) = .cap := by decide +revert
theorem clsOf_pgBank (k : Fin 4) : clsOf (pgBank k) = .bank := by decide +revert
theorem clsOf_pgOut (c : Fin 128) : clsOf (pgOut c) = .out := by have := c.isLt; unfold clsOf pgOut; repeat (first | rw [if_neg (by omega)] | rw [if_pos (by omega)])
theorem clsOf_pgBridge (b : Fin 8) : clsOf (pgBridge b) = .bridge := by decide +revert
theorem clsOf_pgValve (v : Fin 8) : clsOf (pgValve v) = .valve := by decide +revert
theorem clsOf_pgVhs (h : Fin 4) : clsOf (pgVhs h) = .vhs := by decide +revert
theorem clsOf_pgRat (p : Fin 24) : clsOf (pgRat p) = .rat := by decide +revert
theorem clsOf_pgMsg (c : Fin 4) : clsOf (pgMsg c) = .msg := by decide +revert
theorem clsOf_pgSink (k : Fin 16) : clsOf (pgSink k) = .sink := by decide +revert
theorem clsOf_pgIn (i : Fin 96) : clsOf (pgIn i) = .inp := by have := i.isLt; unfold clsOf pgIn; repeat (first | rw [if_neg (by omega)] | rw [if_pos (by omega)])
theorem clsOf_pgTouch (t : Fin 16) : clsOf (pgTouch t) = .touch := by decide +revert
theorem clsOf_pgCan (c : Fin 6) : clsOf (pgCan c) = .can := by decide +revert
theorem clsOf_pgLin (c : Fin 4) : clsOf (pgLin c) = .lin := by decide +revert
theorem clsOf_pgSat (c : Fin 4) (k : Fin 1024) : clsOf (pgSat c k) = .sat := by
  have := c.isLt; have := k.isLt; unfold clsOf pgSat; repeat (first | rw [if_neg (by omega)] | rw [if_pos (by omega)])

theorem pgCap_sub (k : Nat) : pgCap k - 0x10 = k := by simp [pgCap]
theorem pgBank_sub (k : Nat) : pgBank k - 0x18 = k := by simp [pgBank]
theorem pgOut_sub (c : Nat) : pgOut c - 0x20 = c := by simp [pgOut]
theorem pgBridge_sub (b : Nat) : pgBridge b - 0xA0 = b := by simp [pgBridge]
theorem pgValve_sub (v : Nat) : pgValve v - 0xA8 = v := by simp [pgValve]
theorem pgVhs_sub (h : Nat) : pgVhs h - 0xB0 = h := by simp [pgVhs]
theorem pgRat_sub (p : Nat) : pgRat p - 0xC0 = p := by simp [pgRat]
theorem pgMsg_sub (c : Nat) : pgMsg c - 0xD8 = c := by simp [pgMsg]
theorem pgSink_sub (k : Nat) : pgSink k - 0xDC = k := by simp [pgSink]
theorem pgIn_sub (i : Nat) : pgIn i - 0x100 = i := by simp [pgIn]
theorem pgTouch_sub (t : Nat) : pgTouch t - 0x160 = t := by simp [pgTouch]
theorem pgCan_sub (c : Nat) : pgCan c - 0x170 = c := by simp [pgCan]
theorem pgLin_sub (c : Nat) : pgLin c - 0x176 = c := by simp [pgLin]
theorem pgSat_chain (c : Nat) (k : Fin 1024) : (pgSat c k - 0x1000) / 0x400 = c := by have := k.isLt; simp [pgSat]; omega
theorem pgSat_node (c : Nat) (k : Fin 1024) : (pgSat c k - 0x1000) % 0x400 = k := by have := k.isLt; simp [pgSat]; omega

end Sys2Proof.Machine
end

