-- ==== Sys2Proof/Laws/Table.lean ====
section
/-! SUPPORT. What a sparse table does: reading back what was written, other keys untouched, the canonical form kept. -/

namespace Sys2Proof

theorem tfind_terase_self {α : Type} (t : Table α) (k : Nat) : tfind (terase t k) k = none := by
  induction t with
  | nil => rfl
  | cons p t ih =>
    obtain ⟨j, v⟩ := p
    by_cases h : j = k <;> simp [terase, tfind, h, ih]

theorem tfind_terase_ne {α : Type} (t : Table α) {k i : Nat} (h : i ≠ k) : tfind (terase t k) i = tfind t i := by
  induction t with
  | nil => rfl
  | cons p t ih =>
    obtain ⟨j, v⟩ := p
    by_cases hj : j = k
    · subst hj; simp [terase, tfind, ih, Ne.symm h]
    · by_cases hi : j = i
      · subst hi; simp [terase, tfind, hj]
      · simp [terase, tfind, hj, hi, ih]

theorem tfind_tinsert_self {α : Type} (t : Table α) (k : Nat) (v : α) (h : tfind t k = none) :
    tfind (tinsert t k v) k = some v := by
  induction t with
  | nil => simp [tinsert, tfind]
  | cons p t ih =>
    obtain ⟨j, w⟩ := p
    by_cases hj : j = k
    · simp [tfind, hj] at h
    · simp only [tfind, hj, if_false] at h
      unfold tinsert; split
      · simp [tfind]
      · simp [tfind, hj, ih h]

theorem tfind_tinsert_ne {α : Type} (t : Table α) {k i : Nat} (v : α) (h : i ≠ k) :
    tfind (tinsert t k v) i = tfind t i := by
  induction t with
  | nil => simp [tinsert, tfind, Ne.symm h]
  | cons p t ih =>
    obtain ⟨j, w⟩ := p
    unfold tinsert; split
    · simp [tfind, Ne.symm h]
    · by_cases hi : j = i <;> simp [tfind, hi, ih]

/-- Reading the key just written gives the value written. -/
@[simp] theorem tget_tput_self {α : Type} [DecidableEq α] (t : Table α) (d v : α) (k : Nat) :
    tget (tput t d k v) d k = v := by
  unfold tget tput; split
  · rename_i h; simp [tfind_terase_self, h]
  · simp [tfind_tinsert_self _ _ _ (tfind_terase_self t k)]

/-- Writing one key leaves every other key as it was. -/
theorem tget_tput_ne {α : Type} [DecidableEq α] (t : Table α) (d d' v : α) {k i : Nat} (h : i ≠ k) :
    tget (tput t d k v) d' i = tget t d' i := by
  unfold tget tput; split
  · rw [tfind_terase_ne _ h]
  · rw [tfind_tinsert_ne _ _ h, tfind_terase_ne _ h]

/-- Every key of a table is above `b`. -/
def tabove {α : Type} (b : Nat) (t : Table α) : Prop := ∀ p ∈ t, b < p.1

theorem tsorted_cons {α : Type} (p : Nat × α) (t : Table α) :
    tsorted (p :: t) = true ↔ tabove p.1 t ∧ tsorted t = true := by
  induction t generalizing p with
  | nil => simp [tsorted, tabove]
  | cons q t ih =>
    obtain ⟨j, v⟩ := p; obtain ⟨k, w⟩ := q
    simp only [tsorted, Bool.and_eq_true, decide_eq_true_eq]
    constructor
    · rintro ⟨h, hs⟩
      refine ⟨?_, hs⟩
      intro r hr
      rcases List.mem_cons.1 hr with rfl | hr
      · exact h
      · exact Nat.lt_trans h (((ih (k, w)).1 hs).1 r hr)
    · rintro ⟨h, hs⟩
      exact ⟨h (k, w) (by simp), hs⟩

theorem mem_terase {α : Type} {t : Table α} {k : Nat} {p : Nat × α} (h : p ∈ terase t k) : p ∈ t ∧ p.1 ≠ k := by
  induction t with
  | nil => simp [terase] at h
  | cons q t ih =>
    obtain ⟨j, v⟩ := q
    unfold terase at h; split at h
    · exact ⟨List.mem_cons_of_mem _ (ih h).1, (ih h).2⟩
    · rcases List.mem_cons.1 h with rfl | h
      · exact ⟨by simp, ‹_›⟩
      · exact ⟨List.mem_cons_of_mem _ (ih h).1, (ih h).2⟩

theorem mem_tinsert {α : Type} {t : Table α} {k : Nat} {v : α} {p : Nat × α} (h : p ∈ tinsert t k v) :
    p = (k, v) ∨ p ∈ t := by
  induction t with
  | nil => simpa [tinsert] using h
  | cons q t ih =>
    obtain ⟨j, w⟩ := q
    unfold tinsert at h; split at h
    · simpa using h
    · rcases List.mem_cons.1 h with rfl | h
      · simp
      · rcases ih h with h | h
        · exact .inl h
        · exact .inr (List.mem_cons_of_mem _ h)

theorem tsorted_terase {α : Type} {t : Table α} (k : Nat) (h : tsorted t = true) : tsorted (terase t k) = true := by
  induction t with
  | nil => rfl
  | cons p t ih =>
    obtain ⟨j, v⟩ := p
    obtain ⟨ha, hs⟩ := (tsorted_cons _ _).1 h
    unfold terase; split
    · exact ih hs
    · exact (tsorted_cons _ _).2 ⟨fun r hr => ha r (mem_terase hr).1, ih hs⟩

theorem tsorted_tinsert {α : Type} {t : Table α} (k : Nat) (v : α) (h : tsorted t = true)
    (hk : ∀ p ∈ t, p.1 ≠ k) : tsorted (tinsert t k v) = true := by
  induction t with
  | nil => rfl
  | cons p t ih =>
    obtain ⟨j, w⟩ := p
    obtain ⟨ha, hs⟩ := (tsorted_cons _ _).1 h
    unfold tinsert; split
    · rename_i hlt
      refine (tsorted_cons _ _).2 ⟨?_, h⟩
      intro r hr
      rcases List.mem_cons.1 hr with rfl | hr
      · exact hlt
      · exact Nat.lt_trans hlt (ha r hr)
    · rename_i hlt
      refine (tsorted_cons _ _).2 ⟨?_, ih hs (fun p hp => hk p (List.mem_cons_of_mem _ hp))⟩
      intro r hr
      rcases mem_tinsert hr with rfl | hr
      · have := hk (j, w) (by simp); simp at this; omega
      · exact ha r hr

/-- Every write keeps the canonical form. -/
theorem tcanon_tput {α : Type} [DecidableEq α] (t : Table α) (d v : α) (k : Nat) (h : tcanon t d = true) :
    tcanon (tput t d k v) d = true := by
  simp only [tcanon, Bool.and_eq_true, List.all_eq_true, decide_eq_true_eq] at h ⊢
  unfold tput; split
  · exact ⟨tsorted_terase k h.1, fun p hp => h.2 p (mem_terase hp).1⟩
  · rename_i hv
    refine ⟨tsorted_tinsert k v (tsorted_terase k h.1) (fun p hp => (mem_terase hp).2), fun p hp => ?_⟩
    rcases mem_tinsert hp with rfl | hp
    · exact hv
    · exact h.2 p (mem_terase hp).1

end Sys2Proof
end

