-- ==== Sys2Proof/Laws/Pages.lean ====
section
/-! SUPPORT. Reading and writing page registers and their fields, the class of each numbered page, and what a taken write or command does. -/

namespace Sys2Proof

open Machine

/-! ## Fields of words -/

/-- A field reads back what it was given, modulo its width. -/
theorem Fld.of_put (f : Fld) (w : Word) (v : Nat) (h : f.lo ≤ f.hi) (hh : f.hi < 32) :
    f.of (f.put w v) = v % 2 ^ (f.hi + 1 - f.lo) := by
  obtain ⟨o, hi, lo⟩ := f
  simp only at h hh
  simp only [Fld.of, Fld.put, BitVec.toNat_ofNat]
  have hw : w.toNat < 2 ^ 32 := w.isLt
  obtain ⟨k, rfl⟩ := Nat.exists_eq_add_of_le h
  have e1 : lo + k + 1 - lo = k + 1 := by omega
  rw [e1]
  have e2 : (2 : Nat) ^ (lo + k + 1) = 2 ^ lo * 2 ^ (k + 1) := by rw [← Nat.pow_add]; ring_nf
  have hlt : w.toNat % 2 ^ lo + v % 2 ^ (k + 1) * 2 ^ lo < 2 ^ lo * 2 ^ (k + 1) := by
    have a := Nat.mod_lt w.toNat (Nat.two_pow_pos lo)
    have b := Nat.mod_lt v (Nat.two_pow_pos (k + 1))
    have : (v % 2 ^ (k + 1) + 1) * 2 ^ lo ≤ 2 ^ (k + 1) * 2 ^ lo := Nat.mul_le_mul_right _ b
    have e : (2 : Nat) ^ (k + 1) * 2 ^ lo = 2 ^ lo * 2 ^ (k + 1) := Nat.mul_comm _ _
    rw [e, Nat.add_mul] at this
    omega
  have hs : w.toNat % 2 ^ lo + v % 2 ^ (k + 1) * 2 ^ lo + w.toNat / 2 ^ (lo + k + 1) * 2 ^ (lo + k + 1) < 2 ^ 32 := by
    have e3 : (2 : Nat) ^ 32 = 2 ^ (lo + k + 1) * 2 ^ (31 - (lo + k)) := by rw [← Nat.pow_add]; congr 1; omega
    have hq : w.toNat / 2 ^ (lo + k + 1) < 2 ^ (31 - (lo + k)) := by
      rw [Nat.div_lt_iff_lt_mul (Nat.two_pow_pos _)]
      rw [e3, Nat.mul_comm] at hw; exact hw
    have h4 : (w.toNat / 2 ^ (lo + k + 1) + 1) * 2 ^ (lo + k + 1) ≤ 2 ^ (31 - (lo + k)) * 2 ^ (lo + k + 1) := Nat.mul_le_mul_right _ hq
    rw [e3, Nat.mul_comm (2 ^ (lo + k + 1))]
    rw [Nat.add_mul] at h4
    rw [e2] at *
    omega
  rw [Nat.mod_eq_of_lt hs, e2]
  have : w.toNat % 2 ^ lo + v % 2 ^ (k + 1) * 2 ^ lo + w.toNat / (2 ^ lo * 2 ^ (k + 1)) * (2 ^ lo * 2 ^ (k + 1))
      = w.toNat % 2 ^ lo + 2 ^ lo * (v % 2 ^ (k + 1) + 2 ^ (k + 1) * (w.toNat / (2 ^ lo * 2 ^ (k + 1)))) := by ring
  rw [this, Nat.add_mul_div_left _ _ (Nat.two_pow_pos lo), Nat.div_eq_of_lt (Nat.mod_lt _ (Nat.two_pow_pos lo)), Nat.zero_add,
    Nat.add_mul_mod_self_left, Nat.mod_mod]

namespace Machine

/-! ## Registers -/

@[simp] theorem Mach.reg_setReg_self (m : Mach) (n off : Nat) (w : Word) : (m.setReg n off w).reg n off = w := by
  simp [Mach.reg, Mach.setReg]

theorem Mach.reg_setReg_ne (m : Mach) {n off k o : Nat} (w : Word) (h : pageKey k o ≠ pageKey n off) :
    (m.setReg n off w).reg k o = m.reg k o := tget_tput_ne _ _ _ _ h

/-- Another offset of the same page. -/
theorem Mach.reg_setReg_off (m : Mach) {n off o : Nat} (w : Word) (h : o ≠ off) : (m.setReg n off w).reg n o = m.reg n o :=
  m.reg_setReg_ne w (by unfold pageKey; omega)

/-- Another page. -/
theorem Mach.reg_setReg_page (m : Mach) {n off k o : Nat} (w : Word) (h : k ≠ n) (ho : o < 4096) (hoff : off < 4096) :
    (m.setReg n off w).reg k o = m.reg k o :=
  m.reg_setReg_ne w (by unfold pageKey; omega)

@[simp] theorem Mach.shd_setShd_self (m : Mach) (n off : Nat) (w : Word) : (m.setShd n off w).shd n off = w := by
  simp [Mach.shd, Mach.setShd]

@[simp] theorem Mach.reg_setShd (m : Mach) (n off k o : Nat) (w : Word) : (m.setShd n off w).reg k o = m.reg k o := rfl
@[simp] theorem Mach.shd_setReg (m : Mach) (n off k o : Nat) (w : Word) : (m.setReg n off w).shd k o = m.shd k o := rfl

/-! ## Fields -/

theorem Mach.fld_setFld_self (m : Mach) (n : Nat) (f : Fld) (v : Nat) (h : f.lo ≤ f.hi) (hh : f.hi < 32) :
    (m.setFld n f v).fld n f = v % 2 ^ (f.hi + 1 - f.lo) := by
  simp [Mach.fld, Mach.setFld, Fld.of_put _ _ _ h hh]

theorem Mach.fld_setFld_off (m : Mach) {n : Nat} {f g : Fld} (v : Nat) (h : g.off ≠ f.off) : (m.setFld n f v).fld n g = m.fld n g := by
  simp [Mach.fld, Mach.setFld, Mach.reg_setReg_off _ _ h]

theorem Mach.fld_setReg_off (m : Mach) {n off : Nat} {g : Fld} (w : Word) (h : g.off ≠ off) : (m.setReg n off w).fld n g = m.fld n g := by
  simp [Mach.fld, Mach.reg_setReg_off _ _ h]

theorem Mach.fld_setFld_page (m : Mach) {n k : Nat} {f g : Fld} (v : Nat) (h : k ≠ n) (hf : f.off < 4096) (hg : g.off < 4096) :
    (m.setFld n f v).fld k g = m.fld k g := by
  simp [Mach.fld, Mach.setFld, Mach.reg_setReg_page _ _ h hg hf]

theorem Mach.flag_setFlag_self (m : Mach) (n : Nat) (f : Fld) (b : Bool) (h : f.lo ≤ f.hi) (hh : f.hi < 32) :
    (m.setFlag n f b).flag n f = b := by
  have hp : 2 ≤ 2 ^ (f.hi + 1 - f.lo) := by
    calc 2 = 2 ^ 1 := rfl
      _ ≤ _ := Nat.pow_le_pow_right (by decide) (by omega)
  cases b <;> simp [Mach.flag, Mach.setFlag, Mach.fld_setFld_self _ _ _ _ h hh]
  omega

theorem Mach.flag_setFlag_off (m : Mach) {n : Nat} {f g : Fld} (b : Bool) (h : g.off ≠ f.off) : (m.setFlag n f b).flag n g = m.flag n g := by
  simp [Mach.flag, Mach.setFlag, Mach.fld_setFld_off _ _ h]

/-- A refused write leaves REJECT set (R73, R74). -/
theorem Mach.flag_refuse (m : Mach) (n off r : Nat) : (m.refuse n off r).flag n Hdr.REJECT = true := by
  unfold Mach.refuse
  have h := Mach.flag_setFlag_self m n Hdr.REJECT true (by decide) (by decide)
  rwa [Mach.flag, Mach.fld_setReg_off _ _ (by decide)]

/-- A refusal records register and reason in REJECT_INFO (R74). -/
theorem Mach.reg_refuse (m : Mach) (n off r : Nat) :
    (m.refuse n off r).reg n 0x010 = BitVec.ofNat 32 (r % 16 * 4096 + off % 4096) := by
  simp [Mach.refuse]

/-! ## Taken writes -/

/-- A refusing operation is no accepted one. -/
theorem Mach.accepts_refuse (m : Mach) (n off r : Nat) : m.accepts n (fun m => m.refuse n off r) = false := by
  simp [Mach.accepts, Mach.attempt, Mach.flag_refuse]

/-- Two operations that agree where REJECT is 0 are attempted alike. -/
theorem Mach.attempt_congr {m : Mach} {n : Nat} {f g : Mach → Mach} (h : f (m.setFlag n Hdr.REJECT false) = g (m.setFlag n Hdr.REJECT false)) :
    m.attempt n f = m.attempt n g := by
  simp only [Mach.attempt, h]

theorem Mach.merged_full (m : Mach) (n off : Nat) (w : Word) : m.merged n off w 0xFFFFFFFF#32 = w := by
  simp only [Mach.merged]
  have a : ∀ x : Word, 0xFFFFFFFF#32 ||| x = 0xFFFFFFFF#32 := fun x => BitVec.allOnes_or
  have b : ∀ x : Word, x &&& 0xFFFFFFFF#32 = x := fun x => BitVec.and_allOnes
  rw [a, b]
  simp

/-- A write that is taken is the register's own write (R74). -/
theorem Mach.pageWrite_takes {m : Mach} {src : Src} {n off : Nat} {w : Word} (ho : off ≠ 0x008) (h : m.takes src n off w = true) :
    m.pageWrite src n off w = m.ran src n off (fun m => if off < 0x040 then m.headerWrite n off w else m.classWrite src n off w) := by
  simp only [Mach.takes, Mach.reaches, Bool.and_eq_true, bne_iff_ne, ne_eq, Option.isNone_iff_eq_none] at h
  obtain ⟨⟨⟨⟨⟨h1, h2⟩, h3⟩, h4⟩, h6⟩, h5⟩ := h
  simp only [Bool.not_eq_true'] at h6
  have hd : (m.setFlag n Hdr.REJECT false).denies src n off w = none := by
    cases hd : (m.setFlag n Hdr.REJECT false).denies src n off w with
    | none => rfl
    | some r =>
      exfalso
      have : m.accepts n (fun m => m.unitWrite src n off w) = m.accepts n (fun m => m.refuse n off r) := by
        simp only [Mach.accepts]
        rw [Mach.attempt_congr (g := fun m => m.refuse n off r)]
        simp [Mach.unitWrite, hd]
      rw [this, Mach.accepts_refuse] at h5
      cases h5
  have he : m.attempt n (fun m => m.unitWrite src n off w)
      = m.attempt n (fun m => if off < 0x040 then m.headerWrite n off w else m.classWrite src n off w) := by
    apply Mach.attempt_congr
    simp only [Mach.unitWrite, hd]
  simp only [Mach.accepts, Bool.not_eq_true'] at h5
  rw [he] at h5
  unfold Mach.pageWrite Mach.maskWrite
  simp only [ho, if_false, h1, Bool.not_true, Bool.false_eq_true, beq_iff_eq, h2, Mach.leafWrite, h4, h6, h3, Mach.merged_full]
  simp [Mach.ran, he, h5]

/-- A taken write of a class register with a behaviour of its own. -/
theorem Mach.pageWrite_special {m : Mach} {src : Src} {n off : Nat} {w : Word} {f : Mach → Mach} (ho : 0x040 ≤ off)
    (h : m.takes src n off w = true) (hs : ∀ m : Mach, m.special src n off w = some (f m)) : m.pageWrite src n off w = m.ran src n off f := by
  rw [Mach.pageWrite_takes (by omega) h]
  unfold Mach.ran
  rw [Mach.attempt_congr (g := f)]
  simp [show ¬ off < 0x040 by omega, Mach.classWrite, hs]

/-- A taken write of the header. -/
theorem Mach.pageWrite_header {m : Mach} {src : Src} {n off : Nat} {w : Word} (ho : off < 0x040) (h8 : off ≠ 0x008)
    (h : m.takes src n off w = true) : m.pageWrite src n off w = m.ran src n off (fun m => m.headerWrite n off w) := by
  rw [Mach.pageWrite_takes h8 h]
  simp [ho]

/-! ## Commands -/

theorem cmdSeq_cmdWord (code : Nat) (seq : BitVec 16) (h : code < 65536) : cmdSeq (cmdWord code seq) = seq.toNat := by
  have := seq.isLt
  simp only [cmdSeq, cmdWord, BitVec.toNat_ofNat]
  omega

theorem cmdCode_cmdWord (code : Nat) (seq : BitVec 16) (h : code < 16) : cmdCode (cmdWord code seq) = code := by
  have := seq.isLt
  simp only [cmdCode, cmdWord, BitVec.toNat_ofNat]
  omega

/-- A command that executes at once (R66, R67), CLEAR_FAULTS aside. -/
theorem Mach.cmdWrite_open {m : Mach} {src : Src} {n code : Nat} {seq : BitVec 16} {f : Mach → Mach} (hc : code < 8) (h4 : code ≠ 4)
    (h : m.cmdOpen src n seq code = true) (ha : m.accepts n f = true) (hf : ∀ m : Mach, m.doCode n code = f m) :
    m.cmdWrite src noOrigin n (cmdWord code seq) = m.commanded src n seq f := by
  have hf' : (fun m : Mach => m.doCode n code) = f := funext hf
  simp only [Mach.cmdOpen, Mach.reaches, Bool.and_eq_true, bne_iff_ne, ne_eq, Option.isNone_iff_eq_none, Bool.not_eq_true',
    Bool.and_eq_false_iff, decide_eq_false_iff_not, not_not] at h
  obtain ⟨⟨⟨⟨⟨⟨⟨o1, o2⟩, o3⟩, o4⟩, _⟩, d⟩, b⟩, l⟩ := h
  simp only [Mach.accepts, Bool.not_eq_true'] at ha
  have hs := cmdSeq_cmdWord code seq (by omega)
  have hk := cmdCode_cmdWord code seq (by omega)
  unfold Mach.cmdWrite
  rw [if_pos o1]
  have hu : m.unitCmd src n (cmdWord code seq) = m.runCode n (cmdWord code seq) := by
    unfold Mach.unitCmd
    rw [hk, if_neg (by omega), if_neg, if_neg]
    · simp only [Bool.and_eq_true, bne_iff_ne, not_and_or, ne_eq, not_not]; rcases l with l | l
      · left; simp [l]
      · right; simpa using l
    · rcases b with b | b <;> simp [b]
  have hr : m.runCode n (cmdWord code seq) = (false, (m.attempt n f).2.seqSet n seq) := by
    unfold Mach.runCode Mach.seqSet
    rw [hs, hk]
    simp only [h4, if_false, hf', ha, Bool.false_or, decide_eq_true_eq]
  have hd : m.depth + 2 = (m.depth + 1) + 1 := rfl
  rw [hd]
  unfold Mach.pageCmd
  simp only [o1, o4, hu, hr, Mach.commanded, Bool.not_true, Bool.false_eq_true, if_false]
  rw [if_neg (by simpa using o2), if_neg (by simpa using o3), hs, if_neg (by rcases d with d | d <;> simp_all)]
  simp

/-- CLEAR_FAULTS that executes at once (R63, R66). -/
theorem Mach.cmdWrite_clear {m : Mach} {src : Src} {n : Nat} {seq : BitVec 16}
    (h : m.cmdOpen src n seq 4 = true) (hn : n ≠ pgLocker) :
    m.cmdWrite src noOrigin n (cmdWord 4 seq) = ((m.clearFaults n).seqSet n seq).setDirect src false n 0x008 := by
  simp only [Mach.cmdOpen, Mach.reaches, Bool.and_eq_true, bne_iff_ne, ne_eq, Option.isNone_iff_eq_none, Bool.not_eq_true',
    Bool.and_eq_false_iff, decide_eq_false_iff_not, not_not] at h
  obtain ⟨⟨⟨⟨⟨⟨⟨o1, o2⟩, o3⟩, o4⟩, _⟩, d⟩, b⟩, l⟩ := h
  have hs := cmdSeq_cmdWord 4 seq (by omega)
  have hk := cmdCode_cmdWord 4 seq (by omega)
  unfold Mach.cmdWrite
  rw [if_pos o1]
  have hu : m.unitCmd src n (cmdWord 4 seq) = m.runCode n (cmdWord 4 seq) := by
    unfold Mach.unitCmd
    rw [hk, if_neg (by omega), if_neg, if_neg]
    · simp only [Bool.and_eq_true, bne_iff_ne, not_and_or, ne_eq, not_not]; rcases l with l | l
      · left; simp [l]
      · right; simpa using l
    · rcases b with b | b <;> simp [b]
  have hr : m.runCode n (cmdWord 4 seq) = (false, (m.clearFaults n).seqSet n seq) := by
    unfold Mach.runCode Mach.seqSet
    rw [hs, hk]
    simp [Mach.doCode, Mach.clearUnit, hn]
  have hd : m.depth + 2 = (m.depth + 1) + 1 := rfl
  rw [hd]
  unfold Mach.pageCmd
  simp only [o1, o4, hu, hr, Bool.not_true, Bool.false_eq_true, if_false]
  rw [if_neg (by simpa using o2), if_neg (by simpa using o3), hs, if_neg (by rcases d with d | d <;> simp_all)]
  simp

end Machine
end Sys2Proof
end

