-- ==== Sys2Proof/Laws/Run.lean ====
section
/-! SUPPORT. What a row does once its own effect is known: one lemma per wrapper of Sys2Proof/Machine/Run.lean, and what every row keeps. -/

namespace Sys2Proof.Machine

theorem onUnits_next {f : Mach → Mach} {s : State} {u : Mach} (h : s.m.mainOff = false) (e : f s.m = u) :
    onUnits f s = .next (s.after u) := by
  subst e; simp [onUnits, State.after, h]

theorem onPage_next {f : Mach → Mach} {s : State} {u : Mach} (h : s.m.mainOff = false) (e : f s.m = u) :
    onPage f s = .next (s.afterPage u) := by
  subst e; simp [onPage, State.afterPage, h]

theorem onLink_next {f : Mach → Mach} {s : State} {u : Mach} (h : s.m.mainOff = false) (e : f s.m = u) :
    onLink f s = .next (s.afterLink u) := by
  subst e; simp [onLink, State.afterLink, h]

theorem onKept_next {f : Mach → Mach} {s : State} {u : Mach} (ha : s.m.pwr.asleep ≠ 3) (h : s.m.mainOff = false) (e : f s.m = u) :
    onKept f s = .next (s.after u) := by
  subst e; simp [onKept, State.after, h, ha]

theorem onKept_main {f : Mach → Mach} {s : State} {u : Mach} (ha : s.m.pwr.asleep ≠ 3) (h : s.m.mainOff = true) (e : f s.m = u) :
    onKept f s = .next { s with m := u } := by
  subst e; simp [onKept, h, ha]

theorem onState_next {f : State → State} {s u : State} (h : s.m.mainOff = false) (e : f s = u) :
    onState f s = .next (s.afterState u) := by
  subst e; simp [onState, State.afterState, h]

theorem onFeed_next {f : State → State} {s u : State} (e : f s = u) : onFeed f s = .next (s.afterFeed u) := by
  subst e; rfl

theorem onRun_row {row : State → Host.Outcome State Fault Refusal} {s : State} (h : s.m.entering = false) : onRun row s = row s := by
  simp [onRun, h]

/-- While a sleep entry is under way no unit changes anything of its own (R474). -/
theorem onRun_entering {row : State → Host.Outcome State Fault Refusal} {s : State} (h : s.m.entering = true) : onRun row s = .next s := by
  simp [onRun, h]

/-! ## A main domain without power changes nothing (R470, R471) -/

theorem onUnits_off {f : Mach → Mach} {s : State} (h : s.m.mainOff = true) : onUnits f s = .next s := by
  cases s; simp_all [onUnits]

theorem onPage_off {f : Mach → Mach} {s : State} (h : s.m.mainOff = true) : onPage f s = .next s := by
  cases s; simp_all [onPage]

theorem onLink_off {f : Mach → Mach} {s : State} (h : s.m.mainOff = true) : onLink f s = .next s := by
  cases s; simp_all [onLink]

theorem onState_off {f : State → State} {s : State} (h : s.m.mainOff = true) : onState f s = .next s := by
  cases s; simp_all [onState]

theorem onRun_off {row : State → Host.Outcome State Fault Refusal} {s : State} (h : row s = .next s) : onRun row s = .next s := by
  simp [onRun, h]

end Sys2Proof.Machine
end

