-- ==== Sys2Proof/Laws/Strand.lean ====
section
/-! SUPPORT. What a group of one operation does at a plain boundary of a running core: the lemmas that later proofs cite in place of the issue
operations of Sys2Proof/Machine/Issue.lean. -/

namespace Sys2Proof

theorem terase_idem {α : Type} (t : Table α) (k : Nat) : terase (terase t k) k = terase t k := by
  induction t with
  | nil => rfl
  | cons p t ih =>
    obtain ⟨j, v⟩ := p
    by_cases h : j = k <;> simp [terase, h, ih]

theorem terase_tinsert {α : Type} (t : Table α) (k : Nat) (v : α) : terase (tinsert t k v) k = terase t k := by
  induction t with
  | nil => simp [tinsert, terase]
  | cons p t ih =>
    obtain ⟨j, w⟩ := p
    unfold tinsert; split
    · simp [terase]
    · by_cases h : j = k <;> simp [terase, h, ih]

/-- Of two writes of one key the second stands. -/
@[simp] theorem tput_tput {α : Type} [DecidableEq α] (t : Table α) (d v w : α) (k : Nat) :
    tput (tput t d k v) d k w = tput t d k w := by
  unfold tput; split <;> split <;> simp [terase_idem, terase_tinsert]

namespace Machine

@[simp] theorem core_setCore (c : Nat) (k : Core) (m : Mach) : (m.setCore c k).core c = k := by simp [Mach.core, Mach.setCore]
@[simp] theorem setCore_setCore (c : Nat) (k k' : Core) (m : Mach) : (m.setCore c k).setCore c k' = m.setCore c k' := by simp [Mach.setCore]
@[simp] theorem setCore_reg (c : Nat) (k : Core) (m : Mach) (n o : Nat) : (m.setCore c k).reg n o = m.reg n o := rfl
@[simp] theorem setReg_core (c n o : Nat) (w : Word) (m : Mach) : (m.setReg n o w).core c = m.core c := rfl
@[simp] theorem setFld_core (c n : Nat) (f : Fld) (v : Nat) (m : Mach) : (m.setFld n f v).core c = m.core c := rfl

@[simp] theorem irqDue_pc (c d a : Nat) (k : Core) (m : Mach) :
    ((m.setCore c k).setFld pgStrand (Strandctl.C_PC d) a).irqDue c = m.irqDue c := by
  have h1 : pageKey pgStrand (Strandctl.C_IRQ_PEND c).off ≠ pageKey pgStrand (Strandctl.C_PC d).off := by
    simp only [pageKey, Strandctl.C_IRQ_PEND, Strandctl.C_PC]; omega
  have h2 : pageKey pgStrand (Strandctl.C_IRQ_EN c).off ≠ pageKey pgStrand (Strandctl.C_PC d).off := by
    simp only [pageKey, Strandctl.C_IRQ_EN, Strandctl.C_PC]; omega
  unfold Mach.irqDue Mach.fld Mach.setFld Mach.setReg Mach.reg
  rw [tget_tput_ne _ _ _ _ h1, tget_tput_ne _ _ _ _ h2]; rfl

/-- The fields of a core that writing its registers leaves alone. -/
def Core.pipe (k : Core) : List Jump × Option Nat × List Frame × List WStore × Option (Group × Nat) × Bool × Bool × Nat × Bool :=
  (k.jumps, k.rep, k.frames, k.wbuf, k.stall, k.replay, k.dozeReq, k.pc, k.closing)

theorem setG_pipe (r : Nat) (v : Word) (k : Core) : (k.setG r v).pipe = k.pipe := by unfold Core.setG; split <;> rfl
theorem setX_pipe (f : RFile) (i : Nat) (v : Word) (k : Core) : (k.setX f i v).pipe = k.pipe := by cases f <;> rfl
theorem setP_pipe (i : Nat) (b : Bool) (k : Core) : (k.setP i b).pipe = k.pipe := by unfold Core.setP; split <;> rfl

theorem foldl_pipe {α : Type} (f : Core → α → Core) (hf : ∀ k x, (f k x).pipe = k.pipe) (l : List α) (k : Core) :
    (l.foldl f k).pipe = k.pipe := by
  induction l generalizing k with
  | nil => rfl
  | cons x l ih => rw [List.foldl_cons, ih, hf]

theorem landDue_pipe (n : Nat) (k : Core) : (k.landDue n).pipe = k.pipe := by
  unfold Core.landDue
  rw [foldl_pipe]
  · rfl
  · intro k x; split
    · rfl
    · exact setG_pipe ..

/-- Committing a group's writes leaves transfers, REP, the call stack, the write buffer and what waits as they were. -/
theorem commit_pipe (w : Writes) (k : Core) : (k.commit w).pipe = k.pipe := by
  unfold Core.commit
  change Core.pipe (List.foldl _ _ _) = _
  rw [foldl_pipe _ (by intro k x; rfl), foldl_pipe _ (fun k x => setP_pipe ..), foldl_pipe _ (fun k x => setX_pipe ..),
    foldl_pipe _ (fun k x => setG_pipe ..), landDue_pipe]
  rfl

@[simp] theorem commit_jumps (w : Writes) (k : Core) : (k.commit w).jumps = k.jumps := by have := commit_pipe w k; simp_all [Core.pipe]
@[simp] theorem commit_rep (w : Writes) (k : Core) : (k.commit w).rep = k.rep := by have := commit_pipe w k; simp_all [Core.pipe]
@[simp] theorem commit_frames (w : Writes) (k : Core) : (k.commit w).frames = k.frames := by have := commit_pipe w k; simp_all [Core.pipe]
@[simp] theorem commit_wbuf (w : Writes) (k : Core) : (k.commit w).wbuf = k.wbuf := by have := commit_pipe w k; simp_all [Core.pipe]
@[simp] theorem commit_stall (w : Writes) (k : Core) : (k.commit w).stall = k.stall := by have := commit_pipe w k; simp_all [Core.pipe]
@[simp] theorem commit_replay (w : Writes) (k : Core) : (k.commit w).replay = k.replay := by have := commit_pipe w k; simp_all [Core.pipe]
@[simp] theorem commit_dozeReq (w : Writes) (k : Core) : (k.commit w).dozeReq = k.dozeReq := by have := commit_pipe w k; simp_all [Core.pipe]

/-- What a plain boundary says. -/
theorem plain_iff (m : Mach) (c : Nat) : m.plain c = true ↔
    m.coreSt c = 2 ∧ (m.core c).stall = none ∧ (m.core c).closing = false ∧ (m.core c).replay = false ∧ (m.core c).jumps = [] ∧
    (m.core c).rep = none ∧ (m.core c).dozeReq = false ∧ m.irqDue c = 0 := by
  simp [Mach.plain, and_assoc]

/-- At a plain boundary a group that does not trap is ready or waits. -/
theorem issueOp_plain {s : State} {c : Nat} {y : Syl} (hm : s.m.mainOff = false) (hp : s.m.plain c = true)
    (hf : groupFault c ⟨(s.m.core c).pc, (s.m.core c).nextWord, [.ok y], none⟩ 0 s = none) :
    issueOp c y s = issueReady c ⟨(s.m.core c).pc, (s.m.core c).nextWord, [y]⟩ s := by
  obtain ⟨h1, h2, h3, h4, h5, h6, h7, h8⟩ := (plain_iff _ _).1 hp
  unfold issueOp issue
  simp only [hm, h1, h2, h3, h5, Mach.replayHolds, h4, List.find?_nil]
  simp only [Core.nextWord] at hf ⊢
  simp [hf, sylsOf]

/-- An operation that makes no access, transfers nowhere and sets no count. -/
def SOp.still (op : SOp) : Bool :=
  match op with
  | .br _ | .call _ | .brdec _ | .brr _ | .callr _ | .ret | .reti | .rep _ | .repr _ | .wait | .trap _ | .brk => false
  | .ldo .. | .sto .. | .ldp .. | .stp .. | .ldx .. | .stx .. | .push _ | .pop _ | .swap .. | .macd .. | .sync => false
  | _ => true

/-- Such an operation is ready at once. -/
theorem still_ready {c : Nat} {y : Syl} {s : State} (g : Group) (hg : g.syls = [y]) (h : y.op.still = true) :
    issueReady c g s = runGroup c g s := by
  have w : (s.m.core c).waits [y] = .ready := by
    obtain ⟨u, pr, op⟩ := y
    cases hy : (s.m.core c).pred pr <;> simp only [Core.waits, List.filter, hy]
    · rfl
    · cases op <;> first
        | exact absurd h Bool.false_ne_true
        | rfl
  unfold issueReady
  rw [hg, w]

theorem still_facts (op : SOp) (h : op.still = true) :
    (∀ (k : Core) (a : Nat), cJump k a op = none) ∧ (∀ k : Core, repCount k op = none) ∧
    (∀ (c : Nat) (k : Core) (w : Writes) (s : State), lEffect c k op w s = (w, s)) ∧
    op.isBrdec = false ∧ op.isWait = false ∧ op.stackOp = none := by
  cases op <;> first
    | exact absurd h Bool.false_ne_true
    | exact ⟨fun _ _ => rfl, fun _ => rfl, fun _ _ _ _ => rfl, rfl, rfl, rfl⟩

/-- Behind a plain group that transfers nowhere the core is at the next word. -/
theorem leave_plain {c : Nat} {g : Group} {s : State} {k : Core} (hr : k.rep = none) (hj : k.jumps = []) :
    k.leave c g none none s = { k with pc := g.next } := by
  obtain ⟨⟩ := k
  simp_all [Core.leave, Core.advance, slotPass]

/-- Behind a plain group that transfers, the transfer is pending behind two delay groups. -/
theorem leave_jump {c : Nat} {g : Group} {s : State} {k : Core} (hr : k.rep = none) (hj : k.jumps = []) (t : Nat) (st : Option Word) :
    k.leave c g (some (t, st)) none s = { k with pc := g.next, jumps := [⟨2, t, st⟩] } := by
  obtain ⟨⟩ := k
  simp_all [Core.leave, Core.advance, slotPass]

theorem dozeSettle_none {c : Nat} {m : Mach} (hd : (m.core c).dozeReq = false) : m.dozeSettle c = m := by
  unfold Mach.dozeSettle
  rw [if_neg]
  rw [hd]; simp

/-- A group that waits for nothing, with no vector enabled and pending and no Doze asked for, ends with PC showing it. -/
theorem groupEnds_plain {c a : Nat} {k : Core} {m : Mach} (hi : m.irqDue c = 0) (hd : k.dozeReq = false) :
    m.groupEnds c a false k = (m.setCore c k).setFld pgStrand (Strandctl.C_PC c) a := by
  have e : ((m.setCore c k).setFld pgStrand (Strandctl.C_PC c) a).irqDue c = 0 := by rw [irqDue_pc, hi]
  have d : ((m.setCore c k).setFld pgStrand (Strandctl.C_PC c) a).dozeSettle c = (m.setCore c k).setFld pgStrand (Strandctl.C_PC c) a :=
    dozeSettle_none (by rw [setFld_core, core_setCore, hd])
  unfold Mach.groupEnds
  generalize (m.setCore c k).setFld pgStrand (Strandctl.C_PC c) a = q at e d ⊢
  simp only [Bool.false_and, Bool.false_eq_true, if_false, e, bne_self_eq_false, d]

/-- The core's state behind a plain group with the call stack, the write buffer and what waits as they were. -/
theorem commit_same (w : Writes) (k : Core) (hs : k.stall = none) :
    ({ k.commit w with frames := k.frames, wbuf := k.wbuf, stall := none } : Core) = k.commit w := by
  have a1 := commit_frames w k
  have a2 := commit_wbuf w k
  have a3 := commit_stall w k
  rw [hs] at a3
  rw [← a1, ← a2, ← a3]

/-- What a group of one such operation leaves (R374). -/
theorem runGroup_still {c : Nat} {y : Syl} {s : State} (hp : s.m.plain c = true) (h : y.op.still = true) :
    runGroup c ⟨(s.m.core c).pc, (s.m.core c).nextWord, [y]⟩ s =
      s.grouped c id ((s.m.core c).guarded y.pr ((s.m.core c).mOp y.op ((s.m.core c).xyOp y.op Writes.none))) := by
  obtain ⟨h1, h2, h3, h4, h5, h6, h7, h8⟩ := (plain_iff _ _).1 hp
  obtain ⟨u, pr, op⟩ := y
  obtain ⟨e1, e2, e3, e4, e5, e6⟩ := still_facts op h
  unfold runGroup State.grouped Core.guarded
  cases hy : (s.m.core c).pred pr <;>
    simp only [hy, List.filter, List.foldl, List.findSome?, List.any, e1, e2, e3, e4, e5, e6, framesAfter, Bool.or_false, Bool.false_eq_true,
      if_false, if_true, commit_same _ _ h2] <;>
    rw [leave_plain (by simp [h6]) (by simp [h5]), groupEnds_plain h8 (by simp [h7])] <;> rfl

/-- One syllable that decodes, takes each unit once and names no register twice is no ILLEGAL group (R372). -/
theorem illegal_one {y : Syl} (hu : twice (SylDec.ok y).units = false) (hd : twice y.op.dests = false) : illegal [.ok y] = none := by
  have hd' : twice (SylDec.ok y).dests = false := hd
  simp [illegal, firstAt, List.range_succ, hu, hd']

theorem still_dests (op : SOp) (h : op.still = true) : twice op.dests = false := by
  cases op <;> first
    | exact absurd h Bool.false_ne_true
    | rfl
    | (simp only [SOp.dests]; split <;> first | rfl | (split <;> rfl))

theorem still_units (y : Syl) (h : y.op.still = true) : twice (SylDec.ok y).units = false := by
  obtain ⟨u, pr, op⟩ := y
  cases op <;> first
    | exact absurd h Bool.false_ne_true
    | rfl

/-- A group of one such operation does not trap. -/
theorem still_sound {c : Nat} {y : Syl} {s : State} {a n : Nat} (h : y.op.still = true) :
    groupFault c ⟨a, n, [.ok y], none⟩ 0 s = none := by
  have i := illegal_one (still_units y h) (still_dests _ h)
  obtain ⟨u, pr, op⟩ := y
  have r : op.isRep = false := by cases op <;> first | exact absurd h Bool.false_ne_true | rfl
  have l : ∀ k : Core, s.m.lFault c k op false = none := by
    intro k; cases op <;> first | exact absurd h Bool.false_ne_true | rfl
  have f : ∀ k : Core, cFault s.m s.mem c k a op = none := by
    intro k; cases op <;> first | exact absurd h Bool.false_ne_true | rfl
  unfold groupFault
  simp only [i, sylsOf, List.filterMap]
  cases hy : (s.m.core c).pred pr <;> simp [r, l, f, hy, List.filter]

/-- A register operation at a plain boundary (R374, R390): its writes under its guard, and the next word. -/
theorem issueOp_still {s : State} {c : Nat} {y : Syl} (hm : s.m.mainOff = false) (hp : s.m.plain c = true) (h : y.op.still = true) :
    issueOp c y s = s.grouped c id ((s.m.core c).guarded y.pr ((s.m.core c).mOp y.op ((s.m.core c).xyOp y.op Writes.none))) := by
  rw [issueOp_plain hm hp (still_sound h), still_ready _ rfl h, runGroup_still hp h]

end Machine
end Sys2Proof
end

