-- ==== Sys2Proof/Laws/State.lean ====
section
/-! SUPPORT. What each update of the state leaves and gives, field by field, so that no proof unfolds a record update: writes of registers,
shadow registers, fields and flags touch no other part of the machine, and an update of what a unit holds behind its page touches no page
register. -/

namespace Sys2Proof.Machine

/-! ## The state's three parts -/

@[simp] theorem State.m_mk (m : Mach) (mem : Memory) (p : List Instr) : (State.mk m mem p).m = m := rfl
@[simp] theorem State.mem_mk (m : Mach) (mem : Memory) (p : List Instr) : (State.mk m mem p).mem = mem := rfl
@[simp] theorem State.pending_mk (m : Mach) (mem : Memory) (p : List Instr) : (State.mk m mem p).pending = p := rfl

/-! ## A write of a live register -/

@[simp] theorem Mach.shadow_setReg (n off : Nat) (w : Word) (m : Mach) : (m.setReg n off w).shadow = m.shadow := rfl
@[simp] theorem Mach.units_setReg (n off : Nat) (w : Word) (m : Mach) : (m.setReg n off w).units = m.units := rfl
@[simp] theorem Mach.guards_setReg (n off : Nat) (w : Word) (m : Mach) : (m.setReg n off w).guards = m.guards := rfl
@[simp] theorem Mach.caps_setReg (n off : Nat) (w : Word) (m : Mach) : (m.setReg n off w).caps = m.caps := rfl
@[simp] theorem Mach.marks_setReg (n off : Nat) (w : Word) (m : Mach) : (m.setReg n off w).marks = m.marks := rfl
@[simp] theorem Mach.outs_setReg (n off : Nat) (w : Word) (m : Mach) : (m.setReg n off w).outs = m.outs := rfl
@[simp] theorem Mach.bridges_setReg (n off : Nat) (w : Word) (m : Mach) : (m.setReg n off w).bridges = m.bridges := rfl
@[simp] theorem Mach.rats_setReg (n off : Nat) (w : Word) (m : Mach) : (m.setReg n off w).rats = m.rats := rfl
@[simp] theorem Mach.sinks_setReg (n off : Nat) (w : Word) (m : Mach) : (m.setReg n off w).sinks = m.sinks := rfl
@[simp] theorem Mach.valves_setReg (n off : Nat) (w : Word) (m : Mach) : (m.setReg n off w).valves = m.valves := rfl
@[simp] theorem Mach.switches_setReg (n off : Nat) (w : Word) (m : Mach) : (m.setReg n off w).switches = m.switches := rfl
@[simp] theorem Mach.regClk_setReg (n off : Nat) (w : Word) (m : Mach) : (m.setReg n off w).regClk = m.regClk := rfl
@[simp] theorem Mach.recMj_setReg (n off : Nat) (w : Word) (m : Mach) : (m.setReg n off w).recMj = m.recMj := rfl
@[simp] theorem Mach.boostHot_setReg (n off : Nat) (w : Word) (m : Mach) : (m.setReg n off w).boostHot = m.boostHot := rfl
@[simp] theorem Mach.ins_setReg (n off : Nat) (w : Word) (m : Mach) : (m.setReg n off w).ins = m.ins := rfl
@[simp] theorem Mach.touches_setReg (n off : Nat) (w : Word) (m : Mach) : (m.setReg n off w).touches = m.touches := rfl
@[simp] theorem Mach.clk_setReg (n off : Nat) (w : Word) (m : Mach) : (m.setReg n off w).clk = m.clk := rfl
@[simp] theorem Mach.lfAcc_setReg (n off : Nat) (w : Word) (m : Mach) : (m.setReg n off w).lfAcc = m.lfAcc := rfl
@[simp] theorem Mach.ptp_setReg (n off : Nat) (w : Word) (m : Mach) : (m.setReg n off w).ptp = m.ptp := rfl
@[simp] theorem Mach.canObjs_setReg (n off : Nat) (w : Word) (m : Mach) : (m.setReg n off w).canObjs = m.canObjs := rfl
@[simp] theorem Mach.cans_setReg (n off : Nat) (w : Word) (m : Mach) : (m.setReg n off w).cans = m.cans := rfl
@[simp] theorem Mach.linFrames_setReg (n off : Nat) (w : Word) (m : Mach) : (m.setReg n off w).linFrames = m.linFrames := rfl
@[simp] theorem Mach.net_setReg (n off : Nat) (w : Word) (m : Mach) : (m.setReg n off w).net = m.net := rfl
@[simp] theorem Mach.lins_setReg (n off : Nat) (w : Word) (m : Mach) : (m.setReg n off w).lins = m.lins := rfl
@[simp] theorem Mach.eth_setReg (n off : Nat) (w : Word) (m : Mach) : (m.setReg n off w).eth = m.eth := rfl
@[simp] theorem Mach.hitch_setReg (n off : Nat) (w : Word) (m : Mach) : (m.setReg n off w).hitch = m.hitch := rfl
@[simp] theorem Mach.fid_setReg (n off : Nat) (w : Word) (m : Mach) : (m.setReg n off w).fid = m.fid := rfl
@[simp] theorem Mach.splice_setReg (n off : Nat) (w : Word) (m : Mach) : (m.setReg n off w).splice = m.splice := rfl
@[simp] theorem Mach.cores_setReg (n off : Nat) (w : Word) (m : Mach) : (m.setReg n off w).cores = m.cores := rfl
@[simp] theorem Mach.floors_setReg (n off : Nat) (w : Word) (m : Mach) : (m.setReg n off w).floors = m.floors := rfl
@[simp] theorem Mach.pwr_setReg (n off : Nat) (w : Word) (m : Mach) : (m.setReg n off w).pwr = m.pwr := rfl
@[simp] theorem Mach.locker_setReg (n off : Nat) (w : Word) (m : Mach) : (m.setReg n off w).locker = m.locker := rfl
@[simp] theorem Mach.tether_setReg (n off : Nat) (w : Word) (m : Mach) : (m.setReg n off w).tether = m.tether := rfl
@[simp] theorem Mach.snap_setReg (n off : Nat) (w : Word) (m : Mach) : (m.setReg n off w).snap = m.snap := rfl
@[simp] theorem Mach.policy_setReg (n off : Nat) (w : Word) (m : Mach) : (m.setReg n off w).policy = m.policy := rfl
@[simp] theorem Mach.lay_setReg (n off : Nat) (w : Word) (m : Mach) : (m.setReg n off w).lay = m.lay := rfl
@[simp] theorem Mach.log_setReg (n off : Nat) (w : Word) (m : Mach) : (m.setReg n off w).log = m.log := rfl
@[simp] theorem Mach.chains_setReg (n off : Nat) (w : Word) (m : Mach) : (m.setReg n off w).chains = m.chains := rfl
@[simp] theorem Mach.proxies_setReg (n off : Nat) (w : Word) (m : Mach) : (m.setReg n off w).proxies = m.proxies := rfl
@[simp] theorem Mach.mainOff_setReg (n off : Nat) (w : Word) (m : Mach) : (m.setReg n off w).mainOff = m.mainOff := rfl
@[simp] theorem Mach.freeCount_setReg (n off : Nat) (w : Word) (m : Mach) : (m.setReg n off w).freeCount = m.freeCount := rfl

/-! ## A write of a shadow register -/

@[simp] theorem Mach.live_setShd (n off : Nat) (w : Word) (m : Mach) : (m.setShd n off w).live = m.live := rfl
@[simp] theorem Mach.units_setShd (n off : Nat) (w : Word) (m : Mach) : (m.setShd n off w).units = m.units := rfl
@[simp] theorem Mach.guards_setShd (n off : Nat) (w : Word) (m : Mach) : (m.setShd n off w).guards = m.guards := rfl
@[simp] theorem Mach.caps_setShd (n off : Nat) (w : Word) (m : Mach) : (m.setShd n off w).caps = m.caps := rfl
@[simp] theorem Mach.marks_setShd (n off : Nat) (w : Word) (m : Mach) : (m.setShd n off w).marks = m.marks := rfl
@[simp] theorem Mach.outs_setShd (n off : Nat) (w : Word) (m : Mach) : (m.setShd n off w).outs = m.outs := rfl
@[simp] theorem Mach.bridges_setShd (n off : Nat) (w : Word) (m : Mach) : (m.setShd n off w).bridges = m.bridges := rfl
@[simp] theorem Mach.rats_setShd (n off : Nat) (w : Word) (m : Mach) : (m.setShd n off w).rats = m.rats := rfl
@[simp] theorem Mach.sinks_setShd (n off : Nat) (w : Word) (m : Mach) : (m.setShd n off w).sinks = m.sinks := rfl
@[simp] theorem Mach.valves_setShd (n off : Nat) (w : Word) (m : Mach) : (m.setShd n off w).valves = m.valves := rfl
@[simp] theorem Mach.switches_setShd (n off : Nat) (w : Word) (m : Mach) : (m.setShd n off w).switches = m.switches := rfl
@[simp] theorem Mach.regClk_setShd (n off : Nat) (w : Word) (m : Mach) : (m.setShd n off w).regClk = m.regClk := rfl
@[simp] theorem Mach.recMj_setShd (n off : Nat) (w : Word) (m : Mach) : (m.setShd n off w).recMj = m.recMj := rfl
@[simp] theorem Mach.boostHot_setShd (n off : Nat) (w : Word) (m : Mach) : (m.setShd n off w).boostHot = m.boostHot := rfl
@[simp] theorem Mach.ins_setShd (n off : Nat) (w : Word) (m : Mach) : (m.setShd n off w).ins = m.ins := rfl
@[simp] theorem Mach.touches_setShd (n off : Nat) (w : Word) (m : Mach) : (m.setShd n off w).touches = m.touches := rfl
@[simp] theorem Mach.clk_setShd (n off : Nat) (w : Word) (m : Mach) : (m.setShd n off w).clk = m.clk := rfl
@[simp] theorem Mach.lfAcc_setShd (n off : Nat) (w : Word) (m : Mach) : (m.setShd n off w).lfAcc = m.lfAcc := rfl
@[simp] theorem Mach.ptp_setShd (n off : Nat) (w : Word) (m : Mach) : (m.setShd n off w).ptp = m.ptp := rfl
@[simp] theorem Mach.canObjs_setShd (n off : Nat) (w : Word) (m : Mach) : (m.setShd n off w).canObjs = m.canObjs := rfl
@[simp] theorem Mach.cans_setShd (n off : Nat) (w : Word) (m : Mach) : (m.setShd n off w).cans = m.cans := rfl
@[simp] theorem Mach.linFrames_setShd (n off : Nat) (w : Word) (m : Mach) : (m.setShd n off w).linFrames = m.linFrames := rfl
@[simp] theorem Mach.net_setShd (n off : Nat) (w : Word) (m : Mach) : (m.setShd n off w).net = m.net := rfl
@[simp] theorem Mach.lins_setShd (n off : Nat) (w : Word) (m : Mach) : (m.setShd n off w).lins = m.lins := rfl
@[simp] theorem Mach.eth_setShd (n off : Nat) (w : Word) (m : Mach) : (m.setShd n off w).eth = m.eth := rfl
@[simp] theorem Mach.hitch_setShd (n off : Nat) (w : Word) (m : Mach) : (m.setShd n off w).hitch = m.hitch := rfl
@[simp] theorem Mach.fid_setShd (n off : Nat) (w : Word) (m : Mach) : (m.setShd n off w).fid = m.fid := rfl
@[simp] theorem Mach.splice_setShd (n off : Nat) (w : Word) (m : Mach) : (m.setShd n off w).splice = m.splice := rfl
@[simp] theorem Mach.cores_setShd (n off : Nat) (w : Word) (m : Mach) : (m.setShd n off w).cores = m.cores := rfl
@[simp] theorem Mach.floors_setShd (n off : Nat) (w : Word) (m : Mach) : (m.setShd n off w).floors = m.floors := rfl
@[simp] theorem Mach.pwr_setShd (n off : Nat) (w : Word) (m : Mach) : (m.setShd n off w).pwr = m.pwr := rfl
@[simp] theorem Mach.locker_setShd (n off : Nat) (w : Word) (m : Mach) : (m.setShd n off w).locker = m.locker := rfl
@[simp] theorem Mach.tether_setShd (n off : Nat) (w : Word) (m : Mach) : (m.setShd n off w).tether = m.tether := rfl
@[simp] theorem Mach.snap_setShd (n off : Nat) (w : Word) (m : Mach) : (m.setShd n off w).snap = m.snap := rfl
@[simp] theorem Mach.policy_setShd (n off : Nat) (w : Word) (m : Mach) : (m.setShd n off w).policy = m.policy := rfl
@[simp] theorem Mach.lay_setShd (n off : Nat) (w : Word) (m : Mach) : (m.setShd n off w).lay = m.lay := rfl
@[simp] theorem Mach.log_setShd (n off : Nat) (w : Word) (m : Mach) : (m.setShd n off w).log = m.log := rfl
@[simp] theorem Mach.chains_setShd (n off : Nat) (w : Word) (m : Mach) : (m.setShd n off w).chains = m.chains := rfl
@[simp] theorem Mach.proxies_setShd (n off : Nat) (w : Word) (m : Mach) : (m.setShd n off w).proxies = m.proxies := rfl
@[simp] theorem Mach.mainOff_setShd (n off : Nat) (w : Word) (m : Mach) : (m.setShd n off w).mainOff = m.mainOff := rfl
@[simp] theorem Mach.freeCount_setShd (n off : Nat) (w : Word) (m : Mach) : (m.setShd n off w).freeCount = m.freeCount := rfl

/-! ## A write of a field -/

@[simp] theorem Mach.shadow_setFld (n : Nat) (f : Fld) (v : Nat) (m : Mach) : (m.setFld n f v).shadow = m.shadow := rfl
@[simp] theorem Mach.units_setFld (n : Nat) (f : Fld) (v : Nat) (m : Mach) : (m.setFld n f v).units = m.units := rfl
@[simp] theorem Mach.guards_setFld (n : Nat) (f : Fld) (v : Nat) (m : Mach) : (m.setFld n f v).guards = m.guards := rfl
@[simp] theorem Mach.caps_setFld (n : Nat) (f : Fld) (v : Nat) (m : Mach) : (m.setFld n f v).caps = m.caps := rfl
@[simp] theorem Mach.marks_setFld (n : Nat) (f : Fld) (v : Nat) (m : Mach) : (m.setFld n f v).marks = m.marks := rfl
@[simp] theorem Mach.outs_setFld (n : Nat) (f : Fld) (v : Nat) (m : Mach) : (m.setFld n f v).outs = m.outs := rfl
@[simp] theorem Mach.bridges_setFld (n : Nat) (f : Fld) (v : Nat) (m : Mach) : (m.setFld n f v).bridges = m.bridges := rfl
@[simp] theorem Mach.rats_setFld (n : Nat) (f : Fld) (v : Nat) (m : Mach) : (m.setFld n f v).rats = m.rats := rfl
@[simp] theorem Mach.sinks_setFld (n : Nat) (f : Fld) (v : Nat) (m : Mach) : (m.setFld n f v).sinks = m.sinks := rfl
@[simp] theorem Mach.valves_setFld (n : Nat) (f : Fld) (v : Nat) (m : Mach) : (m.setFld n f v).valves = m.valves := rfl
@[simp] theorem Mach.switches_setFld (n : Nat) (f : Fld) (v : Nat) (m : Mach) : (m.setFld n f v).switches = m.switches := rfl
@[simp] theorem Mach.regClk_setFld (n : Nat) (f : Fld) (v : Nat) (m : Mach) : (m.setFld n f v).regClk = m.regClk := rfl
@[simp] theorem Mach.recMj_setFld (n : Nat) (f : Fld) (v : Nat) (m : Mach) : (m.setFld n f v).recMj = m.recMj := rfl
@[simp] theorem Mach.boostHot_setFld (n : Nat) (f : Fld) (v : Nat) (m : Mach) : (m.setFld n f v).boostHot = m.boostHot := rfl
@[simp] theorem Mach.ins_setFld (n : Nat) (f : Fld) (v : Nat) (m : Mach) : (m.setFld n f v).ins = m.ins := rfl
@[simp] theorem Mach.touches_setFld (n : Nat) (f : Fld) (v : Nat) (m : Mach) : (m.setFld n f v).touches = m.touches := rfl
@[simp] theorem Mach.clk_setFld (n : Nat) (f : Fld) (v : Nat) (m : Mach) : (m.setFld n f v).clk = m.clk := rfl
@[simp] theorem Mach.lfAcc_setFld (n : Nat) (f : Fld) (v : Nat) (m : Mach) : (m.setFld n f v).lfAcc = m.lfAcc := rfl
@[simp] theorem Mach.ptp_setFld (n : Nat) (f : Fld) (v : Nat) (m : Mach) : (m.setFld n f v).ptp = m.ptp := rfl
@[simp] theorem Mach.canObjs_setFld (n : Nat) (f : Fld) (v : Nat) (m : Mach) : (m.setFld n f v).canObjs = m.canObjs := rfl
@[simp] theorem Mach.cans_setFld (n : Nat) (f : Fld) (v : Nat) (m : Mach) : (m.setFld n f v).cans = m.cans := rfl
@[simp] theorem Mach.linFrames_setFld (n : Nat) (f : Fld) (v : Nat) (m : Mach) : (m.setFld n f v).linFrames = m.linFrames := rfl
@[simp] theorem Mach.net_setFld (n : Nat) (f : Fld) (v : Nat) (m : Mach) : (m.setFld n f v).net = m.net := rfl
@[simp] theorem Mach.lins_setFld (n : Nat) (f : Fld) (v : Nat) (m : Mach) : (m.setFld n f v).lins = m.lins := rfl
@[simp] theorem Mach.eth_setFld (n : Nat) (f : Fld) (v : Nat) (m : Mach) : (m.setFld n f v).eth = m.eth := rfl
@[simp] theorem Mach.hitch_setFld (n : Nat) (f : Fld) (v : Nat) (m : Mach) : (m.setFld n f v).hitch = m.hitch := rfl
@[simp] theorem Mach.fid_setFld (n : Nat) (f : Fld) (v : Nat) (m : Mach) : (m.setFld n f v).fid = m.fid := rfl
@[simp] theorem Mach.splice_setFld (n : Nat) (f : Fld) (v : Nat) (m : Mach) : (m.setFld n f v).splice = m.splice := rfl
@[simp] theorem Mach.cores_setFld (n : Nat) (f : Fld) (v : Nat) (m : Mach) : (m.setFld n f v).cores = m.cores := rfl
@[simp] theorem Mach.floors_setFld (n : Nat) (f : Fld) (v : Nat) (m : Mach) : (m.setFld n f v).floors = m.floors := rfl
@[simp] theorem Mach.pwr_setFld (n : Nat) (f : Fld) (v : Nat) (m : Mach) : (m.setFld n f v).pwr = m.pwr := rfl
@[simp] theorem Mach.locker_setFld (n : Nat) (f : Fld) (v : Nat) (m : Mach) : (m.setFld n f v).locker = m.locker := rfl
@[simp] theorem Mach.tether_setFld (n : Nat) (f : Fld) (v : Nat) (m : Mach) : (m.setFld n f v).tether = m.tether := rfl
@[simp] theorem Mach.snap_setFld (n : Nat) (f : Fld) (v : Nat) (m : Mach) : (m.setFld n f v).snap = m.snap := rfl
@[simp] theorem Mach.policy_setFld (n : Nat) (f : Fld) (v : Nat) (m : Mach) : (m.setFld n f v).policy = m.policy := rfl
@[simp] theorem Mach.lay_setFld (n : Nat) (f : Fld) (v : Nat) (m : Mach) : (m.setFld n f v).lay = m.lay := rfl
@[simp] theorem Mach.log_setFld (n : Nat) (f : Fld) (v : Nat) (m : Mach) : (m.setFld n f v).log = m.log := rfl
@[simp] theorem Mach.chains_setFld (n : Nat) (f : Fld) (v : Nat) (m : Mach) : (m.setFld n f v).chains = m.chains := rfl
@[simp] theorem Mach.proxies_setFld (n : Nat) (f : Fld) (v : Nat) (m : Mach) : (m.setFld n f v).proxies = m.proxies := rfl
@[simp] theorem Mach.mainOff_setFld (n : Nat) (f : Fld) (v : Nat) (m : Mach) : (m.setFld n f v).mainOff = m.mainOff := rfl
@[simp] theorem Mach.freeCount_setFld (n : Nat) (f : Fld) (v : Nat) (m : Mach) : (m.setFld n f v).freeCount = m.freeCount := rfl

/-! ## A write of a signed field -/

@[simp] theorem Mach.shadow_setSFld (n : Nat) (f : Fld) (v : Int) (m : Mach) : (m.setSFld n f v).shadow = m.shadow := rfl
@[simp] theorem Mach.units_setSFld (n : Nat) (f : Fld) (v : Int) (m : Mach) : (m.setSFld n f v).units = m.units := rfl
@[simp] theorem Mach.guards_setSFld (n : Nat) (f : Fld) (v : Int) (m : Mach) : (m.setSFld n f v).guards = m.guards := rfl
@[simp] theorem Mach.caps_setSFld (n : Nat) (f : Fld) (v : Int) (m : Mach) : (m.setSFld n f v).caps = m.caps := rfl
@[simp] theorem Mach.marks_setSFld (n : Nat) (f : Fld) (v : Int) (m : Mach) : (m.setSFld n f v).marks = m.marks := rfl
@[simp] theorem Mach.outs_setSFld (n : Nat) (f : Fld) (v : Int) (m : Mach) : (m.setSFld n f v).outs = m.outs := rfl
@[simp] theorem Mach.bridges_setSFld (n : Nat) (f : Fld) (v : Int) (m : Mach) : (m.setSFld n f v).bridges = m.bridges := rfl
@[simp] theorem Mach.rats_setSFld (n : Nat) (f : Fld) (v : Int) (m : Mach) : (m.setSFld n f v).rats = m.rats := rfl
@[simp] theorem Mach.sinks_setSFld (n : Nat) (f : Fld) (v : Int) (m : Mach) : (m.setSFld n f v).sinks = m.sinks := rfl
@[simp] theorem Mach.valves_setSFld (n : Nat) (f : Fld) (v : Int) (m : Mach) : (m.setSFld n f v).valves = m.valves := rfl
@[simp] theorem Mach.switches_setSFld (n : Nat) (f : Fld) (v : Int) (m : Mach) : (m.setSFld n f v).switches = m.switches := rfl
@[simp] theorem Mach.regClk_setSFld (n : Nat) (f : Fld) (v : Int) (m : Mach) : (m.setSFld n f v).regClk = m.regClk := rfl
@[simp] theorem Mach.recMj_setSFld (n : Nat) (f : Fld) (v : Int) (m : Mach) : (m.setSFld n f v).recMj = m.recMj := rfl
@[simp] theorem Mach.boostHot_setSFld (n : Nat) (f : Fld) (v : Int) (m : Mach) : (m.setSFld n f v).boostHot = m.boostHot := rfl
@[simp] theorem Mach.ins_setSFld (n : Nat) (f : Fld) (v : Int) (m : Mach) : (m.setSFld n f v).ins = m.ins := rfl
@[simp] theorem Mach.touches_setSFld (n : Nat) (f : Fld) (v : Int) (m : Mach) : (m.setSFld n f v).touches = m.touches := rfl
@[simp] theorem Mach.clk_setSFld (n : Nat) (f : Fld) (v : Int) (m : Mach) : (m.setSFld n f v).clk = m.clk := rfl
@[simp] theorem Mach.lfAcc_setSFld (n : Nat) (f : Fld) (v : Int) (m : Mach) : (m.setSFld n f v).lfAcc = m.lfAcc := rfl
@[simp] theorem Mach.ptp_setSFld (n : Nat) (f : Fld) (v : Int) (m : Mach) : (m.setSFld n f v).ptp = m.ptp := rfl
@[simp] theorem Mach.canObjs_setSFld (n : Nat) (f : Fld) (v : Int) (m : Mach) : (m.setSFld n f v).canObjs = m.canObjs := rfl
@[simp] theorem Mach.cans_setSFld (n : Nat) (f : Fld) (v : Int) (m : Mach) : (m.setSFld n f v).cans = m.cans := rfl
@[simp] theorem Mach.linFrames_setSFld (n : Nat) (f : Fld) (v : Int) (m : Mach) : (m.setSFld n f v).linFrames = m.linFrames := rfl
@[simp] theorem Mach.net_setSFld (n : Nat) (f : Fld) (v : Int) (m : Mach) : (m.setSFld n f v).net = m.net := rfl
@[simp] theorem Mach.lins_setSFld (n : Nat) (f : Fld) (v : Int) (m : Mach) : (m.setSFld n f v).lins = m.lins := rfl
@[simp] theorem Mach.eth_setSFld (n : Nat) (f : Fld) (v : Int) (m : Mach) : (m.setSFld n f v).eth = m.eth := rfl
@[simp] theorem Mach.hitch_setSFld (n : Nat) (f : Fld) (v : Int) (m : Mach) : (m.setSFld n f v).hitch = m.hitch := rfl
@[simp] theorem Mach.fid_setSFld (n : Nat) (f : Fld) (v : Int) (m : Mach) : (m.setSFld n f v).fid = m.fid := rfl
@[simp] theorem Mach.splice_setSFld (n : Nat) (f : Fld) (v : Int) (m : Mach) : (m.setSFld n f v).splice = m.splice := rfl
@[simp] theorem Mach.cores_setSFld (n : Nat) (f : Fld) (v : Int) (m : Mach) : (m.setSFld n f v).cores = m.cores := rfl
@[simp] theorem Mach.floors_setSFld (n : Nat) (f : Fld) (v : Int) (m : Mach) : (m.setSFld n f v).floors = m.floors := rfl
@[simp] theorem Mach.pwr_setSFld (n : Nat) (f : Fld) (v : Int) (m : Mach) : (m.setSFld n f v).pwr = m.pwr := rfl
@[simp] theorem Mach.locker_setSFld (n : Nat) (f : Fld) (v : Int) (m : Mach) : (m.setSFld n f v).locker = m.locker := rfl
@[simp] theorem Mach.tether_setSFld (n : Nat) (f : Fld) (v : Int) (m : Mach) : (m.setSFld n f v).tether = m.tether := rfl
@[simp] theorem Mach.snap_setSFld (n : Nat) (f : Fld) (v : Int) (m : Mach) : (m.setSFld n f v).snap = m.snap := rfl
@[simp] theorem Mach.policy_setSFld (n : Nat) (f : Fld) (v : Int) (m : Mach) : (m.setSFld n f v).policy = m.policy := rfl
@[simp] theorem Mach.lay_setSFld (n : Nat) (f : Fld) (v : Int) (m : Mach) : (m.setSFld n f v).lay = m.lay := rfl
@[simp] theorem Mach.log_setSFld (n : Nat) (f : Fld) (v : Int) (m : Mach) : (m.setSFld n f v).log = m.log := rfl
@[simp] theorem Mach.chains_setSFld (n : Nat) (f : Fld) (v : Int) (m : Mach) : (m.setSFld n f v).chains = m.chains := rfl
@[simp] theorem Mach.proxies_setSFld (n : Nat) (f : Fld) (v : Int) (m : Mach) : (m.setSFld n f v).proxies = m.proxies := rfl
@[simp] theorem Mach.mainOff_setSFld (n : Nat) (f : Fld) (v : Int) (m : Mach) : (m.setSFld n f v).mainOff = m.mainOff := rfl
@[simp] theorem Mach.freeCount_setSFld (n : Nat) (f : Fld) (v : Int) (m : Mach) : (m.setSFld n f v).freeCount = m.freeCount := rfl

/-! ## A write of a flag -/

@[simp] theorem Mach.shadow_setFlag (n : Nat) (f : Fld) (b : Bool) (m : Mach) : (m.setFlag n f b).shadow = m.shadow := rfl
@[simp] theorem Mach.units_setFlag (n : Nat) (f : Fld) (b : Bool) (m : Mach) : (m.setFlag n f b).units = m.units := rfl
@[simp] theorem Mach.guards_setFlag (n : Nat) (f : Fld) (b : Bool) (m : Mach) : (m.setFlag n f b).guards = m.guards := rfl
@[simp] theorem Mach.caps_setFlag (n : Nat) (f : Fld) (b : Bool) (m : Mach) : (m.setFlag n f b).caps = m.caps := rfl
@[simp] theorem Mach.marks_setFlag (n : Nat) (f : Fld) (b : Bool) (m : Mach) : (m.setFlag n f b).marks = m.marks := rfl
@[simp] theorem Mach.outs_setFlag (n : Nat) (f : Fld) (b : Bool) (m : Mach) : (m.setFlag n f b).outs = m.outs := rfl
@[simp] theorem Mach.bridges_setFlag (n : Nat) (f : Fld) (b : Bool) (m : Mach) : (m.setFlag n f b).bridges = m.bridges := rfl
@[simp] theorem Mach.rats_setFlag (n : Nat) (f : Fld) (b : Bool) (m : Mach) : (m.setFlag n f b).rats = m.rats := rfl
@[simp] theorem Mach.sinks_setFlag (n : Nat) (f : Fld) (b : Bool) (m : Mach) : (m.setFlag n f b).sinks = m.sinks := rfl
@[simp] theorem Mach.valves_setFlag (n : Nat) (f : Fld) (b : Bool) (m : Mach) : (m.setFlag n f b).valves = m.valves := rfl
@[simp] theorem Mach.switches_setFlag (n : Nat) (f : Fld) (b : Bool) (m : Mach) : (m.setFlag n f b).switches = m.switches := rfl
@[simp] theorem Mach.regClk_setFlag (n : Nat) (f : Fld) (b : Bool) (m : Mach) : (m.setFlag n f b).regClk = m.regClk := rfl
@[simp] theorem Mach.recMj_setFlag (n : Nat) (f : Fld) (b : Bool) (m : Mach) : (m.setFlag n f b).recMj = m.recMj := rfl
@[simp] theorem Mach.boostHot_setFlag (n : Nat) (f : Fld) (b : Bool) (m : Mach) : (m.setFlag n f b).boostHot = m.boostHot := rfl
@[simp] theorem Mach.ins_setFlag (n : Nat) (f : Fld) (b : Bool) (m : Mach) : (m.setFlag n f b).ins = m.ins := rfl
@[simp] theorem Mach.touches_setFlag (n : Nat) (f : Fld) (b : Bool) (m : Mach) : (m.setFlag n f b).touches = m.touches := rfl
@[simp] theorem Mach.clk_setFlag (n : Nat) (f : Fld) (b : Bool) (m : Mach) : (m.setFlag n f b).clk = m.clk := rfl
@[simp] theorem Mach.lfAcc_setFlag (n : Nat) (f : Fld) (b : Bool) (m : Mach) : (m.setFlag n f b).lfAcc = m.lfAcc := rfl
@[simp] theorem Mach.ptp_setFlag (n : Nat) (f : Fld) (b : Bool) (m : Mach) : (m.setFlag n f b).ptp = m.ptp := rfl
@[simp] theorem Mach.canObjs_setFlag (n : Nat) (f : Fld) (b : Bool) (m : Mach) : (m.setFlag n f b).canObjs = m.canObjs := rfl
@[simp] theorem Mach.cans_setFlag (n : Nat) (f : Fld) (b : Bool) (m : Mach) : (m.setFlag n f b).cans = m.cans := rfl
@[simp] theorem Mach.linFrames_setFlag (n : Nat) (f : Fld) (b : Bool) (m : Mach) : (m.setFlag n f b).linFrames = m.linFrames := rfl
@[simp] theorem Mach.net_setFlag (n : Nat) (f : Fld) (b : Bool) (m : Mach) : (m.setFlag n f b).net = m.net := rfl
@[simp] theorem Mach.lins_setFlag (n : Nat) (f : Fld) (b : Bool) (m : Mach) : (m.setFlag n f b).lins = m.lins := rfl
@[simp] theorem Mach.eth_setFlag (n : Nat) (f : Fld) (b : Bool) (m : Mach) : (m.setFlag n f b).eth = m.eth := rfl
@[simp] theorem Mach.hitch_setFlag (n : Nat) (f : Fld) (b : Bool) (m : Mach) : (m.setFlag n f b).hitch = m.hitch := rfl
@[simp] theorem Mach.fid_setFlag (n : Nat) (f : Fld) (b : Bool) (m : Mach) : (m.setFlag n f b).fid = m.fid := rfl
@[simp] theorem Mach.splice_setFlag (n : Nat) (f : Fld) (b : Bool) (m : Mach) : (m.setFlag n f b).splice = m.splice := rfl
@[simp] theorem Mach.cores_setFlag (n : Nat) (f : Fld) (b : Bool) (m : Mach) : (m.setFlag n f b).cores = m.cores := rfl
@[simp] theorem Mach.floors_setFlag (n : Nat) (f : Fld) (b : Bool) (m : Mach) : (m.setFlag n f b).floors = m.floors := rfl
@[simp] theorem Mach.pwr_setFlag (n : Nat) (f : Fld) (b : Bool) (m : Mach) : (m.setFlag n f b).pwr = m.pwr := rfl
@[simp] theorem Mach.locker_setFlag (n : Nat) (f : Fld) (b : Bool) (m : Mach) : (m.setFlag n f b).locker = m.locker := rfl
@[simp] theorem Mach.tether_setFlag (n : Nat) (f : Fld) (b : Bool) (m : Mach) : (m.setFlag n f b).tether = m.tether := rfl
@[simp] theorem Mach.snap_setFlag (n : Nat) (f : Fld) (b : Bool) (m : Mach) : (m.setFlag n f b).snap = m.snap := rfl
@[simp] theorem Mach.policy_setFlag (n : Nat) (f : Fld) (b : Bool) (m : Mach) : (m.setFlag n f b).policy = m.policy := rfl
@[simp] theorem Mach.lay_setFlag (n : Nat) (f : Fld) (b : Bool) (m : Mach) : (m.setFlag n f b).lay = m.lay := rfl
@[simp] theorem Mach.log_setFlag (n : Nat) (f : Fld) (b : Bool) (m : Mach) : (m.setFlag n f b).log = m.log := rfl
@[simp] theorem Mach.chains_setFlag (n : Nat) (f : Fld) (b : Bool) (m : Mach) : (m.setFlag n f b).chains = m.chains := rfl
@[simp] theorem Mach.proxies_setFlag (n : Nat) (f : Fld) (b : Bool) (m : Mach) : (m.setFlag n f b).proxies = m.proxies := rfl
@[simp] theorem Mach.mainOff_setFlag (n : Nat) (f : Fld) (b : Bool) (m : Mach) : (m.setFlag n f b).mainOff = m.mainOff := rfl
@[simp] theorem Mach.freeCount_setFlag (n : Nat) (f : Fld) (b : Bool) (m : Mach) : (m.setFlag n f b).freeCount = m.freeCount := rfl

/-! ## A new STATE -/

@[simp] theorem Mach.shadow_setSt (n v : Nat) (m : Mach) : (m.setSt n v).shadow = m.shadow := rfl
@[simp] theorem Mach.units_setSt (n v : Nat) (m : Mach) : (m.setSt n v).units = m.units := rfl
@[simp] theorem Mach.guards_setSt (n v : Nat) (m : Mach) : (m.setSt n v).guards = m.guards := rfl
@[simp] theorem Mach.caps_setSt (n v : Nat) (m : Mach) : (m.setSt n v).caps = m.caps := rfl
@[simp] theorem Mach.marks_setSt (n v : Nat) (m : Mach) : (m.setSt n v).marks = m.marks := rfl
@[simp] theorem Mach.outs_setSt (n v : Nat) (m : Mach) : (m.setSt n v).outs = m.outs := rfl
@[simp] theorem Mach.bridges_setSt (n v : Nat) (m : Mach) : (m.setSt n v).bridges = m.bridges := rfl
@[simp] theorem Mach.rats_setSt (n v : Nat) (m : Mach) : (m.setSt n v).rats = m.rats := rfl
@[simp] theorem Mach.sinks_setSt (n v : Nat) (m : Mach) : (m.setSt n v).sinks = m.sinks := rfl
@[simp] theorem Mach.valves_setSt (n v : Nat) (m : Mach) : (m.setSt n v).valves = m.valves := rfl
@[simp] theorem Mach.switches_setSt (n v : Nat) (m : Mach) : (m.setSt n v).switches = m.switches := rfl
@[simp] theorem Mach.regClk_setSt (n v : Nat) (m : Mach) : (m.setSt n v).regClk = m.regClk := rfl
@[simp] theorem Mach.recMj_setSt (n v : Nat) (m : Mach) : (m.setSt n v).recMj = m.recMj := rfl
@[simp] theorem Mach.boostHot_setSt (n v : Nat) (m : Mach) : (m.setSt n v).boostHot = m.boostHot := rfl
@[simp] theorem Mach.ins_setSt (n v : Nat) (m : Mach) : (m.setSt n v).ins = m.ins := rfl
@[simp] theorem Mach.touches_setSt (n v : Nat) (m : Mach) : (m.setSt n v).touches = m.touches := rfl
@[simp] theorem Mach.clk_setSt (n v : Nat) (m : Mach) : (m.setSt n v).clk = m.clk := rfl
@[simp] theorem Mach.lfAcc_setSt (n v : Nat) (m : Mach) : (m.setSt n v).lfAcc = m.lfAcc := rfl
@[simp] theorem Mach.ptp_setSt (n v : Nat) (m : Mach) : (m.setSt n v).ptp = m.ptp := rfl
@[simp] theorem Mach.canObjs_setSt (n v : Nat) (m : Mach) : (m.setSt n v).canObjs = m.canObjs := rfl
@[simp] theorem Mach.cans_setSt (n v : Nat) (m : Mach) : (m.setSt n v).cans = m.cans := rfl
@[simp] theorem Mach.linFrames_setSt (n v : Nat) (m : Mach) : (m.setSt n v).linFrames = m.linFrames := rfl
@[simp] theorem Mach.net_setSt (n v : Nat) (m : Mach) : (m.setSt n v).net = m.net := rfl
@[simp] theorem Mach.lins_setSt (n v : Nat) (m : Mach) : (m.setSt n v).lins = m.lins := rfl
@[simp] theorem Mach.eth_setSt (n v : Nat) (m : Mach) : (m.setSt n v).eth = m.eth := rfl
@[simp] theorem Mach.hitch_setSt (n v : Nat) (m : Mach) : (m.setSt n v).hitch = m.hitch := rfl
@[simp] theorem Mach.fid_setSt (n v : Nat) (m : Mach) : (m.setSt n v).fid = m.fid := rfl
@[simp] theorem Mach.splice_setSt (n v : Nat) (m : Mach) : (m.setSt n v).splice = m.splice := rfl
@[simp] theorem Mach.cores_setSt (n v : Nat) (m : Mach) : (m.setSt n v).cores = m.cores := rfl
@[simp] theorem Mach.floors_setSt (n v : Nat) (m : Mach) : (m.setSt n v).floors = m.floors := rfl
@[simp] theorem Mach.pwr_setSt (n v : Nat) (m : Mach) : (m.setSt n v).pwr = m.pwr := rfl
@[simp] theorem Mach.locker_setSt (n v : Nat) (m : Mach) : (m.setSt n v).locker = m.locker := rfl
@[simp] theorem Mach.tether_setSt (n v : Nat) (m : Mach) : (m.setSt n v).tether = m.tether := rfl
@[simp] theorem Mach.snap_setSt (n v : Nat) (m : Mach) : (m.setSt n v).snap = m.snap := rfl
@[simp] theorem Mach.policy_setSt (n v : Nat) (m : Mach) : (m.setSt n v).policy = m.policy := rfl
@[simp] theorem Mach.lay_setSt (n v : Nat) (m : Mach) : (m.setSt n v).lay = m.lay := rfl
@[simp] theorem Mach.log_setSt (n v : Nat) (m : Mach) : (m.setSt n v).log = m.log := rfl
@[simp] theorem Mach.chains_setSt (n v : Nat) (m : Mach) : (m.setSt n v).chains = m.chains := rfl
@[simp] theorem Mach.proxies_setSt (n v : Nat) (m : Mach) : (m.setSt n v).proxies = m.proxies := rfl
@[simp] theorem Mach.mainOff_setSt (n v : Nat) (m : Mach) : (m.setSt n v).mainOff = m.mainOff := rfl
@[simp] theorem Mach.freeCount_setSt (n v : Nat) (m : Mach) : (m.setSt n v).freeCount = m.freeCount := rfl

/-! ## What a unit holds behind its page -/

@[simp] theorem Mach.reg_setUnit (n : Nat) (a : UnitAux) (m : Mach) (n' off : Nat) : (m.setUnit n a).reg n' off = m.reg n' off := rfl
@[simp] theorem Mach.shd_setUnit (n : Nat) (a : UnitAux) (m : Mach) (n' off : Nat) : (m.setUnit n a).shd n' off = m.shd n' off := rfl
@[simp] theorem Mach.cores_setUnit (n : Nat) (a : UnitAux) (m : Mach) : (m.setUnit n a).cores = m.cores := rfl
@[simp] theorem Mach.unit_setUnit_self (n : Nat) (a : UnitAux) (m : Mach) : (m.setUnit n a).unit n = a := by simp [Mach.unit, Mach.setUnit]
@[simp] theorem Mach.reg_setMark (e : Nat) (a : Mark) (m : Mach) (n' off : Nat) : (m.setMark e a).reg n' off = m.reg n' off := rfl
@[simp] theorem Mach.shd_setMark (e : Nat) (a : Mark) (m : Mach) (n' off : Nat) : (m.setMark e a).shd n' off = m.shd n' off := rfl
@[simp] theorem Mach.cores_setMark (e : Nat) (a : Mark) (m : Mach) : (m.setMark e a).cores = m.cores := rfl
@[simp] theorem Mach.mark_setMark_self (e : Nat) (a : Mark) (m : Mach) : (m.setMark e a).mark e = a := by simp [Mach.mark, Mach.setMark]
@[simp] theorem Mach.reg_setOut (c : Nat) (a : OutAux) (m : Mach) (n' off : Nat) : (m.setOut c a).reg n' off = m.reg n' off := rfl
@[simp] theorem Mach.shd_setOut (c : Nat) (a : OutAux) (m : Mach) (n' off : Nat) : (m.setOut c a).shd n' off = m.shd n' off := rfl
@[simp] theorem Mach.cores_setOut (c : Nat) (a : OutAux) (m : Mach) : (m.setOut c a).cores = m.cores := rfl
@[simp] theorem Mach.out_setOut_self (c : Nat) (a : OutAux) (m : Mach) : (m.setOut c a).out c = a := by simp [Mach.out, Mach.setOut]
@[simp] theorem Mach.reg_setBr (c : Nat) (a : BridgeAux) (m : Mach) (n' off : Nat) : (m.setBr c a).reg n' off = m.reg n' off := rfl
@[simp] theorem Mach.shd_setBr (c : Nat) (a : BridgeAux) (m : Mach) (n' off : Nat) : (m.setBr c a).shd n' off = m.shd n' off := rfl
@[simp] theorem Mach.cores_setBr (c : Nat) (a : BridgeAux) (m : Mach) : (m.setBr c a).cores = m.cores := rfl
@[simp] theorem Mach.br_setBr_self (c : Nat) (a : BridgeAux) (m : Mach) : (m.setBr c a).br c = a := by simp [Mach.br, Mach.setBr]
@[simp] theorem Mach.reg_setRat (c : Nat) (a : RatAux) (m : Mach) (n' off : Nat) : (m.setRat c a).reg n' off = m.reg n' off := rfl
@[simp] theorem Mach.shd_setRat (c : Nat) (a : RatAux) (m : Mach) (n' off : Nat) : (m.setRat c a).shd n' off = m.shd n' off := rfl
@[simp] theorem Mach.cores_setRat (c : Nat) (a : RatAux) (m : Mach) : (m.setRat c a).cores = m.cores := rfl
@[simp] theorem Mach.rat_setRat_self (c : Nat) (a : RatAux) (m : Mach) : (m.setRat c a).rat c = a := by simp [Mach.rat, Mach.setRat]
@[simp] theorem Mach.reg_setChain (c : Nat) (a : ChainAux) (m : Mach) (n' off : Nat) : (m.setChain c a).reg n' off = m.reg n' off := rfl
@[simp] theorem Mach.shd_setChain (c : Nat) (a : ChainAux) (m : Mach) (n' off : Nat) : (m.setChain c a).shd n' off = m.shd n' off := rfl
@[simp] theorem Mach.cores_setChain (c : Nat) (a : ChainAux) (m : Mach) : (m.setChain c a).cores = m.cores := rfl
@[simp] theorem Mach.chain_setChain_self (c : Nat) (a : ChainAux) (m : Mach) : (m.setChain c a).chain c = a := by simp [Mach.chain, Mach.setChain]
@[simp] theorem Mach.reg_setSink (c : Nat) (a : SinkAux) (m : Mach) (n' off : Nat) : (m.setSink c a).reg n' off = m.reg n' off := rfl
@[simp] theorem Mach.shd_setSink (c : Nat) (a : SinkAux) (m : Mach) (n' off : Nat) : (m.setSink c a).shd n' off = m.shd n' off := rfl
@[simp] theorem Mach.cores_setSink (c : Nat) (a : SinkAux) (m : Mach) : (m.setSink c a).cores = m.cores := rfl
@[simp] theorem Mach.sink_setSink_self (c : Nat) (a : SinkAux) (m : Mach) : (m.setSink c a).sink c = a := by simp [Mach.sink, Mach.setSink]
@[simp] theorem Mach.reg_setValve (c : Nat) (a : ValveAux) (m : Mach) (n' off : Nat) : (m.setValve c a).reg n' off = m.reg n' off := rfl
@[simp] theorem Mach.shd_setValve (c : Nat) (a : ValveAux) (m : Mach) (n' off : Nat) : (m.setValve c a).shd n' off = m.shd n' off := rfl
@[simp] theorem Mach.cores_setValve (c : Nat) (a : ValveAux) (m : Mach) : (m.setValve c a).cores = m.cores := rfl
@[simp] theorem Mach.valve_setValve_self (c : Nat) (a : ValveAux) (m : Mach) : (m.setValve c a).valve c = a := by simp [Mach.valve, Mach.setValve]
@[simp] theorem Mach.reg_setInp (c : Nat) (a : InAux) (m : Mach) (n' off : Nat) : (m.setInp c a).reg n' off = m.reg n' off := rfl
@[simp] theorem Mach.shd_setInp (c : Nat) (a : InAux) (m : Mach) (n' off : Nat) : (m.setInp c a).shd n' off = m.shd n' off := rfl
@[simp] theorem Mach.cores_setInp (c : Nat) (a : InAux) (m : Mach) : (m.setInp c a).cores = m.cores := rfl
@[simp] theorem Mach.inp_setInp_self (c : Nat) (a : InAux) (m : Mach) : (m.setInp c a).inp c = a := by simp [Mach.inp, Mach.setInp]
@[simp] theorem Mach.reg_setPeer (c : Nat) (a : Peer) (m : Mach) (n' off : Nat) : (m.setPeer c a).reg n' off = m.reg n' off := rfl
@[simp] theorem Mach.shd_setPeer (c : Nat) (a : Peer) (m : Mach) (n' off : Nat) : (m.setPeer c a).shd n' off = m.shd n' off := rfl
@[simp] theorem Mach.cores_setPeer (c : Nat) (a : Peer) (m : Mach) : (m.setPeer c a).cores = m.cores := rfl
@[simp] theorem Mach.peer_setPeer_self (c : Nat) (a : Peer) (m : Mach) : (m.setPeer c a).peer c = a := by simp [Mach.peer, Mach.setPeer]
@[simp] theorem Mach.shd_setCanObj (c o : Nat) (a : CanObj) (m : Mach) (n' off : Nat) : (m.setCanObj c o a).shd n' off = m.shd n' off := rfl
@[simp] theorem Mach.cores_setCanObj (c o : Nat) (a : CanObj) (m : Mach) : (m.setCanObj c o a).cores = m.cores := rfl
@[simp] theorem Mach.reg_setLinFrame (c o : Nat) (a : LinFrame) (m : Mach) (n' off : Nat) : (m.setLinFrame c o a).reg n' off = m.reg n' off := rfl
@[simp] theorem Mach.shd_setLinFrame (c o : Nat) (a : LinFrame) (m : Mach) (n' off : Nat) : (m.setLinFrame c o a).shd n' off = m.shd n' off := rfl
@[simp] theorem Mach.cores_setLinFrame (c o : Nat) (a : LinFrame) (m : Mach) : (m.setLinFrame c o a).cores = m.cores := rfl
@[simp] theorem Mach.reg_setHentry (c : Nat) (a : HEntry) (m : Mach) (n' off : Nat) : (m.setHentry c a).reg n' off = m.reg n' off := rfl
@[simp] theorem Mach.shd_setHentry (c : Nat) (a : HEntry) (m : Mach) (n' off : Nat) : (m.setHentry c a).shd n' off = m.shd n' off := rfl
@[simp] theorem Mach.cores_setHentry (c : Nat) (a : HEntry) (m : Mach) : (m.setHentry c a).cores = m.cores := rfl
@[simp] theorem Mach.hentry_setHentry_self (c : Nat) (a : HEntry) (m : Mach) : (m.setHentry c a).hentry c = a := by simp [Mach.hentry, Mach.setHentry]
@[simp] theorem Mach.shd_setSlot (c : Nat) (a : KeySlot) (m : Mach) (n' off : Nat) : (m.setSlot c a).shd n' off = m.shd n' off := rfl
@[simp] theorem Mach.cores_setSlot (c : Nat) (a : KeySlot) (m : Mach) : (m.setSlot c a).cores = m.cores := rfl
@[simp] theorem Mach.slot_setSlot_self (c : Nat) (a : KeySlot) (m : Mach) : (m.setSlot c a).slot c = a := by simp [Mach.slot, Mach.setSlot]
@[simp] theorem Mach.reg_modUnit (i : Nat) (g : UnitAux → UnitAux) (m : Mach) (n off : Nat) : (m.modUnit i g).reg n off = m.reg n off := rfl
@[simp] theorem Mach.shd_modUnit (i : Nat) (g : UnitAux → UnitAux) (m : Mach) (n off : Nat) : (m.modUnit i g).shd n off = m.shd n off := rfl
@[simp] theorem Mach.unit_modUnit_self (i : Nat) (g : UnitAux → UnitAux) (m : Mach) : (m.modUnit i g).unit i = g (m.unit i) := by simp [Mach.unit, Mach.modUnit, Mach.setUnit]
@[simp] theorem Mach.reg_modCap (i : Nat) (g : CapAux → CapAux) (m : Mach) (n off : Nat) : (m.modCap i g).reg n off = m.reg n off := rfl
@[simp] theorem Mach.shd_modCap (i : Nat) (g : CapAux → CapAux) (m : Mach) (n off : Nat) : (m.modCap i g).shd n off = m.shd n off := rfl
@[simp] theorem Mach.cap_modCap_self (i : Nat) (g : CapAux → CapAux) (m : Mach) : (m.modCap i g).cap i = g (m.cap i) := by simp [Mach.cap, Mach.modCap]
@[simp] theorem Mach.reg_modOut (i : Nat) (g : OutAux → OutAux) (m : Mach) (n off : Nat) : (m.modOut i g).reg n off = m.reg n off := rfl
@[simp] theorem Mach.shd_modOut (i : Nat) (g : OutAux → OutAux) (m : Mach) (n off : Nat) : (m.modOut i g).shd n off = m.shd n off := rfl
@[simp] theorem Mach.out_modOut_self (i : Nat) (g : OutAux → OutAux) (m : Mach) : (m.modOut i g).out i = g (m.out i) := by simp [Mach.out, Mach.modOut, Mach.setOut]
@[simp] theorem Mach.reg_modBr (i : Nat) (g : BridgeAux → BridgeAux) (m : Mach) (n off : Nat) : (m.modBr i g).reg n off = m.reg n off := rfl
@[simp] theorem Mach.shd_modBr (i : Nat) (g : BridgeAux → BridgeAux) (m : Mach) (n off : Nat) : (m.modBr i g).shd n off = m.shd n off := rfl
@[simp] theorem Mach.br_modBr_self (i : Nat) (g : BridgeAux → BridgeAux) (m : Mach) : (m.modBr i g).br i = g (m.br i) := by simp [Mach.br, Mach.modBr, Mach.setBr]
@[simp] theorem Mach.reg_modRat (i : Nat) (g : RatAux → RatAux) (m : Mach) (n off : Nat) : (m.modRat i g).reg n off = m.reg n off := rfl
@[simp] theorem Mach.shd_modRat (i : Nat) (g : RatAux → RatAux) (m : Mach) (n off : Nat) : (m.modRat i g).shd n off = m.shd n off := rfl
@[simp] theorem Mach.rat_modRat_self (i : Nat) (g : RatAux → RatAux) (m : Mach) : (m.modRat i g).rat i = g (m.rat i) := by simp [Mach.rat, Mach.modRat, Mach.setRat]
@[simp] theorem Mach.reg_modChain (i : Nat) (g : ChainAux → ChainAux) (m : Mach) (n off : Nat) : (m.modChain i g).reg n off = m.reg n off := rfl
@[simp] theorem Mach.shd_modChain (i : Nat) (g : ChainAux → ChainAux) (m : Mach) (n off : Nat) : (m.modChain i g).shd n off = m.shd n off := rfl
@[simp] theorem Mach.chain_modChain_self (i : Nat) (g : ChainAux → ChainAux) (m : Mach) : (m.modChain i g).chain i = g (m.chain i) := by simp [Mach.chain, Mach.modChain, Mach.setChain]
@[simp] theorem Mach.reg_modSink (i : Nat) (g : SinkAux → SinkAux) (m : Mach) (n off : Nat) : (m.modSink i g).reg n off = m.reg n off := rfl
@[simp] theorem Mach.shd_modSink (i : Nat) (g : SinkAux → SinkAux) (m : Mach) (n off : Nat) : (m.modSink i g).shd n off = m.shd n off := rfl
@[simp] theorem Mach.sink_modSink_self (i : Nat) (g : SinkAux → SinkAux) (m : Mach) : (m.modSink i g).sink i = g (m.sink i) := by simp [Mach.sink, Mach.modSink, Mach.setSink]
@[simp] theorem Mach.reg_modValve (i : Nat) (g : ValveAux → ValveAux) (m : Mach) (n off : Nat) : (m.modValve i g).reg n off = m.reg n off := rfl
@[simp] theorem Mach.shd_modValve (i : Nat) (g : ValveAux → ValveAux) (m : Mach) (n off : Nat) : (m.modValve i g).shd n off = m.shd n off := rfl
@[simp] theorem Mach.valve_modValve_self (i : Nat) (g : ValveAux → ValveAux) (m : Mach) : (m.modValve i g).valve i = g (m.valve i) := by simp [Mach.valve, Mach.modValve, Mach.setValve]
@[simp] theorem Mach.reg_modVhs (i : Nat) (g : VhsAux → VhsAux) (m : Mach) (n off : Nat) : (m.modVhs i g).reg n off = m.reg n off := rfl
@[simp] theorem Mach.shd_modVhs (i : Nat) (g : VhsAux → VhsAux) (m : Mach) (n off : Nat) : (m.modVhs i g).shd n off = m.shd n off := rfl
@[simp] theorem Mach.vhs_modVhs_self (i : Nat) (g : VhsAux → VhsAux) (m : Mach) : (m.modVhs i g).vhs i = g (m.vhs i) := by simp [Mach.vhs, Mach.modVhs]
@[simp] theorem Mach.reg_modInp (i : Nat) (g : InAux → InAux) (m : Mach) (n off : Nat) : (m.modInp i g).reg n off = m.reg n off := rfl
@[simp] theorem Mach.shd_modInp (i : Nat) (g : InAux → InAux) (m : Mach) (n off : Nat) : (m.modInp i g).shd n off = m.shd n off := rfl
@[simp] theorem Mach.inp_modInp_self (i : Nat) (g : InAux → InAux) (m : Mach) : (m.modInp i g).inp i = g (m.inp i) := by simp [Mach.inp, Mach.modInp, Mach.setInp]
@[simp] theorem Mach.reg_modTouch (i : Nat) (g : TouchAux → TouchAux) (m : Mach) (n off : Nat) : (m.modTouch i g).reg n off = m.reg n off := rfl
@[simp] theorem Mach.shd_modTouch (i : Nat) (g : TouchAux → TouchAux) (m : Mach) (n off : Nat) : (m.modTouch i g).shd n off = m.shd n off := rfl
@[simp] theorem Mach.touch_modTouch_self (i : Nat) (g : TouchAux → TouchAux) (m : Mach) : (m.modTouch i g).touch i = g (m.touch i) := by simp [Mach.touch, Mach.modTouch]
@[simp] theorem Mach.reg_modCan (i : Nat) (g : CanAux → CanAux) (m : Mach) (n off : Nat) : (m.modCan i g).reg n off = m.reg n off := rfl
@[simp] theorem Mach.shd_modCan (i : Nat) (g : CanAux → CanAux) (m : Mach) (n off : Nat) : (m.modCan i g).shd n off = m.shd n off := rfl
@[simp] theorem Mach.can_modCan_self (i : Nat) (g : CanAux → CanAux) (m : Mach) : (m.modCan i g).can i = g (m.can i) := by simp [Mach.can, Mach.modCan]
@[simp] theorem Mach.reg_modLin (i : Nat) (g : LinAux → LinAux) (m : Mach) (n off : Nat) : (m.modLin i g).reg n off = m.reg n off := rfl
@[simp] theorem Mach.shd_modLin (i : Nat) (g : LinAux → LinAux) (m : Mach) (n off : Nat) : (m.modLin i g).shd n off = m.shd n off := rfl
@[simp] theorem Mach.lin_modLin_self (i : Nat) (g : LinAux → LinAux) (m : Mach) : (m.modLin i g).lin i = g (m.lin i) := by simp [Mach.lin, Mach.modLin]
@[simp] theorem Mach.reg_modPeer (i : Nat) (g : Peer → Peer) (m : Mach) (n off : Nat) : (m.modPeer i g).reg n off = m.reg n off := rfl
@[simp] theorem Mach.shd_modPeer (i : Nat) (g : Peer → Peer) (m : Mach) (n off : Nat) : (m.modPeer i g).shd n off = m.shd n off := rfl
@[simp] theorem Mach.peer_modPeer_self (i : Nat) (g : Peer → Peer) (m : Mach) : (m.modPeer i g).peer i = g (m.peer i) := by simp [Mach.peer, Mach.modPeer, Mach.setPeer]
@[simp] theorem Mach.reg_modCore (i : Nat) (g : Core → Core) (m : Mach) (n off : Nat) : (m.modCore i g).reg n off = m.reg n off := rfl
@[simp] theorem Mach.shd_modCore (i : Nat) (g : Core → Core) (m : Mach) (n off : Nat) : (m.modCore i g).shd n off = m.shd n off := rfl
@[simp] theorem Mach.core_modCore_self (i : Nat) (g : Core → Core) (m : Mach) : (m.modCore i g).core i = g (m.core i) := by simp [Mach.core, Mach.modCore, Mach.setCore]

end Sys2Proof.Machine
end

