-- ==== Sys2Proof/Laws/Memory.lean ====
section
/-! SUPPORT. The byte memory: reading back what was written, other bytes untouched, and the canonical form kept by every operation that the
rows use. -/

namespace Sys2Proof

/-- A table with entries left out stays canonical. -/
theorem tcanon_filter {α : Type} [DecidableEq α] (t : Table α) (d : α) (p : Nat × α → Bool) (h : tcanon t d = true) :
    tcanon (t.filter p) d = true := by
  simp only [tcanon, Bool.and_eq_true, List.all_eq_true, decide_eq_true_eq] at h ⊢
  refine ⟨?_, fun q hq => h.2 q (List.mem_of_mem_filter hq)⟩
  have key : ∀ l : Table α, tsorted l = true → tsorted (l.filter p) = true := by
    intro l
    induction l with
    | nil => intro _; rfl
    | cons q l ih =>
      intro hs
      obtain ⟨ha, hs⟩ := (tsorted_cons _ _).1 hs
      unfold List.filter; split
      · exact (tsorted_cons _ _).2 ⟨fun r hr => ha r (List.mem_of_mem_filter hr), ih hs⟩
      · exact ih hs
  exact key t h.1

/-- A fold of steps that keep a property keeps it. -/
theorem foldl_keeps {α β : Type} (P : β → Prop) (f : β → α → β) (hf : ∀ b a, P b → P (f b a)) (l : List α) (b : β) (h : P b) :
    P (l.foldl f b) := by
  induction l generalizing b with
  | nil => exact h
  | cons a l ih => exact ih _ (hf b a h)

namespace Machine

/-! ## Reading what was written -/

@[simp] theorem readByte_writeByte (a : Nat) (b : Byte) (mem : Memory) : readByte (writeByte a b mem) a = b := tget_tput_self ..

theorem readByte_writeByte_ne {a x : Nat} (b : Byte) (mem : Memory) (h : x ≠ a) : readByte (writeByte a b mem) x = readByte mem x :=
  tget_tput_ne _ _ _ _ h

/-- A byte outside the bytes written stays. -/
theorem readByte_writeBytes_out {a x : Nat} (l : List Byte) (mem : Memory) (h : x < a ∨ a + l.length ≤ x) :
    readByte (writeBytes a l mem) x = readByte mem x := by
  induction l generalizing a mem with
  | nil => rfl
  | cons b l ih =>
    simp only [List.length_cons] at h
    rw [writeBytes, ih _ (by omega), readByte_writeByte_ne _ _ (by omega)]

/-- A byte inside the bytes written reads as the byte of the list. -/
theorem readByte_writeBytes_in {a i : Nat} (l : List Byte) (mem : Memory) (h : i < l.length) :
    readByte (writeBytes a l mem) (a + i) = l[i] := by
  induction l generalizing a i mem with
  | nil => simp at h
  | cons b l ih =>
    cases i with
    | zero => rw [writeBytes, readByte_writeBytes_out _ _ (by omega)]; simp
    | succ i =>
      have := ih (a := a + 1) (writeByte a b mem) (Nat.lt_of_succ_lt_succ h)
      rw [writeBytes, show a + (i + 1) = a + 1 + i by omega, this]; rfl

theorem tfind_filter_out {α : Type} (t : Table α) (p : Nat → Bool) (x : Nat) (h : p x = false) : tfind (t.filter fun c => p c.1) x = none := by
  induction t with
  | nil => rfl
  | cons q t ih =>
    obtain ⟨j, v⟩ := q
    unfold List.filter; split
    · by_cases hj : j = x
      · subst hj; simp_all
      · simp [tfind, hj, ih]
    · exact ih

theorem tfind_filter_in {α : Type} (t : Table α) (p : Nat → Bool) (x : Nat) (h : p x = true) : tfind (t.filter fun c => p c.1) x = tfind t x := by
  induction t with
  | nil => rfl
  | cons q t ih =>
    obtain ⟨j, v⟩ := q
    unfold List.filter; split
    · by_cases hj : j = x <;> simp [tfind, hj, ih]
    · by_cases hj : j = x
      · subst hj; simp_all
      · simp [tfind, hj, ih]

/-- An erased byte reads 0; another stays. -/
theorem readByte_eraseRange (lo len : Nat) (mem : Memory) (x : Nat) :
    readByte (eraseRange lo len mem) x = if lo ≤ x ∧ x < lo + len then 0 else readByte mem x := by
  unfold readByte tget eraseRange
  split
  · rw [tfind_filter_out mem (fun a => decide (a < lo) || decide (lo + len ≤ a)) x (by simp; omega)]; rfl
  · rw [tfind_filter_in mem (fun a => decide (a < lo) || decide (lo + len ≤ a)) x (by simp; omega)]

/-! ## The canonical form -/

theorem writeByte_wf (a : Nat) (b : Byte) {mem : Memory} (h : mem.wf = true) : (writeByte a b mem).wf = true := tcanon_tput _ _ _ _ h

theorem writeBytes_wf (a : Nat) (l : List Byte) {mem : Memory} (h : mem.wf = true) : (writeBytes a l mem).wf = true := by
  induction l generalizing a mem with
  | nil => exact h
  | cons b l ih => exact ih _ (writeByte_wf a b h)

theorem eraseRange_wf (lo len : Nat) {mem : Memory} (h : mem.wf = true) : (eraseRange lo len mem).wf = true := tcanon_filter _ _ _ h

theorem keepMem_wf (p : Nat → Bool) {mem : Memory} (h : mem.wf = true) : (keepMem p mem).wf = true := tcanon_filter _ _ _ h

theorem writeCells_wf (l : List Host.Cell) {mem : Memory} (h : mem.wf = true) : (writeCells l mem).wf = true :=
  foldl_keeps (fun mem : Memory => mem.wf = true) _ (fun _ _ h => writeByte_wf _ _ h) l mem h

theorem writeHalves_wf (a : Nat) (l : List (BitVec 16)) {mem : Memory} (h : mem.wf = true) : (writeHalves a l mem).wf = true :=
  writeBytes_wf _ _ h

theorem pokeBytes_wf (c a : Nat) (l : List Byte) (m : Mach) {mem : Memory} (h : mem.wf = true) : (pokeBytes c a l m mem).2.wf = true := by
  induction l generalizing a m mem with
  | nil => exact h
  | cons b l ih => unfold pokeBytes; split <;> [exact ih _ _ h; exact ih _ _ (writeByte_wf _ _ h)]

theorem storeNow_wf (c : Nat) (x : WStore) {s : State} (h : s.mem.wf = true) : (storeNow c x s).mem.wf = true := by
  unfold storeNow; split
  · simp only; split <;> exact h
  · exact pokeBytes_wf _ _ _ _ h

theorem drainOne_wf (c : Nat) {s : State} (h : s.mem.wf = true) : (drainOne c s).mem.wf = true := by
  unfold drainOne; split
  · exact storeNow_wf _ _ h
  · exact h

theorem drainAll_wf (c : Nat) {s : State} (h : s.mem.wf = true) : (drainAll c s).mem.wf = true :=
  foldl_keeps (fun s : State => s.mem.wf = true) _ (fun _ _ h => drainOne_wf c h) _ s h

theorem readNow_mem (c : Nat) (x : Access) (s : State) : (readNow c x s).2.mem = s.mem := by
  have key : ∀ (P : Prop) [Decidable P] (r : Word × Mach) (v : Nat × State), v.2.mem = s.mem →
      (if P then (r.1.toNat, ({ s with m := r.2 } : State)) else v).2.mem = s.mem := by
    intro P _ r v hv
    split
    · rfl
    · exact hv
  exact key (regionOf x.addr = some .page) (s.m.pageRead (pageOf x.addr).1 (pageOf x.addr).2) _ rfl

/-- A load changes no byte of memory. -/
theorem loadVal_mem (c : Nat) (x : Access) (s : State) : (loadVal c x s).2.mem = s.mem := by
  have h := readNow_mem c x s
  unfold loadVal
  generalize (x.outside && !s.m.inShared x.addr) = far
  generalize readNow c x s = r at h ⊢
  cases far
  · exact h
  · cases (s.m.core c).replay
    · exact h
    · rfl

theorem loadVal_wf (c : Nat) (x : Access) {s : State} (h : s.mem.wf = true) : (loadVal c x s).2.mem.wf = true := by
  rw [loadVal_mem]; exact h

theorem storeVal_wf (c : Nat) (x : Access) (v : Word) {s : State} (h : s.mem.wf = true) : (storeVal c x v s).mem.wf = true := by
  unfold storeVal; split
  · exact writeBytes_wf _ _ h
  · split
    · split <;> [exact writeBytes_wf _ _ h; exact h]
    · exact h

theorem lEffect_wf (c : Nat) (k : Core) (op : SOp) (w : Writes) {s : State} (h : s.mem.wf = true) : (lEffect c k op w s).2.mem.wf = true := by
  unfold lEffect
  split
  · exact h
  · cases op <;> first
      | exact h
      | exact loadVal_wf _ _ h
      | exact storeVal_wf _ _ _ h
      | exact drainAll_wf _ (storeVal_wf _ _ _ (loadVal_wf _ _ h))
      | exact loadVal_wf _ _ (loadVal_wf _ _ h)

/-- A group keeps the canonical form. -/
theorem runGroup_wf (c : Nat) (g : Group) {s : State} (h : s.mem.wf = true) : (runGroup c g s).mem.wf = true := by
  unfold runGroup
  exact foldl_keeps (fun a : Writes × State => a.2.mem.wf = true) _ (fun a y ha => lEffect_wf c _ y.op a.1 ha) _ _ h

theorem issueReady_wf (c : Nat) (g : Group) {s : State} (h : s.mem.wf = true) : (issueReady c g s).mem.wf = true := by
  unfold issueReady; split <;> [exact runGroup_wf _ _ h; exact h; exact h]

theorem issue_wf (c : Nat) (f : Fetch) (ecc : Nat) {s : State} (h : s.mem.wf = true) : (issue c f ecc s).mem.wf = true := by
  unfold issue; simp only
  split
  · exact h
  · split
    · split <;> split <;> split <;> exact h
    · apply issueReady_wf; split <;> split <;> exact h

theorem accessComplete_wf (c : Nat) {s : State} (h : s.mem.wf = true) : (accessComplete c s).mem.wf = true := by
  unfold accessComplete; split
  · split
    · simp only; split
      · exact runGroup_wf _ _ (drainAll_wf c h)
      · exact drainAll_wf c h
    · exact h
  · exact h

theorem bufferDrain_wf (c : Nat) {s : State} (h : s.mem.wf = true) : (bufferDrain c s).mem.wf = true := by
  unfold bufferDrain; simp only
  split
  · split <;> exact drainOne_wf c h
  · split
    · exact issueReady_wf _ _ (drainOne_wf c h)
    · exact drainOne_wf c h

theorem loadComplete_wf (c : Nat) {s : State} (h : s.mem.wf = true) : (loadComplete c s).mem.wf = true := by
  unfold loadComplete; split
  · exact h
  · simp only; split
    · exact eraseRange_wf _ _ h
    · exact writeBytes_wf _ _ (writeBytes_wf _ _ (eraseRange_wf _ _ h))

theorem snapStore_wf (l : List (BitVec 16)) {s : State} (h : s.mem.wf = true) : (snapStore l s).mem.wf = true := by
  unfold snapStore; split <;> [exact h; exact writeHalves_wf _ _ h]

theorem restoreMem_wf (m : Mach) (c : Nat) (k : Ckpt) {mem : Memory} (h : mem.wf = true) : (restoreMem m c k mem).wf = true :=
  writeCells_wf _ (eraseRange_wf _ _ (writeCells_wf _ (eraseRange_wf _ _ h)))

theorem restoreCore_wf (c : Nat) {s : State} (h : s.mem.wf = true) : (restoreCore c s).mem.wf = true := by
  unfold restoreCore; split <;> [exact h; exact restoreMem_wf _ _ _ h]

/-- For a machine written out: the kernel then never compares it. -/
theorem wf_at (m : Mach) (p : List Instr) {mem : Memory} (h : mem.wf = true) : (State.mk m mem p).mem.wf = true := h

theorem restoreCore_at (c : Nat) (m : Mach) (p : List Instr) {mem : Memory} (h : mem.wf = true) : (restoreCore c ⟨m, mem, p⟩).mem.wf = true :=
  restoreCore_wf c h

theorem fallBack_wf (c : Nat) {s : State} (h : s.mem.wf = true) : (fallBack c s).mem.wf = true := by
  unfold fallBack; simp only; split <;> [exact wf_at _ _ h; exact restoreCore_at _ _ _ h]

theorem fallBack_at (c : Nat) (m : Mach) (p : List Instr) {mem : Memory} (h : mem.wf = true) : (fallBack c ⟨m, mem, p⟩).mem.wf = true :=
  fallBack_wf c h

theorem ckptMissed_wf {s : State} (h : s.mem.wf = true) : (ckptMissed s).mem.wf = true := by
  unfold ckptMissed; simp only; split
  · exact foldl_keeps (fun s : State => s.mem.wf = true) _ (fun _ _ h => fallBack_wf _ h) _ _ h
  · exact h

theorem ckptRow_wf (ms : Nat) (sent : Bool) {s : State} (h : s.mem.wf = true) : (ckptRow ms sent s).mem.wf = true := by
  unfold ckptRow; split
  · exact h
  · split
    · exact h
    · split <;> [exact ckptMissed_wf h; exact h]

theorem ckptGood_wf (c : Nat) (i : CkptImg) {s : State} (h : s.mem.wf = true) : (ckptGood c i s).mem.wf = true := by
  have key : ∀ (b : Bool) (t : State), t.mem.wf = true → (if t.m.stepCores.contains c && !b then restoreCore c t else t).mem.wf = true := by
    intro b t ht; split <;> [exact restoreCore_wf c ht; exact ht]
  exact key (s.m.core c).replay ⟨s.m.ckptKept c i, s.mem, s.pending⟩ (wf_at _ _ h)

theorem ckptBad_wf (c : Nat) {s : State} (h : s.mem.wf = true) : (ckptBad c s).mem.wf = true := by
  unfold ckptBad; simp only; split
  · exact fallBack_at _ _ _ h
  · split <;> exact wf_at _ _ h

theorem ckptReceived_wf (ok : Bool) (fseq : Nat) (crcOk : Bool) (c : Nat) (i : CkptImg) {s : State} (h : s.mem.wf = true) :
    (ckptReceived ok fseq crcOk c i s).mem.wf = true := by
  unfold ckptReceived; generalize s.m.frameIn ok fseq = r; split
  · exact h
  · simp only; split
    · exact h
    · generalize r.2.ckptJoin c = u
      split <;> [exact ckptGood_wf c i h; exact ckptBad_wf c h]

theorem restoreComplete_wf {s : State} (h : s.mem.wf = true) : (restoreComplete s).mem.wf = true := by
  unfold restoreComplete; split
  · exact foldl_keeps (fun s : State => s.mem.wf = true) _ (fun _ _ h => restoreCore_wf _ h) _ _ h
  · exact h

theorem requestDone_wf (m : Mach) {mem : Memory} (h : mem.wf = true) : (m.requestDone mem).2.wf = true := by
  unfold Mach.requestDone; simp only; split
  · exact h
  · split <;> [exact h; exact pokeBytes_wf _ _ _ _ h]

theorem commitComplete_wf {s : State} (h : s.mem.wf = true) : (commitComplete s).mem.wf = true := by
  unfold commitComplete; split <;> [exact h; exact keepMem_wf _ h]

theorem wakeRow_wf (us : Nat) (t : List (Fin 16384 × List Word)) {s : State} (h : s.mem.wf = true) : (wakeRow us t s).mem.wf = true := by
  unfold wakeRow; split <;> exact h

theorem bootFrom_mem (config : Option (List (Nat × Nat × Word))) (cause : Nat) (s : State) : (bootFrom config cause s).mem = s.mem := by
  unfold bootFrom; split <;> rfl

theorem bootFrom_wf (config : Option (List (Nat × Nat × Word))) (cause : Nat) (m : Mach) (p : List Instr) {mem : Memory} (h : mem.wf = true) :
    (bootFrom config cause ⟨m, mem, p⟩).mem.wf = true := by
  rw [bootFrom_mem]; exact h

theorem feedStart_wf (b mV us : Nat) (fu : Fuses) (fail : Option Nat) (config : Option (List (Nat × Nat × Word))) {s : State}
    (h : s.mem.wf = true) : (feedStart b mV us fu fail config s).mem.wf = true := by
  unfold feedStart; split
  · exact h
  · split
    · exact h
    · exact bootFrom_wf _ _ _ _ (keepMem_wf _ h)

theorem restart_wf (cause : Nat) (config : Option (List (Nat × Nat × Word))) {s : State} (h : s.mem.wf = true) :
    (restart cause config s).mem.wf = true := by
  unfold restart; split
  · exact h
  · exact bootFrom_wf _ _ _ _ (keepMem_wf _ h)

theorem watchdog_wf (ms : Nat) (config : Option (List (Nat × Nat × Word))) {s : State} (h : s.mem.wf = true) :
    (watchdog ms config s).mem.wf = true := by
  unfold watchdog; split <;> [exact h; exact restart_wf _ _ h]

theorem recoveryImage_wf (im : List Byte) (config : Option (List (Nat × Nat × Word))) {s : State} (h : s.mem.wf = true) :
    (recoveryImage im config s).mem.wf = true := by
  unfold recoveryImage; split
  · exact h
  · simp only; split
    · rw [bootFrom_mem]; exact writeBytes_wf _ _ (eraseRange_wf _ _ h)
    · exact h

theorem feedStop_wf (b mV us : Nat) {s : State} (h : s.mem.wf = true) : (feedStop b mV us s).mem.wf = true := by
  unfold feedStop; split
  · exact h
  · simp only; split <;> [exact h; exact keepMem_wf _ h]

theorem issueOp_wf (c : Nat) (y : Syl) {s : State} (h : s.mem.wf = true) : (issueOp c y s).mem.wf = true := issue_wf _ _ _ h

theorem issueFetched_wf (c ecc : Nat) {s : State} (h : s.mem.wf = true) : (issueFetched c ecc s).mem.wf = true := issue_wf _ _ _ h

theorem narrowAccess_wf (c a : Nat) {s : State} (h : s.mem.wf = true) : (narrowAccess c a s).mem.wf = true := by
  unfold narrowAccess; simp only; split <;> [exact h; exact wf_at _ _ h]

theorem lockerDone_wf {s : State} (h : s.mem.wf = true) : (lockerDone s).mem.wf = true := requestDone_wf _ h

/-! ## The rows' wrappers: those over the machine alone leave memory, the others do what their function does -/

theorem onUnits_mem {f : Mach → Mach} {s t : State} (e : onUnits f s = .next t) : t.mem = s.mem := by
  unfold onUnits at e; cases e; exact State.mem_mk _ _ _

theorem onPage_mem {f : Mach → Mach} {s t : State} (e : onPage f s = .next t) : t.mem = s.mem := by
  unfold onPage at e; cases e; exact State.mem_mk _ _ _

theorem onLink_mem {f : Mach → Mach} {s t : State} (e : onLink f s = .next t) : t.mem = s.mem := by
  unfold onLink at e; cases e; exact State.mem_mk _ _ _

theorem onKept_mem {f : Mach → Mach} {s t : State} (e : onKept f s = .next t) : t.mem = s.mem := by
  unfold onKept at e; cases e; exact State.mem_mk _ _ _

theorem onState_wf {f : State → State} {s t : State} (hf : s.mem.wf = true → (f s).mem.wf = true) (h : s.mem.wf = true)
    (e : onState f s = .next t) : t.mem.wf = true := by
  unfold onState at e; cases e
  show (if s.m.mainOff then s.mem else (f s).mem).wf = true
  split <;> [exact h; exact hf h]

theorem onFeed_wf {f : State → State} {s t : State} (hf : s.mem.wf = true → (f s).mem.wf = true) (h : s.mem.wf = true)
    (e : onFeed f s = .next t) : t.mem.wf = true := by
  unfold onFeed at e; cases e; exact hf h

end Machine
end Sys2Proof
end

