-- ==== Sys2Proof/Machine/Arbiter.lean ====
section
/-! DEFINITION. The order of writes that reach one page in the same page clock (02_units_and_pages.md, R68), and how commands that arrive
together join the queue. -/

namespace Sys2Proof

/-- The place of a source among those whose writes reach a page in one page clock (R68): Splice intents, Marks, S0, S1, Hitch, Fid, then
S2 to S5. -/
def Src.rank : Src → Nat
  | .splice => 0
  | .mark => 1
  | .core k => if k.val < 2 then 2 + k.val else 4 + k.val
  | .hitch => 4
  | .fid => 5

namespace Machine

/-- A command takes its place among those of its page clock: behind every one whose source comes before or is the same. -/
def placeIn (c : Src × Instr) : List (Src × Instr) → List (Src × Instr)
  | [] => [c]
  | d :: l => if c.1.rank < d.1.rank then c :: d :: l else d :: placeIn c l

/-- The commands of one page clock in the order in which they take effect (R68). -/
def arbiter (l : List (Src × Instr)) : List (Src × Instr) := l.foldl (fun a c => placeIn c a) []

/-- Commands of one page clock arrive: they wait behind those of earlier page clocks, in the arbiter's order (R68). -/
def State.arrive (l : List (Src × Instr)) (s : State) : State := { s with pending := s.pending ++ (arbiter l).map (·.2) }

end Machine
end Sys2Proof
end

