-- ==== Sys2Proof/Tests/Slice0.lean ====
section
/-! SUPPORT. Tests: the ill-formed terms that each check of WellFormed refuses, the spec's worked examples, and, for every statement with
hypotheses, a state and operands that meet them all. -/

section

set_option linter.unusedVariables false
set_option Elab.async false

open Sys2Proof Sys2Proof.Machine

/-! ## Machines for the witnesses -/

/-- A machine whose start has completed. -/
def readyMach : Mach := machReset.setFlag pgPwr Pwr.READY true

/-- A machine whose Fid peer 0 is joined under epoch 7, and may write; a frame of the body VLAN, and the head of a message of that peer. -/
def fidMach : Mach :=
  let m := ((readyMach.setReg pgEth Eth.IP.off 1).setSt pgFid 2).setSt pgEth 2 |>.setFld pgEth Eth.EN 63
  let m := m.modUnit pgFid fun u => { u with enabled := true }
  let m := { m with locker := { m.locker with slots := [(0, ⟨0x10000001, [1], []⟩)] }, fid := { m.fid with epoch := 9 } }
  m.setPeer 0 { peerReset with ctl := 0xC0000000, pstate := 2, epoch := 7 }
def bodyFrame (port : Nat) : EthFrame := ⟨port, machReset.fld pgEth Eth.BODY_VID, 6, false, 100, 1, 2, none⟩
def fidHead : FidHead := ⟨bodyFrame 4, 0x4644, 1, machReset.fld pgDev Dev.DEVNUM, true, 7, 1⟩

/-- A module with a key for its Splice link, a Lead of a formed pair, and its Second. -/
def linkMach : Mach :=
  let m := readyMach.setFld pgSplice Splice.SLOT 1
  { m with locker := { m.locker with slots := [(1, ⟨0x10000002, [1], []⟩)] } }
def leadMach : Mach := (linkMach.setFld pgSplice Splice.PSTATE 2).setFld pgSplice Splice.ROLE 1
def secondMach : Mach := (linkMach.setFld pgSplice Splice.PSTATE 2).setFld pgSplice Splice.ROLE 2

/-- A machine in PREPARE, one in Watch whose main domain is off, and one with a node in the ring. -/
def prepMach : Mach := readyMach.setFld pgPwr Pwr.PSTATE 2
def watchMach : Mach := { machReset with mainOff := true, pwr := { machReset.pwr with asleep := 1 } }
def ringMach : Mach := readyMach.setFld pgPwr Pwr.NMSTATE 2

/-- A machine whose core S3 runs with address registers in local data memory; one with a frame on its call stack; one with a vector pending. -/
def runMach : Mach := (readyMach.setFld pgStrand (Strandctl.C_STATE 3) 2).setCore 3
  { coreReset with
    pc := 0x10, a := [(1, 0x10010#32), (2, 0x10020#32)], mm := [(1, 4#32)], dsp := 0x18000#32, status := 0x20#32, p := 0x29
    g := [(3, 8#32), (4, 0x12345678#32), (5, 0xFFFF8105#32), (6, 0x7FFF0A03#32)], acc := [(0, 5#72), (1, 0x800000000000000001#72)]
    view := [(1, 0x123456789ABCDEF012#72)] }
  |>.setFld pgStrand (Strandctl.C_DSTK_LO 3) 0x10000 |>.setFld pgStrand (Strandctl.C_DSTK_HI 3) 0x1C000
def frameMach : Mach := runMach.modCore 3 fun k => { k with frames := [⟨0x100, 0, 0⟩] }
def irqMach : Mach := (((runMach.setFld pgStrand (Strandctl.C_IRQ_EN 3) 8).setFld pgStrand (Strandctl.C_IRQ_PEND 3) 8).modCore 3
  fun k => { k with status := 1 })

/-- A signed image for core S2 (R386, R387), as nonzero bytes of the application flash, and a machine whose slot 1 holds its public key. -/
def imageBytes : List Nat :=
  [74, 86, 65, 80, 1, 0, 2, 0, 1, 0, 0, 0, 4, 0, 0, 0, 0, 0, 0, 0, 0, 0, 0, 0, 0, 0,
    0, 0, 0, 0, 0, 0, 0, 0, 1, 0, 0, 192, 1, 0, 0, 0, 0, 0, 1, 0, 0, 0, 228, 118, 115, 128,
    235, 94, 47, 192, 70, 188, 226, 139, 139, 42, 48, 200, 28, 115, 59, 225, 165, 98, 3, 205, 148, 153, 6, 96, 134, 97,
    127, 108, 251, 224, 203, 225, 28, 224, 192, 139, 65, 97, 152, 252, 145, 239, 229, 28, 31, 218, 47, 251, 67, 79, 59, 158,
    18, 213, 14, 121, 164, 135, 93, 31, 251, 224, 203, 225, 28, 224, 192, 139, 65, 97, 152, 252, 145, 239, 229, 28, 31, 218,
    47, 251, 67, 79, 59, 158, 18, 213, 14, 121, 164, 135, 93, 31, 0, 0, 0, 0, 0, 0, 0, 0, 0, 0, 0, 0,
    0, 0, 0, 0, 0, 0, 0, 0, 0, 0, 0, 0, 0, 0, 0, 0, 0, 0, 0, 0, 0, 0, 0, 0, 0, 0,
    0, 0, 0, 0, 0, 0, 0, 0, 0, 0, 0, 0, 0, 0, 0, 0, 0, 0, 0, 0, 0, 0, 0, 0, 0, 0,
    0, 0, 0, 0, 0, 0, 0, 0, 0, 0, 0, 0, 0, 0, 0, 0, 0, 0, 0, 0, 0, 0, 0, 0, 0, 0,
    0, 0, 0, 0, 0, 0, 0, 0, 0, 0, 0, 0, 0, 0, 0, 0, 0, 0, 0, 0, 0, 0, 0, 0, 0, 192]
def imageMem : Memory := (imageBytes.zip (List.range 260)).filterMap fun q =>
  if q.1 = 0 then none else some (0x40B00000 + q.2, BitVec.ofNat 8 q.1)
def imagePub : List Nat :=
  [252, 41, 24, 89, 188, 155, 141, 130, 131, 8, 72, 0, 40, 238, 233, 138, 147, 209, 190, 115, 107, 67, 193, 75, 197, 199, 37, 108, 111, 193, 17, 217,
    166, 99, 62, 64, 82, 97, 93, 224, 25, 202, 142, 54, 126, 136, 76, 166, 218, 75, 66, 222, 220, 199, 12, 224, 68, 248, 168, 181, 45, 172, 144, 87]
def imageMach : Mach :=
  let m := readyMach.setFld pgStrand (Strandctl.C_STATE 2) 1
  { m with locker := { m.locker with slots := [(1, ⟨0x40000040#32, [], imagePub⟩)] } }

/-- A machine whose chain 0 sends, with a return wire. -/
def chainMach : Mach := (readyMach.setFlag 0xD8 Msg.RETURN true |>.setFld 0xD8 Msg.NODES 1).setSt 0xD8 2

def tokenMach : Mach :=
  (({ machReset with
      tether := { machReset.tether with round := 1, chal := List.replicate 8 7, tokens := [(15, ⟨5, true, 0⟩)] }
      locker := { machReset.locker with slots := [(3, ⟨0x20000004, List.replicate 32 1, []⟩)] } } : Mach).setFld pgTether Tether.ZONE 63).setFld
    pgTether Tether.TOKSLOT 3
def wonMach : Mach :=
  { tokenMach.setFlag pgTether Tether.REQ true with tether := { machReset.tether with round := 1, slots := [(15, 1, 5)] } }

/-! ## WellFormed refuses -/

theorem test_refuses_shadow : wellFormed (.shadowWrite (.core 0) 0x20 0 0) = false := by decide +kernel
theorem test_refuses_stray : wellFormed (.strayWrite (.core 0) 0x20 0 0) = false := by decide +kernel
theorem test_refuses_window : wellFormed (.bightWindowWrite (.core 0) 0 0x3C0 0) = false := by decide +kernel
theorem test_refuses_short_circuit : wellFormed (.shortCircuit 0x100 0) = false := by decide +kernel
theorem test_refuses_div_choice : wellFormed (.divChoice 0xA0) = false := by decide +kernel
theorem test_refuses_samples : wellFormed (.snapshotComplete [1]) = false := by decide +kernel
theorem test_refuses_reply : wellFormed (.echo 0 false 0 0 [⟨1024, false, 0, [], 0⟩]) = false := by decide +kernel
theorem test_refuses_node : wellFormed (.enumComplete 0 [⟨0, 0, 0, [(0, 0), (0, 0), (0, 0), (0, 0), (0, 0)], 0⟩] [] []) = false := by decide +kernel
theorem test_refuses_turns : wellFormed (.enumComplete 0 [] [[], [], [], [], [], [], []] []) = false := by decide +kernel
theorem test_refuses_scan : wellFormed (.touchScan []) = false := by decide +kernel
theorem test_refuses_frame : wellFormed (.canFrameReceived 0 ⟨false, false, false, 2048, 0, []⟩) = false := by decide +kernel
theorem test_refuses_data : wellFormed (.canFrameReceived 0 ⟨false, false, false, 1, 8, [0, 0, 0, 0, 0, 0, 0, 0, 0]⟩) = false := by decide +kernel
theorem test_refuses_lin : wellFormed (.linSlot 0 0 1 [0, 0, 0, 0, 0, 0, 0, 0, 0] 0) = false := by decide +kernel
theorem test_refuses_ptp : wellFormed (.ptpSync 6 0 0 0 0 false) = false := by decide +kernel
theorem test_refuses_pd : wellFormed (.pdFrameReceived [] ⟨⟨0, 0, 0, false, 0, 0, 0, none⟩, true, 0, 0, 0, 2 ^ 32, []⟩) = false := by decide +kernel
theorem test_refuses_items :
    wellFormed (.fidRead 0 ⟨⟨0, 0, 0, false, 0, 0, 0, none⟩, 0x4644, 1, 0, true, 1, 1⟩ (List.replicate 65 (0, 0))) = false := by decide +kernel
theorem test_refuses_hello : wellFormed (.spliceHello true 0 65536 0 0 []) = false := by decide +kernel
theorem test_refuses_edge : wellFormed (.edge true 0 ⟨65536, .snub, 0, 0⟩) = false := by decide +kernel
theorem test_refuses_ring : wellFormed (.nmMessage ⟨48, 0, false, false, 0, 0⟩) = false := by decide +kernel
theorem test_refuses_config : wellFormed (.watchdog 101 (some [(0x20, 0x41, 0)])) = false := by decide +kernel
theorem test_refuses_wake : wellFormed (.wake 0 [(0, [])]) = false := by decide +kernel

/-! ## The spec's worked examples -/

/-- ch. 3, the compressor contactor: at POS 0x04D23A00, 50 Hz and a delay of 18,000 µs the Mark is armed at 0x04D3199A (R117); TARGET is 0. -/
theorem test_point_on_wave : powPosition 0x04D23A00 0 18000 0x320000 = 0x04D3199A#32 := by decide +kernel

/-- ch. 17, the door release: its two entries have home slot 0x0832 (R439). -/
theorem test_home_slot : homeSlot 2 0x836 0 = 0x832 := by decide +kernel

/-- ch. 15, the FIR: the MACD body and its REP prefix (R371, R398, R404). -/
theorem test_macd_word : decFull 0xA0580010 = .ok ⟨2, 0, .macd 0 false false 0 1⟩ := by decide +kernel
theorem test_rep_word : decFull 0xC0400010 = .ok ⟨4, 0, .rep 16⟩ := by decide +kernel

/-- ch. 15, the FIR: the modulo pointer steps from 0x1041E to the buffer's base, and the FFT's bit-reversed one from x[0] to x[2048] and on to
x[1024], each 2 bytes (R375). -/
theorem test_modulo : addrNext 0x1041E 2 32 0 = 0x10400#32 := by decide +kernel
theorem test_bit_reversed : addrNext 0x20100000 2 0 0xAC = 0x20101000#32 ∧ addrNext 0x20101000 2 0 0xAC = 0x20100800#32 := by decide +kernel

/-- ch. 7, night dimming: G at both ends, and the levels in force at turns 115, 116 and 200 (R221). -/
theorem test_ease_ends : easeG 655360 = 1261568 ∧ easeG 13107 = 891288 := by decide +kernel
theorem test_ease_levels : [4600, 4640, 8000].map (Ease.level ⟨655360, 13107, 8000, 2, 0⟩) = [65618, 64653, 13107] := by decide +kernel

/-- ch. 5, the loose terminal: 0, 3.0, 3.5 and 1.0 baselines over the threshold, in Q8.8 (R164). -/
theorem test_arc_excess : [arcX 400 240 8 4, arcX 480 96 8 4, arcX 352 64 8 4, arcX 144 48 8 4] = [0, 768, 896, 256] := by decide +kernel

/-- ch. 2, the saloon: two RAT pages join Bight 0x2000, that Bight joins 0x2001, and closing the cycle is refused with REASON 4 (R79, R82). -/
def saloonMach : Mach :=
  let w := fun (m : Mach) (n : Nat) (v : Word) => m.pageWrite (.core 0) n 0x024 v
  w (w (w readyMach 0xC0 0x2000) 0xC1 0x2000) 0x2000 0x2001
theorem test_bight_members : (saloonMach.pageRead 0x2000 Bight.MEMBERS.off).1 = 0x00180002#32 := by decide +kernel
theorem test_bight_cycle :
    ((saloonMach.pageWrite (.core 0) 0x2001 0x024 0x2000).pageRead 0x2001 Hdr.REASON.off).1 = 0x00004024#32 := by decide +kernel

/-- ch. 12, the halt loop: after its filter the low level sets HALT in LAY (R338). -/
theorem test_halt :
    ((((readyMach.setFld pgLay Lay.HALT_FLT 200).haltInput 0).halt 200).reg pgLay Hdr.FAULT_SET.off).getLsbD 0 = true := by decide +kernel

/-- The step takes the command at the front of its queue. -/
theorem test_step_front : (step { State.reset with pending := [.setpos (.core 0) 0 5] }) = exec (.setpos (.core 0) 0 5) State.reset := by rfl

/-! ## Witnesses -/

theorem witness_cmdNop :
    ∃ (s : State) (src : Src) (n : Fin 32768) (seq : BitVec 16),
      (s.m.mainOff = false) ∧ (s.m.cmdOpen src n seq 0) := by
  exact ⟨⟨machReset, [], []⟩, (.core 0), (0x20), (5), by decide +kernel⟩

theorem witness_enable :
    ∃ (s : State) (src : Src) (n : Fin 32768) (seq : BitVec 16),
      (s.m.mainOff = false) ∧ (n.val ≠ pgTether) ∧ (n.val ≠ pgSplice) ∧ (s.m.cmdOpen src n seq 1) ∧ (s.m.accepts n (fun m => m.enableUnit n)) := by
  exact ⟨⟨machReset, [], []⟩, (.core 0), (0xB4), (5), by decide +kernel⟩

theorem witness_disable :
    ∃ (s : State) (src : Src) (n : Fin 32768) (seq : BitVec 16),
      (s.m.mainOff = false) ∧ ((info (clsOf n)).noDisable = false) ∧ (s.m.cmdOpen src n seq 2) ∧ (s.m.accepts n (fun m => m.disableUnit n)) := by
  exact ⟨⟨machReset, [], []⟩, (.core 0), (0xB4), (5), by decide +kernel⟩

theorem witness_apply :
    ∃ (s : State) (src : Src) (n : Fin 32768) (seq : BitVec 16),
      (s.m.mainOff = false) ∧ (n.val ≠ pgPolicy) ∧ (s.m.cmdOpen src n seq 3) ∧ (s.m.accepts n (fun m => m.applyUnit n)) := by
  exact ⟨⟨machReset, [], []⟩, (.core 0), (0xB4), (5), by decide +kernel⟩

theorem witness_clearFaults :
    ∃ (s : State) (src : Src) (n : Fin 32768) (seq : BitVec 16) (persist : Word),
      (s.m.mainOff = false) ∧ (n.val ≠ pgLocker) ∧ ((s.m.persist n persist).cmdOpen src n seq 4) := by
  exact ⟨⟨machReset, [], []⟩, (.core 0), (0xB4), (5), (0), by decide +kernel⟩

theorem witness_selftest :
    ∃ (s : State) (src : Src) (n : Fin 32768) (seq : BitVec 16),
      (s.m.mainOff = false) ∧ (s.m.cmdOpen src n seq 5) ∧ (s.m.accepts n (fun m => m.selftestUnit n)) := by
  exact ⟨⟨machReset, [], []⟩, (.core 0), (0xB4), (5), by decide +kernel⟩

theorem witness_freeze :
    ∃ (s : State) (src : Src) (n : Fin 32768) (seq : BitVec 16),
      (s.m.mainOff = false) ∧ (s.m.cmdOpen src n seq 6) ∧ (s.m.accepts n (fun m => m.freezeUnit n)) := by
  exact ⟨⟨machReset, [], []⟩, (.core 0), (0xB4), (5), by decide +kernel⟩

theorem witness_thaw :
    ∃ (s : State) (src : Src) (n : Fin 32768) (seq : BitVec 16),
      (s.m.mainOff = false) ∧ (s.m.cmdOpen src n seq 7) ∧ (s.m.accepts n (fun m => m.thawLogged n)) := by
  exact ⟨⟨machReset, [], []⟩, (.core 0), (0xB4), (5), by decide +kernel⟩

theorem witness_heldCommandExecute :
    ∃ (s : State) (n : Fin 32768) (w : Word),
      (s.m.mainOff = false) ∧ ((s.m.unit n).held = some w) ∧ (s.m.flag n Hdr.BUSY = false) ∧ (s.m.leadHeld n = false) := by
  exact ⟨⟨machReset.modUnit 0x20 fun u => { u with held := some 2#32 }, [], []⟩, (0x20), (2), by decide +kernel⟩

theorem witness_testComplete :
    ∃ (s : State) (n : Fin 32768) (pass : Bool) (fail : Fin 16),
      (s.m.mainOff = false) ∧ (n.val ≠ pgLocker) ∧ ((s.m.unit n).test.isSome = true) ∧ (s.m.st n = 5) := by
  exact ⟨⟨(machReset.modUnit 0x20 fun u => { u with test := some (0, false) }).setSt 0x20 5, [], []⟩, (0x20), (true), (0), by decide +kernel⟩

theorem witness_registerWrite :
    ∃ (s : State) (src : Src) (n : Fin 32768) (r : Fin 1024) (v : Word),
      (s.m.mainOff = false) ∧ (r.val ≠ 2) ∧ (s.m.takes src n (4 * r) v) := by
  exact ⟨⟨machReset, [], []⟩, (.core 0), (0x20), (0x13), (1), by decide +kernel⟩

theorem witness_shadowWrite :
    ∃ (s : State) (src : Src) (n : Fin 32768) (r : Fin 1024) (v : Word),
      (s.m.mainOff = false) ∧ (0x40 ≤ 4 * r.val) ∧ (((s.m.setFlag n Hdr.REJECT false).special src n (4 * r) v).isNone = true) ∧ ((rwsOffs (clsOf n)).contains (4 * r.val) = true) ∧ (s.m.takes src n (4 * r) v) := by
  exact ⟨⟨machReset, [], []⟩, (.core 0), (0x20), (0x11), (1), by decide +kernel⟩

theorem witness_faultSetClear :
    ∃ (s : State) (src : Src) (n : Fin 32768) (v persist : Word),
      (s.m.mainOff = false) ∧ ((s.m.persist n persist).takes src n 0x018 v) := by
  exact ⟨⟨machReset, [], []⟩, (.core 0), (0x20), (4), (0), by decide +kernel⟩

theorem witness_faultSourceSet :
    ∃ (s : State) (n : Fin 32768) (b : Fin 32) (holds : Bool),
      (s.m.mainOff = false) ∧ (s.m.occupied n) ∧ (s.m.absent n = false) ∧ (Nat.testBit (info (clsOf n)).srcs b = true) ∧ (holds = false) := by
  exact ⟨⟨machReset, [], []⟩, (0x20), (12), (false), by decide +kernel⟩

theorem witness_parentWrite :
    ∃ (s : State) (src : Src) (n : Fin 32768) (v : Word),
      (s.m.mainOff = false) ∧ (s.m.takes src n 0x024 v) := by
  exact ⟨⟨machReset, [], []⟩, (.core 0), (0x20), (0x2000), by decide +kernel⟩

theorem witness_lockWrite :
    ∃ (s : State) (src : Src) (n : Fin 32768) (v : Word),
      (s.m.mainOff = false) ∧ (s.m.takes src n 0x02C v) := by
  exact ⟨⟨machReset, [], []⟩, (.core 0), (0x20), (1), by decide +kernel⟩

theorem witness_strayWrite :
    ∃ (s : State) (src : Src) (n : Fin 32768) (r : Fin 1024) (v : Word),
      (s.m.mainOff = false) ∧ (r.val ≠ 2) ∧ (s.m.occupied n = false) := by
  exact ⟨⟨machReset, [], []⟩, (.core 0), (0x7FFF), (0x3FF), (1), by decide +kernel⟩

theorem witness_narrowAccess :
    ∃ (s : State) (c : Fin 6) (n : Fin 32768) (off : Fin 4096),
      (s.m.mainOff = false) ∧ (s.m.entering = false) ∧ (s.m.coreSt c = 2) ∧ ((s.m.core c).stall.isNone = true) ∧ ((s.m.core c).closing = false) := by
  exact ⟨⟨machReset.setFld pgStrand (Strandctl.C_STATE 3) 2, [], []⟩, (3), (0x20), (2), by decide +kernel⟩

theorem witness_bightWindowWrite :
    ∃ (s : State) (src : Src) (b : Fin 8192) (r : Fin 1024) (v : Word),
      (s.m.mainOff = false) ∧ (0x40 ≤ 4 * r.val) ∧ (4 * r.val < 0xF00) ∧ ((s.m.gate src (pgBight b) (4 * r)).isNone = true) ∧ (s.m.leafCode (pgBight b) ≠ 0) ∧ (s.m.flag (pgBight b) Hdr.LOCKED = false) := by
  exact ⟨⟨machReset.setReg 0x20 0x024 0x2001, [], []⟩, (.core 0), (1), (0x11), (1), by decide +kernel⟩

theorem witness_baseCapWrite :
    ∃ (s : State) (src : Src) (n : Fin 32768) (v : Word),
      (s.m.mainOff = false) ∧ (s.m.takes src n 0x028 v) := by
  exact ⟨⟨machReset, [], []⟩, (.core 0), (0x20), (7), by decide +kernel⟩

theorem witness_boundWriteClamp :
    ∃ (s : State) (src : Src) (n : Fin 32768) (r : Fin 1024) (v : Word),
      (s.m.mainOff = false) ∧ (0x40 ≤ 4 * r.val) ∧ (((s.m.setFlag n Hdr.REJECT false).special src n (4 * r) v).isNone = true) ∧ (s.m.takes src n (4 * r) v) := by
  exact ⟨⟨machReset, [], []⟩, (.core 0), (0xA8), (0x11), (machReset.reg 0xA8 0x044), by decide +kernel⟩

theorem witness_startSuccess :
    ∃ (s : State) (c : Fin 128) (vOut : Int),
      (s.m.mainOff = false) ∧ ((s.m.readOut c vOut).flag (pgOut c) Out.STARTING) ∧ (((s.m.readOut c vOut).rail (bankOf (pgOut c)) : Int) - 150 ≤ vOut) := by
  exact ⟨⟨machReset.setFlag 0x20 Out.STARTING true, [], []⟩, (0), (-150), by decide +kernel⟩

theorem witness_startTimeout :
    ∃ (s : State) (c : Fin 128) (ms : Nat),
      (s.m.mainOff = false) ∧ (s.m.flag (pgOut c) Out.STARTING) ∧ (s.m.fld (s.m.outCfg c) Out.TSTART ≤ ms) := by
  exact ⟨⟨machReset.setFlag 0x20 Out.STARTING true, [], []⟩, (0), (200), by decide +kernel⟩

theorem witness_startEnergyCap :
    ∃ (s : State) (c : Fin 128) (mj : Nat),
      (s.m.mainOff = false) ∧ (s.m.flag (pgOut c) Out.STARTING) ∧ (outStartMj c * s.m.fld (pgOut c) Out.F ≤ mj * 100) := by
  exact ⟨⟨machReset.setFlag 0x20 Out.STARTING true, [], []⟩, (0), (5000), by decide +kernel⟩

theorem witness_inrushEnd :
    ∃ (s : State) (c : Fin 128) (ms : Nat),
      (s.m.mainOff = false) ∧ (s.m.fld (s.m.outCfg c) Out.TINRUSH ≤ ms) := by
  exact ⟨⟨machReset, [], []⟩, (127), (255), by decide +kernel⟩

theorem witness_shortCircuit :
    ∃ (s : State) (n : Fin 32768) (ma : Int),
      (s.m.mainOff = false) ∧ (clsOf n = .out) ∧ (s.m.flag (pgOut (n - 0x20)) Out.STARTING = false) ∧ (2 * s.m.outRating (n - 0x20) < ma.natAbs) := by
  exact ⟨⟨machReset.setFlag 0x20 Out.GATE true, [], []⟩, (0x20), (-30001), by decide +kernel⟩

theorem witness_overcurrent :
    ∃ (s : State) (c : Fin 128) (avg sum : Int) (t : Nat),
      (s.m.mainOff = false) ∧ ((s.m.group c).length ≤ 1) ∧ (s.m.outThreshold c < avg.natAbs) ∧ (s.m.flag (pgOut c) Out.STARTING = false) ∧ (s.m.fld (s.m.outCfg c) Out.TRIP ≤ t) := by
  exact ⟨⟨machReset.setFlag 0x20 Out.GATE true, [], []⟩, (0), (15001), (0), (255), by decide +kernel⟩

theorem witness_overcurrent_2 :
    ∃ (s : State) (c : Fin 128) (avg sum : Int) (t : Nat),
      (s.m.mainOff = false) ∧ (1 < (s.m.group c).length) ∧ ((s.m.group c).length * s.m.groupLimit c < sum.natAbs ∨ s.m.outRating c < avg.natAbs) ∧ (s.m.flag (pgOut c) Out.STARTING = false) ∧ (s.m.fld (s.m.outCfg c) Out.TRIP ≤ t) := by
  exact ⟨⟨((machReset.setFld 0x20 Out.GROUP 1).setFld 0x21 Out.GROUP 1).setFlag 0x20 Out.GATE true, [], []⟩, (0), (15001), (15001), (255), by decide +kernel⟩

theorem witness_thermal :
    ∃ (s : State) (n : Fin 32768) (tj : Int),
      (s.m.mainOff = false) ∧ (clsOf n = .out) ∧ (1700 ≤ tj) := by
  exact ⟨⟨machReset.setFlag 0x20 Out.GATE true, [], []⟩, (0x20), (1700), by decide +kernel⟩

theorem witness_thermalResume :
    ∃ (s : State) (n : Fin 32768) (tj : Int),
      (s.m.mainOff = false) ∧ (clsOf n = .out) ∧ (((s.m.setSFld (pgOut (n - 0x20)) Out.TJ tj).out (n - 0x20)).hot = true) ∧ (tj < 1500) := by
  exact ⟨⟨machReset.modOut 0 fun a => { a with hot := true }, [], []⟩, (0x20), (1499), by decide +kernel⟩

theorem witness_thermalResume_2 :
    ∃ (s : State) (n : Fin 32768) (tj : Int),
      (s.m.mainOff = false) ∧ (clsOf n = .bridge) ∧ (((s.m.setSFld n Bridge.TJ tj).br (n - 0xA0)).hot = true) ∧ (tj < 1500) := by
  exact ⟨⟨machReset.modBr 0 fun a => { a with hot := true }, [], []⟩, (0xA0), (1499), by decide +kernel⟩

theorem witness_tjWarn :
    ∃ (s : State) (n : Fin 32768) (tj : Int),
      (s.m.mainOff = false) ∧ (clsOf n = .out) ∧ (((s.m.setSFld n Out.TJ tj).out (n - 0x20)).warm = false) ∧ (10 * ((s.m.setSFld n Out.TJ tj).fld ((s.m.setSFld n Out.TJ tj).outCfg (n - 0x20)) Out.TJ_WARN : Int) < tj) ∧ (10 * (s.m.fld (s.m.outCfg (n - 0x20)) Out.TJ_WARN : Int) < tj) := by
  exact ⟨⟨machReset, [], []⟩, (0x20), (1651), by decide +kernel⟩

theorem witness_retry :
    ∃ (s : State) (c : Fin 128) (ms : Nat) (tj : Int) (w : Nat),
      (s.m.mainOff = false) ∧ (s.m.secondHeld (pgOut c) = false) ∧ (((s.m.setSFld (pgOut c) Out.TJ tj).out c).wait = some w) ∧ (w ≤ ms) := by
  exact ⟨⟨machReset.modOut 0 fun a => { a with wait := some 100 }, [], []⟩, (0), (100), (1499), (100), by decide +kernel⟩

theorem witness_retrySeriesReset :
    ∃ (s : State) (c : Fin 128) (ms : Nat),
      (s.m.mainOff = false) ∧ (s.m.outDemand c) ∧ (s.m.flag (pgOut c) Out.RETRY_WAIT = false) ∧ (10000 ≤ ms) := by
  exact ⟨⟨(machReset.modUnit 0x20 fun u => { u with enabled := true }).setFlag 0x20 Out.ON true, [], []⟩, (0), (10000), by decide +kernel⟩

theorem witness_clamp :
    ∃ (s : State) (n : Fin 32768) (mj : Nat),
      (s.m.mainOff = false) ∧ (clsOf n = .out) ∧ (outClampMj (n - 0x20) < mj) := by
  exact ⟨⟨machReset, [], []⟩, (0x20), (1501), by decide +kernel⟩

theorem witness_switchOpen :
    ∃ (s : State) (c : Fin 128) (cur vOut : Int) (us : Nat),
      (s.m.mainOff = false) ∧ ((s.m.readOut c vOut).flag (pgOut c) Out.GATE) ∧ ((s.m.readOut c vOut).flag (pgOut c) Out.STARTING = false) ∧ (cur < (s.m.readOut c vOut).fld ((s.m.readOut c vOut).outCfg c) Out.ILIM) ∧ (vOut < ((s.m.readOut c vOut).rail (bankOf (pgOut c)) : Int) - 300) ∧ ((s.m.readOut c vOut).fld (pgBank (bankOf (pgOut c))) Bank.LOSS_V ≤ (s.m.readOut c vOut).rail (bankOf (pgOut c))) ∧ (1000 ≤ us) := by
  exact ⟨⟨(machReset.setFlag 0x20 Out.GATE true).setFld (pgBank 0) Bank.VR 11000, [], []⟩, (0), (0), (10699), (1000), by decide +kernel⟩

theorem witness_switchStuck :
    ∃ (s : State) (c : Fin 128) (cur : Int) (us : Nat),
      (s.m.mainOff = false) ∧ (s.m.flag (pgOut c) Out.GATE = false) ∧ (50 < cur) ∧ (1000 ≤ us) := by
  exact ⟨⟨machReset, [], []⟩, (127), (51), (1000), by decide +kernel⟩

theorem witness_openOn :
    ∃ (s : State) (c : Fin 128) (cur : Int) (ms : Nat),
      (s.m.mainOff = false) ∧ (s.m.fld (pgOut c) Out.OPEN_ON ≠ 0) ∧ (cur < s.m.fld (pgOut c) Out.OPEN_ON) ∧ (s.m.flag (pgOut c) Out.GATE) ∧ (s.m.fld (pgBank (bankOf (pgOut c))) Bank.LOSS_V ≤ s.m.rail (bankOf (pgOut c))) ∧ (100 ≤ ms) := by
  exact ⟨⟨((machReset.setFlag 0x20 Out.GATE true).setFld (pgBank 0) Bank.VR 11000).setFld 0x20 Out.OPEN_ON 100, [], []⟩, (0), (99), (100), by decide +kernel⟩

theorem witness_offdiagPulse :
    ∃ (s : State) (c : Fin 128) (vOut : Int),
      (s.m.mainOff = false) ∧ (s.m.flag (pgOut c) Out.OFFDIAG) ∧ (s.m.flag (pgOut c) Out.GATE = false) ∧ (350 < vOut) := by
  exact ⟨⟨machReset.setFlag 0x20 Out.OFFDIAG true, [], []⟩, (0), (351), by decide +kernel⟩

theorem witness_bfArm :
    ∃ (s : State) (c : Fin 128) (vOut : Int) (ms : Nat),
      (s.m.mainOff = false) ∧ ((s.m.readOut c vOut).flag (pgOut c) Out.GATE = false) ∧ (vOut < 200 ∨ (s.m.readOut c vOut).fld (pgOut c) Out.BF_BLANK ≤ ms) := by
  exact ⟨⟨machReset, [], []⟩, (0), (199), (0), by decide +kernel⟩

theorem witness_backfeed :
    ∃ (s : State) (c : Fin 128) (vOut : Int) (us : Nat) (pulse partnerOff : Bool),
      (s.m.mainOff = false) ∧ ((s.m.readOut c vOut).flag (pgOut c) Out.GATE = false) ∧ ((s.m.readOut c vOut).flag (pgOut c) Out.BF_ARMED = true) ∧ ((s.m.readOut c vOut).flag (pgOut c) Out.DUPLEX = false) ∧ ((s.m.readOut c vOut).src (pgOut c) 9 = false) ∧ (pulse = false) ∧ (200 < vOut) ∧ (50 ≤ us) := by
  exact ⟨⟨machReset.setFlag 0x20 Out.BF_ARMED true, [], []⟩, (0), (201), (50), (false), (false), by decide +kernel⟩

theorem witness_backfeed_2 :
    ∃ (s : State) (c : Fin 128) (vOut : Int) (us : Nat) (pulse partnerOff : Bool),
      (s.m.mainOff = false) ∧ ((s.m.readOut c vOut).flag (pgOut c) Out.GATE = true) ∧ (((s.m.readOut c vOut).rail (bankOf (pgOut c)) : Int) + 200 < vOut) ∧ (10 ≤ us) := by
  exact ⟨⟨machReset.setFlag 0x20 Out.GATE true, [], []⟩, (0), (201), (10), (false), (false), by decide +kernel⟩

theorem witness_parallelUndeclared :
    ∃ (s : State) (c d : Fin 128) (e : WireEdge),
      (s.m.mainOff = false) ∧ (c.val ≠ d.val) ∧ (bankOf (pgOut c) = bankOf (pgOut d)) ∧ (s.m.fld (pgOut c) Out.GROUP = 0) ∧ (s.m.wiredAt c d e) := by
  exact ⟨⟨machReset.setFlag 0x20 Out.GATE true, [], []⟩, (0), (1), (.on 199 300 201 50), by decide +kernel⟩

theorem witness_share :
    ∃ (s : State) (c : Fin 128) (cur sum ms : Nat),
      (s.m.mainOff = false) ∧ (s.m.flag (pgOut c) Out.DUPLEX = false) ∧ (2 ≤ (s.m.group c).length) ∧ ((s.m.group c).length * s.m.fld (s.m.outCfg c) Out.ILIM ≤ 4 * sum) ∧ (1000 ≤ ms) ∧ (s.m.fld (pgOut c) Out.IMB * sum < 100 * (((s.m.group c).length * cur : Int) - sum).natAbs) := by
  exact ⟨⟨(machReset.setFld 0x20 Out.GROUP 1).setFld 0x21 Out.GROUP 1, [], []⟩, (0), (0), (8000), (1000), by decide +kernel⟩

theorem witness_share_2 :
    ∃ (s : State) (c : Fin 128) (cur sum ms : Nat),
      (s.m.mainOff = false) ∧ (s.m.flag (pgOut c) Out.DUPLEX = true) ∧ (2 * s.m.fld (s.m.outCfg c) Out.ILIM ≤ 4 * sum) ∧ (1000 ≤ ms) ∧ (s.m.fld (pgOut c) Out.IMB * sum < 100 * ((2 * cur : Int) - sum).natAbs) := by
  exact ⟨⟨machReset.setFlag 0x20 Out.DUPLEX true, [], []⟩, (0), (0), (8000), (1000), by decide +kernel⟩

theorem witness_syncLost :
    ∃ (s : State) (n : Fin 32768),
      (s.m.mainOff = false) ∧ (clsOf n = .out) ∧ ((s.m.out (n - 0x20)).drive.mode = 2) ∧ (s.m.flag (pgOut (n - 0x20)) Out.GATE) ∧ (s.m.baseLost (pgOut (n - 0x20))) := by
  exact ⟨⟨(machReset.setFlag 0x20 Out.GATE true).modOut 0 fun a => { a with drive := ⟨true, 2, 100, 50000, 1, 0⟩ }, [], []⟩, (0x20), by decide +kernel⟩

theorem witness_pwmPeriodStart :
    ∃ (s : State) (n : Fin 32768),
      (s.m.mainOff = false) ∧ (clsOf n = .out) ∧ (s.m.flag (pgOut (n - 0x20)) Out.GATE) ∧ ((s.m.wantDrive (n - 0x20)).conducts) ∧ ((s.m.wantDrive (n - 0x20)).mode ≠ 0) := by
  exact ⟨⟨((((((machReset.modUnit 0x20 fun u => { u with enabled := true }).setSt 0x20 2).setFlag 0x20 Out.GATE true).setFlag 0x20 Out.ON true).setFld 0x20 Out.PWM_MODE 1).setFld 0x20 Out.DUTY 100), [], []⟩, (0x20), by decide +kernel⟩

theorem witness_pwmPeriodStart_2 :
    ∃ (s : State) (n : Fin 32768),
      (s.m.mainOff = false) ∧ (clsOf n = .bridge) := by
  exact ⟨⟨machReset, [], []⟩, (0xA7), by decide +kernel⟩

theorem witness_idealDiodeOff :
    ∃ (s : State) (k : Fin 4) (b : Bool) (cur : Int),
      (s.m.mainOff = false) ∧ (cur < 0) := by
  exact ⟨⟨machReset, [], []⟩, (3), (true), (-1), by decide +kernel⟩

theorem witness_aLost :
    ∃ (s : State) (k : Fin 4) (b : Bool) (v ms : Nat),
      (s.m.mainOff = false) ∧ (b = false) ∧ ((s.m.setFeed k false v).feedUsed k false) ∧ (v < (s.m.setFeed k false v).fld (pgBank k) Bank.LOSS_V) ∧ ((s.m.setFeed k false v).fld (pgBank k) Bank.LOSS_T ≤ ms) ∧ ((s.m.setFeed k false v).flag (pgBank k) Bank.A_LOST = false) := by
  exact ⟨⟨machReset, [], []⟩, (0), (false), (5499), (1000), by decide +kernel⟩

theorem witness_railLost :
    ∃ (s : State) (k : Fin 4) (v ms : Nat),
      (s.m.mainOff = false) ∧ ((s.m.setRail k v).anyUsed k) ∧ (v < (s.m.setRail k v).fld (pgBank k) Bank.LOSS_V) ∧ ((s.m.setRail k v).fld (pgBank k) Bank.LOSS_T ≤ ms) := by
  exact ⟨⟨machReset, [], []⟩, (0), (5499), (1000), by decide +kernel⟩

theorem witness_sag :
    ∃ (s : State) (k : Fin 4) (v ms : Nat),
      (s.m.mainOff = false) ∧ ((s.m.setRail k v).anyUsed k) ∧ (v < (s.m.setRail k v).fld (pgBank k) Bank.SAG_V) ∧ ((s.m.setRail k v).fld (pgBank k) Bank.SAG_T ≤ ms) := by
  exact ⟨⟨machReset, [], []⟩, (0), (7699), (1000), by decide +kernel⟩

theorem witness_overvolt :
    ∃ (s : State) (k : Fin 4) (b : Bool) (v ms : Nat),
      (s.m.mainOff = false) ∧ (b = true) ∧ ((s.m.setFeed k true v).fld (pgBank k) Bank.OV_V < (s.m.setFeed k true v).fld (pgBank k) Bank.VB) ∧ ((s.m.setFeed k true v).fld (pgBank k) Bank.OV_T ≤ ms) := by
  exact ⟨⟨machReset, [], []⟩, (0), (true), (15401), (1000), by decide +kernel⟩

theorem witness_bankOc :
    ∃ (s : State) (k : Fin 4) (mean now : Int),
      (s.m.mainOff = false) ∧ (((s.m.setSFld (pgBank k) Bank.IR now).fld (pgBank k) Bank.LIM : Int) < mean) := by
  exact ⟨⟨machReset, [], []⟩, (0), (1001), (10010), by decide +kernel⟩

theorem witness_bankTrip :
    ∃ (s : State) (k : Fin 4) (cur : Int) (ms : Nat),
      (s.m.mainOff = false) ∧ (15000 < cur) ∧ (10 ≤ ms) ∧ ((s.m.setSFld (pgBank k) Bank.IR cur).src (pgBank k) 6 = false) := by
  exact ⟨⟨machReset, [], []⟩, (3), (15001), (10), by decide +kernel⟩

theorem witness_bpWarn :
    ∃ (s : State) (k : Fin 4) (tb : Int),
      (s.m.mainOff = false) ∧ (10 * ((s.m.setSFld (pgBank k) Bank.TEMP tb).fld (pgBank k) Bank.BP_WARN : Int) < tb) := by
  exact ⟨⟨machReset, [], []⟩, (0), (951), by decide +kernel⟩

theorem witness_bpTrip :
    ∃ (s : State) (k : Fin 4) (tb : Int) (ms : Nat),
      (s.m.mainOff = false) ∧ (1000 ≤ tb) ∧ (1000 ≤ ms) ∧ ((s.m.setSFld (pgBank k) Bank.TEMP tb).src (pgBank k) 8 = false) := by
  exact ⟨⟨machReset, [], []⟩, (0), (1000), (1000), by decide +kernel⟩

theorem witness_diode :
    ∃ (s : State) (k : Fin 4) (b : Bool) (v ms : Nat),
      (s.m.mainOff = false) ∧ (b = false) ∧ ((s.m.readFeed k false v).flag (pgBank k) Bank.A_ON = false) ∧ ((s.m.readFeed k false v).rail k + 50 < v) ∧ (10 ≤ ms) := by
  exact ⟨⟨machReset.setFlag (pgBank 0) Bank.A_ON false, [], []⟩, (0), (false), (51), (10), by decide +kernel⟩

theorem witness_unusedLive :
    ∃ (s : State) (k : Fin 4) (b : Bool) (v : Nat),
      (s.m.mainOff = false) ∧ (b = false) ∧ ((s.m.setFeed k false v).feedUsed k false = false) ∧ (500 < v) := by
  exact ⟨⟨machReset.setFlag (pgBank 0) Bank.A_USED false, [], []⟩, (0), (false), (501), by decide +kernel⟩

theorem witness_bankClassWrite :
    ∃ (s : State) (src : Src) (k : Fin 4) (v : Word),
      (s.m.mainOff = false) ∧ (s.m.takes src (pgBank k) 0x040 v) := by
  exact ⟨⟨machReset, [], []⟩, (.core 0), (0), (0x23#32), by decide +kernel⟩

theorem witness_feedReturn :
    ∃ (s : State) (k : Fin 4) (vA vB vR : Nat) (iA iB iR : Int) (ms : Nat),
      (s.m.mainOff = false) := by
  exact ⟨⟨machReset, [], []⟩, (0), (11000), (11000), (11000), (100), (0), (100), (1000), by decide +kernel⟩

theorem witness_offsetRecalibration :
    ∃ (s : State) (c : Fin 128) (offset : Int),
      (s.m.mainOff = false) ∧ (s.m.entering = false) ∧ (s.m.flag (pgOut c) Out.GATE = false) := by
  exact ⟨⟨machReset, [], []⟩, (0), (-7), by decide +kernel⟩

theorem witness_digiFault :
    ∃ (s : State) (c : Fin 128) (toggles : Bool) (ref : Nat),
      (s.m.mainOff = false) ∧ (toggles = false) ∧ (970 ≤ ref) ∧ (ref ≤ 1030) ∧ ((s.m.out c).digiFails = 1) := by
  exact ⟨⟨machReset.modOut 0 fun a => { a with digiFails := 1 }, [], []⟩, (0), (false), (1000), by decide +kernel⟩

theorem witness_arcScoreUpdate :
    ∃ (s : State) (c : Fin 128) (us f0 f1 f2 f3 : Nat) (raw : List Int) (iSlow : Int),
      (s.m.mainOff = false) ∧ (500 ≤ us) := by
  exact ⟨⟨machReset.setFlag 0x20 Out.GATE true, [], []⟩, (0), (500), (70000), (1), (2), (3), ([1, -40000]), (1), by decide +kernel⟩

theorem witness_arcScoreUpdate_2 :
    ∃ (s : State) (c : Fin 128) (us f0 f1 f2 f3 : Nat) (raw : List Int) (iSlow : Int),
      (s.m.mainOff = false) ∧ (us < 500) := by
  exact ⟨⟨machReset, [], []⟩, (0), (499), (0), (0), (0), (0), ([1]), (1), by decide +kernel⟩

theorem witness_arcBaselineUpdate :
    ∃ (s : State) (c : Fin 128),
      (s.m.mainOff = false) ∧ (s.m.entering = false) ∧ (s.m.trains c) := by
  exact ⟨⟨machReset.modOut 0 fun a => { a with steady := true, winN := 500, winSum := [1000, 1, 2, 3] }, [], []⟩, (0), by decide +kernel⟩

theorem witness_snapGo :
    ∃ (s : State) (src : Src) (c : Fin 128),
      (s.m.mainOff = false) ∧ (s.m.takes src (pgOut c) 0x140 1) := by
  exact ⟨⟨machReset, [], []⟩, (.core 0), (0), by decide +kernel⟩

theorem witness_snapshotComplete :
    ∃ (s : State) (samples : List (BitVec 16)),
      (s.m.mainOff = false) ∧ (s.m.snap = some 5) := by
  exact ⟨⟨{ machReset with snap := some 5 }, [], []⟩, ([1, 2]), by decide +kernel⟩

theorem witness_loadClassification :
    ∃ (s : State) (c : Fin 128) (final peak20 settle b0 b1 b2 b3 : Nat),
      (s.m.mainOff = false) ∧ (s.m.flag (pgOut c) Out.GATE) ∧ ((s.m.out c).byRetry = false) ∧ (final ≠ 0) := by
  exact ⟨⟨machReset.setFlag 0x20 Out.GATE true, [], []⟩, (0), (1000), (1000), (1), (0), (0), (0), (0), by decide +kernel⟩

theorem witness_loadClassification_2 :
    ∃ (s : State) (c : Fin 128) (final peak20 settle b0 b1 b2 b3 : Nat),
      (s.m.mainOff = false) ∧ (s.m.flag (pgOut c) Out.GATE) ∧ ((s.m.out c).byRetry = false) ∧ (final = 0) := by
  exact ⟨⟨machReset.setFlag 0x20 Out.GATE true, [], []⟩, (0), (0), (1000), (1), (0), (0), (0), (0), by decide +kernel⟩

theorem witness_plug :
    ∃ (s : State) (c : Fin 128) (mean iSlow : Int) (ms : Nat),
      (s.m.mainOff = false) ∧ (s.m.entering = false) ∧ (s.m.flag (pgOut c) Out.EN) ∧ (s.m.flag (pgOut c) Out.GATE) ∧ (s.m.flag (pgOut c) Out.STARTING = false) ∧ (s.m.flag (pgOut c) Out.INRUSH = false) ∧ (s.m.flag (pgOut c) Out.RETRY_WAIT = false) ∧ ((s.m.out c).drive.mode = 0) ∧ ((s.m.out c).refStale = false) ∧ (s.m.fld (pgOut c) Out.STEP ≤ (mean - s.m.sfld (pgOut c) Out.REF).natAbs) ∧ (0 < s.m.fld (pgOut c) Out.STEP) ∧ (s.m.fld (pgOut c) Out.HOLD * 10 ≤ ms) ∧ (0 < mean - s.m.sfld (pgOut c) Out.REF) := by
  exact ⟨⟨((machReset.setFlag 0x20 Out.GATE true).setFlag 0x20 Out.EN true).modOut 0 fun a => { a with refStale := false }, [], []⟩, (0), (5000), (0), (1000), by decide +kernel⟩

theorem witness_plug_2 :
    ∃ (s : State) (c : Fin 128) (mean iSlow : Int) (ms : Nat),
      (s.m.mainOff = false) ∧ (s.m.entering = false) ∧ (s.m.flag (pgOut c) Out.EN) ∧ (s.m.flag (pgOut c) Out.GATE) ∧ (s.m.flag (pgOut c) Out.STARTING = false) ∧ (s.m.flag (pgOut c) Out.INRUSH = false) ∧ (s.m.flag (pgOut c) Out.RETRY_WAIT = false) ∧ ((s.m.out c).drive.mode = 0) ∧ ((s.m.out c).refStale = false) ∧ (s.m.fld (pgOut c) Out.STEP ≤ (mean - s.m.sfld (pgOut c) Out.REF).natAbs) ∧ (0 < s.m.fld (pgOut c) Out.STEP) ∧ (s.m.fld (pgOut c) Out.HOLD * 10 ≤ ms) ∧ (mean - s.m.sfld (pgOut c) Out.REF < 0) := by
  exact ⟨⟨((machReset.setFlag 0x20 Out.GATE true).setFlag 0x20 Out.EN true).modOut 0 fun a => { a with refStale := false }, [], []⟩, (0), (-5000), (0), (1000), by decide +kernel⟩

theorem witness_ledgerSample :
    ∃ (s : State) (c : Fin 128) (tj : Int),
      (s.m.mainOff = false) ∧ (s.m.entering = false) ∧ (((s.m.setSFld (pgOut c) Out.TJ tj).out c).closeNext = false) := by
  exact ⟨⟨machReset.modOut 0 fun a => { a with residue := [900, 300, 800, 200] }, [], []⟩, (0), (100), by decide +kernel⟩

theorem witness_ledgerSample_2 :
    ∃ (s : State) (c : Fin 128) (tj : Int),
      (s.m.mainOff = false) ∧ (s.m.entering = false) ∧ (((s.m.setSFld (pgOut c) Out.TJ tj).out c).closeNext = true) := by
  exact ⟨⟨machReset.modOut 0 fun a => { a with closeNext := true }, [], []⟩, (0), (500), by decide +kernel⟩

theorem witness_deratingRecompute :
    ∃ (s : State) (c : Fin 128),
      (s.m.mainOff = false) ∧ (s.m.entering = false) ∧ (s.m.isFrozen (pgOut c) = false) ∧ (s.m.deratePct c < 100) := by
  exact ⟨⟨machReset.modOut 0 fun a => { a with damage := 2 ^ 62 }, [], []⟩, (0), by decide +kernel⟩

theorem witness_deratingRecompute_2 :
    ∃ (s : State) (c : Fin 128),
      (s.m.mainOff = false) ∧ (s.m.entering = false) ∧ (s.m.isFrozen (pgOut c) = false) ∧ (100 ≤ s.m.deratePct c) := by
  exact ⟨⟨machReset, [], []⟩, (0), by decide +kernel⟩

theorem witness_ledgerStore :
    ∃ (s : State) (c : Fin 128),
      (s.m.mainOff = false) := by
  exact ⟨⟨machReset, [], []⟩, (0), by decide +kernel⟩

theorem witness_markFire :
    ∃ (s : State) (k : Fin 8) (e : Nat),
      (s.m.mainOff = false) ∧ (s.m.ready) ∧ (s.m.marksFire k) ∧ (s.m.firstDue k = some e) := by
  exact ⟨⟨(((machReset.setFlag pgPwr Pwr.READY true).setSt 0x10 2).setMark 7 ⟨0, 0, 0, 0, 0, false, false, 0, true, 8, some 1⟩), [], []⟩, (0), (7), by decide +kernel⟩

theorem witness_markFire_2 :
    ∃ (s : State) (k : Fin 8) (e : Nat),
      (s.m.mainOff = false) ∧ (s.m.ready) ∧ (s.m.marksFire k) ∧ (s.m.firstDue k = none) ∧ (s.m.nextMark k = some e) ∧ (s.m.canReach k (s.m.mark e).pos) ∧ (s.m.flag (pgCap k) Cap.COAST = false) := by
  exact ⟨⟨((((((machReset.setFlag pgPwr Pwr.READY true).setFld 0x10 Cap.TYPE 3).setFlag 0x10 Cap.LOCKED true).setReg 0x10 Cap.RATE.off 3276800).setSt 0x10 2).setMark 7 ⟨0x100, 0, 0, 0, 0, false, false, 0, true, 8, none⟩).setReg 0x10 Cap.PERIOD.off 20000000, [], []⟩, (0), (7), by decide +kernel⟩

theorem witness_markRead :
    ∃ (s : State) (src : Src) (k : Fin 8),
      (s.m.mainOff = false) ∧ (s.m.takes src (pgCap k) 0x094 1) := by
  exact ⟨⟨machReset, [], []⟩, (.core 0), (7), by decide +kernel⟩

theorem witness_markArm :
    ∃ (s : State) (src : Src) (k : Fin 8),
      (s.m.mainOff = false) ∧ (s.m.takes src (pgCap k) 0x094 2) := by
  exact ⟨⟨(machReset.setReg 0x10 0x084 0x10000).setFld 0x10 Cap.TARGET 0x20, [], []⟩, (.core 0), (0), by decide +kernel⟩

theorem witness_markDisarm :
    ∃ (s : State) (src : Src) (k : Fin 8),
      (s.m.mainOff = false) ∧ (s.m.takes src (pgCap k) 0x094 3) := by
  exact ⟨⟨machReset, [], []⟩, (.core 0), (7), by decide +kernel⟩

theorem witness_advance :
    ∃ (s : State) (src : Src) (k : Fin 8) (v : Word),
      (s.m.mainOff = false) ∧ (s.m.takes src (pgCap k) 0x05C v) := by
  exact ⟨⟨machReset.setFld 0x10 Cap.TYPE 1, [], []⟩, (.core 0), (0), (1), by decide +kernel⟩

theorem witness_setpos :
    ∃ (s : State) (src : Src) (k : Fin 8) (v : Word),
      (s.m.mainOff = false) ∧ (s.m.takes src (pgCap k) 0x060 v) := by
  exact ⟨⟨machReset.setFld 0x10 Cap.TYPE 1, [], []⟩, (.core 0), (0), (1), by decide +kernel⟩

theorem witness_axleEdge :
    ∃ (s : State) (k : Fin 8) (fwd both : Bool) (ns : Nat),
      (s.m.mainOff = false) ∧ (s.m.capType k = 2) ∧ (s.m.capRuns k) ∧ ((s.m.reg (pgCap k) Cap.PERIOD.off).toNat ≠ 0) ∧ (both = false) := by
  exact ⟨⟨((machReset.setFld 0x10 Cap.TYPE 2).setSt 0x10 2).setReg 0x10 Cap.PERIOD.off 100, [], []⟩, (0), (true), (false), (1000000), by decide +kernel⟩

theorem witness_standstill :
    ∃ (s : State) (k : Fin 8) (ms : Nat),
      (s.m.mainOff = false) ∧ (s.m.capType k = 2) ∧ (s.m.capRuns k) ∧ (s.m.fld (pgCap k) Cap.STILL ≠ 0) ∧ (s.m.fld (pgCap k) Cap.STILL ≤ ms) := by
  exact ⟨⟨((machReset.setFld 0x10 Cap.TYPE 2).setSt 0x10 2).setFld 0x10 Cap.STILL 500, [], []⟩, (0), (500), by decide +kernel⟩

theorem witness_framePulse :
    ∃ (s : State) (k : Fin 8) (ns : Nat),
      (s.m.mainOff = false) ∧ (s.m.capType k = 4) ∧ (s.m.capPulsed k) ∧ (s.m.capHeld k = false) ∧ (s.m.capRuns k) ∧ (s.m.flag (pgCap k) Cap.LOS_68 = false) ∧ (s.m.flag (pgCap k) Cap.COAST = false) ∧ (s.m.flag (pgCap k) Cap.FALLBACK = false) := by
  exact ⟨⟨((machReset.setFld 0x10 Cap.TYPE 4).setSt 0x10 1).setReg 0x10 Cap.PERIOD.off 20000000, [], []⟩, (0), (20000000), by decide +kernel⟩

theorem witness_mainsZeroCrossing :
    ∃ (s : State) (k : Fin 8) (ns amp : Nat) (locked : Bool),
      (s.m.mainOff = false) ∧ (s.m.capType k = 3) ∧ ((s.m.setFld (pgCap k) Cap.AUX (min 0xFFFF amp)).capHeld k = false) ∧ ((s.m.setFld (pgCap k) Cap.AUX (min 0xFFFF amp)).capRuns k) ∧ ((s.m.setFld (pgCap k) Cap.AUX (min 0xFFFF amp)).flag (pgCap k) Cap.LOS_68 = false) ∧ ((s.m.setFld (pgCap k) Cap.AUX (min 0xFFFF amp)).flag (pgCap k) Cap.COAST = false) := by
  exact ⟨⟨((machReset.setFld 0x10 Cap.TYPE 3).setSt 0x10 2).setReg 0x10 Cap.PERIOD.off 20000000, [], []⟩, (0), (20000000), (2300), (true), by decide +kernel⟩

theorem witness_los :
    ∃ (s : State) (k : Fin 8) (t : Nat),
      (s.m.mainOff = false) ∧ (s.m.capRuns k) ∧ (s.m.flag (pgCap k) Cap.LOS_68 = false) ∧ (s.m.capHeld k = false) ∧ (s.m.flag (pgCap k) Cap.LOCKED) ∧ (s.m.lossSeen k t) ∧ (s.m.fld (pgCap k) Cap.LOS = 1) ∧ (s.m.fld (pgCap k) Cap.HOLDOVER ≠ 0) := by
  exact ⟨⟨(((((machReset.setFld 0x10 Cap.TYPE 3).setSt 0x10 2).setFlag 0x10 Cap.LOCKED true).setFld 0x10 Cap.LOS 1).setFld 0x10 Cap.HOLDOVER 5).setReg 0x10 Cap.PERIOD.off 20000000, [], []⟩, (0), (2), by decide +kernel⟩

theorem witness_los_2 :
    ∃ (s : State) (k : Fin 8) (t : Nat),
      (s.m.mainOff = false) ∧ (s.m.capRuns k) ∧ (s.m.flag (pgCap k) Cap.LOS_68 = false) ∧ (s.m.capHeld k = false) ∧ (s.m.lossSeen k t) ∧ (s.m.fld (pgCap k) Cap.LOS = 0) := by
  exact ⟨⟨((machReset.setFld 0x10 Cap.TYPE 3).setSt 0x10 2).setReg 0x10 Cap.PERIOD.off 20000000, [], []⟩, (0), (2), by decide +kernel⟩

theorem witness_los_3 :
    ∃ (s : State) (k : Fin 8) (t : Nat),
      (s.m.mainOff = false) ∧ (s.m.capRuns k) ∧ (s.m.flag (pgCap k) Cap.LOS_68 = false) ∧ (s.m.capHeld k = false) ∧ (s.m.lossSeen k t) ∧ (s.m.fld (pgCap k) Cap.LOS = 2) ∧ (s.m.capPulsed k) ∧ (s.m.capType k = 4) := by
  exact ⟨⟨(((machReset.setFld 0x10 Cap.TYPE 4).setSt 0x10 2).setReg 0x10 Cap.PERIOD.off 20000000).setFld 0x10 Cap.LOS 2, [], []⟩, (0), (30000000), by decide +kernel⟩

theorem witness_holdoverExpiry :
    ∃ (s : State) (k : Fin 8) (turns : Nat),
      (s.m.mainOff = false) ∧ (s.m.flag (pgCap k) Cap.COAST) ∧ (s.m.fld (pgCap k) Cap.HOLDOVER ≤ turns) := by
  exact ⟨⟨machReset.setFlag 0x17 Cap.COAST true, [], []⟩, (7), (255), by decide +kernel⟩

theorem witness_relock :
    ∃ (s : State) (k : Fin 8) (phase : Fin 65536),
      (s.m.mainOff = false) ∧ (s.m.flag (pgCap k) Cap.LOS_68) ∧ (s.m.capPulsed k) ∧ (((s.m.setFlag (pgCap k) Cap.LOS_68 false).setFlag (pgCap k) Cap.FALLBACK false).capPulsed k) ∧ (((s.m.setFlag (pgCap k) Cap.LOS_68 false).setFlag (pgCap k) Cap.FALLBACK false).capRuns k) := by
  exact ⟨⟨((machReset.setFlag 0x10 Cap.LOS_68 true).setFld 0x10 Cap.TYPE 3).setSt 0x10 2, [], []⟩, (0), (100), by decide +kernel⟩

theorem witness_relock_2 :
    ∃ (s : State) (k : Fin 8) (phase : Fin 65536),
      (s.m.mainOff = false) ∧ (s.m.flag (pgCap k) Cap.LOS_68) ∧ (s.m.capPulsed k) ∧ (((s.m.setFlag (pgCap k) Cap.LOS_68 false).setFlag (pgCap k) Cap.FALLBACK false).capPulsed k) ∧ (((s.m.setFlag (pgCap k) Cap.LOS_68 false).setFlag (pgCap k) Cap.FALLBACK false).st (pgCap k) = 4) := by
  exact ⟨⟨((machReset.setFlag 0x10 Cap.LOS_68 true).setFld 0x10 Cap.TYPE 3).setSt 0x10 4, [], []⟩, (0), (100), by decide +kernel⟩

theorem witness_powGo :
    ∃ (s : State) (src : Src) (k : Fin 8) (slot : Fin 8) (v : Word),
      (s.m.mainOff = false) ∧ (s.m.takes src (pgCap k) (0x110 + 0x20 * slot) v) ∧ (v.getLsbD 0 = true) := by
  exact ⟨⟨(machReset.setFld 0x10 Cap.TYPE 3).setFld 0x10 (Cap.POW_OUT 7) 0x20, [], []⟩, (.core 0), (0), (7), (1), by decide +kernel⟩

theorem witness_powCloseDetect :
    ∃ (s : State) (k : Fin 8) (slot : Fin 8) (us : Nat),
      (s.m.mainOff = false) ∧ (s.m.powPhase k slot = 2) ∧ (s.m.capType k = 3) ∧ (us ≤ s.m.fld (pgCap k) (Cap.POW_MAX slot) + 20000) := by
  exact ⟨⟨(machReset.setFld 0x10 Cap.TYPE 3).setFld 0x10 (Cap.POW_PHASE 7) 2, [], []⟩, (0), (7), (18000), by decide +kernel⟩

theorem witness_powTimeout :
    ∃ (s : State) (k : Fin 8) (slot : Fin 8) (us : Nat),
      (s.m.mainOff = false) ∧ (s.m.powPhase k slot = 2) ∧ (s.m.capType k = 3) ∧ (s.m.fld (pgCap k) (Cap.POW_MAX slot) + 20000 ≤ us) := by
  exact ⟨⟨(machReset.setFld 0x10 Cap.TYPE 3).setFld 0x10 (Cap.POW_PHASE 7) 2, [], []⟩, (0), (7), (200000), by decide +kernel⟩

theorem witness_ripple :
    ∃ (s : State) (b : Fin 8) (ns : Nat) (v cur : Int),
      (s.m.mainOff = false) ∧ (s.m.flag (pgBridge b) Bridge.MOVING = false) := by
  exact ⟨⟨machReset, [], []⟩, (0), (1000000), (12000), (100), by decide +kernel⟩

theorem witness_ripple_2 :
    ∃ (s : State) (b : Fin 8) (ns : Nat) (v cur : Int),
      (s.m.mainOff = false) ∧ (s.m.flag (pgBridge b) Bridge.MOVING = true) ∧ ((s.m.br b).tau ≤ 2 * ns) := by
  exact ⟨⟨(machReset.modBr 0 fun a => { a with tau := 3 }).setFlag 0xA0 Bridge.MOVING true, [], []⟩, (0), (2), (12000), (100), by decide +kernel⟩

theorem witness_ripple_3 :
    ∃ (s : State) (b : Fin 8) (ns : Nat) (v cur : Int),
      (s.m.mainOff = false) ∧ (s.m.flag (pgBridge b) Bridge.MOVING = true) ∧ (2 * ns < (s.m.br b).tau) := by
  exact ⟨⟨(machReset.modBr 0 fun a => { a with tau := 3 }).setFlag 0xA0 Bridge.MOVING true, [], []⟩, (0), (1), (12000), (100), by decide +kernel⟩

theorem witness_rippleInsert :
    ∃ (s : State) (b : Fin 8) (ns : Nat),
      (s.m.mainOff = false) ∧ (s.m.flag (pgBridge b) Bridge.MOVING) ∧ ((s.m.br b).tau ≠ 0) ∧ (16 * (s.m.br b).tau ≤ 10 * ns) := by
  exact ⟨⟨(machReset.modBr 0 fun a => { a with tau := 5 }).setFlag 0xA0 Bridge.MOVING true, [], []⟩, (0), (8), by decide +kernel⟩

theorem witness_posWrite :
    ∃ (s : State) (src : Src) (b : Fin 8) (v : Word),
      (s.m.mainOff = false) ∧ (s.m.takes src (pgBridge b) 0x070 v) := by
  exact ⟨⟨machReset, [], []⟩, (.core 0), (7), (5), by decide +kernel⟩

theorem witness_stopRecognition :
    ∃ (s : State) (b : Fin 8) (ms : Nat) (cur : Int),
      (s.m.mainOff = false) ∧ ((s.m.br b).phase = .drive) ∧ (s.m.brAbsDuty b ≠ 0) ∧ (s.m.fld (pgBridge b) Bridge.STALL_T ≤ ms) ∧ (s.m.fld (pgBridge b) Bridge.ILIM ≤ 2 * cur.natAbs) ∧ (s.m.closing b = false) ∧ (s.m.flag (pgBridge b) Bridge.HOMED = false) := by
  exact ⟨⟨(machReset.modBr 0 fun a => { a with phase := .drive, duty := 5 }).setFld 0xA0 Bridge.DUTY 5, [], []⟩, (0), (255), (6000), by decide +kernel⟩

theorem witness_stopRecognition_2 :
    ∃ (s : State) (b : Fin 8) (ms : Nat) (cur : Int),
      (s.m.mainOff = false) ∧ ((s.m.br b).phase = .drive) ∧ (s.m.brAbsDuty b ≠ 0) ∧ (s.m.fld (pgBridge b) Bridge.STALL_T ≤ ms) ∧ (s.m.fld (pgBridge b) Bridge.ILIM ≤ 2 * cur.natAbs) ∧ (s.m.closing b) ∧ (s.m.flag (pgBridge b) Bridge.HOMED = false) := by
  exact ⟨⟨(machReset.modBr 0 fun a => { a with phase := .drive, duty := -5 }).setSFld 0xA0 Bridge.DUTY (-5), [], []⟩, (0), (255), (6000), by decide +kernel⟩

theorem witness_pinchCheck :
    ∃ (s : State) (b : Fin 8) (cur : Int),
      (s.m.mainOff = false) ∧ ((s.m.setSFld (pgBridge b) Bridge.I_MOT cur).pinchWatch b) ∧ ((s.m.setSFld (pgBridge b) Bridge.I_MOT cur).flag (pgBridge b) Bridge.PINCH_EN) ∧ ((s.m.setSFld (pgBridge b) Bridge.I_MOT cur).pinchOver b cur) ∧ (((s.m.setSFld (pgBridge b) Bridge.I_MOT cur).br b).exceeded = true) := by
  exact ⟨⟨((((((((machReset.modBr 0 fun a => { a with phase := .drive, duty := -5, exceeded := true, since := 300 }).setFlag 0xA0 Bridge.HOMED true).setFld 0xA0 Bridge.SPAN 100).setFlag 0xA0 Bridge.PINCH_EN true)).setBrPos 0 50).setFld 0xA0 Bridge.MARGIN 1).setFld 0xA0 Bridge.SEAL 4), [], []⟩, (0), (12000), by decide +kernel⟩

theorem witness_pinchCheck_2 :
    ∃ (s : State) (b : Fin 8) (cur : Int),
      (s.m.mainOff = false) ∧ ((s.m.setSFld (pgBridge b) Bridge.I_MOT cur).pinchWatch b) ∧ ((s.m.setSFld (pgBridge b) Bridge.I_MOT cur).flag (pgBridge b) Bridge.PINCH_EN) ∧ ((s.m.setSFld (pgBridge b) Bridge.I_MOT cur).pinchOver b cur = false) := by
  exact ⟨⟨((((((((machReset.modBr 0 fun a => { a with phase := .drive, duty := -5, exceeded := true, since := 300 }).setFlag 0xA0 Bridge.HOMED true).setFld 0xA0 Bridge.SPAN 100).setFlag 0xA0 Bridge.PINCH_EN true)).setBrPos 0 50).setFld 0xA0 Bridge.MARGIN 1).setFld 0xA0 Bridge.SEAL 4), [], []⟩, (0), (0), by decide +kernel⟩

theorem witness_pinchCheck_3 :
    ∃ (s : State) (b : Fin 8) (cur : Int),
      (s.m.mainOff = false) ∧ ((s.m.setSFld (pgBridge b) Bridge.I_MOT cur).pinchWatch b) ∧ ((s.m.setSFld (pgBridge b) Bridge.I_MOT cur).flag (pgBridge b) Bridge.PINCH_EN = false) := by
  exact ⟨⟨((((((((machReset.modBr 0 fun a => { a with phase := .drive, duty := -5, exceeded := true, since := 300 }).setFlag 0xA0 Bridge.HOMED true).setFld 0xA0 Bridge.SPAN 100).setFlag 0xA0 Bridge.PINCH_EN true)).setBrPos 0 50).setFld 0xA0 Bridge.MARGIN 1).setFld 0xA0 Bridge.SEAL 4).setFlag 0xA0 Bridge.PINCH_EN false, [], []⟩, (0), (0), by decide +kernel⟩

theorem witness_reverseDriveStart :
    ∃ (s : State) (b : Fin 8) (ms : Nat),
      (s.m.mainOff = false) ∧ ((s.m.br b).phase = .pinchBrake) ∧ (s.m.fld (pgBridge b) Bridge.DEAD_REV ≤ ms) := by
  exact ⟨⟨machReset.modBr 0 fun a => { a with phase := .pinchBrake }, [], []⟩, (0), (255), by decide +kernel⟩

theorem witness_reversalEnd :
    ∃ (s : State) (b : Fin 8) (ms : Nat) (cur : Int),
      (s.m.mainOff = false) ∧ ((s.m.br b).phase = .pinchBack) ∧ ((s.m.br b).ppos + s.m.fld (pgBridge b) Bridge.REV ≤ s.m.brPos b) ∧ (ms < s.m.fld (pgBridge b) Bridge.STALL_T) := by
  exact ⟨⟨((machReset.modBr 0 fun a => { a with phase := .pinchBack, ppos := -65536 }).setFld 0xA0 Bridge.STALL_T 5), [], []⟩, (0), (0), (0), by decide +kernel⟩

theorem witness_brakeEnd :
    ∃ (s : State) (b : Fin 8) (ms : Nat) (v cur : Int),
      (s.m.mainOff = false) ∧ ((s.m.br b).phase = .stopBrake) ∧ (100 ≤ ms) := by
  exact ⟨⟨machReset.modBr 0 fun a => { a with phase := .stopBrake }, [], []⟩, (0), (100), (0), (0), by decide +kernel⟩

theorem witness_reverseBrakeEnd :
    ∃ (s : State) (b : Fin 8) (ms : Nat),
      (s.m.mainOff = false) ∧ ((s.m.br b).phase = .turnBrake) ∧ (s.m.fld (pgBridge b) Bridge.DEAD_REV ≤ ms) := by
  exact ⟨⟨machReset.modBr 0 fun a => { a with phase := .turnBrake }, [], []⟩, (0), (255), by decide +kernel⟩

theorem witness_limiting :
    ∃ (s : State) (b : Fin 8) (cur : Int),
      (s.m.mainOff = false) ∧ ((s.m.br b).duty ≠ 0) ∧ (s.m.brLimit b ≤ cur.natAbs) := by
  exact ⟨⟨machReset.modBr 0 fun a => { a with duty := 1 }, [], []⟩, (0), (12000), by decide +kernel⟩

theorem witness_limitLong :
    ∃ (s : State) (b : Fin 8) (ms : Nat),
      (s.m.mainOff = false) ∧ ((s.m.br b).duty ≠ 0) ∧ (2000 ≤ ms) := by
  exact ⟨⟨machReset.modBr 0 fun a => { a with duty := 1 }, [], []⟩, (0), (2000), by decide +kernel⟩

theorem witness_openLoad :
    ∃ (s : State) (b : Fin 8) (cur : Int) (ms : Nat),
      (s.m.mainOff = false) ∧ ((s.m.br b).phase = .drive) ∧ (32767 ≤ 4 * s.m.brAbsDuty b) ∧ (cur.natAbs < 50) ∧ (100 ≤ ms) := by
  exact ⟨⟨(machReset.modBr 0 fun a => { a with phase := .drive, duty := -268427264 }).setSFld 0xA0 Bridge.DUTY (-8192), [], []⟩, (0), (49), (100), by decide +kernel⟩

theorem witness_positionTargetReached :
    ∃ (s : State) (b : Fin 8),
      (s.m.mainOff = false) ∧ (s.m.fld (pgBridge b) Bridge.MODE = 3) ∧ ((s.m.br b).phase = .drive) ∧ ((s.m.br b).aimUp = true) ∧ (s.m.sfld (pgBridge b) Bridge.TARGET - s.m.fld (pgBridge b) Bridge.LEAD ≤ s.m.brPos b) := by
  exact ⟨⟨(machReset.setFld 0xA0 Bridge.MODE 3).modBr 0 fun a => { a with phase := .drive, aimUp := true }, [], []⟩, (0), by decide +kernel⟩

theorem witness_positionTargetReached_2 :
    ∃ (s : State) (b : Fin 8),
      (s.m.mainOff = false) ∧ (s.m.fld (pgBridge b) Bridge.MODE = 3) ∧ ((s.m.br b).phase = .drive) ∧ ((s.m.br b).aimUp = false) ∧ (s.m.brPos b ≤ s.m.sfld (pgBridge b) Bridge.TARGET + s.m.fld (pgBridge b) Bridge.LEAD) := by
  exact ⟨⟨(machReset.setFld 0xA0 Bridge.MODE 3).modBr 0 fun a => { a with phase := .drive, aimUp := false }, [], []⟩, (0), by decide +kernel⟩

theorem witness_parkInputEdge :
    ∃ (s : State) (b : Fin 8) (rising : Bool),
      (s.m.mainOff = false) ∧ (s.m.flag (pgBridge b) Bridge.WIPER) ∧ (s.m.fld (pgBridge b) Bridge.PARK_IN ≠ 0xFFFF) ∧ (s.m.flag (pgBridge b) Bridge.PARK_POL = rising) := by
  exact ⟨⟨(machReset.setFlag 0xA0 Bridge.WIPER true).setFld 0xA0 Bridge.PARK_IN 0x100, [], []⟩, (0), (true), by decide +kernel⟩

theorem witness_parked :
    ∃ (s : State) (b : Fin 8),
      (s.m.mainOff = false) ∧ ((s.m.br b).phase = .drive) ∧ (s.m.fld (pgBridge b) Bridge.MODE = 6) ∧ (s.m.fld (pgBridge b) Bridge.PARK_IN ≠ 0xFFFF) ∧ ((s.m.br b).parkEdge = true) ∧ ((s.m.fld (pgBridge b) Bridge.PARK_OFS : Int) ≤ s.m.brPos b) := by
  exact ⟨⟨((machReset.setFld 0xA0 Bridge.MODE 6).setFld 0xA0 Bridge.PARK_IN 0x100).modBr 0 fun a => { a with phase := .drive, parkEdge := true }, [], []⟩, (0), by decide +kernel⟩

theorem witness_parked_2 :
    ∃ (s : State) (b : Fin 8),
      (s.m.mainOff = false) ∧ ((s.m.br b).phase = .drive) ∧ (s.m.fld (pgBridge b) Bridge.MODE = 5) ∧ (s.m.fld (pgBridge b) Bridge.PARK_IN ≠ 0xFFFF) ∧ ((s.m.br b).parkEdge = true) ∧ ((s.m.fld (pgBridge b) Bridge.PARK_OFS : Int) ≤ s.m.brPos b) := by
  exact ⟨⟨((machReset.setFld 0xA0 Bridge.MODE 5).setFld 0xA0 Bridge.PARK_IN 0x100).modBr 0 fun a => { a with phase := .drive, parkEdge := true }, [], []⟩, (0), by decide +kernel⟩

theorem witness_parkFail :
    ∃ (s : State) (b : Fin 8) (ns : Nat),
      (s.m.mainOff = false) ∧ ((s.m.br b).phase = .drive) ∧ (s.m.fld (pgBridge b) Bridge.MODE = 6) ∧ (2 * s.m.fld (pgBridge b) Bridge.CYCLE ≤ (s.m.br b).parkRipples) := by
  exact ⟨⟨(machReset.setFld 0xA0 Bridge.MODE 6).modBr 0 fun a => { a with phase := .drive, parkRipples := 131070 }, [], []⟩, (0), (0), by decide +kernel⟩

theorem witness_intervalWaitEnd :
    ∃ (s : State) (b : Fin 8) (tenths : Nat),
      (s.m.mainOff = false) ∧ (s.m.flag (pgBridge b) Bridge.WAIT) ∧ (s.m.fld (pgBridge b) Bridge.INTERVAL ≤ tenths) ∧ (s.m.st (pgBridge b) = 2) ∧ ((s.m.br b).hot = false) ∧ ((s.m.holdOn (pgBridge b)).defer = false) ∧ ((s.m.holdOn (pgBridge b)).off = false) := by
  exact ⟨⟨(machReset.setFlag 0xA0 Bridge.WAIT true).setSt 0xA0 2, [], []⟩, (0), (65535), by decide +kernel⟩

theorem witness_motorStopped :
    ∃ (s : State) (b : Fin 8) (v cur : Int),
      (s.m.mainOff = false) ∧ ((s.m.backEmf b v cur).natAbs < 500000) := by
  exact ⟨⟨machReset.setFlag 0xA0 Bridge.MOVING true, [], []⟩, (0), (499), (0), by decide +kernel⟩

theorem witness_rungTurnStart :
    ∃ (s : State) (p : Fin 24) (ticks : Nat) (t : RatTarget),
      (s.m.mainOff = false) ∧ (s.m.entering = false) ∧ ((s.m.rat p).turnDue = true) ∧ ((s.m.rat p).hot = false) ∧ ((s.m.rat p).ready = some t) ∧ (t.fresh = true) ∧ ((s.m.turnOpened p ticks).dimAvail p = true) ∧ ((s.m.turnOpened p ticks).running (pgRat p) = true) := by
  exact ⟨⟨((((({ machReset with marks := [(0, ⟨0, 0xD8, 4, 0, 65536, false, false, 0, true, 8, none⟩)] } : Mach).modRat 0 fun a => { a with turnDue := true, ready := some ⟨327680, 0, 0, 8, true⟩ }).setFlag 0xC0 Rat.RUNG_EN true).setFlag 0xC0 Rat.RUNGS true).setFlag 0xC0 Rat.CHAIN_READY true).setSt 0xC0 2, [], []⟩, (0), (16000), (⟨327680, 0, 0, 8, true⟩), by decide +kernel⟩

theorem witness_rungEdge :
    ∃ (s : State) (p : Fin 24) (ns step : Nat) (i : Nat),
      (s.m.mainOff = false) ∧ ((s.m.rat p).pattern ≠ 0) ∧ (nextEdge (s.m.rat p).turnTicks (s.m.rat p).pattern (s.m.fld (pgRat p) Rat.DIV_NOW) (s.m.rat p).edge (s.m.rat p).lit = some i) ∧ (625 * rungTick (s.m.rat p).turnTicks (s.m.rat p).pattern (s.m.fld (pgRat p) Rat.DIV_NOW) i ≤ 10 * ns + 100 * s.m.fld (pgRat p) Rat.LEAD) ∧ (100 * ((step : Int) - s.m.ffStep p).natAbs ≤ s.m.fld (pgRat p) Rat.FF_TOL * s.m.ffStep p) ∧ ((s.m.rat p).ffGood < 255) := by
  exact ⟨⟨((machReset.modRat 0 fun a => { a with pattern := 32768, turnTicks := 16000, edge := 1, lit := true }).setFld 0xC0 Rat.DIV_NOW 1), [], []⟩, (0), (500000), (0), (1), by decide +kernel⟩

theorem witness_easeStep :
    ∃ (s : State) (p : Fin 24),
      (s.m.mainOff = false) ∧ (s.m.entering = false) ∧ (s.m.dimAvail p = false) ∧ (s.m.running (pgRat p)) ∧ ((s.m.rat p).hot = false) ∧ (((s.m.easeEval p 16000).rat p).pending = none) := by
  exact ⟨⟨machReset.setSt 0xD7 2, [], []⟩, (23), by decide +kernel⟩

theorem witness_easeStep_2 :
    ∃ (s : State) (p : Fin 24) (t : RatTarget),
      (s.m.mainOff = false) ∧ (s.m.entering = false) ∧ (s.m.dimAvail p = false) ∧ (s.m.running (pgRat p)) ∧ ((s.m.rat p).hot = false) ∧ (((s.m.easeEval p 16000).rat p).pending = some t) := by
  exact ⟨⟨(machReset.setSt 0xD7 2).modRat 23 fun a => { a with ready := some ⟨327680, 0, 0, 8, true⟩ }, [], []⟩, (23), (⟨327680, 0, 0, 8, true⟩), by decide +kernel⟩

theorem witness_pLimit :
    ∃ (s : State) (p : Fin 24) (v cur vLow curLow : Nat),
      (s.m.mainOff = false) ∧ (s.m.flag (pgRat p) Rat.REGULATING) ∧ (s.m.fld (pgRat p) Rat.PMAX * 10000 < v * cur) ∧ (v ≤ s.m.fld (pgRat p) Rat.VMAX * 10) ∧ (s.m.flag (pgRat p) Rat.P_LIMIT = false) := by
  exact ⟨⟨(machReset.setFlag 0xC0 Rat.REGULATING true).setFld 0xC0 Rat.VMAX 1000, [], []⟩, (0), (5000), (20000), (4000), (10000), by decide +kernel⟩

theorem witness_openString :
    ∃ (s : State) (p : Fin 24) (v cur ms : Nat),
      (s.m.mainOff = false) ∧ ((s.m.ratMeasure p v cur).flag (pgRat p) Rat.REGULATING) ∧ ((s.m.ratMeasure p v cur).fld (pgRat p) Rat.VMAX * 10 ≤ v) ∧ (2 * cur < (s.m.ratMeasure p v cur).ratSetpoint p) ∧ (2 ≤ ms) := by
  exact ⟨⟨(((machReset.setFlag 0xC0 Rat.REGULATING true).setFld 0xC0 Rat.LEVEL_NOW 655360).setSt 0xC0 2).setFld 0xC0 Rat.IMAX 100, [], []⟩, (0), (65535), (0), (2), by decide +kernel⟩

theorem witness_shortString :
    ∃ (s : State) (p : Fin 24) (v cur ms : Nat),
      (s.m.mainOff = false) ∧ ((s.m.ratMeasure p v cur).flag (pgRat p) Rat.REGULATING) ∧ (600 ≤ (s.m.ratMeasure p v cur).fld (pgRat p) Rat.V_EXP) ∧ (4 * v < (s.m.ratMeasure p v cur).fld (pgRat p) Rat.V_EXP) ∧ (1 ≤ ms) := by
  exact ⟨⟨(machReset.setFlag 0xC0 Rat.REGULATING true).setFld 0xC0 Rat.V_EXP 600, [], []⟩, (0), (149), (0), (1), by decide +kernel⟩

theorem witness_regulatorResume :
    ∃ (s : State) (n : Fin 32768) (tj : Int),
      (s.m.mainOff = false) ∧ (clsOf n = .rat) ∧ (((s.m.setSFld n Rat.TJ tj).rat (n - 0xC0)).hot = true) ∧ (tj < 1500) := by
  exact ⟨⟨machReset.modRat 0 fun a => { a with hot := true }, [], []⟩, (0xC0), (1499), by decide +kernel⟩

theorem witness_regFault :
    ∃ (s : State) (n : Fin 32768) (cur ms : Nat),
      (s.m.mainOff = false) ∧ (clsOf n = .rat) ∧ ((s.m.setSat n Rat.I_STR cur).flag n Rat.REGULATING) ∧ ((s.m.setSat n Rat.I_STR cur).flag n Rat.P_LIMIT = false) ∧ ((s.m.setSat n Rat.I_STR cur).flag n Rat.V_LIMIT = false) ∧ (s.m.ratSetpoint (n - 0xC0) < 5 * ((cur : Int) - s.m.ratSetpoint (n - 0xC0)).natAbs) ∧ (10 ≤ ms) := by
  exact ⟨⟨machReset.setFlag 0xC0 Rat.REGULATING true, [], []⟩, (0xC0), (1), (10), by decide +kernel⟩

theorem witness_ledClamp :
    ∃ (s : State) (p : Fin 24) (r : Fin 256) (v cur : Nat),
      (s.m.mainOff = false) ∧ (s.m.rungClosed p r = false) := by
  exact ⟨⟨machReset, [], []⟩, (23), (255), (65535), (1), by decide +kernel⟩

theorem witness_rungRetest :
    ∃ (s : State) (p : Fin 24) (r : Fin 256) (sec : Nat) (again : Bool),
      (s.m.mainOff = false) ∧ (s.m.entering = false) ∧ ((s.m.rat p).clamped.contains r.val) ∧ (tget (s.m.rat p).retests 0 r.val = 0) ∧ (s.m.fld (pgRat p) Rat.RETEST_T ≤ sec) ∧ (s.m.isFrozen (pgRat p) = false) := by
  exact ⟨⟨machReset.modRat 0 fun a => { a with clamped := [255] }, [], []⟩, (0), (255), (65535), (false), by decide +kernel⟩

theorem witness_rungRetest_2 :
    ∃ (s : State) (p : Fin 24) (r : Fin 256) (sec : Nat) (again : Bool),
      (s.m.mainOff = false) ∧ (s.m.entering = false) ∧ ((s.m.rat p).clamped.contains r.val) ∧ (tget (s.m.rat p).retests 0 r.val = 4) ∧ (again = true) ∧ (s.m.isFrozen (pgRat p) = false) := by
  exact ⟨⟨machReset.modRat 0 fun a => { a with clamped := [255], retests := [(255, 4)] }, [], []⟩, (0), (255), (0), (true), by decide +kernel⟩

theorem witness_bypassRelease :
    ∃ (s : State) (src : Src) (p : Fin 24) (ix : Fin 8) (v : Word),
      (s.m.mainOff = false) ∧ (s.m.takes src (pgRat p) (0x100 + 4 * ix) v) := by
  exact ⟨⟨machReset, [], []⟩, (.core 0), (23), (7), (0x80000000#32), by decide +kernel⟩

theorem witness_divChoice :
    ∃ (s : State) (n : Fin 32768),
      (s.m.mainOff = false) ∧ (s.m.divHanded n) ∧ (s.m.fld (pgCap (s.m.fld n Hdr.BASE_CAP)) Cap.RATE ≠ 0) ∧ (tget s.m.policy.chosen none n = none) ∧ (s.m.isFrozen n = false) ∧ (clsOf n = .out) := by
  exact ⟨⟨(({ machReset with policy := { machReset.policy with live := [(0, ⟨0x20000020, 0⟩)] } } : Mach).setFld 0x10 Cap.RATE 65536).setFld 0x20 Out.PWM_MODE 2, [], []⟩, (0x20), by decide +kernel⟩

theorem witness_dimLost :
    ∃ (s : State) (p : Fin 24),
      (s.m.mainOff = false) ∧ (s.m.heaveRun (chainOf p) (s.m.fld (pgRat p) Hdr.BASE_CAP) = false) ∧ ((s.m.rat p).hadDim) ∧ ((s.m.setFlag (pgRat p) Rat.CHAIN_READY false).fld (pgRat p) Rat.LEVEL_NOW < 65536) ∧ ((s.m.setFlag (pgRat p) Rat.CHAIN_READY false).dimAvail p = false) ∧ ((s.m.setFlag (pgRat p) Rat.CHAIN_READY false).flag (pgRat p) Rat.CHAIN_READY = false) := by
  exact ⟨⟨(machReset.setFld 0xC0 Rat.LEVEL_NOW 65535).modRat 0 fun a => { a with hadDim := true }, [], []⟩, (0), by decide +kernel⟩

theorem witness_sinkOpen :
    ∃ (s : State) (k : Fin 16) (v us : Nat),
      (s.m.mainOff = false) ∧ ((s.m.sinkPin k v).flag (pgSink k) Sink.SINKING) ∧ (v < 25) ∧ (1000 ≤ us) := by
  exact ⟨⟨machReset.setFlag 0xDC Sink.SINKING true, [], []⟩, (0), (24), (1000), by decide +kernel⟩

theorem witness_highV :
    ∃ (s : State) (k : Fin 16) (v ms : Nat),
      (s.m.mainOff = false) ∧ ((s.m.sinkPin k v).flag (pgSink k) Sink.SINKING) ∧ ((s.m.sinkPin k v).fld (pgSink k) Sink.VHIGH < v) ∧ (10 ≤ ms) := by
  exact ⟨⟨machReset.setFlag 0xDC Sink.SINKING true, [], []⟩, (0), (65535), (10), by decide +kernel⟩

theorem witness_foldback :
    ∃ (s : State) (k : Fin 16) (v : Nat),
      (s.m.mainOff = false) ∧ (s.m.flag (pgSink k) Sink.SINKING) ∧ (6000000 < v * sinkCurrent (s.m.fld pgCompat Compat.GLOBAL) (s.m.sink k).cur) ∧ (((s.m.setFlag (pgSink k) Sink.FOLDBACK true).setSat (pgSink k) Sink.V_PIN v).flag (pgSink k) Sink.SINKING) := by
  exact ⟨⟨((machReset.setFlag 0xDC Sink.SINKING true).setFld pgCompat Compat.GLOBAL 255).modSink 0 fun a => { a with cur := 255 }, [], []⟩, (0), (2000), by decide +kernel⟩

theorem witness_jb4410ImageWrite :
    ∃ (s : State) (src : Src) (a : Fin 48) (v : Word),
      (s.m.mainOff = false) ∧ (s.m.takes src pgCompat (0x100 + 4 * a) v) := by
  exact ⟨⟨machReset, [], []⟩, (.core 0), (1), (5), by decide +kernel⟩

theorem witness_latch :
    ∃ (s : State) (src : Src) (v : Word),
      (s.m.mainOff = false) ∧ (s.m.takes src pgCompat 0x1A8 v) := by
  exact ⟨⟨machReset, [], []⟩, (.core 0), (1), by decide +kernel⟩

theorem witness_modeWrite :
    ∃ (s : State) (src : Src) (v : Word),
      (s.m.mainOff = false) ∧ (s.m.takes src pgCompat 0x100 v) := by
  exact ⟨⟨machReset, [], []⟩, (.core 0), (0), by decide +kernel⟩

theorem witness_peakEnd :
    ∃ (s : State) (v : Fin 8) (ms mj : Nat),
      (s.m.mainOff = false) ∧ (s.m.vPhase v = 2) ∧ (s.m.fld (pgValve v) Valve.T_PEAK ≤ ms) ∧ ((s.m.setSat (pgValve v) Valve.PK_LAST mj).flag (pgValve v) Valve.PI_DET = false) ∧ (((s.m.setSat (pgValve v) Valve.PK_LAST mj).valveWant v).1 = 2) := by
  exact ⟨⟨((((((machReset.setPhase 0 2).setSt 0xA8 2).setFld 0xA8 Valve.MODE 2).setFld 0xA8 Valve.I_SET 1000).modUnit 0xA8 fun u => { u with enabled := true }).setSt 0xB0 1).modUnit 0xB0 fun u => { u with enabled := true }, [], []⟩, (0), (255), (100), by decide +kernel⟩

theorem witness_pullIn :
    ∃ (s : State) (v : Fin 8) (tens top cur : Nat),
      (s.m.mainOff = false) ∧ ((s.m.setSat (pgValve v) Valve.I_COIL cur).vPhase v = 2) ∧ ((s.m.setSat (pgValve v) Valve.I_COIL cur).flag (pgValve v) Valve.PI_DET) ∧ ((s.m.setSat (pgValve v) Valve.I_COIL cur).flag (pgValve v) Valve.PULLED = false) ∧ (top < (s.m.setSat (pgValve v) Valve.I_COIL cur).fld (pgValve v) Valve.I_PEAK) ∧ (cur + 10 * (s.m.setSat (pgValve v) Valve.I_COIL cur).fld (pgValve v) Valve.PI_DIP ≤ top) := by
  exact ⟨⟨((machReset.setPhase 0 2).setFlag 0xA8 Valve.PI_DET true).setFld 0xA8 Valve.I_PEAK 4000, [], []⟩, (0), (70000), (3999), (0), by decide +kernel⟩

theorem witness_valveTurnOff :
    ∃ (s : State) (v : Fin 8),
      (s.m.mainOff = false) ∧ (s.m.driving v) := by
  exact ⟨⟨machReset.setPhase 7 3, [], []⟩, (7), by decide +kernel⟩

theorem witness_decayEnd :
    ∃ (s : State) (v : Fin 8) (cur : Nat),
      (s.m.mainOff = false) ∧ (s.m.vPhase v = 5) ∧ (cur < 10) := by
  exact ⟨⟨machReset.setPhase 7 5, [], []⟩, (7), (9), by decide +kernel⟩

theorem witness_railUp :
    ∃ (s : State) (v : Fin 8) (duty cur ms : Nat),
      (s.m.mainOff = false) ∧ ((s.m.setSat (pgValve v) Valve.I_COIL cur).boosted) ∧ ((s.m.setSat (pgValve v) Valve.I_COIL cur).flag pgBoost Boost.READY) ∧ ((s.m.setSat (pgValve v) Valve.I_COIL cur).vPhase v = 4) ∧ ((s.m.setSat (pgValve v) Valve.I_COIL cur).flag (pgVhs (switchOf v)) Vhs.RAIL = false) ∧ (1000 ≤ duty) ∧ (100 * cur < 95 * (s.m.setSat (pgValve v) Valve.I_COIL cur).valveSet v) ∧ (10 ≤ ms) := by
  exact ⟨⟨((((((((machReset.setFld (pgBank 3) Bank.CLASS 0).setPhase 0 4).setFlag 0xB4 Boost.READY true).setSt 0xA8 2).setFld 0xA8 Valve.MODE 2).setFld 0xA8 Valve.I_SET 1000).modUnit 0xA8 fun u => { u with enabled := true }).setSt 0xB0 1).modUnit 0xB0 fun u => { u with enabled := true }, [], []⟩, (0), (1000), (0), (10), by decide +kernel⟩

theorem witness_recovering :
    ∃ (s : State) (vc : Nat) (cur : Int) (mj : Nat),
      (s.m.mainOff = false) ∧ (s.m.boosted) ∧ (s.m.flag pgBoost Boost.RECOVERING = false) ∧ (10 * s.m.fld pgBoost Boost.V_SET + 200 < vc) := by
  exact ⟨⟨(machReset.setFld (pgBank 3) Bank.CLASS 0), [], []⟩, (65535), (-100), (0), by decide +kernel⟩

theorem witness_boostOv :
    ∃ (s : State) (vc : Nat),
      (s.m.mainOff = false) ∧ ((s.m.boostVc vc).boosted) ∧ (6500 < vc) := by
  exact ⟨⟨(machReset.setFld (pgBank 3) Bank.CLASS 0), [], []⟩, (6501), by decide +kernel⟩

theorem witness_boostUv :
    ∃ (s : State) (vc ms : Nat),
      (s.m.mainOff = false) ∧ ((s.m.boostVc vc).boosted) ∧ ((s.m.boostVc vc).anyPeak) ∧ (vc + 600 < 10 * (s.m.boostVc vc).fld pgBoost Boost.V_SET) ∧ (10 ≤ ms) := by
  exact ⟨⟨(machReset.setFld (pgBank 3) Bank.CLASS 0).setPhase 7 2, [], []⟩, (0), (10), by decide +kernel⟩

theorem witness_boostFault :
    ∃ (s : State) (vc ms : Nat),
      (s.m.mainOff = false) ∧ ((s.m.boostVc vc).boosted) ∧ ((s.m.boostVc vc).boostOk) ∧ ((s.m.boostVc vc).flag pgBoost Boost.READY = false) ∧ (20 ≤ ms) := by
  exact ⟨⟨((machReset.setFld (pgBank 3) Bank.CLASS 0).modUnit 0xB4 fun u => { u with enabled := true }).setSt 0xB4 2, [], []⟩, (0), (20), by decide +kernel⟩

theorem witness_coilResistanceUpdate :
    ∃ (s : State) (v : Fin 8) (vm : Int) (im : Nat),
      (s.m.mainOff = false) ∧ ((s.m.coilSteady v).isSome) ∧ ((s.m.valve v).touched = false) ∧ (100 ≤ im) ∧ ((s.m.coilMeasured v vm im).isFrozen (pgValve v) = false) ∧ (((s.m.coilMeasured v vm im).fld (pgValve v) Valve.R_MIN : Int) ≤ (s.m.coilMeasured v vm im).coilEstimate v vm im) ∧ ((s.m.coilMeasured v vm im).coilEstimate v vm im ≤ ((s.m.coilMeasured v vm im).fld (pgValve v) Valve.R_MAX : Int)) := by
  exact ⟨⟨((machReset.setPhase 0 3).setFld 0xA8 Valve.R_EST 10000).setFld 0xA8 Valve.R_MAX 20000, [], []⟩, (0), (1000), (100), by decide +kernel⟩

theorem witness_openCoil :
    ∃ (s : State) (v : Fin 8) (duty cur ms vm im rmMs : Nat),
      (s.m.mainOff = false) ∧ ((s.m.setSat (pgValve v) Valve.I_COIL cur).driving v) ∧ (100 ≤ im) ∧ (4 * (s.m.setSat (pgValve v) Valve.I_COIL cur).fld (pgValve v) Valve.R_MAX * im < 1000 * vm) ∧ (1000 ≤ rmMs) := by
  exact ⟨⟨machReset.setPhase 7 2, [], []⟩, (7), (0), (0), (0), (65535), (100), (1000), by decide +kernel⟩

theorem witness_dutyBin :
    ∃ (s : State) (k : Fin 4) (a b ea eb : Nat),
      (s.m.mainOff = false) := by
  exact ⟨⟨machReset, [], []⟩, (3), (10000), (0), (100), (0), by decide +kernel⟩

theorem witness_vhsStuck :
    ∃ (s : State) (k : Fin 4) (ms : Nat),
      (s.m.mainOff = false) ∧ (s.m.flag (pgVhs k) Vhs.ON = false) ∧ (1 ≤ ms) := by
  exact ⟨⟨machReset, [], []⟩, (3), (1), by decide +kernel⟩

theorem witness_boostReady :
    ∃ (s : State) (vc : Nat) (cur : Int),
      (s.m.mainOff = false) := by
  exact ⟨⟨machReset, [], []⟩, (6500), (-100), by decide +kernel⟩

theorem witness_inWindow :
    ∃ (s : State) (ix : Fin 96) (cur : Nat) (lim : Bool) (v : Nat),
      (s.m.mainOff = false) ∧ (s.m.entering = false) ∧ ((s.m.unit (pgIn ix)).enabled) ∧ (s.m.st (pgIn ix) ≠ 0) ∧ (s.m.st (pgIn ix) ≠ 5) := by
  exact ⟨⟨(machReset.modUnit 0x100 fun u => { u with enabled := true }).setSt 0x100 2, [], []⟩, (0), (100), (false), (1000), by decide +kernel⟩

theorem witness_long :
    ∃ (s : State) (ix : Fin 96) (ms : Nat),
      (s.m.mainOff = false) ∧ (s.m.entering = false) ∧ (s.m.flag (pgIn ix) Inp.ACTIVE) ∧ (s.m.flag (pgIn ix) Inp.LONG_T) ∧ (s.m.fld (pgIn ix) Inp.LONG_T ≤ ms) ∧ ((s.m.inp ix).longDone = false) ∧ ((s.m.inp ix).recheck = false) := by
  exact ⟨⟨(machReset.setFlag 0x15F Inp.ACTIVE true).setFld 0x15F Inp.LONG_T 1, [], []⟩, (95), (1), by decide +kernel⟩

theorem witness_bandErr :
    ∃ (s : State) (ix : Fin 96) (ms : Nat),
      (s.m.mainOff = false) ∧ (s.m.running (pgIn ix)) ∧ (s.m.fld (pgIn ix) Inp.BAND = 4) ∧ (50 ≤ ms) := by
  exact ⟨⟨(machReset.setFld 0x15F Inp.BAND 4).setSt 0x15F 2, [], []⟩, (95), (50), by decide +kernel⟩

theorem witness_broken :
    ∃ (s : State) (ix : Fin 96) (ms : Nat),
      (s.m.mainOff = false) ∧ (s.m.running (pgIn ix)) ∧ (s.m.fld (pgIn ix) Inp.BAND = 0) ∧ (20 ≤ ms) := by
  exact ⟨⟨(machReset.setFld 0x15F Inp.BAND 0).setSt 0x15F 2, [], []⟩, (95), (20), by decide +kernel⟩

theorem witness_broken_2 :
    ∃ (s : State) (ix : Fin 96) (ms : Nat),
      (s.m.mainOff = false) ∧ (s.m.running (pgIn ix)) ∧ (s.m.fld (pgIn ix) Inp.BAND = 3) ∧ (20 ≤ ms) := by
  exact ⟨⟨(machReset.setFld 0x15F Inp.BAND 3).setSt 0x15F 2, [], []⟩, (95), (20), by decide +kernel⟩

theorem witness_cleaningPulse :
    ∃ (s : State) (ix : Fin 96) (ms : Nat),
      (s.m.mainOff = false) ∧ (s.m.entering = false) ∧ ((s.m.inp ix).train) ∧ (s.m.flag (pgIn ix) Inp.CLEAN_EN) ∧ ((s.m.inp ix).pulses = 0) := by
  exact ⟨⟨(machReset.modInp 0 fun a => { a with train := true, pulses := 0 }).setFlag 0x100 Inp.CLEAN_EN true, [], []⟩, (0), (0), by decide +kernel⟩

theorem witness_touchScan :
    ∃ (s : State) (readings : List (BitVec 16 × BitVec 16)),
      (s.m.mainOff = false) ∧ (s.m.entering = false) := by
  exact ⟨⟨machReset, [], []⟩, ([]), by decide +kernel⟩

theorem witness_stuck :
    ∃ (s : State) (tc : Fin 16) (sec : Nat),
      (s.m.mainOff = false) ∧ (s.m.flag (pgTouch tc) Touch.TOUCHED) ∧ (s.m.flag (pgTouch tc) Touch.STUCK_EN) ∧ (s.m.fld (pgTouch tc) Touch.STUCK_T ≤ sec) ∧ (((((s.m.setFlag (pgTouch tc) Touch.TOUCHED false).touchEvent tc Touch.STUCKS Touch.IRQ_STUCK).raise (pgTouch tc) 0).isFrozen (pgTouch tc))) := by
  exact ⟨⟨((machReset.setFlag 0x160 Touch.TOUCHED true).setFlag 0x160 Touch.STUCK_EN true).freezeUnit 0x160, [], []⟩, (0), (255), by decide +kernel⟩

theorem witness_stuck_2 :
    ∃ (s : State) (tc : Fin 16) (sec : Nat),
      (s.m.mainOff = false) ∧ (s.m.flag (pgTouch tc) Touch.TOUCHED) ∧ (s.m.flag (pgTouch tc) Touch.STUCK_EN) ∧ (s.m.fld (pgTouch tc) Touch.STUCK_T ≤ sec) ∧ (((((s.m.setFlag (pgTouch tc) Touch.TOUCHED false).touchEvent tc Touch.STUCKS Touch.IRQ_STUCK).raise (pgTouch tc) 0).isFrozen (pgTouch tc)) = false) := by
  exact ⟨⟨(machReset.setFlag 0x160 Touch.TOUCHED true).setFlag 0x160 Touch.STUCK_EN true, [], []⟩, (0), (255), by decide +kernel⟩

theorem witness_water :
    ∃ (s : State) (tc : Fin 16) (sec : Nat),
      (s.m.mainOff = false) ∧ (s.m.flag (pgTouch tc) Touch.WATER) ∧ (10 ≤ sec) := by
  exact ⟨⟨machReset.setFlag 0x16F Touch.WATER true, [], []⟩, (15), (10), by decide +kernel⟩

theorem witness_shield :
    ∃ (s : State) (tc : Fin 16) (ms : Nat),
      (s.m.mainOff = false) ∧ (10 ≤ ms) := by
  exact ⟨⟨machReset, [], []⟩, (15), (10), by decide +kernel⟩

theorem witness_shedTriggerBegin :
    ∃ (s : State) (k : Fin 4),
      (s.m.mainOff = false) ∧ (s.m.entering = false) ∧ ((s.m.trigShow.setCalm k false).triggered k) ∧ ((s.m.trigShow.setCalm k false).flag pgPolicy Policy.SHED_EN) ∧ ((s.m.trigShow.setCalm k false).isFrozen pgPolicy = false) := by
  exact ⟨⟨((machReset.setFlag 0x18 Bank.SAG true).setFlag pgPolicy (Policy.TRIG_SAG 0) true).setFlag pgPolicy Policy.SHED_EN true, [], []⟩, (0), by decide +kernel⟩

theorem witness_shedStageRaise :
    ∃ (s : State) (k : Fin 4) (ms : Nat),
      (s.m.mainOff = false) ∧ (s.m.entering = false) ∧ (s.m.triggered k) ∧ (s.m.flag pgPolicy Policy.SHED_EN) ∧ (s.m.isFrozen pgPolicy = false) ∧ (s.m.stepT k ≤ ms) ∧ (s.m.stage k < s.m.ceil k) := by
  exact ⟨⟨(((machReset.setFlag 0x1B Bank.SAG true).setFlag pgPolicy (Policy.TRIG_SAG 3) true).setFlag pgPolicy Policy.SHED_EN true).setFld pgPolicy (Policy.CEIL 3) 3, [], []⟩, (3), (65535), by decide +kernel⟩

theorem witness_shedStageLower :
    ∃ (s : State) (k : Fin 4) (ms : Nat),
      (s.m.mainOff = false) ∧ (s.m.entering = false) ∧ (s.m.flag pgPolicy Policy.SHED_EN = false) ∧ (s.m.isFrozen pgPolicy = false) ∧ (s.m.stepT k ≤ ms) := by
  exact ⟨⟨machReset.setFlag pgPolicy Policy.SHED_EN false, [], []⟩, (3), (65535), by decide +kernel⟩

theorem witness_shedEnWrite :
    ∃ (s : State) (src : Src) (v : Word),
      (s.m.mainOff = false) ∧ (s.m.takes src pgPolicy 0x040 v) := by
  exact ⟨⟨machReset, [], []⟩, (.core 0), (1), by decide +kernel⟩

theorem witness_ceilWrite :
    ∃ (s : State) (src : Src) (k : Fin 4) (v : Word),
      (s.m.mainOff = false) ∧ (s.m.takes src pgPolicy (0x088 + 4 * k) v) := by
  exact ⟨⟨machReset, [], []⟩, (.core 0), (3), (machReset.reg pgPolicy 0x094), by decide +kernel⟩

theorem witness_alive :
    ∃ (s : State) (src : Src) (c : Fin 4) (v : Word),
      (s.m.mainOff = false) ∧ (s.m.takes src pgPolicy (0x048 + 4 * c) v) := by
  exact ⟨⟨machReset, [], []⟩, (.core 5), (3), (1), by decide +kernel⟩

theorem witness_slackExpiry :
    ∃ (s : State) (c : Fin 4) (ms : Nat),
      (s.m.mainOff = false) ∧ (s.m.coreSt (2 + c) ≠ 4) ∧ (s.m.monitored (2 + c)) ∧ (tget s.m.policy.window 0 (2 + c) ≠ 0) ∧ (tget s.m.policy.window 0 (2 + c) ≤ ms) := by
  exact ⟨⟨{ machReset.setFld pgPolicy Policy.RUNNING 15 with policy := { machReset.policy with window := [(5, 100)] } }, [], []⟩, (3), (65535), by decide +kernel⟩

theorem witness_automaticResumption :
    ∃ (s : State) (c : Fin 4) (ms : Nat),
      (s.m.mainOff = false) ∧ (s.m.entering = false) ∧ (s.m.resumeDue (2 + c) ms) := by
  exact ⟨⟨(machReset.setFld pgPolicy Policy.RUNNING 15).setFlag pgPolicy Policy.RESUME true, [], []⟩, (3), (65535), by decide +kernel⟩

theorem witness_policyRead :
    ∃ (s : State) (src : Src) (sel : BitVec 8),
      (s.m.mainOff = false) ∧ (s.m.takes src pgPolicy 0x0C0 (BitVec.ofNat 32 (sel.toNat * 256 + 1))) := by
  exact ⟨⟨machReset, [], []⟩, (.core 0), (255), by decide +kernel⟩

theorem witness_policyWrite :
    ∃ (s : State) (src : Src) (sel : BitVec 8),
      (s.m.mainOff = false) ∧ (s.m.takes src pgPolicy 0x0C0 (BitVec.ofNat 32 (sel.toNat * 256 + 2))) := by
  exact ⟨⟨machReset, [], []⟩, (.core 0), (255), by decide +kernel⟩

theorem witness_store :
    ∃ (s : State) (src : Src),
      (s.m.mainOff = false) ∧ (s.m.takes src pgPolicy 0x0C0 3) := by
  exact ⟨⟨machReset, [], []⟩, (.core 0), by decide +kernel⟩

theorem witness_storeComplete :
    ∃ (s : State),
      (s.m.mainOff = false) ∧ (s.m.flag pgPolicy Hdr.BUSY) ∧ (s.m.st pgPolicy ≠ 5) := by
  exact ⟨⟨machReset.setFlag pgPolicy Hdr.BUSY true, [], []⟩, by decide +kernel⟩

theorem witness_gfreezeWrite :
    ∃ (s : State) (src : Src) (v : Word),
      (s.m.mainOff = false) ∧ (s.m.takes src pgPolicy 0x040 v) := by
  exact ⟨⟨machReset, [], []⟩, (.core 0), (2), by decide +kernel⟩

theorem witness_layAssert :
    ∃ (s : State) (l : List (Fin 32768 × Fin 32)) (n : Fin 32768) (b : Fin 32),
      (s.m.mainOff = false) ∧ (l = [(n, b)]) ∧ (s.m.src n b) ∧ ((s.m.reg n 0x01C).getLsbD b) ∧ (s.m.occupied n) ∧ ((s.m.layLive n).getLsbD b = false) := by
  exact ⟨⟨((machReset.setReg 0x20 0x01C 2).setReg 0x20 0x018 2), [], []⟩, ([(0x20, 1)]), (0x20), (1), by decide +kernel⟩

theorem witness_laybreak :
    ∃ (s : State) (n : Fin 32768) (b : Fin 32) (clocks : Nat) (agree : Bool),
      (s.m.mainOff = false) ∧ (agree = false) ∧ (2 < clocks) ∧ (s.m.lay.bad.contains (n.val, b.val) = false) ∧ ((info (clsOf n)).srcs.testBit b) ∧ (s.m.occupied n) ∧ ((s.m.layLive n).getLsbD b = false) := by
  exact ⟨⟨machReset, [], []⟩, (0x20), (1), (3), (false), by decide +kernel⟩

theorem witness_faultnErr :
    ∃ (s : State) (conducts : Bool) (ms : Nat),
      (s.m.mainOff = false) ∧ (conducts ≠ (s.m.setFlag pgLay Lay.FAULTN_PIN conducts).flag pgLay Lay.FAULTN_ON) ∧ (1 ≤ ms) := by
  exact ⟨⟨machReset, [], []⟩, (false), (1), by decide +kernel⟩

theorem witness_softWrite :
    ∃ (s : State) (src : Src) (v : Word),
      (s.m.mainOff = false) ∧ (s.m.takes src pgLay 0x05C v) := by
  exact ⟨⟨machReset, [], []⟩, (.core 0), (0x8000), by decide +kernel⟩

theorem witness_entryRead :
    ∃ (s : State) (src : Src),
      (s.m.mainOff = false) ∧ (s.m.takes src pgLay 0x084 1) := by
  exact ⟨⟨machReset, [], []⟩, (.core 0), by decide +kernel⟩

theorem witness_entryWrite :
    ∃ (s : State) (src : Src),
      (s.m.mainOff = false) ∧ (s.m.takes src pgLay 0x084 2) := by
  exact ⟨⟨machReset, [], []⟩, (.core 0), by decide +kernel⟩

theorem witness_haltNInput :
    ∃ (s : State) (mv : Nat),
      (s.m.pwr.asleep ≠ 3) ∧ (s.m.mainOff = false) ∧ (s.m.flag pgLay Lay.HALT_LOW = false) ∧ (mv ≤ 5000) := by
  exact ⟨⟨machReset.setFlag pgLay Lay.HALT_LOW false, [], []⟩, (5000), by decide +kernel⟩

theorem witness_halt :
    ∃ (s : State) (us : Nat),
      (s.m.mainOff = false) ∧ (s.m.flag pgLay Lay.HALT_LOW) ∧ (s.m.fld pgLay Lay.HALT_FLT ≤ us) := by
  exact ⟨⟨machReset.setFlag pgLay Lay.HALT_LOW true, [], []⟩, (65535), by decide +kernel⟩

theorem witness_faultEntry :
    ∃ (s : State),
      (s.m.mainOff = false) ∧ (s.m.lay.notes ≠ []) := by
  exact ⟨⟨{ machReset with lay := { machReset.lay with notes := [⟨0x20, 1, false, 1⟩] } }, [], []⟩, by decide +kernel⟩

theorem witness_tlogRead :
    ∃ (s : State) (src : Src),
      (s.m.mainOff = false) ∧ (s.m.takes src pgTlog 0x064 1) := by
  exact ⟨⟨machReset, [], []⟩, (.core 0), by decide +kernel⟩

theorem witness_append :
    ∃ (s : State) (src : Src),
      (s.m.mainOff = false) ∧ (s.m.takes src pgTlog 0x064 2) := by
  exact ⟨⟨machReset, [], []⟩, (.core 5), by decide +kernel⟩

theorem witness_loglineRecordWrite :
    ∃ (s : State) (good : Bool),
      (s.m.mainOff = false) ∧ (good) ∧ (s.m.log.stopped = false) ∧ (s.m.log.queue ≠ []) := by
  exact ⟨⟨{ machReset with log := { machReset.log with queue := [⟨1, 2, 3, 4, 5, 6, 7, 8, 9⟩] } }, [], []⟩, (true), by decide +kernel⟩

theorem witness_topStore :
    ∃ (s : State),
      (s.m.mainOff = false) ∧ (s.m.log.topStored + 10000 ≤ s.m.log.topMs) := by
  exact ⟨⟨{ machReset with log := { machReset.log with topMs := 10000 } }, [], []⟩, by decide +kernel⟩

theorem witness_clkDegraded :
    ∃ (s : State) (cycles : Nat),
      (s.m.pwr.asleep ≠ 3) ∧ (s.m.mainOff = false) ∧ (4 ≤ cycles) ∧ (s.m.flag pgReckon Reckon.DEGRADED = false) := by
  exact ⟨⟨machReset, [], []⟩, (4), by decide +kernel⟩

theorem witness_crystalReturn :
    ∃ (s : State) (ms : Nat),
      (s.m.pwr.asleep ≠ 3) ∧ (s.m.mainOff = false) ∧ (1000 ≤ ms) := by
  exact ⟨⟨machReset, [], []⟩, (1000), by decide +kernel⟩

theorem witness_reckonCalibration :
    ∃ (s : State) (units : Word),
      (s.m.pwr.asleep ≠ 3) ∧ (s.m.mainOff = false) ∧ (s.m.flag pgReckon Reckon.XTAL_OK) := by
  exact ⟨⟨machReset.setFlag pgReckon Reckon.XTAL_OK true, [], []⟩, (0x8000), by decide +kernel⟩

theorem witness_utcSet :
    ∃ (s : State) (src : Src),
      (s.m.mainOff = false) ∧ (s.m.takes src pgReckon 0x068 1) := by
  exact ⟨⟨machReset, [], []⟩, (.core 0), by decide +kernel⟩

theorem witness_srcWrite :
    ∃ (s : State) (src : Src) (v : Word),
      (s.m.mainOff = false) ∧ (s.m.takes src pgReckon 0x05C v) := by
  exact ⟨⟨machReset, [], []⟩, (.core 0), (1), by decide +kernel⟩

theorem witness_txReq :
    ∃ (s : State) (src : Src) (c : Fin 6),
      (s.m.mainOff = false) ∧ (s.m.takes src (pgCan c) 0x07C 3) := by
  exact ⟨⟨machReset.setCanObj 5 0 { canObjReset with ctl := 0xC0000000 }, [], []⟩, (.core 0), (5), by decide +kernel⟩

theorem witness_canObjRead :
    ∃ (s : State) (src : Src) (c : Fin 6),
      (s.m.mainOff = false) ∧ (s.m.takes src (pgCan c) 0x07C 1) := by
  exact ⟨⟨machReset, [], []⟩, (.core 0), (5), by decide +kernel⟩

theorem witness_canObjWrite :
    ∃ (s : State) (src : Src) (c : Fin 6),
      (s.m.mainOff = false) ∧ (s.m.takes src (pgCan c) 0x07C 2) := by
  exact ⟨⟨machReset, [], []⟩, (.core 0), (5), by decide +kernel⟩

theorem witness_abort :
    ∃ (s : State) (src : Src) (c : Fin 6),
      (s.m.mainOff = false) ∧ (s.m.takes src (pgCan c) 0x07C 4) := by
  exact ⟨⟨machReset, [], []⟩, (.core 0), (5), by decide +kernel⟩

theorem witness_recover :
    ∃ (s : State) (src : Src) (c : Fin 6),
      (s.m.mainOff = false) ∧ (s.m.takes src (pgCan c) 0x054 1) := by
  exact ⟨⟨machReset, [], []⟩, (.core 0), (5), by decide +kernel⟩

theorem witness_canFrameSent :
    ∃ (s : State) (c : Fin 6) (o : Nat),
      (s.m.mainOff = false) ∧ ((s.m.can c).onBus = some o) ∧ (s.m.st (pgCan c) ≠ 0) ∧ ((s.m.canObj c o).again = false) := by
  exact ⟨⟨((machReset.setSt (pgCan 0) 2).modCan 0 fun a => { a with onBus := some 3 }), [], []⟩, (0), (3), by decide +kernel⟩

theorem witness_canFrameReceived :
    ∃ (s : State) (c : Fin 6) (f : CanFrame) (o : Nat),
      (s.m.mainOff = false) ∧ (s.m.canOperates c) ∧ (s.m.flag (pgCan c) Can.SYNC) ∧ (s.m.flag (pgCan c) Can.BUS_OFF = false) ∧ ((s.m.can c).onBus = none) ∧ ((f.fdf && !s.m.flag (pgCan c) Can.FD_EN) = false) ∧ ((s.m.canCounted c).canFilter c f = some o) := by
  exact ⟨⟨((machReset.setSt (pgCan 0) 2).setFlag (pgCan 0) Can.SYNC true).setCanObj 0 7 { canObjReset with ctl := 0x80000000, id := 0x123, mask := 0x7FF }, [], []⟩, (0), (⟨false, false, false, 0x123, 1, [5]⟩), (7), by decide +kernel⟩

theorem witness_canFrameReceived_2 :
    ∃ (s : State) (c : Fin 6) (f : CanFrame),
      (s.m.mainOff = false) ∧ (s.m.canOperates c) ∧ (s.m.flag (pgCan c) Can.SYNC) ∧ (s.m.flag (pgCan c) Can.BUS_OFF = false) ∧ ((s.m.can c).onBus = none) ∧ ((f.fdf && !s.m.flag (pgCan c) Can.FD_EN) = false) ∧ ((s.m.canCounted c).canFilter c f = none) := by
  exact ⟨⟨((machReset.setSt (pgCan 0) 2).setFlag (pgCan 0) Can.SYNC true), [], []⟩, (0), (⟨false, false, false, 0x123, 1, [5]⟩), by decide +kernel⟩

theorem witness_canError :
    ∃ (s : State) (c : Fin 6) (tx : Bool) (kind : Fin 8) (major : Bool),
      (s.m.mainOff = false) ∧ (0 < kind.val) ∧ (kind.val ≤ 6) ∧ (tx = false) ∧ (s.m.canOperates c) ∧ (s.m.flag (pgCan c) Can.SYNC) ∧ ((s.m.setFld (pgCan c) Can.LEC kind).flag (pgCan c) Can.RESTRICTED = false) ∧ ((s.m.setFld (pgCan c) Can.LEC kind).fld (pgCan c) Can.REC + (if major then 8 else 1) < 128) := by
  exact ⟨⟨(machReset.setSt (pgCan 0) 2).setFlag (pgCan 0) Can.SYNC true, [], []⟩, (0), (false), (6), (true), by decide +kernel⟩

theorem witness_busOffRecovery :
    ∃ (s : State) (c : Fin 6) (sequences : Nat),
      (s.m.mainOff = false) ∧ (s.m.flag (pgCan c) Can.RECOVERING) ∧ (128 ≤ sequences) ∧ (s.m.canOperates c) := by
  exact ⟨⟨(machReset.setSt (pgCan 5) 1).setFlag (pgCan 5) Can.RECOVERING true, [], []⟩, (5), (128), by decide +kernel⟩

theorem witness_txdDom :
    ∃ (s : State) (c : Fin 6) (ms : Nat),
      (s.m.mainOff = false) ∧ (4 ≤ ms) ∧ (s.m.canOperates c) := by
  exact ⟨⟨machReset.setSt (pgCan 5) 1, [], []⟩, (5), (4), by decide +kernel⟩

theorem witness_canWup :
    ∃ (s : State) (c : Fin 6),
      (s.m.pwr.asleep ≠ 3) ∧ (s.m.mainOff = true) ∧ ((s.m.can c).asleep) ∧ (s.m.canSelective c = false) ∧ (s.m.flag (pgCan c) Can.WAKE_EN) := by
  exact ⟨⟨(({ machReset with pwr := { machReset.pwr with asleep := 1 }, mainOff := true } : Mach).modCan 5 fun a => { a with asleep := true }).setFlag (pgCan 5) Can.WAKE_EN true, [], []⟩, (5), by decide +kernel⟩

theorem witness_canPn :
    ∃ (s : State) (c : Fin 6) (f : CanFrame),
      (s.m.pwr.asleep ≠ 3) ∧ (s.m.mainOff = true) ∧ ((s.m.can c).asleep) ∧ (s.m.canSelective c) ∧ (f.fdf = false) ∧ ((s.m.setFld (pgCan c) Can.FEC (s.m.fld (pgCan c) Can.FEC - 1)).canPnMatch (pgCan c) f = false) := by
  exact ⟨⟨(((({ machReset with pwr := { machReset.pwr with asleep := 1 }, mainOff := true } : Mach).modCan 0 fun a => { a with asleep := true }).setFlag (pgCan 0) Can.PN_EN true).setFld (pgCan 0) Can.PN_MASK 0x7FF), [], []⟩, (0), (⟨false, false, false, 0x123, 1, [5]⟩), by decide +kernel⟩

theorem witness_canPn_2 :
    ∃ (s : State) (c : Fin 6) (f : CanFrame),
      (s.m.pwr.asleep ≠ 3) ∧ (s.m.mainOff = true) ∧ ((s.m.can c).asleep) ∧ (s.m.canSelective c) ∧ (f.fdf = false) ∧ ((s.m.setFld (pgCan c) Can.FEC (s.m.fld (pgCan c) Can.FEC - 1)).canPnMatch (pgCan c) f) := by
  exact ⟨⟨(((((({ machReset with pwr := { machReset.pwr with asleep := 1 }, mainOff := true } : Mach).modCan 0 fun a => { a with asleep := true }).setFlag (pgCan 0) Can.PN_EN true).setFld (pgCan 0) Can.PN_MASK 0x7FF).setFld (pgCan 0) Can.PN_ID 0x123).setFld (pgCan 0) Can.PN_DLC 1).setFlag (pgCan 0) Can.PN_DLCONLY true, [], []⟩, (0), (⟨false, false, false, 0x123, 1, [5]⟩), by decide +kernel⟩

theorem witness_canFec :
    ∃ (s : State) (c : Fin 6),
      (s.m.pwr.asleep ≠ 3) ∧ (s.m.mainOff = true) ∧ ((s.m.can c).asleep) ∧ (s.m.canSelective c) ∧ (min 32 (s.m.fld (pgCan c) Can.FEC + 1) < 32) ∧ ((s.m.setFld (pgCan c) Can.FEC (min 32 (s.m.fld (pgCan c) Can.FEC + 1))).fld (pgCan c) Can.FEC < 32) := by
  exact ⟨⟨(({ machReset with pwr := { machReset.pwr with asleep := 1 }, mainOff := true } : Mach).modCan 0 fun a => { a with asleep := true }).setFlag (pgCan 0) Can.PN_EN true, [], []⟩, (0), by decide +kernel⟩

theorem witness_canFec_2 :
    ∃ (s : State) (c : Fin 6),
      (s.m.pwr.asleep ≠ 3) ∧ (s.m.mainOff = true) ∧ ((s.m.can c).asleep) ∧ (s.m.canSelective c) ∧ (31 ≤ s.m.fld (pgCan c) Can.FEC) ∧ ((s.m.setFld (pgCan c) Can.FEC 32).fld (pgCan c) Can.FEC = 32) := by
  exact ⟨⟨((({ machReset with pwr := { machReset.pwr with asleep := 1 }, mainOff := true } : Mach).modCan 0 fun a => { a with asleep := true }).setFlag (pgCan 0) Can.PN_EN true).setFld (pgCan 0) Can.FEC 31, [], []⟩, (0), by decide +kernel⟩

theorem witness_busIntegration :
    ∃ (s : State) (c : Fin 6),
      (s.m.mainOff = false) ∧ (s.m.canOperates c) ∧ (s.m.flag pgClk Clk.LOCKED) ∧ (s.m.flag (pgCan c) Can.BUS_OFF = false) := by
  exact ⟨⟨(machReset.setSt (pgCan 5) 1).setFlag pgClk Clk.LOCKED true, [], []⟩, (5), by decide +kernel⟩

theorem witness_linStart :
    ∃ (s : State) (src : Src) (c : Fin 4),
      (s.m.mainOff = false) ∧ (s.m.takes src (pgLin c) 0x060 1) := by
  exact ⟨⟨machReset, [], []⟩, (.core 0), (3), by decide +kernel⟩

theorem witness_linStop :
    ∃ (s : State) (src : Src) (c : Fin 4),
      (s.m.mainOff = false) ∧ (s.m.takes src (pgLin c) 0x060 2) := by
  exact ⟨⟨machReset, [], []⟩, (.core 0), (3), by decide +kernel⟩

theorem witness_goToSleep :
    ∃ (s : State) (src : Src) (c : Fin 4),
      (s.m.mainOff = false) ∧ (s.m.takes src (pgLin c) 0x060 3) := by
  exact ⟨⟨machReset, [], []⟩, (.core 0), (3), by decide +kernel⟩

theorem witness_linWake :
    ∃ (s : State) (src : Src) (c : Fin 4),
      (s.m.mainOff = false) ∧ (s.m.takes src (pgLin c) 0x060 4) := by
  exact ⟨⟨machReset, [], []⟩, (.core 0), (3), by decide +kernel⟩

theorem witness_linFrameRead :
    ∃ (s : State) (src : Src) (c : Fin 4),
      (s.m.mainOff = false) ∧ (s.m.takes src (pgLin c) 0x05C 1) := by
  exact ⟨⟨machReset, [], []⟩, (.core 0), (3), by decide +kernel⟩

theorem witness_linFrameWrite :
    ∃ (s : State) (src : Src) (c : Fin 4),
      (s.m.mainOff = false) ∧ (s.m.takes src (pgLin c) 0x05C 2) := by
  exact ⟨⟨machReset, [], []⟩, (.core 0), (3), by decide +kernel⟩

theorem witness_linSlot :
    ∃ (s : State) (c : Fin 4) (ms : Nat) (result : Fin 8) (data : List Byte) (sum : Byte) (i : Nat),
      (s.m.mainOff = false) ∧ (s.m.entering = false) ∧ (s.m.running (pgLin c)) ∧ ((s.m.lin c).slot ≤ ms) ∧ ((s.m.lin c).sleepDue = false) ∧ (s.m.flag (pgLin c) Lin.RUNNING) ∧ ((s.m.lin c).polls = []) ∧ (s.m.linUpcoming c = some i) ∧ ((s.m.linFrame c i).en) ∧ ((s.m.linFrame c i).type = 0) ∧ (result = 1) := by
  exact ⟨⟨{ ((machReset.setSt (pgLin 3) 2).setFlag (pgLin 3) Lin.RUNNING true).setFld (pgLin 3) Lin.SCHED_LEN 1 with linFrames := [(192, { linFrameReset with ctl := 0x800A083F#32 })] }, [], []⟩, (3), (0), (1), (List.replicate 8 0), (255), (0), by decide +kernel⟩

theorem witness_linSlot_2 :
    ∃ (s : State) (c : Fin 4) (ms : Nat) (result : Fin 8) (data : List Byte) (sum : Byte),
      (s.m.mainOff = false) ∧ (s.m.entering = false) ∧ ((s.m.lin c).sleepDue) ∧ (s.m.running (pgLin c)) ∧ ((s.m.lin c).slot ≤ ms) ∧ (result.val ≠ 1) := by
  exact ⟨⟨(machReset.setSt (pgLin 3) 2).modLin 3 fun a => { a with sleepDue := true }, [], []⟩, (3), (65535), (0), ([]), (0), by decide +kernel⟩

theorem witness_linHeader :
    ∃ (s : State) (c : Fin 4) (ident : Fin 64) (result : Fin 8) (data : List Byte) (sum : Byte) (k : Nat) (g : LinFrame),
      (s.m.mainOff = false) ∧ (s.m.flag (pgLin c) Lin.ROLE) ∧ (s.m.running (pgLin c)) ∧ (ident.val ≠ 0x3C) ∧ (result = 1) ∧ ((s.m.linAwake c).linFrames.find? (fun p => p.1 / 64 == c.val && p.2.en && p.2.ident == ident.val) = some (k, g)) := by
  exact ⟨⟨{ ((machReset.setSt (pgLin 3) 2).setFlag (pgLin 3) Lin.ROLE true).setFld (pgLin 3) Lin.SCHED_LEN 1 with linFrames := [(192, { linFrameReset with ctl := 0x800A083F#32 })] }, [], []⟩, (3), (63), (1), (List.replicate 8 0), (255), (192), ({ linFrameReset with ctl := 0x800A083F#32 }), by decide +kernel⟩

theorem witness_linHeader_2 :
    ∃ (s : State) (c : Fin 4) (ident : Fin 64) (result : Fin 8) (data : List Byte) (sum : Byte),
      (s.m.mainOff = false) ∧ (s.m.flag (pgLin c) Lin.ROLE) ∧ (s.m.running (pgLin c)) ∧ (1 < result.val) ∧ (result.val ≤ 6) ∧ ((s.m.linAwake c).linFrames.find? (fun p => p.1 / 64 == c.val && p.2.en && p.2.ident == ident.val) = none) := by
  exact ⟨⟨(machReset.setSt (pgLin 3) 2).setFlag (pgLin 3) Lin.ROLE true, [], []⟩, (3), (63), (6), ([]), (0), by decide +kernel⟩

theorem witness_linWakePulse :
    ∃ (s : State) (c : Fin 4) (us : Nat),
      (s.m.pwr.asleep ≠ 3) ∧ (s.m.mainOff = true) ∧ (150 ≤ us) ∧ (s.m.flag (pgLin c) Lin.WAKE_EN) := by
  exact ⟨⟨({ machReset with pwr := { machReset.pwr with asleep := 1 }, mainOff := true } : Mach).setFlag (pgLin 3) Lin.WAKE_EN true, [], []⟩, (3), (150), by decide +kernel⟩

theorem witness_busShort :
    ∃ (s : State) (c : Fin 4) (ms : Nat),
      (s.m.mainOff = false) ∧ (20 ≤ ms) := by
  exact ⟨⟨machReset, [], []⟩, (3), (20), by decide +kernel⟩

theorem witness_ptpSync :
    ∃ (s : State) (port domain : Nat) (masterNs hops : Nat) (utcOff : Int) (gmChange : Bool),
      (s.m.mainOff = false) ∧ (s.m.ethOn) ∧ (s.m.ptpPort port) ∧ (domain = s.m.fld pgEth Eth.DOMAIN) ∧ ((s.m.ptpRead ((s.m.ptp / 64 : Int) - masterNs) hops).ptpSync) ∧ (gmChange = false) ∧ ((s.m.ptpRead ((s.m.ptp / 64 : Int) - masterNs) hops).eth.slew = 0) ∧ (((s.m.ptp / 64 : Int) - masterNs).natAbs ≤ 10000) := by
  exact ⟨⟨(((machReset.setFld pgEth Eth.EN 63).setFlag pgEth Eth.PTP_EN true).setSt pgEth 2).setFlag pgReckon Reckon.PTP_LOCK true, [], []⟩, (5), (machReset.fld pgEth Eth.DOMAIN), (1000), (1), (37), (false), by decide +kernel⟩

theorem witness_ptpSync_2 :
    ∃ (s : State) (port domain : Nat) (masterNs hops : Nat) (utcOff : Int) (gmChange : Bool),
      (s.m.mainOff = false) ∧ (s.m.ethOn) ∧ (s.m.ptpPort port) ∧ (domain = s.m.fld pgEth Eth.DOMAIN) ∧ ((s.m.ptpRead ((s.m.ptp / 64 : Int) - masterNs) hops).ptpSync = false) ∧ (1000 ≤ ((s.m.ptp / 64 : Int) - masterNs).natAbs) := by
  exact ⟨⟨((machReset.setFld pgEth Eth.EN 63).setFlag pgEth Eth.PTP_EN true).setSt pgEth 2, [], []⟩, (5), (machReset.fld pgEth Eth.DOMAIN), (1000), (1), (37), (false), by decide +kernel⟩

theorem witness_ptpLost :
    ∃ (s : State) (intervals : Nat) (offset : Int),
      (s.m.mainOff = false) ∧ (s.m.ptpSync) ∧ (offset.natAbs ≤ 10000) ∧ (3 ≤ intervals) := by
  exact ⟨⟨machReset.setFlag pgReckon Reckon.PTP_LOCK true, [], []⟩, (3), (-10000), by decide +kernel⟩

theorem witness_pdFrameReceived :
    ∃ (s : State) (passing : List EthFrame) (f : PdFrame) (ix : Nat) (t : Telegram),
      (s.m.mainOff = false) ∧ (passing = []) ∧ ((s.m.ingress f.eth).1) ∧ ((s.m.ingress f.eth).2.trdpOn) ∧ ((s.m.ingress f.eth).2.ready) ∧ (f.fcsOk) ∧ ((s.m.ingress f.eth).2.reg pgEth 0x060 = 0) ∧ ((s.m.ingress f.eth).2.reg pgEth 0x064 = 0) ∧ ((s.m.ingress f.eth).2.eth.tels.find? (fun p => p.2.en && !p.2.publish && p.2.comid == f.comid) = some (ix, t)) ∧ (t.rxSeq ≠ some f.seq) := by
  exact ⟨⟨((((readyMach.setReg pgEth Eth.IP.off 1).setSt pgEth 2).setFld pgEth Eth.EN 63)).setTel 255 { telReset with ctl := 0x80000000, comid := 7 }, [], []⟩, ([]), (⟨bodyFrame 3, true, 7, 0, 0, 5, []⟩), (255), ({ telReset with ctl := 0x80000000, comid := 7 }), by decide +kernel⟩

theorem witness_trdpPublish :
    ∃ (s : State) (ix : Fin 256),
      (s.m.mainOff = false) ∧ (s.m.entering = false) ∧ (s.m.ready) ∧ (s.m.trdpOn) ∧ ((s.m.tel ix).en) ∧ ((s.m.tel ix).publish) ∧ ((s.m.tel ix).grid < (s.m.tel ix).gridNow s.m.ptp) ∧ ((s.m.tel ix).stepped = false) ∧ (s.m.mirror 2 ix = none) := by
  exact ⟨⟨{ ((((readyMach.setReg pgEth Eth.IP.off 1).setSt pgEth 2).setFld pgEth Eth.EN 63)).setTel 255 { telReset with ctl := 0xC0032000 } with ptp := 6400000000 }, [], []⟩, (255), by decide +kernel⟩

theorem witness_prReceived :
    ∃ (s : State) (comid : Word) (ix : Nat),
      (s.m.mainOff = false) ∧ (s.m.ready) ∧ (s.m.trdpOn) ∧ (s.m.eth.tels.find? (fun p => p.2.en && p.2.publish && p.2.comid == comid) = some (ix, s.m.tel ix)) := by
  exact ⟨⟨((readyMach.setReg pgEth Eth.IP.off 1).setSt pgEth 2).setTel 255 { telReset with ctl := 0xC0000000 }, [], []⟩, (0), (255), by decide +kernel⟩

theorem witness_pdTmo :
    ∃ (s : State) (ix : Fin 256) (ms : Nat),
      (s.m.mainOff = false) ∧ (s.m.ready) ∧ (s.m.trdpOn) ∧ ((s.m.tel ix).en) ∧ ((s.m.tel ix).publish = false) ∧ ((s.m.tel ix).tmo.toNat % 65536 ≠ 0) ∧ ((s.m.tel ix).tmo.toNat % 65536 ≤ ms) ∧ ((s.m.tel ix).ctl.getLsbD 27 = false) ∧ ((s.m.tel ix).ctl.getLsbD 29 = false) := by
  exact ⟨⟨((readyMach.setReg pgEth Eth.IP.off 1).setSt pgEth 2).setTel 255 { telReset with ctl := 0x80000000 }, [], []⟩, (255), (300), by decide +kernel⟩

theorem witness_prpSupervision :
    ∃ (s : State) (ms : Nat),
      (s.m.mainOff = false) ∧ (s.m.entering = false) ∧ (s.m.ethOn) ∧ (2000 ≤ ms) := by
  exact ⟨⟨machReset.setSt pgEth 2, [], []⟩, (2000), by decide +kernel⟩

theorem witness_linkChange :
    ∃ (s : State) (port : Fin 6) (up : Bool),
      (s.m.mainOff = false) ∧ (port.val ≠ 2) ∧ (port.val ≠ 3) ∧ (up) := by
  exact ⟨⟨machReset, [], []⟩, (5), (true), by decide +kernel⟩

theorem witness_telRead :
    ∃ (s : State) (src : Src),
      (s.m.mainOff = false) ∧ (s.m.takes src pgEth 0x07C 1) := by
  exact ⟨⟨machReset, [], []⟩, (.core 0), by decide +kernel⟩

theorem witness_telWrite :
    ∃ (s : State) (src : Src),
      (s.m.mainOff = false) ∧ (s.m.takes src pgEth 0x07C 2) := by
  exact ⟨⟨machReset, [], []⟩, (.core 0), by decide +kernel⟩

theorem witness_hitchLookup :
    ∃ (s : State) (sk : Nat) (key : Word),
      (s.m.mainOff = false) ∧ (s.m.entering = false) ∧ (s.m.ready) ∧ (s.m.st pgHitch ≠ 4) ∧ (s.m.hitch.fifo = ⟨sk, key, 0, []⟩ :: []) ∧ ((s.m.walk 32 (homeSlot sk key 0)).2 = false) := by
  exact ⟨⟨{ readyMach with hitch := { readyMach.hitch with fifo := [⟨2, 0x836, 0, []⟩] } }, [], []⟩, (2), (0x836), by decide +kernel⟩

theorem witness_gapExpire :
    ∃ (s : State) (ix : Fin 16384),
      (s.m.mainOff = false) ∧ (s.m.entering = false) ∧ (s.m.ready) ∧ ((s.m.hentry ix).waiting) := by
  exact ⟨⟨readyMach.setHentry 16383 { hitchReset with waiting := true }, [], []⟩, (16383), by decide +kernel⟩

theorem witness_hitchRead :
    ∃ (s : State) (src : Src),
      (s.m.mainOff = false) ∧ (s.m.takes src pgHitch 0x064 1) := by
  exact ⟨⟨machReset, [], []⟩, (.core 0), by decide +kernel⟩

theorem witness_hitchWrite :
    ∃ (s : State) (src : Src),
      (s.m.mainOff = false) ∧ (s.m.takes src pgHitch 0x064 2) := by
  exact ⟨⟨machReset, [], []⟩, (.core 0), by decide +kernel⟩

theorem witness_fidRead :
    ∃ (s : State) (k : Fin 256) (h : FidHead) (items : List (BitVec 16 × BitVec 16)),
      (s.m.mainOff = false) ∧ (s.m.ready) ∧ ((s.m.fidIn k h).1 = 2) := by
  exact ⟨⟨fidMach, [], []⟩, (0), (fidHead), ([(1, 0)]), by decide +kernel⟩

theorem witness_fidWrite :
    ∃ (s : State) (k : Fin 256) (h : FidHead) (items : List (BitVec 16 × BitVec 16 × Word × Word)),
      (s.m.mainOff = false) ∧ (s.m.ready) ∧ ((s.m.fidIn k h).1 = 2) := by
  exact ⟨⟨fidMach, [], []⟩, (0), (fidHead), ([(1, 0, 0, 0)]), by decide +kernel⟩

theorem witness_fidCmd :
    ∃ (s : State) (k : Fin 256) (h : FidHead) (items : List (BitVec 16 × Word × Word)),
      (s.m.mainOff = false) ∧ (s.m.ready) ∧ ((s.m.fidIn k h).1 = 2) := by
  exact ⟨⟨fidMach, [], []⟩, (0), (fidHead), ([(1, 0, 0)]), by decide +kernel⟩

theorem witness_subscribe :
    ∃ (s : State) (k : Fin 256) (h : FidHead) (items : List (BitVec 16)),
      (s.m.mainOff = false) ∧ (s.m.ready) ∧ ((s.m.fidIn k h).1 = 2) := by
  exact ⟨⟨fidMach, [], []⟩, (0), (fidHead), ([1]), by decide +kernel⟩

theorem witness_resp :
    ∃ (s : State) (k : Fin 256) (h : FidHead) (ack : Word) (items : List FResp) (o : FOut),
      (s.m.mainOff = false) ∧ (s.m.ready) ∧ ((s.m.fidIn k h).1 = 2) ∧ (((s.m.fidIn k h).2.peer k).out.find? (fun q => q.seq == ack.toNat) = some o) := by
  exact ⟨⟨fidMach.modPeer 0 fun p => { p with out := [⟨9, [(0x4000, .read 1 0)], 0⟩] }, [], []⟩, (0), (fidHead), (9), ([]), (⟨9, [(0x4000, .read 1 0)], 0⟩), by decide +kernel⟩

theorem witness_report :
    ∃ (s : State) (k : Fin 256) (h : FidHead) (unit : BitVec 16) (caps state fset ffirst : Word),
      (s.m.mainOff = false) ∧ (s.m.ready) ∧ ((s.m.fidIn k h).1 = 2) := by
  exact ⟨⟨fidMach, [], []⟩, (0), (fidHead), (5), (0), (0), (0), (0), by decide +kernel⟩

theorem witness_hello :
    ∃ (s : State) (k : Fin 256) (h : FidHead) (echo : Word),
      (s.m.mainOff = false) ∧ (s.m.ready) ∧ ((s.m.fidArrives k h).1) ∧ (h.epoch ≠ 0) ∧ (((s.m.fidArrives k h).2.peer k).pstate = 2) ∧ (((s.m.fidArrives k h).2.peer k).epoch = h.epoch) ∧ (((s.m.fidArrives k h).2.peer k).replayed h.seq.toNat = false) ∧ (echo = (s.m.fidArrives k h).2.fid.epoch) ∧ (echo ≠ 0) := by
  exact ⟨⟨fidMach, [], []⟩, (0), (fidHead), (9), by decide +kernel⟩

theorem witness_fidResend :
    ∃ (s : State) (k : Fin 256) (seq : Word) (ms : Nat) (o : FOut),
      (s.m.mainOff = false) ∧ (s.m.entering = false) ∧ (s.m.ready) ∧ (s.m.fidRuns) ∧ (s.m.fld pgFid Fid.TMO ≤ ms) ∧ ((s.m.peer k).out.find? (fun q => q.seq == seq.toNat) = some o) ∧ (o.resent < s.m.fld pgFid Fid.RETRY) := by
  exact ⟨⟨fidMach.modPeer 0 fun p => { p with out := [⟨9, [(0x4000, .read 1 0)], 0⟩] }, [], []⟩, (0), (9), (65535), (⟨9, [(0x4000, .read 1 0)], 0⟩), by decide +kernel⟩

theorem witness_helloTimer :
    ∃ (s : State) (ms : Nat),
      (s.m.mainOff = false) ∧ (s.m.entering = false) ∧ (s.m.ready) ∧ (s.m.fld pgFid Fid.HELLO_T ≤ ms) ∧ (s.m.fid.epoch ≠ 0) ∧ (s.m.fidRuns) := by
  exact ⟨⟨fidMach, [], []⟩, (100000), by decide +kernel⟩

theorem witness_peerLost :
    ∃ (s : State) (k : Fin 256) (ms : Nat),
      (s.m.mainOff = false) ∧ (s.m.ready) ∧ (s.m.fidRuns) ∧ ((s.m.peer k).en) ∧ ((s.m.peer k).pstate = 2) ∧ (3 * s.m.fld pgFid Fid.HELLO_T ≤ ms) := by
  exact ⟨⟨fidMach, [], []⟩, (0), (200000), by decide +kernel⟩

theorem witness_epochEnd :
    ∃ (s : State),
      (s.m.mainOff = false) ∧ (s.m.entering = false) ∧ (s.m.ready) ∧ (s.m.fidRuns) ∧ (s.m.drbgOk) ∧ (s.m.fid.ending) ∧ (s.m.fid.peers.all (fun p => p.2.out.isEmpty)) := by
  exact ⟨⟨(({ fidMach with fid := { fidMach.fid with ending := true } } : Mach).setFlag pgLocker Locker.DRBG_OK true), [], []⟩, by decide +kernel⟩

theorem witness_reportSend :
    ∃ (s : State) (k : Fin 256) (n : Fin 32768) (ms : Nat),
      (s.m.mainOff = false) ∧ (s.m.entering = false) ∧ (s.m.ready) ∧ (s.m.fidRuns) ∧ (s.m.fid.ending = false) ∧ ((s.m.peer k).pstate = 2) ∧ ((s.m.peer k).subs.find? (fun q => q.1 == n.val) = some (n.val, none)) := by
  exact ⟨⟨fidMach.modPeer 0 fun p => { p with subs := [(32, none)] }, [], []⟩, (0), (32), (0), by decide +kernel⟩

theorem witness_proxyGatherFlush :
    ∃ (s : State) (k : Fin 256) (us : Nat),
      (s.m.mainOff = false) ∧ (s.m.entering = false) ∧ (s.m.ready) ∧ (s.m.fidRuns) ∧ (s.m.fid.ending = false) ∧ ((s.m.peer k).pstate = 2) ∧ (200 ≤ us) := by
  exact ⟨⟨fidMach.modPeer 0 fun p => { p with gather := [(0x4000, .read 1 0)] }, [], []⟩, (0), (200), by decide +kernel⟩

theorem witness_proxyCacheRefresh :
    ∃ (s : State) (p : Fin 8192) (ms : Nat),
      (s.m.mainOff = false) ∧ (s.m.entering = false) ∧ (s.m.ready) ∧ (s.m.fld pgFid Fid.REPORT_T ≤ ms) ∧ ((s.m.proxy (pgProxy p)).bind) ∧ (s.m.fidRuns) ∧ ((s.m.peer (s.m.proxy (pgProxy p)).peer).pstate = 2) := by
  exact ⟨⟨{ fidMach with proxies := [(0, ⟨true, 2, 0, 5, 0⟩)] }, [], []⟩, (0), (100000), by decide +kernel⟩

theorem witness_fidPeerRead :
    ∃ (s : State) (src : Src),
      (s.m.mainOff = false) ∧ (s.m.takes src pgFid 0x064 1) := by
  exact ⟨⟨machReset, [], []⟩, (.core 0), by decide +kernel⟩

theorem witness_fidPeerWrite :
    ∃ (s : State) (src : Src),
      (s.m.mainOff = false) ∧ (s.m.takes src pgFid 0x064 2) := by
  exact ⟨⟨machReset, [], []⟩, (.core 0), by decide +kernel⟩

theorem witness_fidProxyRead :
    ∃ (s : State) (src : Src),
      (s.m.mainOff = false) ∧ (s.m.takes src pgFid 0x064 3) := by
  exact ⟨⟨machReset, [], []⟩, (.core 0), by decide +kernel⟩

theorem witness_fidProxyWrite :
    ∃ (s : State) (src : Src),
      (s.m.mainOff = false) ∧ (s.m.takes src pgFid 0x064 4) := by
  exact ⟨⟨machReset, [], []⟩, (.core 0), by decide +kernel⟩

theorem witness_spliceHello :
    ∃ (s : State) (ok : Bool) (fseq dev pref role : Nat) (digest : List Byte),
      (s.m.mainOff = false) ∧ (s.m.fld pgSplice Splice.PSTATE = 1) ∧ ((s.m.frameIn (ok && dev == s.m.fld pgSplice Splice.PEER_DEV) fseq).1) ∧ (((s.m.frameIn (ok && dev == s.m.fld pgSplice Splice.PEER_DEV) fseq).2.setFlag pgSplice Splice.KEYED true).splice.mismatchAt = none) := by
  exact ⟨⟨linkMach.setFld pgSplice Splice.PSTATE 1, [], []⟩, (true), (1), (readyMach.fld pgSplice Splice.PEER_DEV), (0), (0), ([]), by decide +kernel⟩

theorem witness_intent :
    ∃ (s : State) (ok : Bool) (fseq : Nat) (units : List IntentUnit) (log : List (Nat × Bool × Word × Nat)) (dly off : BitVec 16),
      (s.m.mainOff = false) ∧ (s.m.fld pgSplice Splice.PSTATE = 2) ∧ (s.m.isSecond) ∧ ((s.m.frameIn ok fseq).1) := by
  exact ⟨⟨secondMach, [], []⟩, (true), (1), ([]), ([]), (5), (6), by decide +kernel⟩

theorem witness_intentSend :
    ∃ (s : State) (us : Nat),
      (s.m.mainOff = false) ∧ (s.m.entering = false) ∧ (s.m.leadPair) ∧ (1000 ≤ us) ∧ (logBytes s.m.splice.log ≤ 65536) := by
  exact ⟨⟨leadMach, [], []⟩, (1000), by decide +kernel⟩

theorem witness_intentSend_2 :
    ∃ (s : State) (us : Nat),
      (s.m.mainOff = false) ∧ (s.m.entering = false) ∧ (s.m.leadPair) ∧ (1000 ≤ us) ∧ (65536 < logBytes s.m.splice.log) := by
  exact ⟨⟨leadMach.modSplice fun x => { x with log := List.replicate 16385 ⟨2, false, 0, 0⟩ }, [], []⟩, (1000), by decide +kernel⟩

theorem witness_edge :
    ∃ (s : State) (ok : Bool) (fseq : Nat) (e : Edge),
      (s.m.mainOff = false) ∧ (s.m.secondPair) ∧ ((s.m.frameIn ok fseq).1) ∧ (e.cause ≠ 1) ∧ (e.cause ≠ 2) ∧ ((s.m.frameIn ok fseq).2.isLead = false) ∧ ((s.m.frameIn ok fseq).2.linkNs ≤ e.at_) := by
  exact ⟨⟨secondMach, [], []⟩, (true), (1), (⟨0x20, .retry, 0, 0⟩), by decide +kernel⟩

theorem witness_edgeApply :
    ∃ (s : State) (e : Edge),
      (s.m.mainOff = false) ∧ (s.m.splice.edges.find? (fun e => decide (e.at_ ≤ s.m.linkNs)) = some e) := by
  exact ⟨⟨secondMach.modSplice fun x => { x with edges := [⟨0x20, .retry, 0, 0⟩] }, [], []⟩, (⟨0x20, .retry, 0, 0⟩), by decide +kernel⟩

theorem witness_ack :
    ∃ (s : State) (ok : Bool) (fseq acked : Nat) (legs : List (Nat × Nat × Bool)) (dly : BitVec 16),
      (s.m.mainOff = false) ∧ (s.m.leadPair) ∧ ((s.m.frameIn ok fseq).1) := by
  exact ⟨⟨leadMach, [], []⟩, (true), (1), (0), ([]), (5), by decide +kernel⟩

theorem witness_ackSend :
    ∃ (s : State) (us : Nat),
      (s.m.mainOff = false) ∧ (s.m.entering = false) ∧ (s.m.fld pgSplice Splice.PSTATE = 2) ∧ (s.m.isSecond) ∧ (1000 ≤ us) := by
  exact ⟨⟨secondMach, [], []⟩, (1000), by decide +kernel⟩

theorem witness_ckpt :
    ∃ (s : State) (ms : Nat) (sent : Bool),
      (s.m.mainOff = false) ∧ (s.m.entering = false) ∧ (s.m.leadPair) ∧ (s.m.fld pgSplice Splice.CKPT_T ≤ ms) := by
  exact ⟨⟨leadMach, [], []⟩, (65535), (true), by decide +kernel⟩

theorem witness_ckptReceived :
    ∃ (s : State) (ok : Bool) (fseq : Nat) (crcOk : Bool) (c : Fin 6) (img : CkptImg),
      (s.m.mainOff = false) ∧ (s.m.fld pgSplice Splice.PSTATE = 2) ∧ (s.m.isSecond) ∧ (appCore c) ∧ ((s.m.frameIn ok fseq).1) ∧ (crcOk) ∧ (ckptSound img) := by
  exact ⟨⟨secondMach, [], []⟩, (true), (1), (true), (2), (⟨[], [], [], [], [], [], 1, 0, 0, 0, 0, 0, [], [], [], 0, 0⟩), by decide +kernel⟩

theorem witness_spliceHealth :
    ∃ (s : State) (coreOk memOk : Bool) (rx : Option (Bool × Nat × BitVec 4 × List Nat)),
      (s.m.mainOff = false) ∧ (s.m.entering = false) ∧ (s.m.paired) ∧ (rx = none) := by
  exact ⟨⟨leadMach, [], []⟩, (true), (true), (none), by decide +kernel⟩

theorem witness_spliceHealth_2 :
    ∃ (s : State) (coreOk memOk : Bool) (rx : Option (Bool × Nat × BitVec 4 × List Nat)) (ok : Bool) (fseq : Nat) (bits : BitVec 4) (banks : List Nat),
      (s.m.mainOff = false) ∧ (s.m.entering = false) ∧ (s.m.paired) ∧ (rx = some (ok, fseq, bits, banks)) ∧ ((s.m.frameIn ok fseq).1) ∧ (((((s.m.frameIn ok fseq).2.setFld pgSplice Splice.PEER_HFLAGS bits.toNat).modSplice fun x => { x with peerBanks := banks })).isLead) := by
  exact ⟨⟨leadMach, [], []⟩, (true), (true), (some (true, 1, 15, [])), (true), (1), (15), ([]), by decide +kernel⟩

theorem witness_partnerUnfit :
    ∃ (s : State) (ms : Nat),
      (s.m.mainOff = false) ∧ (s.m.leadPair) ∧ (3000 ≤ ms) := by
  exact ⟨⟨leadMach, [], []⟩, (3000), by decide +kernel⟩

theorem witness_leadLost :
    ∃ (s : State) (ms : Nat),
      (s.m.mainOff = false) ∧ (s.m.fld pgSplice Splice.PSTATE = 2) ∧ (s.m.isSecond) ∧ (3 ≤ ms) := by
  exact ⟨⟨secondMach, [], []⟩, (3), by decide +kernel⟩

theorem witness_spliceProbe :
    ∃ (s : State) (answered : Bool),
      (s.m.mainOff = false) ∧ (s.m.fld pgSplice Splice.PSTATE = 3) ∧ (answered = false) := by
  exact ⟨⟨secondMach.setFld pgSplice Splice.PSTATE 3, [], []⟩, (false), by decide +kernel⟩

theorem witness_confirmEnd :
    ∃ (s : State) (ms : Nat),
      (s.m.mainOff = false) ∧ (s.m.fld pgSplice Splice.PSTATE = 3) ∧ (20 ≤ ms) ∧ (s.m.ownHealth ≤ 1) ∧ (s.m.backboneUp ∨ s.m.flag pgSplice Splice.BLIND = false) := by
  exact ⟨⟨secondMach.setFld pgSplice Splice.PSTATE 3, [], []⟩, (20), by decide +kernel⟩

theorem witness_restoreComplete :
    ∃ (s : State),
      (s.m.mainOff = false) ∧ (s.m.fld pgSplice Splice.PSTATE = 4) := by
  exact ⟨⟨secondMach.setFld pgSplice Splice.PSTATE 4, [], []⟩, by decide +kernel⟩

theorem witness_replayComplete :
    ∃ (s : State) (us : Nat),
      (s.m.mainOff = false) ∧ (s.m.fld pgSplice Splice.PSTATE = 4) ∧ (s.m.splice.log.any (fun x => (s.m.core x.core).replay) = false) := by
  exact ⟨⟨secondMach.setFld pgSplice Splice.PSTATE 4, [], []⟩, (65536000), by decide +kernel⟩

theorem witness_partnerLost :
    ∃ (s : State) (ms : Nat),
      (s.m.mainOff = false) ∧ (s.m.leadPair) ∧ (3 ≤ ms) := by
  exact ⟨⟨leadMach, [], []⟩, (3), by decide +kernel⟩

theorem witness_legMismatch :
    ∃ (s : State) (n : Fin 32768) (on : Bool) (us : Nat),
      (s.m.mainOff = false) ∧ (s.m.pairHeld n) ∧ (on ≠ s.m.legIntent n) ∧ (2000 < us) := by
  exact ⟨⟨{ leadMach with guards := [(0, ⟨true, false, 0, 0, 0x20, 0⟩)] }, [], []⟩, (0x20), (true), (2001), by decide +kernel⟩

theorem witness_pairTrip :
    ∃ (s : State) (c : Fin 128) (cur tenths : Nat),
      (s.m.mainOff = false) ∧ (s.m.leadPair) ∧ (s.m.flag (pgOut c) Out.DUPLEX) ∧ (s.m.splice.legs = []) ∧ (s.m.fld (pgOut c) Out.ILIM < cur) ∧ (max (s.m.fld (pgOut c) Out.TRIP) 20 ≤ tenths) := by
  exact ⟨⟨leadMach.setFlag (pgOut 127) Out.DUPLEX true, [], []⟩, (127), (65536), (65535), by decide +kernel⟩

theorem witness_guardRead :
    ∃ (s : State) (src : Src),
      (s.m.mainOff = false) ∧ (s.m.takes src pgSplice 0x05C 1) := by
  exact ⟨⟨machReset, [], []⟩, (.core 0), by decide +kernel⟩

theorem witness_guardWrite :
    ∃ (s : State) (src : Src),
      (s.m.mainOff = false) ∧ (s.m.takes src pgSplice 0x05C 2) := by
  exact ⟨⟨machReset, [], []⟩, (.core 0), by decide +kernel⟩

theorem witness_spliceLinkChange :
    ∃ (s : State) (up : Bool),
      (s.m.mainOff = false) ∧ (up = false) := by
  exact ⟨⟨machReset, [], []⟩, (false), by decide +kernel⟩

theorem witness_spliceHelloTimer :
    ∃ (s : State) (ms : Nat),
      (s.m.mainOff = false) ∧ (s.m.entering = false) ∧ (10 ≤ ms) ∧ (s.m.fld pgSplice Splice.PSTATE = 1) := by
  exact ⟨⟨linkMach.setFld pgSplice Splice.PSTATE 1, [], []⟩, (10), by decide +kernel⟩

theorem witness_sleep :
    ∃ (s : State) (src : Src),
      (s.m.mainOff = false) ∧ (s.m.takes src pgPwr 0x044 1) := by
  exact ⟨⟨readyMach, [], []⟩, (.core 0), by decide +kernel⟩

theorem witness_rollback :
    ∃ (s : State) (n : Nat),
      (s.m.mainOff = false) ∧ (s.m.pstate = 2) ∧ (s.m.refuser = some n) := by
  exact ⟨⟨prepMach.setFlag 0x20 Out.GATE true, [], []⟩, (0x20), by decide +kernel⟩

theorem witness_prepareTimeout :
    ∃ (s : State) (us : Nat) (n : Fin 32768),
      (s.m.mainOff = false) ∧ (s.m.pstate = 2) ∧ (200 ≤ us) := by
  exact ⟨⟨prepMach, [], []⟩, (200), (0x20), by decide +kernel⟩

theorem witness_commit :
    ∃ (s : State),
      (s.m.mainOff = false) ∧ (s.m.pstate = 2) ∧ (s.m.refuser = none) := by
  exact ⟨⟨prepMach, [], []⟩, by decide +kernel⟩

theorem witness_commitComplete :
    ∃ (s : State),
      (s.m.mainOff = false) ∧ (s.m.pstate = 3) := by
  exact ⟨⟨readyMach.setFld pgPwr Pwr.PSTATE 3, [], []⟩, by decide +kernel⟩

theorem witness_wake :
    ∃ (s : State) (us : Nat) (table : List (Fin 16384 × List Word)),
      (s.m.mainOff = true) ∧ (s.m.pstate = 4) ∧ (s.m.pwr.asleep = 1) := by
  exact ⟨⟨watchMach.setFld pgPwr Pwr.PSTATE 4, [], []⟩, (100), ([]), by decide +kernel⟩

theorem witness_wakeN :
    ∃ (s : State) (mv us : Nat),
      (s.m.pwr.asleep ≠ 3) ∧ (s.m.mainOff = true) ∧ (mv ≤ 2000) ∧ (1000 ≤ us) := by
  exact ⟨⟨watchMach, [], []⟩, (2000), (1000), by decide +kernel⟩

theorem witness_falseWake :
    ∃ (s : State) (ms : Nat) (n : Nat),
      (s.m.mainOff = false) ∧ (s.m.pwr.suspect = some n) ∧ (s.m.fld pgPwr Pwr.FW_T ≤ ms) := by
  exact ⟨⟨{ readyMach with pwr := { readyMach.pwr with suspect := some 0x170 } }, [], []⟩, (65535), (0x170), by decide +kernel⟩

theorem witness_pllEnWrite :
    ∃ (s : State) (src : Src) (v : Word),
      (s.m.mainOff = false) ∧ (s.m.takes src pgClk 0x040 v) := by
  exact ⟨⟨readyMach, [], []⟩, (.core 0), (readyMach.reg pgClk 0x040), by decide +kernel⟩

theorem witness_coreSrcWrite :
    ∃ (s : State) (src : Src) (v : Word),
      (s.m.mainOff = false) ∧ (s.m.takes src pgClk 0x040 v) := by
  exact ⟨⟨readyMach, [], []⟩, (.core 0), (readyMach.reg pgClk 0x040), by decide +kernel⟩

theorem witness_pllLock :
    ∃ (s : State) (us : Nat),
      (s.m.mainOff = false) ∧ (s.m.flag pgClk Clk.PLL_EN) := by
  exact ⟨⟨readyMach.setFlag pgClk Clk.PLL_EN true, [], []⟩, (100), by decide +kernel⟩

theorem witness_pllUnlock :
    ∃ (s : State),
      (s.m.mainOff = false) ∧ (s.m.flag pgClk Clk.LOCKED) := by
  exact ⟨⟨readyMach.setFlag pgClk Clk.LOCKED true, [], []⟩, by decide +kernel⟩

theorem witness_hfRcTrim :
    ∃ (s : State) (trim err : Int),
      (s.m.mainOff = false) ∧ (s.m.entering = false) ∧ (s.m.flag pgReckon Reckon.XTAL_OK) ∧ (s.m.flag pgClk Clk.TRIM_EN) := by
  exact ⟨⟨(readyMach.setFlag pgReckon Reckon.XTAL_OK true).setFlag pgClk Clk.TRIM_EN true, [], []⟩, (-5), (-10), by decide +kernel⟩

theorem witness_hfRcTrim_2 :
    ∃ (s : State) (trim err : Int),
      (s.m.mainOff = false) ∧ (s.m.entering = false) ∧ (s.m.flag pgReckon Reckon.XTAL_OK = false) := by
  exact ⟨⟨readyMach.setFlag pgReckon Reckon.XTAL_OK false, [], []⟩, (-5), (-10), by decide +kernel⟩

theorem witness_watchStep :
    ∃ (s : State) (ins : List (BitVec 16 × Bool)) (touches : List (BitVec 16 × BitVec 16)),
      (s.m.pwr.asleep ≠ 3) ∧ (s.m.mainOff = true) ∧ (s.m.pwr.asleep = 1) ∧ (s.m.watchSteps ≠ []) := by
  exact ⟨⟨watchMach.setFld pgWatch Watchseq.LEN 1, [], []⟩, ([]), ([]), by decide +kernel⟩

theorem witness_supply :
    ∃ (s : State) (c : Fin 128),
      (s.m.pwr.asleep ≠ 3) ∧ (s.m.mainOff = true) ∧ (s.m.pwr.asleep = 1) ∧ (s.m.pwr.supplies.contains (pgOut c)) := by
  exact ⟨⟨{ watchMach with pwr := { watchMach.pwr with supplies := [pgOut 127] } }, [], []⟩, (127), by decide +kernel⟩

theorem witness_staticComparator :
    ∃ (s : State) (ix : Fin 96) (v us : Nat),
      (s.m.pwr.asleep ≠ 3) ∧ (s.m.mainOff = true) ∧ (ix.val < 16) ∧ (s.m.flag (pgIn ix) Inp.STATIC) ∧ (s.m.flag (pgIn ix) Inp.NETWORK = false) ∧ (1000 ≤ us) ∧ ((s.m.unit (pgIn ix)).enabled) ∧ (s.m.fld (pgIn ix) Inp.CLASS = 0) ∧ (1200 ≤ v) ∧ (s.m.flag (pgIn ix) Inp.INVERT = false) ∧ (s.m.flag (pgIn ix) Inp.ACTIVE = false) ∧ ((s.m.fld (pgIn ix) Inp.WAKE).testBit 0) := by
  exact ⟨⟨(((watchMach.setFlag (pgIn 15) Inp.NETWORK false).setFlag (pgIn 15) Inp.STATIC true).setFld (pgIn 15) Inp.WAKE 1).setFld (pgIn 15) Inp.CLASS 0 |> Mach.modUnit (pgIn 15) fun u => { u with enabled := true }, [], []⟩, (15), (1200), (1000), by decide +kernel⟩

theorem witness_nmMessage :
    ∃ (s : State) (q : NmMsg),
      (s.m.mainOff = false) ∧ (s.m.nmState = 1) ∧ (q.wake) ∧ (q.src ≠ (s.m.setSeen q.consent).fld pgPwr Pwr.SUCC) := by
  exact ⟨⟨readyMach.setFld pgPwr Pwr.NMSTATE 1, [], []⟩, (⟨5, 0, true, false, 0, 0⟩), by decide +kernel⟩

theorem witness_nmMessage_2 :
    ∃ (s : State) (q : NmMsg),
      (s.m.mainOff = false) ∧ (s.m.nmState = 2) ∧ (q.wake = false) ∧ (q.confirm = false) ∧ (q.dest = (s.m.setSeen q.consent).nmNode) ∧ (q.src ≠ (s.m.setSeen q.consent).fld pgPwr Pwr.SUCC) := by
  exact ⟨⟨ringMach, [], []⟩, (⟨5, 0, false, false, 0, 0⟩), by decide +kernel⟩

theorem witness_nmForward :
    ∃ (s : State) (ms : Nat) (q : NmMsg),
      (s.m.mainOff = false) ∧ (s.m.pwr.fwd = some q) ∧ (s.m.nmState = 2) ∧ (s.m.fld pgPwr Pwr.T_HOP ≤ ms) ∧ ((q.confirm && s.m.consent) = false) := by
  exact ⟨⟨{ ringMach with pwr := { ringMach.pwr with fwd := some ⟨5, 6, false, false, 0, 0⟩ } }, [], []⟩, (65535), (⟨5, 6, false, false, 0, 0⟩), by decide +kernel⟩

theorem witness_ringSkip :
    ∃ (s : State) (ms : Nat),
      (s.m.mainOff = false) ∧ (s.m.nmState = 2) ∧ (s.m.pwr.await) ∧ (s.m.fld pgPwr Pwr.SKIP_T ≤ ms) := by
  exact ⟨⟨{ ringMach with pwr := { ringMach.pwr with await := true } }, [], []⟩, (65535), by decide +kernel⟩

theorem witness_ringListenTimeout :
    ∃ (s : State) (ms : Nat),
      (s.m.mainOff = false) ∧ (s.m.nmState = 1) ∧ (s.m.fld pgPwr Pwr.LOST_T + s.m.nmNode * s.m.fld pgPwr Pwr.T_HOP ≤ ms) := by
  exact ⟨⟨readyMach.setFld pgPwr Pwr.NMSTATE 1, [], []⟩, (100000000), by decide +kernel⟩

theorem witness_ringLost :
    ∃ (s : State) (ms : Nat),
      (s.m.mainOff = false) ∧ (s.m.nmState = 2) ∧ (s.m.fld pgPwr Pwr.LOST_T ≤ ms) := by
  exact ⟨⟨ringMach, [], []⟩, (65535), by decide +kernel⟩

theorem witness_graceEnd :
    ∃ (s : State) (ms : Nat),
      (s.m.mainOff = false) ∧ (s.m.nmState = 3) ∧ (s.m.pstate ≤ 1) ∧ (s.m.fld pgPwr Pwr.T_GRACE ≤ ms) := by
  exact ⟨⟨readyMach.setFld pgPwr Pwr.NMSTATE 3, [], []⟩, (65535), by decide +kernel⟩

theorem witness_networkRace :
    ∃ (s : State),
      (s.m.mainOff = false) ∧ (s.m.nmState = 3) ∧ (s.m.fld pgPwr Pwr.PSTATE ≤ 1) := by
  exact ⟨⟨readyMach.setFld pgPwr Pwr.NMSTATE 3, [], []⟩, by decide +kernel⟩

theorem witness_consentWrite :
    ∃ (s : State) (src : Src) (v : Word),
      (s.m.mainOff = false) ∧ (s.m.takes src pgPwr 0x078 v) := by
  exact ⟨⟨readyMach, [], []⟩, (.core 0), (1), by decide +kernel⟩

theorem witness_nmEnWrite :
    ∃ (s : State) (src : Src) (v : Word),
      (s.m.mainOff = false) ∧ (s.m.takes src pgPwr 0x064 v) := by
  exact ⟨⟨readyMach, [], []⟩, (.core 0), (readyMach.reg pgPwr 0x064), by decide +kernel⟩

theorem witness_logicFeedStart :
    ∃ (s : State) (b : Fin 2) (mV us : Nat) (fuses : Fuses) (fail : Option (Fin 16)) (config : Option (List (Nat × Nat × Word))),
      (13000 ≤ mV) ∧ (1000 ≤ us) ∧ (s.m.pwr.upA = false) ∧ (s.m.pwr.upB = false) := by
  exact ⟨⟨{ machReset with mainOff := true, pwr := { machReset.pwr with asleep := 3, upA := false, upB := false } }, [], []⟩, (1), (13000), (1000), (⟨1, 0, 0, false, 0, 0, [], false, false⟩), (none), (none), by decide +kernel⟩

theorem witness_logicFeedStart_2 :
    ∃ (s : State) (b : Fin 2) (mV us : Nat) (fuses : Fuses) (fail : Option (Fin 16)) (config : Option (List (Nat × Nat × Word))),
      (13000 ≤ mV) ∧ (1000 ≤ us) ∧ (s.m.pwr.upA ∨ s.m.pwr.upB) := by
  exact ⟨⟨{ readyMach with pwr := { readyMach.pwr with upA := true } }, [], []⟩, (1), (13000), (1000), (⟨1, 0, 0, false, 0, 0, [], false, false⟩), (none), (none), by decide +kernel⟩

theorem witness_logicFeedStop :
    ∃ (s : State) (b : Fin 2) (mV us : Nat),
      (mV < 12000) ∧ (10000 ≤ us) ∧ (s.m.feedAbove b) ∧ ((s.m.setLogicFeed b false).pwr.upA = false) ∧ ((s.m.setLogicFeed b false).pwr.upB = false) := by
  exact ⟨⟨{ readyMach with pwr := { readyMach.pwr with upA := true, upB := false } }, [], []⟩, (0), (0), (10000), by decide +kernel⟩

theorem witness_logicFeedStop_2 :
    ∃ (s : State) (b : Fin 2) (mV us : Nat),
      (mV < 12000) ∧ (10000 ≤ us) ∧ (s.m.feedAbove b) ∧ ((s.m.setLogicFeed b false).pwr.upA ∨ (s.m.setLogicFeed b false).pwr.upB) := by
  exact ⟨⟨{ readyMach with pwr := { readyMach.pwr with upA := true, upB := true } }, [], []⟩, (0), (0), (10000), by decide +kernel⟩

theorem witness_watchdog :
    ∃ (s : State) (ms : Nat) (config : Option (List (Nat × Nat × Word))),
      (s.m.mainOff = false) ∧ (100 < ms) := by
  exact ⟨⟨readyMach, [], []⟩, (101), (none), by decide +kernel⟩

theorem witness_update :
    ∃ (s : State) (config : Option (List (Nat × Nat × Word))),
      (s.m.mainOff = false) := by
  exact ⟨⟨readyMach, [], []⟩, (none), by decide +kernel⟩

theorem witness_recoveryImage :
    ∃ (s : State) (image : List Byte) (config : Option (List (Nat × Nat × Word))),
      (s.m.mainOff = false) ∧ (s.m.flag pgPwr Pwr.READY = false) ∧ (s.m.fld pgDev Dev.FWVER = 0) ∧ (image.length ≤ 0x400000) := by
  exact ⟨⟨machReset, [], []⟩, ([0x4A]), (none), by decide +kernel⟩

theorem witness_rollbackFloorRaise :
    ∃ (s : State) (h : Nat),
      (s.m.mainOff = false) ∧ (1 ≤ h) := by
  exact ⟨⟨readyMach, [], []⟩, (1), by decide +kernel⟩

theorem witness_lockerNop :
    ∃ (s : State) (src : Src) (c : Fin 6) (slot slot2 : Fin 64),
      (s.m.mainOff = false) ∧ (s.m.takes src pgLocker (0x100 + 0x20 * c) (svcWord 0 slot slot2)) := by
  exact ⟨⟨machReset, [], []⟩, (.core 5), (5), (63), (1), by decide +kernel⟩

theorem witness_generate :
    ∃ (s : State) (src : Src) (c : Fin 6) (slot slot2 : Fin 64),
      (s.m.mainOff = false) ∧ (s.m.takes src pgLocker (0x100 + 0x20 * c) (svcWord 1 slot slot2)) := by
  exact ⟨⟨machReset, [], []⟩, (.core 5), (5), (63), (1), by decide +kernel⟩

theorem witness_importKey :
    ∃ (s : State) (src : Src) (c : Fin 6) (slot slot2 : Fin 64),
      (s.m.mainOff = false) ∧ (s.m.takes src pgLocker (0x100 + 0x20 * c) (svcWord 2 slot slot2)) := by
  exact ⟨⟨machReset, [], []⟩, (.core 5), (5), (63), (1), by decide +kernel⟩

theorem witness_exportKey :
    ∃ (s : State) (src : Src) (c : Fin 6) (slot slot2 : Fin 64),
      (s.m.mainOff = false) ∧ (s.m.takes src pgLocker (0x100 + 0x20 * c) (svcWord 3 slot slot2)) := by
  exact ⟨⟨machReset, [], []⟩, (.core 5), (5), (63), (1), by decide +kernel⟩

theorem witness_derive :
    ∃ (s : State) (src : Src) (c : Fin 6) (slot slot2 : Fin 64),
      (s.m.mainOff = false) ∧ (s.m.takes src pgLocker (0x100 + 0x20 * c) (svcWord 4 slot slot2)) := by
  exact ⟨⟨machReset, [], []⟩, (.core 5), (5), (63), (1), by decide +kernel⟩

theorem witness_macGen :
    ∃ (s : State) (src : Src) (c : Fin 6) (slot slot2 : Fin 64),
      (s.m.mainOff = false) ∧ (s.m.takes src pgLocker (0x100 + 0x20 * c) (svcWord 5 slot slot2)) := by
  exact ⟨⟨machReset, [], []⟩, (.core 5), (5), (63), (1), by decide +kernel⟩

theorem witness_macVer :
    ∃ (s : State) (src : Src) (c : Fin 6) (slot slot2 : Fin 64),
      (s.m.mainOff = false) ∧ (s.m.takes src pgLocker (0x100 + 0x20 * c) (svcWord 6 slot slot2)) := by
  exact ⟨⟨machReset, [], []⟩, (.core 5), (5), (63), (1), by decide +kernel⟩

theorem witness_encrypt :
    ∃ (s : State) (src : Src) (c : Fin 6) (slot slot2 : Fin 64),
      (s.m.mainOff = false) ∧ (s.m.takes src pgLocker (0x100 + 0x20 * c) (svcWord 7 slot slot2)) := by
  exact ⟨⟨machReset, [], []⟩, (.core 5), (5), (63), (1), by decide +kernel⟩

theorem witness_decrypt :
    ∃ (s : State) (src : Src) (c : Fin 6) (slot slot2 : Fin 64),
      (s.m.mainOff = false) ∧ (s.m.takes src pgLocker (0x100 + 0x20 * c) (svcWord 8 slot slot2)) := by
  exact ⟨⟨machReset, [], []⟩, (.core 5), (5), (63), (1), by decide +kernel⟩

theorem witness_signMsg :
    ∃ (s : State) (src : Src) (c : Fin 6) (slot slot2 : Fin 64),
      (s.m.mainOff = false) ∧ (s.m.takes src pgLocker (0x100 + 0x20 * c) (svcWord 9 slot slot2)) := by
  exact ⟨⟨machReset, [], []⟩, (.core 5), (5), (63), (1), by decide +kernel⟩

theorem witness_verify :
    ∃ (s : State) (src : Src) (c : Fin 6) (slot slot2 : Fin 64),
      (s.m.mainOff = false) ∧ (s.m.takes src pgLocker (0x100 + 0x20 * c) (svcWord 10 slot slot2)) := by
  exact ⟨⟨machReset, [], []⟩, (.core 5), (5), (63), (1), by decide +kernel⟩

theorem witness_attest :
    ∃ (s : State) (src : Src) (c : Fin 6) (slot slot2 : Fin 64),
      (s.m.mainOff = false) ∧ (s.m.takes src pgLocker (0x100 + 0x20 * c) (svcWord 11 slot slot2)) := by
  exact ⟨⟨machReset, [], []⟩, (.core 5), (5), (63), (1), by decide +kernel⟩

theorem witness_random :
    ∃ (s : State) (src : Src) (c : Fin 6) (slot slot2 : Fin 64),
      (s.m.mainOff = false) ∧ (s.m.takes src pgLocker (0x100 + 0x20 * c) (svcWord 12 slot slot2)) := by
  exact ⟨⟨machReset, [], []⟩, (.core 5), (5), (63), (1), by decide +kernel⟩

theorem witness_zeroise :
    ∃ (s : State) (src : Src) (c : Fin 6) (slot slot2 : Fin 64),
      (s.m.mainOff = false) ∧ (s.m.takes src pgLocker (0x100 + 0x20 * c) (svcWord 13 slot slot2)) := by
  exact ⟨⟨machReset, [], []⟩, (.core 5), (5), (63), (1), by decide +kernel⟩

theorem witness_lockSlot :
    ∃ (s : State) (src : Src) (c : Fin 6) (slot slot2 : Fin 64),
      (s.m.mainOff = false) ∧ (s.m.takes src pgLocker (0x100 + 0x20 * c) (svcWord 14 slot slot2)) := by
  exact ⟨⟨machReset, [], []⟩, (.core 5), (5), (63), (1), by decide +kernel⟩

theorem witness_hash :
    ∃ (s : State) (src : Src) (c : Fin 6) (slot slot2 : Fin 64),
      (s.m.mainOff = false) ∧ (s.m.takes src pgLocker (0x100 + 0x20 * c) (svcWord 15 slot slot2)) := by
  exact ⟨⟨machReset, [], []⟩, (.core 5), (5), (63), (1), by decide +kernel⟩

theorem witness_lockerRequestDone :
    ∃ (s : State),
      (s.m.mainOff = false) ∧ (s.m.st pgLocker ≠ 5) ∧ (s.m.locker.queue ≠ []) := by
  exact ⟨⟨{ machReset with locker := { machReset.locker with queue := [⟨0, 14, 0, 0, 0, 0, 0, 0, 0, slotEmpty, slotEmpty, false⟩] } }, [], []⟩, by decide +kernel⟩

theorem witness_slotRead :
    ∃ (s : State) (src : Src),
      (s.m.mainOff = false) ∧ (s.m.takes src pgLocker 0x060 1) := by
  exact ⟨⟨machReset, [], []⟩, (.core 0), by decide +kernel⟩

theorem witness_writeAttr :
    ∃ (s : State) (src : Src),
      (s.m.mainOff = false) ∧ (s.m.takes src pgLocker 0x060 2) := by
  exact ⟨⟨(machReset.setFld pgLocker Locker.SLOT_SEL 1).setReg pgLocker Locker.SLOT_ATTR.off 0, [], []⟩, (.core 0), by decide +kernel⟩

theorem witness_tamper :
    ∃ (s : State) (sensor : Fin 7) (v : Int) (k : Nat),
      (s.m.pwr.asleep ≠ 3) ∧ (s.m.mainOff = false) ∧ (tamperWrong sensor v = false) := by
  exact ⟨⟨machReset, [], []⟩, (6), (10), (0), by decide +kernel⟩

theorem witness_tamper_2 :
    ∃ (s : State) (sensor : Fin 7) (v : Int) (k : Nat),
      (s.m.pwr.asleep ≠ 3) ∧ (s.m.mainOff = false) ∧ (tamperWrong sensor v) ∧ (tamperFilter sensor ≤ k) := by
  exact ⟨⟨machReset, [], []⟩, (6), (11), (1000000), by decide +kernel⟩

theorem witness_tamperCfgWrite :
    ∃ (s : State) (src : Src) (v : Word),
      (s.m.mainOff = false) ∧ (s.m.takes src pgLocker 0x040 v) := by
  exact ⟨⟨machReset, [], []⟩, (.core 0), (0x1555), by decide +kernel⟩

theorem witness_rngFail :
    ∃ (s : State) (bits : List Bool),
      (s.m.mainOff = false) ∧ (s.m.drbgOk) ∧ (repetitionFails bits) := by
  exact ⟨⟨machReset.setFlag pgLocker Locker.DRBG_OK true, [], []⟩, (List.replicate 41 true), by decide +kernel⟩

theorem witness_rngFail_2 :
    ∃ (s : State) (bits : List Bool),
      (s.m.mainOff = false) ∧ (s.m.drbgOk) ∧ (repetitionFails bits = false) ∧ (proportionFails bits) := by
  exact ⟨⟨machReset.setFlag pgLocker Locker.DRBG_OK true, [], []⟩, ((List.replicate 25 (List.replicate 40 true ++ [false])).flatten), by decide +kernel⟩

theorem witness_rngFail_3 :
    ∃ (s : State) (bits : List Bool),
      (s.m.mainOff = false) ∧ (s.m.drbgOk) ∧ (repetitionFails bits = false) ∧ (proportionFails bits = false) := by
  exact ⟨⟨machReset.setFlag pgLocker Locker.DRBG_OK true, [], []⟩, ([true, false]), by decide +kernel⟩

theorem witness_drbgReseed :
    ∃ (s : State),
      (s.m.mainOff = false) ∧ (s.m.drbgOk) ∧ (65536 ≤ s.m.locker.drbg) := by
  exact ⟨⟨{ machReset.setFlag pgLocker Locker.DRBG_OK true with locker := { machReset.locker with drbg := 65536 } }, [], []⟩, by decide +kernel⟩

theorem witness_request :
    ∃ (s : State) (src : Src),
      (s.m.mainOff = false) ∧ (s.m.takes src pgTether 0x070 1) := by
  exact ⟨⟨machReset, [], []⟩, (.core 0), by decide +kernel⟩

theorem witness_withdraw :
    ∃ (s : State) (src : Src),
      (s.m.mainOff = false) ∧ (s.m.takes src pgTether 0x070 2) := by
  exact ⟨⟨machReset, [], []⟩, (.core 0), by decide +kernel⟩

theorem witness_tokenRead :
    ∃ (s : State) (src : Src),
      (s.m.mainOff = false) ∧ (s.m.takes src pgTether 0x084 1) := by
  exact ⟨⟨machReset, [], []⟩, (.core 0), by decide +kernel⟩

theorem witness_tokenWrite :
    ∃ (s : State) (src : Src),
      (s.m.mainOff = false) ∧ (s.m.takes src pgTether 0x084 2) := by
  exact ⟨⟨machReset, [], []⟩, (.core 0), by decide +kernel⟩

theorem witness_round :
    ∃ (s : State),
      (s.m.mainOff = false) ∧ (s.m.flag pgTether Tether.REQ) ∧ ((s.m.roundStart 1).roundMask ≠ 0) := by
  exact ⟨⟨(machReset.setFlag pgTether Tether.REQ true).setFld pgTether Tether.ZONE 63, [], []⟩, by decide +kernel⟩

theorem witness_tokenAnswer :
    ∃ (s : State) (slot : Fin 16) (dbm : Int) (id cnt : Word) (stat : Nat) (tag : List Nat) (crc : Nat),
      (s.m.mainOff = false) ∧ (s.m.tether.round ≠ 0) ∧ (s.m.roundMask ≠ 0) ∧ (s.m.tether.slots = []) ∧ (answerCrc id cnt stat tag crc = false) ∧ (-100 < dbm) := by
  exact ⟨⟨({ machReset with tether := { machReset.tether with round := 1 } } : Mach).setFld pgTether Tether.ZONE 63, [], []⟩, (15), (-99), (5), (6), (0), ([]), (0), by decide +kernel⟩

theorem witness_tokenAnswer_2 :
    ∃ (s : State) (slot : Fin 16) (dbm : Int) (id cnt : Word) (stat : Nat) (tag : List Nat) (crc : Nat),
      (s.m.mainOff = false) ∧ (s.m.tether.round ≠ 0) ∧ (s.m.roundMask ≠ 0) ∧ (s.m.tether.slots = []) ∧ (answerCrc id cnt stat tag crc) ∧ ((s.m.token slot).en = false) := by
  exact ⟨⟨({ machReset with tether := { machReset.tether with round := 1 } } : Mach).setFld pgTether Tether.ZONE 63, [], []⟩, (15), (-120), (5), (6), (0), (List.replicate 8 0), (crc16 0xFFFF (beBytes 4 5 ++ beBytes 4 6 ++ [0] ++ List.replicate 8 0)), by decide +kernel⟩

theorem witness_tokenAnswer_3 :
    ∃ (s : State) (slot : Fin 16) (dbm : Int) (id cnt : Word) (stat : Nat) (tag : List Nat) (crc : Nat),
      (s.m.mainOff = false) ∧ (s.m.tether.round ≠ 0) ∧ (s.m.roundMask ≠ 0) ∧ (s.m.tether.slots = []) ∧ (answerCrc id cnt stat tag crc) ∧ ((s.m.token slot).en) ∧ ((s.m.token slot).id = id) ∧ ((s.m.token slot).last < cnt.toNat) ∧ (s.m.tagRight id cnt stat tag) := by
  exact ⟨⟨tokenMach, [], []⟩, (15), (-120), (5), (6), (0), ([111, 189, 252, 68, 230, 63, 169, 153]), (33587), by decide +kernel⟩

theorem witness_roundOutcome :
    ∃ (s : State),
      (s.m.mainOff = false) ∧ (s.m.tether.round = 1) ∧ ((s.m.roundOver.engineKey (s.m.roundOver.fld pgTether Tether.TOKSLOT) 2 [2]).isSome) ∧ (s.m.tether.slots = []) := by
  exact ⟨⟨tokenMach, [], []⟩, by decide +kernel⟩

theorem witness_roundOutcome_2 :
    ∃ (s : State) (k : Nat) (id : Word),
      (s.m.mainOff = false) ∧ (s.m.tether.round = 1) ∧ ((s.m.roundOver.engineKey (s.m.roundOver.fld pgTether Tether.TOKSLOT) 2 [2]).isSome) ∧ (s.m.tether.slots = [(k, 1, id)]) ∧ (k < 16) ∧ (({ s.m.roundOver with tether := { s.m.roundOver.tether with collides := 0 } } : Mach).flag pgTether Tether.REQ) := by
  exact ⟨⟨wonMach, [], []⟩, (15), (5), by decide +kernel⟩

theorem witness_lockoutEnd :
    ∃ (s : State),
      (s.m.pwr.asleep ≠ 3) ∧ (s.m.mainOff = false) ∧ (s.m.flag pgTether Tether.LOCKOUT) ∧ (s.m.fld pgTether Tether.LOCK_T * 60 * 32768 ≤ (s.m.rk + 2 ^ 48 - s.m.tether.lockAt) % 2 ^ 48) := by
  exact ⟨⟨{ machReset.setFlag pgTether Tether.LOCKOUT true with tether := { machReset.tether with lockAt := 1 } }, [], []⟩, by decide +kernel⟩

theorem witness_presenceRound :
    ∃ (s : State) (ms : Nat),
      (s.m.mainOff = false) ∧ (s.m.released) ∧ (s.m.fld pgTether Tether.PRES_T ≤ ms) ∧ ((s.m.roundStart 2).roundMask ≠ 0) := by
  exact ⟨⟨(machReset.setFlag pgTether Tether.RELEASED true).setFld pgTether Tether.ZONE 63, [], []⟩, (65535), by decide +kernel⟩

theorem witness_absence :
    ∃ (s : State) (sec : Nat),
      (s.m.mainOff = false) ∧ (s.m.released) ∧ (s.m.fld pgTether Tether.ABSENT_T ≤ sec) ∧ (s.m.capType ((s.m.reg pgTether 0x028).toNat % 8) ≠ 2) := by
  exact ⟨⟨machReset.setFlag pgTether Tether.RELEASED true, [], []⟩, (65535), by decide +kernel⟩

theorem witness_releaseMessage :
    ∃ (s : State) (ms : Nat),
      (s.m.mainOff = false) ∧ (100 ≤ ms) ∧ (s.m.released) := by
  exact ⟨⟨machReset.setFlag pgTether Tether.RELEASED true, [], []⟩, (100), by decide +kernel⟩

theorem witness_antShort :
    ∃ (s : State) (a : Fin 6) (ms : Nat),
      (s.m.mainOff = false) ∧ (1 ≤ ms) ∧ (s.m.absent pgTether = false) := by
  exact ⟨⟨machReset, [], []⟩, (5), (1), by decide +kernel⟩

theorem witness_antOpen :
    ∃ (s : State) (a : Fin 6) (mA : Nat),
      (s.m.mainOff = false) ∧ (s.m.absent pgTether = false) ∧ (mA * 100 < 30 * s.m.antDrive a) := by
  exact ⟨⟨machReset, [], []⟩, (5), (0), by decide +kernel⟩

theorem witness_antOpen_2 :
    ∃ (s : State) (a : Fin 6) (mA : Nat),
      (s.m.mainOff = false) ∧ (s.m.absent pgTether = false) ∧ (30 * s.m.antDrive a ≤ mA * 100) := by
  exact ⟨⟨machReset, [], []⟩, (5), (1000), by decide +kernel⟩

theorem witness_failedAttemptExpiry :
    ∃ (s : State),
      (s.m.pwr.asleep ≠ 3) ∧ (s.m.mainOff = false) := by
  exact ⟨⟨{ machReset with tether := { machReset.tether with fails := [1] } }, [], []⟩, by decide +kernel⟩

theorem witness_add :
    ∃ (s : State) (c : Fin 6) (y : Bool) (pr : Fin 8) (f : Bool) (rd rs1 rs2 : Fin 32),
      (s.m.mainOff = false) ∧ (s.m.entering = false) ∧ (s.m.plain c) := by
  exact ⟨⟨runMach, [], []⟩, (3), (false), (0), (true), (4), (5), (6), by decide +kernel⟩

theorem witness_sub :
    ∃ (s : State) (c : Fin 6) (y : Bool) (pr : Fin 8) (f : Bool) (rd rs1 rs2 : Fin 32),
      (s.m.mainOff = false) ∧ (s.m.entering = false) ∧ (s.m.plain c) := by
  exact ⟨⟨runMach, [], []⟩, (3), (false), (0), (true), (4), (5), (6), by decide +kernel⟩

theorem witness_adc :
    ∃ (s : State) (c : Fin 6) (y : Bool) (pr : Fin 8) (f : Bool) (rd rs1 rs2 : Fin 32),
      (s.m.mainOff = false) ∧ (s.m.entering = false) ∧ (s.m.plain c) := by
  exact ⟨⟨runMach, [], []⟩, (3), (false), (0), (true), (4), (5), (6), by decide +kernel⟩

theorem witness_sbc :
    ∃ (s : State) (c : Fin 6) (y : Bool) (pr : Fin 8) (f : Bool) (rd rs1 rs2 : Fin 32),
      (s.m.mainOff = false) ∧ (s.m.entering = false) ∧ (s.m.plain c) := by
  exact ⟨⟨runMach, [], []⟩, (3), (false), (0), (true), (4), (5), (6), by decide +kernel⟩

theorem witness_adds :
    ∃ (s : State) (c : Fin 6) (y : Bool) (pr : Fin 8) (rd rs1 rs2 : Fin 32),
      (s.m.mainOff = false) ∧ (s.m.entering = false) ∧ (s.m.plain c) := by
  exact ⟨⟨runMach, [], []⟩, (3), (false), (0), (4), (5), (6), by decide +kernel⟩

theorem witness_subs :
    ∃ (s : State) (c : Fin 6) (y : Bool) (pr : Fin 8) (rd rs1 rs2 : Fin 32),
      (s.m.mainOff = false) ∧ (s.m.entering = false) ∧ (s.m.plain c) := by
  exact ⟨⟨runMach, [], []⟩, (3), (false), (0), (4), (5), (6), by decide +kernel⟩

theorem witness_andOp :
    ∃ (s : State) (c : Fin 6) (y : Bool) (pr : Fin 8) (rd rs1 rs2 : Fin 32),
      (s.m.mainOff = false) ∧ (s.m.entering = false) ∧ (s.m.plain c) := by
  exact ⟨⟨runMach, [], []⟩, (3), (false), (0), (4), (5), (6), by decide +kernel⟩

theorem witness_orOp :
    ∃ (s : State) (c : Fin 6) (y : Bool) (pr : Fin 8) (rd rs1 rs2 : Fin 32),
      (s.m.mainOff = false) ∧ (s.m.entering = false) ∧ (s.m.plain c) := by
  exact ⟨⟨runMach, [], []⟩, (3), (false), (0), (4), (5), (6), by decide +kernel⟩

theorem witness_xorOp :
    ∃ (s : State) (c : Fin 6) (y : Bool) (pr : Fin 8) (rd rs1 rs2 : Fin 32),
      (s.m.mainOff = false) ∧ (s.m.entering = false) ∧ (s.m.plain c) := by
  exact ⟨⟨runMach, [], []⟩, (3), (false), (0), (4), (5), (6), by decide +kernel⟩

theorem witness_andn :
    ∃ (s : State) (c : Fin 6) (y : Bool) (pr : Fin 8) (rd rs1 rs2 : Fin 32),
      (s.m.mainOff = false) ∧ (s.m.entering = false) ∧ (s.m.plain c) := by
  exact ⟨⟨runMach, [], []⟩, (3), (false), (0), (4), (5), (6), by decide +kernel⟩

theorem witness_shl :
    ∃ (s : State) (c : Fin 6) (y : Bool) (pr : Fin 8) (rd rs1 rs2 : Fin 32),
      (s.m.mainOff = false) ∧ (s.m.entering = false) ∧ (s.m.plain c) := by
  exact ⟨⟨runMach, [], []⟩, (3), (false), (0), (4), (5), (6), by decide +kernel⟩

theorem witness_shr :
    ∃ (s : State) (c : Fin 6) (y : Bool) (pr : Fin 8) (rd rs1 rs2 : Fin 32),
      (s.m.mainOff = false) ∧ (s.m.entering = false) ∧ (s.m.plain c) := by
  exact ⟨⟨runMach, [], []⟩, (3), (false), (0), (4), (5), (6), by decide +kernel⟩

theorem witness_sar :
    ∃ (s : State) (c : Fin 6) (y : Bool) (pr : Fin 8) (rd rs1 rs2 : Fin 32),
      (s.m.mainOff = false) ∧ (s.m.entering = false) ∧ (s.m.plain c) := by
  exact ⟨⟨runMach, [], []⟩, (3), (false), (0), (4), (5), (6), by decide +kernel⟩

theorem witness_ror :
    ∃ (s : State) (c : Fin 6) (y : Bool) (pr : Fin 8) (rd rs1 rs2 : Fin 32),
      (s.m.mainOff = false) ∧ (s.m.entering = false) ∧ (s.m.plain c) := by
  exact ⟨⟨runMach, [], []⟩, (3), (false), (0), (4), (5), (6), by decide +kernel⟩

theorem witness_minOp :
    ∃ (s : State) (c : Fin 6) (y : Bool) (pr : Fin 8) (rd rs1 rs2 : Fin 32),
      (s.m.mainOff = false) ∧ (s.m.entering = false) ∧ (s.m.plain c) := by
  exact ⟨⟨runMach, [], []⟩, (3), (false), (0), (4), (5), (6), by decide +kernel⟩

theorem witness_maxOp :
    ∃ (s : State) (c : Fin 6) (y : Bool) (pr : Fin 8) (rd rs1 rs2 : Fin 32),
      (s.m.mainOff = false) ∧ (s.m.entering = false) ∧ (s.m.plain c) := by
  exact ⟨⟨runMach, [], []⟩, (3), (false), (0), (4), (5), (6), by decide +kernel⟩

theorem witness_minu :
    ∃ (s : State) (c : Fin 6) (y : Bool) (pr : Fin 8) (rd rs1 rs2 : Fin 32),
      (s.m.mainOff = false) ∧ (s.m.entering = false) ∧ (s.m.plain c) := by
  exact ⟨⟨runMach, [], []⟩, (3), (false), (0), (4), (5), (6), by decide +kernel⟩

theorem witness_maxu :
    ∃ (s : State) (c : Fin 6) (y : Bool) (pr : Fin 8) (rd rs1 rs2 : Fin 32),
      (s.m.mainOff = false) ∧ (s.m.entering = false) ∧ (s.m.plain c) := by
  exact ⟨⟨runMach, [], []⟩, (3), (false), (0), (4), (5), (6), by decide +kernel⟩

theorem witness_clz :
    ∃ (s : State) (c : Fin 6) (y : Bool) (pr : Fin 8) (rd rs1 : Fin 32),
      (s.m.mainOff = false) ∧ (s.m.entering = false) ∧ (s.m.plain c) := by
  exact ⟨⟨runMach, [], []⟩, (3), (false), (0), (4), (5), by decide +kernel⟩

theorem witness_perm :
    ∃ (s : State) (c : Fin 6) (y : Bool) (pr : Fin 8) (rd rs1 rs2 : Fin 32),
      (s.m.mainOff = false) ∧ (s.m.entering = false) ∧ (s.m.plain c) := by
  exact ⟨⟨runMach, [], []⟩, (3), (false), (0), (4), (5), (6), by decide +kernel⟩

theorem witness_bfx :
    ∃ (s : State) (c : Fin 6) (y : Bool) (pr : Fin 8) (rd rs1 rs2 : Fin 32),
      (s.m.mainOff = false) ∧ (s.m.entering = false) ∧ (s.m.plain c) := by
  exact ⟨⟨runMach, [], []⟩, (3), (false), (0), (4), (5), (6), by decide +kernel⟩

theorem witness_bfxs :
    ∃ (s : State) (c : Fin 6) (y : Bool) (pr : Fin 8) (rd rs1 rs2 : Fin 32),
      (s.m.mainOff = false) ∧ (s.m.entering = false) ∧ (s.m.plain c) := by
  exact ⟨⟨runMach, [], []⟩, (3), (false), (0), (4), (5), (6), by decide +kernel⟩

theorem witness_bfi :
    ∃ (s : State) (c : Fin 6) (y : Bool) (pr : Fin 8) (rd rs1 rs2 : Fin 32),
      (s.m.mainOff = false) ∧ (s.m.entering = false) ∧ (s.m.plain c) := by
  exact ⟨⟨runMach, [], []⟩, (3), (false), (0), (4), (5), (6), by decide +kernel⟩

theorem witness_sel :
    ∃ (s : State) (c : Fin 6) (y : Bool) (pr : Fin 8) (p : Fin 8) (rd rs1 rs2 : Fin 32),
      (s.m.mainOff = false) ∧ (s.m.entering = false) ∧ (s.m.plain c) := by
  exact ⟨⟨runMach, [], []⟩, (3), (false), (0), (3), (4), (5), (6), by decide +kernel⟩

theorem witness_cmpeq :
    ∃ (s : State) (c : Fin 6) (y : Bool) (pr : Fin 8) (pd : Fin 8) (rs1 rs2 : Fin 32),
      (s.m.mainOff = false) ∧ (s.m.entering = false) ∧ (s.m.plain c) := by
  exact ⟨⟨runMach, [], []⟩, (3), (false), (0), (4), (5), (6), by decide +kernel⟩

theorem witness_cmpne :
    ∃ (s : State) (c : Fin 6) (y : Bool) (pr : Fin 8) (pd : Fin 8) (rs1 rs2 : Fin 32),
      (s.m.mainOff = false) ∧ (s.m.entering = false) ∧ (s.m.plain c) := by
  exact ⟨⟨runMach, [], []⟩, (3), (false), (0), (4), (5), (6), by decide +kernel⟩

theorem witness_cmplt :
    ∃ (s : State) (c : Fin 6) (y : Bool) (pr : Fin 8) (pd : Fin 8) (rs1 rs2 : Fin 32),
      (s.m.mainOff = false) ∧ (s.m.entering = false) ∧ (s.m.plain c) := by
  exact ⟨⟨runMach, [], []⟩, (3), (false), (0), (4), (5), (6), by decide +kernel⟩

theorem witness_cmpltu :
    ∃ (s : State) (c : Fin 6) (y : Bool) (pr : Fin 8) (pd : Fin 8) (rs1 rs2 : Fin 32),
      (s.m.mainOff = false) ∧ (s.m.entering = false) ∧ (s.m.plain c) := by
  exact ⟨⟨runMach, [], []⟩, (3), (false), (0), (4), (5), (6), by decide +kernel⟩

theorem witness_cmple :
    ∃ (s : State) (c : Fin 6) (y : Bool) (pr : Fin 8) (pd : Fin 8) (rs1 rs2 : Fin 32),
      (s.m.mainOff = false) ∧ (s.m.entering = false) ∧ (s.m.plain c) := by
  exact ⟨⟨runMach, [], []⟩, (3), (false), (0), (4), (5), (6), by decide +kernel⟩

theorem witness_cmpleu :
    ∃ (s : State) (c : Fin 6) (y : Bool) (pr : Fin 8) (pd : Fin 8) (rs1 rs2 : Fin 32),
      (s.m.mainOff = false) ∧ (s.m.entering = false) ∧ (s.m.plain c) := by
  exact ⟨⟨runMach, [], []⟩, (3), (false), (0), (4), (5), (6), by decide +kernel⟩

theorem witness_plog :
    ∃ (s : State) (c : Fin 6) (y : Bool) (pr : Fin 8) (pd ps1 ps2 : Fin 8) (tbl : Fin 16),
      (s.m.mainOff = false) ∧ (s.m.entering = false) ∧ (s.m.plain c) := by
  exact ⟨⟨runMach, [], []⟩, (3), (false), (0), (4), (5), (6), (8), by decide +kernel⟩

theorem witness_mvtx :
    ∃ (s : State) (c : Fin 6) (y : Bool) (pr : Fin 8) (f : RFile) (idx : Fin 8) (rs1 : Fin 32),
      (s.m.mainOff = false) ∧ (s.m.entering = false) ∧ (s.m.plain c) := by
  exact ⟨⟨runMach, [], []⟩, (3), (false), (0), (.m), (2), (5), by decide +kernel⟩

theorem witness_mvfx :
    ∃ (s : State) (c : Fin 6) (y : Bool) (pr : Fin 8) (rd : Fin 32) (f : RFile) (idx : Fin 8),
      (s.m.mainOff = false) ∧ (s.m.entering = false) ∧ (s.m.plain c) := by
  exact ⟨⟨runMach, [], []⟩, (3), (false), (0), (5), (.am), (2), by decide +kernel⟩

theorem witness_mvts :
    ∃ (s : State) (c : Fin 6) (y : Bool) (pr : Fin 8) (r : SReg) (rs1 : Fin 32),
      (s.m.mainOff = false) ∧ (s.m.entering = false) ∧ (s.m.plain c) ∧ (r ≠ .trapInfo) := by
  exact ⟨⟨runMach, [], []⟩, (3), (false), (0), (.dsp), (5), by decide +kernel⟩

theorem witness_mvfs :
    ∃ (s : State) (c : Fin 6) (y : Bool) (pr : Fin 8) (rd : Fin 32) (r : SReg),
      (s.m.mainOff = false) ∧ (s.m.entering = false) ∧ (s.m.plain c) := by
  exact ⟨⟨runMach, [], []⟩, (3), (false), (0), (5), (.status), by decide +kernel⟩

theorem witness_addi :
    ∃ (s : State) (c : Fin 6) (y : Bool) (pr : Fin 8) (rd rs1 : Fin 32) (imm : BitVec 9),
      (s.m.mainOff = false) ∧ (s.m.entering = false) ∧ (s.m.plain c) := by
  exact ⟨⟨runMach, [], []⟩, (3), (false), (0), (4), (5), (-3), by decide +kernel⟩

theorem witness_andi :
    ∃ (s : State) (c : Fin 6) (y : Bool) (pr : Fin 8) (rd rs1 : Fin 32) (imm : BitVec 9),
      (s.m.mainOff = false) ∧ (s.m.entering = false) ∧ (s.m.plain c) := by
  exact ⟨⟨runMach, [], []⟩, (3), (false), (0), (4), (5), (-3), by decide +kernel⟩

theorem witness_ori :
    ∃ (s : State) (c : Fin 6) (y : Bool) (pr : Fin 8) (rd rs1 : Fin 32) (imm : BitVec 9),
      (s.m.mainOff = false) ∧ (s.m.entering = false) ∧ (s.m.plain c) := by
  exact ⟨⟨runMach, [], []⟩, (3), (false), (0), (4), (5), (-3), by decide +kernel⟩

theorem witness_xori :
    ∃ (s : State) (c : Fin 6) (y : Bool) (pr : Fin 8) (rd rs1 : Fin 32) (imm : BitVec 9),
      (s.m.mainOff = false) ∧ (s.m.entering = false) ∧ (s.m.plain c) := by
  exact ⟨⟨runMach, [], []⟩, (3), (false), (0), (4), (5), (-3), by decide +kernel⟩

theorem witness_shli :
    ∃ (s : State) (c : Fin 6) (y : Bool) (pr : Fin 8) (rd rs1 : Fin 32) (sh : Fin 32),
      (s.m.mainOff = false) ∧ (s.m.entering = false) ∧ (s.m.plain c) := by
  exact ⟨⟨runMach, [], []⟩, (3), (false), (0), (4), (5), (31), by decide +kernel⟩

theorem witness_shri :
    ∃ (s : State) (c : Fin 6) (y : Bool) (pr : Fin 8) (rd rs1 : Fin 32) (sh : Fin 32),
      (s.m.mainOff = false) ∧ (s.m.entering = false) ∧ (s.m.plain c) := by
  exact ⟨⟨runMach, [], []⟩, (3), (false), (0), (4), (5), (31), by decide +kernel⟩

theorem witness_sari :
    ∃ (s : State) (c : Fin 6) (y : Bool) (pr : Fin 8) (rd rs1 : Fin 32) (sh : Fin 32),
      (s.m.mainOff = false) ∧ (s.m.entering = false) ∧ (s.m.plain c) := by
  exact ⟨⟨runMach, [], []⟩, (3), (false), (0), (4), (5), (31), by decide +kernel⟩

theorem witness_bfxi :
    ∃ (s : State) (c : Fin 6) (y : Bool) (pr : Fin 8) (rd rs1 : Fin 32) (pos : Fin 32) (width : Fin 16),
      (s.m.mainOff = false) ∧ (s.m.entering = false) ∧ (s.m.plain c) := by
  exact ⟨⟨runMach, [], []⟩, (3), (false), (0), (4), (5), (20), (15), by decide +kernel⟩

theorem witness_bfii :
    ∃ (s : State) (c : Fin 6) (y : Bool) (pr : Fin 8) (rd rs1 : Fin 32) (pos : Fin 32) (width : Fin 16),
      (s.m.mainOff = false) ∧ (s.m.entering = false) ∧ (s.m.plain c) := by
  exact ⟨⟨runMach, [], []⟩, (3), (false), (0), (4), (5), (20), (15), by decide +kernel⟩

theorem witness_cmpeqi :
    ∃ (s : State) (c : Fin 6) (y : Bool) (pr : Fin 8) (pd : Fin 8) (rs1 : Fin 32) (imm : BitVec 9),
      (s.m.mainOff = false) ∧ (s.m.entering = false) ∧ (s.m.plain c) := by
  exact ⟨⟨runMach, [], []⟩, (3), (false), (0), (4), (5), (-3), by decide +kernel⟩

theorem witness_cmplti :
    ∃ (s : State) (c : Fin 6) (y : Bool) (pr : Fin 8) (pd : Fin 8) (rs1 : Fin 32) (imm : BitVec 9),
      (s.m.mainOff = false) ∧ (s.m.entering = false) ∧ (s.m.plain c) := by
  exact ⟨⟨runMach, [], []⟩, (3), (false), (0), (4), (5), (-3), by decide +kernel⟩

theorem witness_cmpltui :
    ∃ (s : State) (c : Fin 6) (y : Bool) (pr : Fin 8) (pd : Fin 8) (rs1 : Fin 32) (imm : BitVec 9),
      (s.m.mainOff = false) ∧ (s.m.entering = false) ∧ (s.m.plain c) := by
  exact ⟨⟨runMach, [], []⟩, (3), (false), (0), (4), (5), (-3), by decide +kernel⟩

theorem witness_movi :
    ∃ (s : State) (c : Fin 6) (y : Bool) (pr : Fin 8) (rd : Fin 32) (imm : BitVec 14),
      (s.m.mainOff = false) ∧ (s.m.entering = false) ∧ (s.m.plain c) := by
  exact ⟨⟨runMach, [], []⟩, (3), (false), (0), (4), (-3), by decide +kernel⟩

theorem witness_movh :
    ∃ (s : State) (c : Fin 6) (y : Bool) (pr : Fin 8) (rd : Fin 32) (imm : BitVec 14),
      (s.m.mainOff = false) ∧ (s.m.entering = false) ∧ (s.m.plain c) := by
  exact ⟨⟨runMach, [], []⟩, (3), (false), (0), (4), (3), by decide +kernel⟩

theorem witness_mul :
    ∃ (s : State) (c : Fin 6) (pr : Fin 8) (rd rs1 rs2 : Fin 32),
      (s.m.mainOff = false) ∧ (s.m.entering = false) ∧ (s.m.plain c) := by
  exact ⟨⟨runMach, [], []⟩, (3), (0), (4), (5), (6), by decide +kernel⟩

theorem witness_mulh :
    ∃ (s : State) (c : Fin 6) (pr : Fin 8) (rd rs1 rs2 : Fin 32),
      (s.m.mainOff = false) ∧ (s.m.entering = false) ∧ (s.m.plain c) := by
  exact ⟨⟨runMach, [], []⟩, (3), (0), (4), (5), (6), by decide +kernel⟩

theorem witness_mulhu :
    ∃ (s : State) (c : Fin 6) (pr : Fin 8) (rd rs1 rs2 : Fin 32),
      (s.m.mainOff = false) ∧ (s.m.entering = false) ∧ (s.m.plain c) := by
  exact ⟨⟨runMach, [], []⟩, (3), (0), (4), (5), (6), by decide +kernel⟩

theorem witness_mulq :
    ∃ (s : State) (c : Fin 6) (pr : Fin 8) (rd rs1 rs2 : Fin 32),
      (s.m.mainOff = false) ∧ (s.m.entering = false) ∧ (s.m.plain c) := by
  exact ⟨⟨runMach, [], []⟩, (3), (0), (4), (5), (6), by decide +kernel⟩

theorem witness_mac :
    ∃ (s : State) (c : Fin 6) (pr : Fin 8) (acc : Fin 2) (neg uns : Bool) (rs1 rs2 : Fin 32),
      (s.m.mainOff = false) ∧ (s.m.entering = false) ∧ (s.m.plain c) := by
  exact ⟨⟨runMach, [], []⟩, (3), (0), (1), (true), (false), (5), (6), by decide +kernel⟩

theorem witness_macz :
    ∃ (s : State) (c : Fin 6) (pr : Fin 8) (acc : Fin 2) (neg uns : Bool) (rs1 rs2 : Fin 32),
      (s.m.mainOff = false) ∧ (s.m.entering = false) ∧ (s.m.plain c) := by
  exact ⟨⟨runMach, [], []⟩, (3), (0), (1), (true), (true), (5), (6), by decide +kernel⟩

theorem witness_mach :
    ∃ (s : State) (c : Fin 6) (pr : Fin 8) (acc : Fin 2) (neg cross : Bool) (rs1 rs2 : Fin 32),
      (s.m.mainOff = false) ∧ (s.m.entering = false) ∧ (s.m.plain c) := by
  exact ⟨⟨runMach, [], []⟩, (3), (0), (1), (true), (true), (5), (6), by decide +kernel⟩

theorem witness_macd :
    ∃ (s : State) (c : Fin 6) (pr : Fin 8) (acc : Fin 2) (neg word : Bool) (ix j : Fin 8),
      (s.m.mainOff = false) ∧ (s.m.entering = false) ∧ (s.m.plain c) ∧ (ix ≠ j) ∧ ((s.m.core c).pred pr = true → inLocal ((s.m.core c).ar ix).toNat (if word then 4 else 2) = true ∧ inLocal ((s.m.core c).ar j).toNat (if word then 4 else 2) = true) := by
  exact ⟨⟨runMach, [], []⟩, (3), (0), (0), (false), (true), (1), (2), by decide +kernel⟩

theorem witness_mvfacc :
    ∃ (s : State) (c : Fin 6) (pr : Fin 8) (rd : Fin 32) (acc : Fin 2) (sh : Fin 41) (rnd sat : Bool),
      (s.m.mainOff = false) ∧ (s.m.entering = false) ∧ (s.m.plain c) := by
  exact ⟨⟨runMach, [], []⟩, (3), (0), (4), (1), (40), (true), (true), by decide +kernel⟩

theorem witness_mvtacc :
    ∃ (s : State) (c : Fin 6) (pr : Fin 8) (acc : Fin 2) (rs1 : Fin 32) (sh : Fin 41),
      (s.m.mainOff = false) ∧ (s.m.entering = false) ∧ (s.m.plain c) := by
  exact ⟨⟨runMach, [], []⟩, (3), (0), (1), (5), (40), by decide +kernel⟩

theorem witness_ldoB :
    ∃ (s : State) (c : Fin 6) (pr : Fin 8) (rd : Fin 32) (ix : Fin 8) (imm : BitVec 9),
      (s.m.mainOff = false) ∧ (s.m.entering = false) ∧ (s.m.plain c) ∧ ((s.m.core c).pred pr = true → inLocal ((s.m.core c).ar ix + imm.signExtend 32).toNat 1 = true) := by
  exact ⟨⟨runMach, [], []⟩, (3), (0), (4), (1), (-4), by decide +kernel⟩

theorem witness_ldoBu :
    ∃ (s : State) (c : Fin 6) (pr : Fin 8) (rd : Fin 32) (ix : Fin 8) (imm : BitVec 9),
      (s.m.mainOff = false) ∧ (s.m.entering = false) ∧ (s.m.plain c) ∧ ((s.m.core c).pred pr = true → inLocal ((s.m.core c).ar ix + imm.signExtend 32).toNat 1 = true) := by
  exact ⟨⟨runMach, [], []⟩, (3), (0), (4), (1), (-4), by decide +kernel⟩

theorem witness_ldoH :
    ∃ (s : State) (c : Fin 6) (pr : Fin 8) (rd : Fin 32) (ix : Fin 8) (imm : BitVec 9),
      (s.m.mainOff = false) ∧ (s.m.entering = false) ∧ (s.m.plain c) ∧ ((s.m.core c).pred pr = true → inLocal ((s.m.core c).ar ix + imm.signExtend 32).toNat 2 = true) := by
  exact ⟨⟨runMach, [], []⟩, (3), (0), (4), (1), (-4), by decide +kernel⟩

theorem witness_ldoHu :
    ∃ (s : State) (c : Fin 6) (pr : Fin 8) (rd : Fin 32) (ix : Fin 8) (imm : BitVec 9),
      (s.m.mainOff = false) ∧ (s.m.entering = false) ∧ (s.m.plain c) ∧ ((s.m.core c).pred pr = true → inLocal ((s.m.core c).ar ix + imm.signExtend 32).toNat 2 = true) := by
  exact ⟨⟨runMach, [], []⟩, (3), (0), (4), (1), (-4), by decide +kernel⟩

theorem witness_ldoW :
    ∃ (s : State) (c : Fin 6) (pr : Fin 8) (rd : Fin 32) (ix : Fin 8) (imm : BitVec 9),
      (s.m.mainOff = false) ∧ (s.m.entering = false) ∧ (s.m.plain c) ∧ ((s.m.core c).pred pr = true → inLocal ((s.m.core c).ar ix + imm.signExtend 32).toNat 4 = true) := by
  exact ⟨⟨runMach, [], []⟩, (3), (0), (4), (1), (-4), by decide +kernel⟩

theorem witness_ldp :
    ∃ (s : State) (c : Fin 6) (pr : Fin 8) (z : Size) (uns : Bool) (rd : Fin 32) (ix : Fin 8),
      (s.m.mainOff = false) ∧ (s.m.entering = false) ∧ (s.m.plain c) ∧ ((s.m.core c).pred pr = true → inLocal ((s.m.core c).ar ix).toNat (Size.bytes z) = true) := by
  exact ⟨⟨runMach, [], []⟩, (3), (0), (.half), (false), (4), (1), by decide +kernel⟩

theorem witness_ldx :
    ∃ (s : State) (c : Fin 6) (pr : Fin 8) (z : Size) (uns : Bool) (rd : Fin 32) (ix : Fin 8) (rs2 : Fin 32),
      (s.m.mainOff = false) ∧ (s.m.entering = false) ∧ (s.m.plain c) ∧ ((s.m.core c).pred pr = true → inLocal ((s.m.core c).ar ix + (s.m.core c).gr rs2).toNat (Size.bytes z) = true) := by
  exact ⟨⟨runMach, [], []⟩, (3), (0), (.half), (false), (4), (1), (3), by decide +kernel⟩

theorem witness_pop :
    ∃ (s : State) (c : Fin 6) (pr : Fin 8) (rd : Fin 32),
      (s.m.mainOff = false) ∧ (s.m.entering = false) ∧ (s.m.plain c) ∧ ((s.m.core c).pred pr = true → (s.m.core c).dsp.toNat < s.m.fld pgStrand (Strandctl.C_DSTK_HI c) ∧ inLocal (s.m.core c).dsp.toNat 4 = true) := by
  exact ⟨⟨runMach, [], []⟩, (3), (0), (4), by decide +kernel⟩

theorem witness_stoB :
    ∃ (s : State) (c : Fin 6) (pr : Fin 8) (rd : Fin 32) (ix : Fin 8) (imm : BitVec 9),
      (s.m.mainOff = false) ∧ (s.m.entering = false) ∧ (s.m.plain c) ∧ ((s.m.core c).pred pr = true → accFault c (.sto .byte rd ix imm.toInt) ⟨((s.m.core c).ar ix + imm.signExtend 32).toNat, 1, true⟩ = none ∧ (regionOf (((s.m.core c).ar ix + imm.signExtend 32).toNat) = some .dm ∨ (s.m.core c).wbuf.length < 4)) := by
  exact ⟨⟨runMach, [], []⟩, (3), (0), (4), (1), (-4), by decide +kernel⟩

theorem witness_stoH :
    ∃ (s : State) (c : Fin 6) (pr : Fin 8) (rd : Fin 32) (ix : Fin 8) (imm : BitVec 9),
      (s.m.mainOff = false) ∧ (s.m.entering = false) ∧ (s.m.plain c) ∧ ((s.m.core c).pred pr = true → accFault c (.sto .half rd ix imm.toInt) ⟨((s.m.core c).ar ix + imm.signExtend 32).toNat, 2, true⟩ = none ∧ (regionOf (((s.m.core c).ar ix + imm.signExtend 32).toNat) = some .dm ∨ (s.m.core c).wbuf.length < 4)) := by
  exact ⟨⟨runMach, [], []⟩, (3), (0), (4), (1), (-4), by decide +kernel⟩

theorem witness_stoW :
    ∃ (s : State) (c : Fin 6) (pr : Fin 8) (rd : Fin 32) (ix : Fin 8) (imm : BitVec 9),
      (s.m.mainOff = false) ∧ (s.m.entering = false) ∧ (s.m.plain c) ∧ ((s.m.core c).pred pr = true → accFault c (.sto .word rd ix imm.toInt) ⟨((s.m.core c).ar ix + imm.signExtend 32).toNat, 4, true⟩ = none ∧ (regionOf (((s.m.core c).ar ix + imm.signExtend 32).toNat) = some .dm ∨ (s.m.core c).wbuf.length < 4)) := by
  exact ⟨⟨runMach, [], []⟩, (3), (0), (4), (1), (-4), by decide +kernel⟩

theorem witness_stp :
    ∃ (s : State) (c : Fin 6) (pr : Fin 8) (z : Size) (rd : Fin 32) (ix : Fin 8),
      (s.m.mainOff = false) ∧ (s.m.entering = false) ∧ (s.m.plain c) ∧ ((s.m.core c).pred pr = true → accFault c (.stp z rd ix) ⟨((s.m.core c).ar ix).toNat, (Size.bytes z), true⟩ = none ∧ (regionOf (((s.m.core c).ar ix).toNat) = some .dm ∨ (s.m.core c).wbuf.length < 4)) := by
  exact ⟨⟨runMach, [], []⟩, (3), (0), (.half), (4), (1), by decide +kernel⟩

theorem witness_stx :
    ∃ (s : State) (c : Fin 6) (pr : Fin 8) (z : Size) (rd : Fin 32) (ix : Fin 8) (rs2 : Fin 32),
      (s.m.mainOff = false) ∧ (s.m.entering = false) ∧ (s.m.plain c) ∧ ((s.m.core c).pred pr = true → accFault c (.stx z rd ix rs2) ⟨((s.m.core c).ar ix + (s.m.core c).gr rs2).toNat, (Size.bytes z), true⟩ = none ∧ (regionOf (((s.m.core c).ar ix + (s.m.core c).gr rs2).toNat) = some .dm ∨ (s.m.core c).wbuf.length < 4)) := by
  exact ⟨⟨runMach, [], []⟩, (3), (0), (.half), (4), (1), (3), by decide +kernel⟩

theorem witness_push :
    ∃ (s : State) (c : Fin 6) (pr : Fin 8) (rd : Fin 32),
      (s.m.mainOff = false) ∧ (s.m.entering = false) ∧ (s.m.plain c) ∧ ((s.m.core c).pred pr = true → s.m.fld pgStrand (Strandctl.C_DSTK_LO c) ≤ ((s.m.core c).dsp - 4).toNat ∧ inLocal ((s.m.core c).dsp - 4).toNat 4 = true) := by
  exact ⟨⟨runMach, [], []⟩, (3), (0), (4), by decide +kernel⟩

theorem witness_swap :
    ∃ (s : State) (c : Fin 6) (pr : Fin 8) (rd : Fin 32) (ix : Fin 8),
      (s.m.mainOff = false) ∧ (s.m.entering = false) ∧ (s.m.plain c) ∧ ((s.m.core c).pred pr = true → inLocal ((s.m.core c).ar ix).toNat 4 = true ∧ (s.m.core c).wbuf = []) := by
  exact ⟨⟨runMach, [], []⟩, (3), (0), (4), (1), by decide +kernel⟩

theorem witness_sync :
    ∃ (s : State) (c : Fin 6) (pr : Fin 8),
      (s.m.mainOff = false) ∧ (s.m.entering = false) ∧ (s.m.plain c) ∧ ((s.m.core c).pred pr = true → (s.m.core c).wbuf = []) := by
  exact ⟨⟨runMach, [], []⟩, (3), (0), by decide +kernel⟩

theorem witness_nop :
    ∃ (s : State) (c : Fin 6) (pr : Fin 8),
      (s.m.mainOff = false) ∧ (s.m.entering = false) ∧ (s.m.plain c) := by
  exact ⟨⟨runMach, [], []⟩, (3), (0), by decide +kernel⟩

theorem witness_br :
    ∃ (s : State) (c : Fin 6) (pr : Fin 8) (off : BitVec 19),
      (s.m.mainOff = false) ∧ (s.m.entering = false) ∧ (s.m.plain c) ∧ ((s.m.core c).pred pr = true → s.goodTarget c (BitVec.ofInt 32 (((s.m.core c).pc : Int) + 2 * off.toInt)).toNat = true) := by
  exact ⟨⟨runMach, [], []⟩, (3), (0), (-4), by decide +kernel⟩

theorem witness_call :
    ∃ (s : State) (c : Fin 6) (pr : Fin 8) (off : BitVec 19),
      (s.m.mainOff = false) ∧ (s.m.entering = false) ∧ (s.m.plain c) ∧ ((s.m.core c).pred pr = true → s.goodTarget c (BitVec.ofInt 32 (((s.m.core c).pc : Int) + 2 * off.toInt)).toNat = true ∧ (s.m.core c).frames.length < 28) := by
  exact ⟨⟨runMach, [], []⟩, (3), (0), (-4), by decide +kernel⟩

theorem witness_brdec :
    ∃ (s : State) (c : Fin 6) (pr : Fin 8) (off : BitVec 19),
      (s.m.mainOff = false) ∧ (s.m.entering = false) ∧ (s.m.plain c) ∧ ((s.m.core c).pred pr = true → (s.m.core c).rpt ≠ 1 → s.goodTarget c (BitVec.ofInt 32 (((s.m.core c).pc : Int) + 2 * off.toInt)).toNat = true) := by
  exact ⟨⟨runMach, [], []⟩, (3), (0), (-4), by decide +kernel⟩

theorem witness_brr :
    ∃ (s : State) (c : Fin 6) (pr : Fin 8) (rs1 : Fin 32),
      (s.m.mainOff = false) ∧ (s.m.entering = false) ∧ (s.m.plain c) ∧ ((s.m.core c).pred pr = true → s.goodTarget c ((s.m.core c).gr rs1).toNat = true) := by
  exact ⟨⟨runMach, [], []⟩, (3), (0), (0), by decide +kernel⟩

theorem witness_callr :
    ∃ (s : State) (c : Fin 6) (pr : Fin 8) (rs1 : Fin 32),
      (s.m.mainOff = false) ∧ (s.m.entering = false) ∧ (s.m.plain c) ∧ ((s.m.core c).pred pr = true → s.goodTarget c ((s.m.core c).gr rs1).toNat = true ∧ (s.m.core c).frames.length < 28) := by
  exact ⟨⟨runMach, [], []⟩, (3), (0), (0), by decide +kernel⟩

theorem witness_ret :
    ∃ (s : State) (c : Fin 6) (pr : Fin 8) (fr : Frame) (rest : List Frame),
      (s.m.mainOff = false) ∧ (s.m.entering = false) ∧ (s.m.plain c) ∧ ((s.m.core c).pred pr = true → (s.m.core c).frames = fr :: rest ∧ s.goodTarget c fr.addr = true) := by
  exact ⟨⟨frameMach, [], []⟩, (3), (0), (⟨0x100, 0, 0⟩), ([]), by decide +kernel⟩

theorem witness_reti :
    ∃ (s : State) (c : Fin 6) (pr : Fin 8) (fr : Frame) (rest : List Frame),
      (s.m.mainOff = false) ∧ (s.m.entering = false) ∧ (s.m.plain c) ∧ ((s.m.core c).pred pr = true → (s.m.core c).frames = fr :: rest ∧ s.goodTarget c fr.addr = true) := by
  exact ⟨⟨frameMach, [], []⟩, (3), (0), (⟨0x100, 0, 0⟩), ([]), by decide +kernel⟩

theorem witness_rep :
    ∃ (s : State) (c : Fin 6) (pr : Fin 8) (k : BitVec 14),
      (s.m.mainOff = false) ∧ (s.m.entering = false) ∧ (s.m.plain c) ∧ (((sylsOf (fetchAt s.m s.mem c (s.m.core c).nextWord).decs).any fun y => y.op.rptWriter) = false) := by
  exact ⟨⟨runMach, [], []⟩, (3), (0), (0x3FFF), by decide +kernel⟩

theorem witness_repr :
    ∃ (s : State) (c : Fin 6) (pr : Fin 8) (rs1 : Fin 32),
      (s.m.mainOff = false) ∧ (s.m.entering = false) ∧ (s.m.plain c) ∧ (((sylsOf (fetchAt s.m s.mem c (s.m.core c).nextWord).decs).any fun y => y.op.rptWriter) = false) := by
  exact ⟨⟨runMach, [], []⟩, (3), (0), (0), by decide +kernel⟩

theorem witness_wait :
    ∃ (s : State) (c : Fin 6) (pr : Fin 8),
      (s.m.mainOff = false) ∧ (s.m.entering = false) ∧ (s.m.plain c) := by
  exact ⟨⟨runMach, [], []⟩, (3), (0), by decide +kernel⟩

theorem witness_trap :
    ∃ (s : State) (c : Fin 6) (pr : Fin 8) (code : Fin 16),
      (s.m.mainOff = false) ∧ (s.m.entering = false) ∧ (s.m.plain c) := by
  exact ⟨⟨runMach, [], []⟩, (3), (0), (15), by decide +kernel⟩

theorem witness_breakOp :
    ∃ (s : State) (c : Fin 6) (pr : Fin 8),
      (s.m.mainOff = false) ∧ (s.m.entering = false) ∧ (s.m.plain c) := by
  exact ⟨⟨runMach, [], []⟩, (3), (0), by decide +kernel⟩

theorem witness_issueGroup :
    ∃ (s : State) (c : Fin 6) (ecc : Fin 4),
      (s.m.mainOff = false) ∧ (s.m.entering = false) ∧ (s.m.plain c) ∧ (ecc ≠ 1) ∧ ((groupFault c (fetchAt s.m s.mem c (s.m.core c).pc) ecc s).isNone = true) ∧ ((s.m.core c).waits (sylsOf (fetchAt s.m s.mem c (s.m.core c).pc).decs) = .ready) := by
  exact ⟨⟨(runMach.modCore 3 fun k => { k with pc := 0 }), [(0x100060003, 0xC0)], []⟩, (3), (0), by decide +kernel⟩

theorem witness_accessComplete :
    ∃ (s : State) (c : Fin 6) (g : Group) (n : Nat),
      (s.m.mainOff = false) ∧ (s.m.entering = false) ∧ ((s.m.core c).stall = some (g, n + 2)) := by
  exact ⟨⟨runMach.modCore 3 fun k => { k with stall := some (⟨0, 4, []⟩, 2) }, [], []⟩, (3), (⟨0, 4, []⟩), (0), by decide +kernel⟩

theorem witness_accessComplete_2 :
    ∃ (s : State) (c : Fin 6) (g : Group),
      (s.m.mainOff = false) ∧ (s.m.entering = false) ∧ ((s.m.core c).stall = some (g, 1)) ∧ ((drainAll c { s with m := s.m.modCore c fun k => { k with stall := none } }).m.coreSt c = 2) ∧ (((drainAll c { s with m := s.m.modCore c fun k => { k with stall := none } }).m.core c).closing = false) := by
  exact ⟨⟨runMach.modCore 3 fun k => { k with stall := some (⟨0, 4, []⟩, 1) }, [], []⟩, (3), (⟨0, 4, []⟩), by decide +kernel⟩

theorem witness_writeBufferDrain :
    ∃ (s : State) (c : Fin 6) (x : WStore) (l : List WStore),
      (s.m.mainOff = false) ∧ (s.m.entering = false) ∧ ((s.m.core c).wbuf = x :: l) ∧ (((storeNow c x { s with m := s.m.modCore c fun k => { k with wbuf := l } }).m.core c).closing = false) ∧ (((storeNow c x { s with m := s.m.modCore c fun k => { k with wbuf := l } }).m.core c).stall = none) := by
  exact ⟨⟨runMach.modCore 3 fun k => { k with wbuf := [⟨0x20080000, 4, 5⟩] }, [], []⟩, (3), (⟨0x20080000, 4, 5⟩), ([]), by decide +kernel⟩

theorem witness_interruptAccept :
    ∃ (s : State) (c : Fin 6),
      (s.m.mainOff = false) ∧ (s.m.entering = false) ∧ ((s.m.core c).replay = false) ∧ (s.m.leadPair = false) ∧ (s.m.irqTaken c) ∧ ((s.m.core c).defer ≤ 5) := by
  exact ⟨⟨irqMach, [], []⟩, (3), by decide +kernel⟩

theorem witness_irqSet :
    ∃ (s : State) (src : Src) (core : Fin 8) (vec : Fin 32),
      (s.m.mainOff = false) ∧ (core.val < 6) ∧ (s.m.takes src pgStrand 0x048 (Strandctl.VECTOR.put (Strandctl.CORE.put 0 core) vec)) := by
  exact ⟨⟨readyMach, [], []⟩, (.core 0), (3), (31), by decide +kernel⟩

theorem witness_coreStart :
    ∃ (s : State) (src : Src) (c : Fin 6),
      (s.m.mainOff = false) ∧ (appCore c) ∧ (s.m.coreSt c = 0) ∧ (s.m.takes src pgStrand (0x100 + 0x40 * c) 1) := by
  exact ⟨⟨readyMach, [], []⟩, (.core 0), (3), by decide +kernel⟩

theorem witness_coreStop :
    ∃ (s : State) (src : Src) (c : Fin 6),
      (s.m.mainOff = false) ∧ (appCore c) ∧ (s.m.takes src pgStrand (0x100 + 0x40 * c) 2) := by
  exact ⟨⟨runMach, [], []⟩, (.core 0), (3), by decide +kernel⟩

theorem witness_load :
    ∃ (s : State) (src : Src) (c : Fin 6),
      (s.m.mainOff = false) ∧ (appCore c) ∧ (s.m.coreSt c ≠ 1) ∧ (s.m.takes src pgStrand (0x100 + 0x40 * c) 3) := by
  exact ⟨⟨readyMach, [], []⟩, (.core 0), (3), by decide +kernel⟩

theorem witness_coreReset :
    ∃ (s : State) (src : Src) (c : Fin 6),
      (s.m.mainOff = false) ∧ (appCore c) ∧ (s.m.coreSt c ≠ 1) ∧ (s.m.takes src pgStrand (0x100 + 0x40 * c) 4) := by
  exact ⟨⟨readyMach, [], []⟩, (.core 0), (3), by decide +kernel⟩

theorem witness_loadComplete :
    ∃ (s : State) (c : Fin 6),
      (s.m.mainOff = false) ∧ (s.m.entering = false) ∧ (appCore c) ∧ (s.m.coreSt c = 1) ∧ ((loadErr s.m s.mem c).1 = 0) := by
  exact ⟨⟨imageMach, imageMem, []⟩, (2), by decide +kernel⟩

theorem witness_loadComplete_2 :
    ∃ (s : State) (c : Fin 6),
      (s.m.mainOff = false) ∧ (s.m.entering = false) ∧ (appCore c) ∧ (s.m.coreSt c = 1) ∧ ((loadErr s.m s.mem c).1 ≠ 0) := by
  exact ⟨⟨readyMach.setFld pgStrand (Strandctl.C_STATE 2) 1, [], []⟩, (2), by decide +kernel⟩

theorem witness_dozeReq :
    ∃ (s : State) (src : Src) (mask : BitVec 4),
      (s.m.mainOff = false) ∧ (s.m.takes src pgPwr 0x048 (Pwr.DOZE_REQ.put 0 mask.toNat)) := by
  exact ⟨⟨runMach, [], []⟩, (.core 0), (2), by decide +kernel⟩

theorem witness_dozeExit :
    ∃ (s : State) (c : Fin 6),
      (s.m.mainOff = false) ∧ (s.m.entering = false) ∧ (s.m.coreMirrors c = false) ∧ (s.m.coreSt c = 4) ∧ (s.m.irqDue c ≠ 0) := by
  exact ⟨⟨irqMach.setFld pgStrand (Strandctl.C_STATE 3) 4, [], []⟩, (3), by decide +kernel⟩

theorem witness_messengerFrame :
    ∃ (s : State) (c : Fin 4),
      (s.m.mainOff = false) ∧ (s.m.entering = false) ∧ ((s.m.chain c).due) ∧ (s.m.chainOn c) ∧ ((s.m.chain c).inFrame = false) := by
  exact ⟨⟨chainMach.modChain 0 fun a => { a with due := true }, [], []⟩, (0), by decide +kernel⟩

theorem witness_refresh :
    ∃ (s : State) (c : Fin 4) (ms : Nat),
      (s.m.mainOff = false) ∧ (s.m.entering = false) ∧ (s.m.fld (pgMsg c) Msg.REFRESH ≤ ms) ∧ (s.m.chainOn c) ∧ ((s.m.chain c).inFrame = false) := by
  exact ⟨⟨chainMach, [], []⟩, (0), (65535), by decide +kernel⟩

theorem witness_syncHeave :
    ∃ (s : State) (c : Fin 4),
      (s.m.mainOff = false) ∧ (s.m.entering = false) ∧ ((s.m.chain c).syncShare) ∧ (s.m.anyHeaveMark c = false) := by
  exact ⟨⟨chainMach.modChain 0 fun a => { a with syncShare := true }, [], []⟩, (0), by decide +kernel⟩

theorem witness_echo :
    ∃ (s : State) (c : Fin 4) (ofHeave : Bool) (tag hop : Nat) (replies : List NodeReply) (e : Nat),
      (s.m.mainOff = false) ∧ (ofHeave) ∧ (s.m.flag (pgMsg c) Msg.RETURN) ∧ (s.m.chainOn c) ∧ ((s.m.chain c).awaiting = some e) := by
  exact ⟨⟨chainMach.modChain 0 fun a => { a with awaiting := some 7 }, [], []⟩, (0), (true), (0), (0), ([]), (7), by decide +kernel⟩

theorem witness_echo_2 :
    ∃ (s : State) (c : Fin 4) (ofHeave : Bool) (tag hop : Nat) (replies : List NodeReply),
      (s.m.mainOff = false) ∧ (ofHeave = false) ∧ (s.m.flag (pgMsg c) Msg.RETURN) ∧ (s.m.chainOn c) ∧ ((s.m.chain c).inFrame) ∧ (tag = (s.m.chain c).tag) ∧ (hop = (s.m.chain c).awake.length) ∧ ((replies.all fun r => s.m.replyOk c r)) := by
  exact ⟨⟨chainMach.modChain 0 fun a => { a with inFrame := true, tag := 77, awake := [0] }, [], []⟩, (0), (false), (77), (1), ([⟨0, false, 0x20, [], BitVec.ofNat 16 (replyCrc 0 0 false [0x20])⟩]), by decide +kernel⟩

theorem witness_echo_3 :
    ∃ (s : State) (c : Fin 4) (ofHeave : Bool) (tag hop : Nat) (replies : List NodeReply),
      (s.m.mainOff = false) ∧ (ofHeave = false) ∧ (s.m.flag (pgMsg c) Msg.RETURN) ∧ (s.m.chainOn c) ∧ ((s.m.chain c).inFrame) ∧ ((tag ≠ (s.m.chain c).tag ∨ hop ≠ (s.m.chain c).awake.length ∨ ¬ (replies.all fun r => s.m.replyOk c r))) := by
  exact ⟨⟨chainMach.modChain 0 fun a => { a with inFrame := true, tag := 77, awake := [0] }, [], []⟩, (0), (false), (78), (1), ([]), by decide +kernel⟩

theorem witness_noEcho :
    ∃ (s : State) (c : Fin 4) (begun : Bool) (ns lowNs : Nat),
      (s.m.mainOff = false) ∧ (s.m.flag (pgMsg c) Msg.RETURN) ∧ (s.m.chainOn c) ∧ ((s.m.chain c).inFrame) ∧ (((begun = false ∧ 20000 + 250 * (s.m.chain c).awake.length < ns) ∨ 4000 ≤ lowNs)) := by
  exact ⟨⟨chainMach.modChain 0 fun a => { a with inFrame := true }, [], []⟩, (0), (false), (20001), (0), by decide +kernel⟩

theorem witness_nodeInsertion :
    ∃ (s : State) (p : Fin 24) (ms : Nat),
      (s.m.mainOff = false) ∧ (s.m.flag (pgRat p) Rat.REGULATING) ∧ (5 ≤ ms) ∧ (((s.m.nodesOf (chainOf p) p).filter fun k => !(s.m.chain (chainOf p)).awake.contains k && !(s.m.chain (chainOf p)).joinSent.contains k) ≠ []) := by
  exact ⟨⟨(machReset.modChain 0 fun a => { a with found := [⟨1, 1, 1, 0, 0⟩] }).setFlag 0xC0 Rat.REGULATING true |>.setFld 0x1000 Sat.PORT 0, [], []⟩, (0), (5), by decide +kernel⟩

theorem witness_nodeRemoval :
    ∃ (s : State) (p : Fin 24),
      (s.m.mainOff = false) ∧ (s.m.flag (pgRat p) Rat.REGULATING = false) := by
  exact ⟨⟨machReset, [], []⟩, (0), by decide +kernel⟩

theorem witness_discover :
    ∃ (s : State) (src : Src) (c : Fin 4),
      (s.m.mainOff = false) ∧ (s.m.takes src (pgMsg c) 0x048 1) := by
  exact ⟨⟨machReset, [], []⟩, (.core 0), (0), by decide +kernel⟩

theorem witness_mapChain :
    ∃ (s : State) (src : Src) (c : Fin 4),
      (s.m.mainOff = false) ∧ (s.m.takes src (pgMsg c) 0x048 2) := by
  exact ⟨⟨machReset, [], []⟩, (.core 0), (0), by decide +kernel⟩

theorem witness_accept :
    ∃ (s : State) (src : Src) (c : Fin 4),
      (s.m.mainOff = false) ∧ (s.m.takes src (pgMsg c) 0x048 3) := by
  exact ⟨⟨machReset, [], []⟩, (.core 0), (0), by decide +kernel⟩

theorem witness_locate :
    ∃ (s : State) (src : Src) (c : Fin 4),
      (s.m.mainOff = false) ∧ (s.m.takes src (pgMsg c) 0x048 4) := by
  exact ⟨⟨machReset, [], []⟩, (.core 0), (0), by decide +kernel⟩

theorem witness_enumComplete :
    ∃ (s : State) (c : Fin 4) (nodes : List NodeFound) (heard : List (List Nat)) (falls : List Nat),
      (s.m.mainOff = false) ∧ (s.m.flag (pgMsg c) Msg.ENUM_BUSY) ∧ ((s.m.chain c).op = 1) := by
  exact ⟨⟨(machReset.modChain 0 fun a => { a with op := 1 }).setFlag 0xD8 Msg.ENUM_BUSY true, [], []⟩, (0), ([]), ([]), ([]), by decide +kernel⟩

theorem witness_enumComplete_2 :
    ∃ (s : State) (c : Fin 4) (nodes : List NodeFound) (heard : List (List Nat)) (falls : List Nat),
      (s.m.mainOff = false) ∧ (s.m.flag (pgMsg c) Msg.ENUM_BUSY) ∧ ((s.m.chain c).op = 2) ∧ (s.m.mapRuns c) := by
  exact ⟨⟨(machReset.modChain 0 fun a => { a with op := 2 }).setFlag 0xD8 Msg.ENUM_BUSY true, [], []⟩, (0), ([]), ([]), ([]), by decide +kernel⟩

theorem witness_enumComplete_3 :
    ∃ (s : State) (c : Fin 4) (nodes : List NodeFound) (heard : List (List Nat)) (falls : List Nat),
      (s.m.mainOff = false) ∧ (s.m.flag (pgMsg c) Msg.ENUM_BUSY) ∧ ((s.m.chain c).op = 3) ∧ (s.m.mapRuns c) := by
  exact ⟨⟨(machReset.modChain 0 fun a => { a with op := 3 }).setFlag 0xD8 Msg.ENUM_BUSY true, [], []⟩, (0), ([]), ([]), ([]), by decide +kernel⟩

theorem witness_enumComplete_4 :
    ∃ (s : State) (c : Fin 4) (nodes : List NodeFound) (heard : List (List Nat)) (falls : List Nat),
      (s.m.mainOff = false) ∧ (s.m.flag (pgMsg c) Msg.ENUM_BUSY) ∧ ((s.m.chain c).op = 4) := by
  exact ⟨⟨(machReset.modChain 0 fun a => { a with op := 4 }).setFlag 0xD8 Msg.ENUM_BUSY true, [], []⟩, (0), ([]), ([]), ([]), by decide +kernel⟩

theorem witness_lineShort :
    ∃ (s : State) (c : Fin 4) (ms : Nat),
      (s.m.mainOff = false) ∧ (1 ≤ ms) ∧ (s.m.chainOn c) := by
  exact ⟨⟨chainMach, [], []⟩, (0), (1), by decide +kernel⟩

theorem witness_poll :
    ∃ (s : State) (c : Fin 4) (k : Fin 1024) (ms : Nat),
      (s.m.mainOff = false) ∧ (s.m.entering = false) ∧ (s.m.fld (pgMsg c) Msg.POLL_T ≤ ms) ∧ ((s.m.chain c).awake.contains k.val) := by
  exact ⟨⟨chainMach.modChain 0 fun a => { a with awake := [0] }, [], []⟩, (0), (0), (65535), by decide +kernel⟩

theorem witness_satelliteSyncWrite :
    ∃ (s : State) (src : Src) (c : Fin 4) (k : Fin 1024) (v : Word),
      (s.m.mainOff = false) ∧ (s.m.takes src (pgSat c k) 0x04C v) := by
  exact ⟨⟨chainMach.modChain 0 fun a => { a with found := [⟨1, 1, 1, 0, 0⟩] }, [], []⟩, (.core 0), (0), (0), (1), by decide +kernel⟩

theorem witness_IdleTicks : ∃ s : State, s.pending = [] := ⟨State.reset, rfl⟩

theorem witness_Unpowered : ∃ (i : Instr) (s : State), mainDomain i = true ∧ s.m.mainOff = true :=
  ⟨.cmdNop (.core 0) 0x20 5, ⟨watchMach, [], []⟩, by decide +kernel, by decide +kernel⟩

theorem witness_MemoryFrame : ∃ (i : Instr) (s t : State), movesMemory i = false ∧ exec i s = .next t :=
  ⟨.crystalReturn 0, ⟨machReset, [], []⟩, _, by decide +kernel, rfl⟩

theorem witness_MemoryStaysCanonical : ∃ s t : State, MemOk s ∧ step s = .next t := ⟨State.reset, _, (by decide +kernel : Memory.wf [] = true), rfl⟩

theorem witness_AbsentUnitRefuses : ∃ (m : Mach) (n : Nat), m.absent n = true :=
  ⟨machReset.setFld pgDev Dev.ORDER 2, pgTether, by decide +kernel⟩

theorem witness_Occupied : machReset.occupied 0x1000 = false ∧ machReset.occupied 0x4000 = false ∧ machReset.occupied 0x2000 = true := by
  decide +kernel

theorem witness_NarrowAccessTraps : (regionOf 0x60000002 = some .page ∧ 0x60000002 % 4 ≠ 0) ∧ regionOf 0x60000004 = some .page ∧
    readyMach.mainOff = false ∧ readyMach.entering = false ∧ runMach.coreSt 3 = 2 ∧ (runMach.core 3).stall = none ∧ (runMach.core 3).closing = false := by decide +kernel

theorem witness_DuplicateDiscarded : ∃ m : Mach, m.occupied 0x20 = true ∧ clsOf 0x20 ≠ .proxy ∧ (m.gate (.core 5) 0x20 0x008).isNone = true ∧
    m.fld 0x20 Hdr.LAST_SEQ = 7 :=
  ⟨machReset.setFld 0x20 Hdr.LAST_SEQ 7, by decide +kernel⟩

theorem witness_RefusalRecorded : (0x050 < 4096 ∧ 3 < 16) ∧ (0xFFF < 4096 ∧ 15 < 16) := by decide

theorem witness_FirstFaultLatched : machReset.absent 0x20 = false ∧ (machReset.setFld pgDev Dev.ORDER 2).absent pgTether = true ∧
    Nat.testBit (info (clsOf 0x20)).srcs 12 = true ∧ machReset.reg 0x20 0x018 = 0 ∧
    machReset.flag 0x20 Hdr.VALID = false ∧ (machReset.raise 0x20 12).src 0x20 12 = true ∧ (machReset.raise 0x20 12).src 0x20 2 = false ∧
    (machReset.raise 0x20 12).flag 0x20 Hdr.VALID = true := by decide +kernel

theorem witness_GuardZeroDoesNothing : readyMach.mainOff = false ∧ runMach.plain 3 = true ∧ (runMach.core 3).pred 1 = false ∧
    illegal [.ok ⟨4, 1, .rep 0⟩] = none ∧ ((sylsOf (fetchAt runMach [] 3 (runMach.core 3).nextWord).decs).any fun z => z.op.rptWriter) = false := by
  decide +kernel

theorem witness_PermSelects : readyMach.mainOff = false ∧ readyMach.entering = false ∧ runMach.plain 3 = true ∧ (runMach.core 3).pred 0 = true := by decide +kernel

theorem witness_FieldBits : (runMach.setCore 3 { runMach.core 3 with g := [(6, 0x3F1F#32)] }).plain 3 = true ∧
    ((runMach.setCore 3 { runMach.core 3 with g := [(6, 0x3F1F#32)] }).core 3).pred 0 = true ∧ runMach.plain 3 = true := by decide +kernel

theorem witness_DataStack : readyMach.mainOff = false ∧ readyMach.entering = false ∧ runMach.plain 3 = true ∧ (runMach.core 3).pred 0 = true ∧
    runMach.fld pgStrand (Strandctl.C_DSTK_LO 3) ≤ ((runMach.core 3).dsp - 4).toNat ∧ inLocal ((runMach.core 3).dsp - 4).toNat 4 = true ∧
    (runMach.core 3).dsp.toNat < runMach.fld pgStrand (Strandctl.C_DSTK_HI 3) ∧ inLocal (runMach.core 3).dsp.toNat 4 = true ∧
    ((runMach.modCore 3 fun k => { k with dsp := 0x10003#32 }).core 3).dsp - 4 = 0xFFFF#32 ∧
    runMach.fld pgStrand (Strandctl.C_DSTK_HI 3) ≤ ((runMach.modCore 3 fun k => { k with dsp := 0x1C000#32 }).core 3).dsp.toNat := by decide +kernel

theorem witness_TrapEntry : (runMach.core 3).stBit stTRAP = false ∧ (runMach.core 3).frames.length < 32 := by decide +kernel

theorem witness_TrapHalts : ((runMach.modCore 3 fun k => { k with status := 4#32 }).core 3).stBit stTRAP = true ∧
    (runMach.setFld pgStrand (Strandctl.C_STATE 3) 5).coreSt 3 = 5 := by decide +kernel

theorem witness_InterruptEntry : 0 < 32 ∧ 31 < 32 := by decide

theorem witness_ReturnStack : readyMach.mainOff = false ∧ readyMach.entering = false ∧ runMach.plain 3 = true ∧ (runMach.core 3).pred 0 = true ∧ (runMach.core 3).frames = [] ∧
    (runMach.modCore 3 fun k => { k with frames := List.replicate 31 ⟨0, 0, 0⟩ }).plain 3 = true ∧
    28 ≤ ((runMach.modCore 3 fun k => { k with frames := List.replicate 31 ⟨0, 0, 0⟩ }).core 3).frames.length := by decide +kernel

theorem witness_OldValueRule : 33 % 32 ≠ 0 ∧ (coreReset).flight = [] := by decide

theorem witness_AddressUpdate : (0xAC#32 : Word).getLsbD 7 = true ∧ (0xAC#32 : Word).toNat % 32 ≠ 0 ∧ (0x80#32 : Word).toNat % 32 = 0 ∧
    (0#32 : Word).getLsbD 7 = false ∧ 2 ^ 5 < 2 * (32#32 : Word).toNat ∧ (32#32 : Word).toNat ≤ 2 ^ 5 ∧ 2 ^ 5 < 2 * (17#32 : Word).toNat := by decide

theorem witness_CoreReset : (2 ≤ 2 ∧ 2 ≤ 5) ∧ 2 ≤ 5 ∧ 5 ≤ 5 := by decide

theorem witness_ImageLoaded : headerOk imageMach imageMem 2 = true := by decide +kernel

theorem witness_LogRing : (1 < 256 ∧ 255 < 256) ∧ machReset.rk < 2 ^ 48 := by decide +kernel

theorem witness_VectorRaised : (0 < 6 ∧ 31 < 32) ∧ 5 < 6 ∧ 0 < 32 := by decide

end
end

section
/-! PROOFS. O40: writes to the page of an absent unit (00_scope.md R6). The gate of a page asks for the unit's presence before anything else,
and both routes of a page write, CMD and every other register, end at the gate when it refuses. -/

namespace Sys2Proof.Machine

/-! ## Page keys and refusals -/

/-- Registers within a page have keys of their own. -/
theorem pageKey_inj {n off k o : Nat} (ho : o < 4096) (hoff : off < 4096) : pageKey k o = pageKey n off ↔ (k, o) = (n, off) := by
  simp only [pageKey, Prod.mk.injEq]
  omega

/-- A refusal touches STATE and REJECT_INFO of its own page alone (R73, R74, R76). -/
theorem Mach.reg_refuse_ne (m : Mach) {n off reason k o : Nat} (ho : o < 4096) (hState : (k, o) ≠ (n, 0x00C))
    (hInfo : (k, o) ≠ (n, 0x010)) : (m.refuse n off reason).reg k o = m.reg k o := by
  have kState : pageKey k o ≠ pageKey n 0x00C := (pageKey_inj ho (by decide)).not.2 hState
  have kInfo : pageKey k o ≠ pageKey n 0x010 := (pageKey_inj ho (by decide)).not.2 hInfo
  calc (m.refuse n off reason).reg k o
      = (m.setFlag n Hdr.REJECT true).reg k o := Mach.reg_setReg_ne _ _ kInfo
    _ = m.reg k o := Mach.reg_setReg_ne _ _ kState

/-- A refusal leaves every shadow register (R73). -/
@[simp] theorem Mach.shadow_refuse (m : Mach) (n off reason : Nat) : (m.refuse n off reason).shadow = m.shadow := rfl

/-- The reason a refusal records, read from the whole register. -/
theorem Mach.reason_refuse (m : Mach) (n off reason : Nat) : ((m.refuse n off reason).reg n 0x010).toNat / 4096 = reason % 16 := by
  rw [Mach.reg_refuse, BitVec.toNat_ofNat]
  omega

/-! ## A refusing gate ends the write -/

/-- CMD: the gate comes before the Bight's fan-out, the proxy and the duplicate test. -/
theorem Mach.cmdWrite_of_gate {m m' : Mach} {src : Src} {n : Nat} {origin w : Word} (hocc : m.occupied n = true)
    (hg : m.gate src n 0x008 = some m') : m.cmdWrite src origin n w = m' := by
  simp [Mach.cmdWrite, Mach.pageCmd, hocc, hg]

/-- A Bight's own page. -/
theorem Mach.bightWrite_of_gate {m m' : Mach} {src : Src} {n off : Nat} {w mask : Word} (hg : m.gate src n off = some m') :
    m.bightWrite src n off w mask = m' := by
  simp [Mach.bightWrite, hg]

/-- Any other page: the write answers that it was refused. -/
theorem Mach.leafWrite_of_gate {m m' : Mach} {src : Src} {n off : Nat} {w mask : Word} {fanned : Bool}
    (hg : m.gate src n off = some m') : m.leafWrite src n off w mask fanned = (true, m') := by
  simp [Mach.leafWrite, hg]

/-- At an occupied page a refusing gate decides the whole write, whatever the register and the word (R74). -/
theorem Mach.pageWrite_of_gate {m m' : Mach} {src : Src} {n off : Nat} {w : Word} (hocc : m.occupied n = true)
    (hg : m.gate src n off = some m') : m.pageWrite src n off w = m' := by
  unfold Mach.pageWrite Mach.maskWrite
  by_cases hcmd : off = 0x008
  · subst hcmd
    rw [if_pos rfl]
    exact Mach.cmdWrite_of_gate hocc hg
  · rw [if_neg hcmd, if_neg (by simp [hocc])]
    split
    · exact Mach.bightWrite_of_gate hg
    · rw [Mach.leafWrite_of_gate hg]

/-! ## Absent units -/

/-- The units that JV9160-L leaves out: Tether, Splice and Ratline ports 12 to 23 (R4). -/
theorem Mach.optional_of_absent {m : Mach} {n : Nat} (h : m.absent n = true) :
    n = pgTether ∨ n = pgSplice ∨ ∃ p : Fin 24, n = pgRat p := by
  simp only [Mach.absent, Bool.and_eq_true, Bool.or_eq_true, beq_iff_eq, decide_eq_true_eq] at h
  obtain ⟨-, (hTether | hSplice) | ⟨hlo, hhi⟩⟩ := h
  · exact .inl hTether
  · exact .inr (.inl hSplice)
  · exact .inr (.inr ⟨⟨n - 0xC0, by omega⟩, by simp only [pgRat]; omega⟩)

/-- An absent unit's page is still occupied: a write to it is refused, not recorded as stray (R5, R6). -/
theorem Mach.occupied_of_absent {m : Mach} {n : Nat} (h : m.absent n = true) : m.occupied n = true := by
  obtain rfl | rfl | ⟨p, rfl⟩ := Mach.optional_of_absent h
  · rfl
  · rfl
  · simp [Mach.occupied, clsOf_pgRat]

/-- Absence is the first reason of R74: no other one, and no source, is asked. -/
theorem Mach.gate_of_absent {m : Mach} {n : Nat} (h : m.absent n = true) (src : Src) (off : Nat) :
    m.gate src n off = some (m.refuse n off 5) := if_pos h

/-- A write to an absent unit's page is refused with reason 5, NOT_PRESENT (R6). -/
theorem Mach.pageWrite_of_absent {m : Mach} {n : Nat} (h : m.absent n = true) (src : Src) (off : Nat) (w : Word) :
    m.pageWrite src n off w = m.refuse n off 5 :=
  Mach.pageWrite_of_gate (Mach.occupied_of_absent h) (Mach.gate_of_absent h src off)

/-- Settles O40: the write is the refusal with reason 5, and what that changes is known once for every refusal. -/
theorem absentUnitRefuses : Obligations.AbsentUnitRefuses := by
  intro m src n off w habsent
  rw [Mach.pageWrite_of_absent habsent]
  exact ⟨rfl, m.reason_refuse n off 5, m.flag_refuse n off 5, m.shadow_refuse n off 5,
    fun _ _ ho hState hInfo => m.reg_refuse_ne ho hState hInfo⟩

end Sys2Proof.Machine
end

section
/-! PROOFS. O33, O35 and O38: what every step does to the queue and to the byte memory. Each row of the table stands in one of the wrappers
of Sys2Proof/Machine/Run.lean; that is said once for all rows, and what the wrappers keep, every row keeps. -/

namespace Sys2Proof.Machine

/-! ## The rows by their wrappers -/

/-- What a row can be on a state: a change of the machine alone, or a change of the state that keeps the canonical form of the byte
memory; `run` the rows that wait while a sleep entry is under way (R474). -/
inductive IsRow (s : State) : Host.Outcome State Fault Refusal → Prop
  | units (f : Mach → Mach) : IsRow s (onUnits f s)
  | page (f : Mach → Mach) : IsRow s (onPage f s)
  | link (f : Mach → Mach) : IsRow s (onLink f s)
  | kept (f : Mach → Mach) : IsRow s (onKept f s)
  | state (f : State → State) (hf : s.mem.wf = true → (f s).mem.wf = true) : IsRow s (onState f s)
  | feed (f : State → State) (hf : s.mem.wf = true → (f s).mem.wf = true) : IsRow s (onFeed f s)
  | run {row : State → Host.Outcome State Fault Refusal} (h : IsRow s (row s)) : IsRow s (onRun row s)

/-- Every command is a row of one of the wrappers. -/
theorem exec_isRow (i : Instr) (s : State) : IsRow s (exec i s) := by
  unfold exec
  cases i with
  | cmdNop | enable | disable | apply | clearFaults | selftest | freeze | thaw | heldCommandExecute | testComplete | registerWrite |
  shadowWrite | faultSetClear | faultSourceSet | parentWrite | lockWrite | strayWrite | bightWindowWrite | markFire | markRead | markArm |
  markDisarm | baseCapWrite | advance | setpos | axleEdge | standstill | framePulse | mainsZeroCrossing | los | holdoverExpiry | relock |
  powGo | powCloseDetect | powTimeout | startSuccess | startTimeout | startEnergyCap | inrushEnd | shortCircuit | overcurrent | thermal |
  tjWarn | retry | retrySeriesReset | clamp | switchOpen | switchStuck | openOn | offdiagPulse | bfArm | backfeed | parallelUndeclared |
  share | syncLost | pwmPeriodStart | idealDiodeOff | aLost | railLost | sag | overvolt | bankOc | bankTrip | bpWarn | bpTrip | diode |
  unusedLive | bankClassWrite | digiFault | arcScoreUpdate | snapGo | loadClassification | ripple | rippleInsert | posWrite |
  stopRecognition | pinchCheck | reverseDriveStart | reversalEnd | brakeEnd | reverseBrakeEnd | limiting | limitLong | openLoad |
  positionTargetReached | parkInputEdge | parked | parkFail | intervalWaitEnd | rungEdge | pLimit | openString | shortString |
  regulatorResume | regFault | ledClamp | bypassRelease | divChoice | dimLost | sinkOpen | highV | foldback | jb4410ImageWrite | latch |
  modeWrite | echo | noEcho | nodeInsertion | nodeRemoval | discover | mapChain | accept | locate | enumComplete | lineShort |
  satelliteSyncWrite | peakEnd | pullIn | valveTurnOff | decayEnd | railUp | recovering | boostOv | boostUv | boostFault |
  coilResistanceUpdate | openCoil | dutyBin | vhsStuck | bandErr | broken | stuck | water | shield | shedEnWrite | ceilWrite | alive |
  slackExpiry | gfreezeWrite | boundWriteClamp | layAssert | laybreak | faultnErr | softWrite | entryWrite | halt | loglineRecordWrite |
  utcSet | srcWrite | irqSet | coreStart | coreStop | load | coreReset | dozeReq | txReq | canObjWrite | abort | recover | canFrameSent |
  canFrameReceived | canError | busOffRecovery | txdDom | linStart | linStop | goToSleep | linWake | linHeader | busShort | ptpSync |
  ptpLost | pdFrameReceived | prReceived | pdTmo | linkChange | hitchWrite | fidRead | fidWrite | fidCmd | resp | report | hello | subscribe
  | peerLost | fidPeerWrite | fidProxyWrite | ack | partnerUnfit | leadLost | spliceProbe | confirmEnd | replayComplete | partnerLost |
  legMismatch | pairTrip | guardWrite | sleep | rollback | prepareTimeout | commit | falseWake | pllEnWrite | coreSrcWrite | pllLock |
  pllUnlock | nmMessage | nmForward | ringSkip | ringListenTimeout | ringLost | graceEnd | networkRace | consentWrite | nmEnWrite | generate
  | importKey | exportKey | derive | macGen | macVer | encrypt | decrypt | signMsg | verify | attest | random | zeroise | lockSlot | hash |
  lockerNop | tamperCfgWrite | rngFail | request | withdraw | round | tokenAnswer | roundOutcome | presenceRound | absence | releaseMessage
  | antShort | antOpen | rollbackFloorRaise | spliceLinkChange | busIntegration | feedReturn | motorStopped | thermalResume | boostReady => exact .units _
  | ledgerStore | policyRead | policyWrite | store | storeComplete | entryRead | faultEntry | tlogRead | append | topStore | canObjRead |
  linFrameRead | linFrameWrite | telRead | telWrite | hitchRead | fidPeerRead | fidProxyRead | guardRead | slotRead | writeAttr | drbgReseed
  | tokenRead | tokenWrite => exact .page _
  | intent | edge | edgeApply => exact .link _
  | haltNInput | clkDegraded | crystalReturn | reckonCalibration | canWup | canPn | canFec | linWakePulse | wakeN | watchStep | supply |
  staticComparator | tamper | lockoutEnd | failedAttemptExpiry => exact .kept _
  | ledgerSample | deratingRecompute | rungTurnStart | easeStep | rungRetest | messengerFrame | refresh | syncHeave | poll | inWindow | long
  | cleaningPulse | touchScan | shedTriggerBegin | shedStageRaise | shedStageLower | automaticResumption | interruptAccept | dozeExit |
  linSlot | trdpPublish | hitchLookup | gapExpire | fidResend | helloTimer | epochEnd | reportSend | proxyGatherFlush | proxyCacheRefresh |
  intentSend | ackSend | spliceHealth | hfRcTrim | spliceHelloTimer => exact .run (.units _)
  | offsetRecalibration | arcBaselineUpdate | plug | prpSupervision => exact .run (.page _)
  | add | sub | adc | sbc | adds | subs | andOp | orOp | xorOp | andn | shl | shr | sar | ror | minOp | maxOp | minu | maxu | clz | perm |
  bfx | bfxs | bfi | sel | cmpeq | cmpne | cmplt | cmpltu | cmple | cmpleu | plog | mvtx | mvfx | mvts | mvfs | addi | andi | ori | xori |
  shli | shri | sari | bfxi | bfii | cmpeqi | cmplti | cmpltui | movi | movh | mul | mulh | mulhu | mulq | mac | mach | macz | macd | mvfacc
  | mvtacc | ldoB | ldoBu | ldoH | ldoHu | ldoW | stoB | stoH | stoW | ldp | stp | ldx | stx | push | pop | swap | sync | nop | br | call |
  brdec | brr | callr | ret | reti | rep | repr | wait | trap | breakOp => exact .run (.state _ (issueOp_wf _ _))
  | narrowAccess => exact .run (.state _ (narrowAccess_wf _ _))
  | issueGroup => exact .run (.state _ (issueFetched_wf _ _))
  | accessComplete => exact .run (.state _ (accessComplete_wf _))
  | writeBufferDrain => exact .run (.state _ (bufferDrain_wf _))
  | loadComplete => exact .run (.state _ (loadComplete_wf _))
  | ckpt => exact .run (.state _ (ckptRow_wf _ _))
  | snapshotComplete => exact .state _ (snapStore_wf _)
  | spliceHello => exact .state _ id
  | ckptReceived => exact .state _ (ckptReceived_wf _ _ _ _ _)
  | restoreComplete => exact .state _ restoreComplete_wf
  | lockerRequestDone => exact .state _ lockerDone_wf
  | commitComplete => exact .feed _ commitComplete_wf
  | wake => exact .feed _ (wakeRow_wf _ _)
  | logicFeedStart => exact .feed _ (feedStart_wf _ _ _ _ _ _)
  | logicFeedStop => exact .feed _ (feedStop_wf _ _ _)
  | watchdog => exact .feed _ (watchdog_wf _ _)
  | update => exact .feed _ (restart_wf _ _)
  | recoveryImage => exact .feed _ (recoveryImage_wf _ _)

/-- Every row answers a next state, with the commands that wait as they were. -/
theorem IsRow.answers {s : State} {o : Host.Outcome State Fault Refusal} (h : IsRow s o) :
    ∃ t : State, o = .next t ∧ t.pending = s.pending := by
  induction h with
  | units | page | link | kept | state | feed => exact ⟨_, rfl, rfl⟩
  | run _ ih =>
    unfold onRun
    split
    · exact ⟨s, rfl, rfl⟩
    · exact ih

/-- Every row keeps the canonical form of the byte memory. -/
theorem IsRow.keeps_wf {s t : State} {o : Host.Outcome State Fault Refusal} (h : IsRow s o) (hs : s.mem.wf = true)
    (e : o = .next t) : t.mem.wf = true := by
  induction h with
  | units => rwa [onUnits_mem e]
  | page => rwa [onPage_mem e]
  | link => rwa [onLink_mem e]
  | kept => rwa [onKept_mem e]
  | state f hf => exact onState_wf hf hs e
  | feed f hf => exact onFeed_wf hf hs e
  | run _ ih =>
    unfold onRun at e
    split at e
    · cases e; exact hs
    · exact ih e

/-- Settles O35: every command is a row of one of the wrappers, and every wrapper answers. -/
theorem everyCommandAnswers : Obligations.EveryCommandAnswers :=
  fun i s => (exec_isRow i s).answers

/-! ## The step -/

/-- With a command waiting, a step is that command on the queue's rest. -/
theorem step_cons {s : State} {i : Instr} {rest : List Instr} (h : s.pending = i :: rest) :
    step s = exec i { s with pending := rest } := by
  unfold step; rw [h]

/-- With none waiting, time passes for the machine alone. -/
theorem step_nil {s : State} (h : s.pending = []) : step s = .next { s with m := s.m.tick } := by
  unfold step; rw [h]

/-- Settles O33: putting a command before the queue and taking it again gives the queue. -/
theorem stepTakesFront : Obligations.StepTakesFront := fun _ _ => step_cons rfl

/-- Settles O38: time leaves the memory, and every row keeps its form. -/
theorem memoryStaysCanonical : Obligations.MemoryStaysCanonical := by
  intro s t hs e
  cases hp : s.pending with
  | nil =>
    rw [step_nil hp] at e
    cases e
    exact hs
  | cons i rest =>
    rw [step_cons hp] at e
    exact (exec_isRow i { s with pending := rest }).keeps_wf hs e

end Sys2Proof.Machine
end

section
/-! PROOFS. O41 to O45: pages and their occupation, narrow accesses, repeated commands, refusals and the first-fault latch
(02_units_and_pages.md R56, R58, R62, R66, R73 to R76). -/

namespace Sys2Proof

/-! ## Bits of fields -/

/-- A field's value, bit by bit. -/
theorem Fld.testBit_of (f : Fld) (w : Word) (i : Nat) :
    (f.of w).testBit i = (decide (i < f.hi + 1 - f.lo) && w.getLsbD (f.lo + i)) := by
  simp [Fld.of, Nat.testBit_mod_two_pow, Nat.testBit_div_two_pow, BitVec.getLsbD, Nat.add_comm]

/-- A put field takes its bits from the value and every other bit from the word. -/
theorem Fld.getLsbD_put (f : Fld) (w : Word) (v i : Nat) (h : f.lo ≤ f.hi) (hi : i < 32) :
    (f.put w v).getLsbD i = if f.lo ≤ i ∧ i ≤ f.hi then v.testBit (i - f.lo) else w.getLsbD i := by
  have hlow : w.toNat % 2 ^ f.lo < 2 ^ f.lo := Nat.mod_lt _ (Nat.two_pow_pos _)
  have hmid : 2 ^ f.lo * (v % 2 ^ (f.hi + 1 - f.lo)) + w.toNat % 2 ^ f.lo < 2 ^ (f.hi + 1) := by
    have hv : v % 2 ^ (f.hi + 1 - f.lo) < 2 ^ (f.hi + 1 - f.lo) := Nat.mod_lt _ (Nat.two_pow_pos _)
    calc 2 ^ f.lo * (v % 2 ^ (f.hi + 1 - f.lo)) + w.toNat % 2 ^ f.lo
        < 2 ^ f.lo * (v % 2 ^ (f.hi + 1 - f.lo) + 1) := by rw [Nat.mul_add, Nat.mul_one]; omega
      _ ≤ 2 ^ f.lo * 2 ^ (f.hi + 1 - f.lo) := Nat.mul_le_mul_left _ hv
      _ = 2 ^ (f.hi + 1) := by rw [← Nat.pow_add]; congr 1; omega
  have hput : f.put w v = BitVec.ofNat 32
      (2 ^ (f.hi + 1) * (w.toNat / 2 ^ (f.hi + 1)) + (2 ^ f.lo * (v % 2 ^ (f.hi + 1 - f.lo)) + w.toNat % 2 ^ f.lo)) := by
    unfold Fld.put; congr 1; ring
  rw [hput, BitVec.getLsbD_ofNat, Nat.testBit_two_pow_mul_add _ hmid, Nat.testBit_two_pow_mul_add _ hlow,
    Nat.testBit_mod_two_pow, Nat.testBit_mod_two_pow, Nat.testBit_div_two_pow]
  simp only [hi, decide_true, Bool.true_and]
  by_cases h1 : i < f.lo
  · rw [if_pos (by omega), if_pos h1, if_neg (by omega)]
    simp [h1, BitVec.getLsbD]
  · by_cases h2 : i ≤ f.hi
    · rw [if_pos (by omega), if_neg h1, if_pos ⟨by omega, h2⟩]
      simp only [show i - f.lo < f.hi + 1 - f.lo by omega, decide_true, Bool.true_and]
    · rw [if_neg (by omega), if_neg (by omega)]
      simp [BitVec.getLsbD, show i - (f.hi + 1) + (f.hi + 1) = i by omega]

/-- Putting one field leaves every other. -/
theorem Fld.of_put_ne (f g : Fld) (w : Word) (v : Nat) (hf : f.lo ≤ f.hi) (hg : g.hi < 32) (h : g.hi < f.lo ∨ f.hi < g.lo) :
    g.of (f.put w v) = g.of w := by
  refine Nat.eq_of_testBit_eq fun i => ?_
  rw [Fld.testBit_of, Fld.testBit_of]
  by_cases hi : i < g.hi + 1 - g.lo
  · rw [Fld.getLsbD_put f w v _ hf (by omega), if_neg (by omega)]
  · simp [hi]

namespace Machine

/-! ## Occupied pages (R56) -/

theorem clsOf_bight {n : Nat} (hlo : 0x2000 ≤ n) (hhi : n < 0x4000) : clsOf n = .bight := by
  unfold clsOf
  repeat rw [if_neg (by omega)]
  rw [if_pos hhi]

theorem clsOf_pgProxy {k : Nat} (hk : k < 0x2000) : clsOf (pgProxy k) = .proxy := by
  unfold clsOf pgProxy
  repeat rw [if_neg (by omega)]
  rw [if_pos (by omega)]

theorem clsOf_pgBight (b : Fin 8192) : clsOf (pgBight b) = .bight :=
  clsOf_bight (by simp only [pgBight]; omega) (by have := b.isLt; simp only [pgBight]; omega)

theorem Mach.occupied_of_bight {m : Mach} {n : Nat} (h : clsOf n = .bight) : m.occupied n = true := by
  simp [Mach.occupied, h]

theorem Mach.occupied_pgSat (m : Mach) (c : Fin 4) (k : Fin 1024) :
    m.occupied (pgSat c k) = true ↔ k < (m.chain c).found.length := by
  simp [Mach.occupied, clsOf_pgSat, pgSat_chain, pgSat_node, Mach.chain]

theorem Mach.occupied_pgProxy (m : Mach) {k : Nat} (hk : k < 0x2000) :
    m.occupied (pgProxy k) = true ↔ (tget m.proxies proxyReset k).bind = true := by
  rw [Mach.occupied, clsOf_pgProxy hk, show pgProxy k - 0x4000 = k by simp [pgProxy]]

/-- An unoccupied page reads 0. -/
theorem Mach.peek_of_unoccupied {m : Mach} {n : Nat} (h : m.occupied n = false) (off : Nat) : m.peek n off = 0 := by
  have hb : clsOf n ≠ .bight := fun hc => by simp [Mach.occupied_of_bight hc] at h
  simp [Mach.peek, hb, Mach.peekUnit, h]

/-! ## A write of CMD and a stray write -/

/-- A write of CMD is a command without origin. -/
theorem Mach.pageWrite_cmd (m : Mach) (src : Src) (n : Nat) (w : Word) :
    m.pageWrite src n 0x008 w = m.cmdWrite src noOrigin n w := by
  have hw : w &&& 0xFFFFFFFF#32 = w := BitVec.and_allOnes
  simp [Mach.pageWrite, Mach.maskWrite, hw]

/-- A write to an unoccupied page is recorded and does nothing else (R55, R56). -/
theorem Mach.pageWrite_of_unoccupied {m : Mach} {n : Nat} (h : m.occupied n = false) (src : Src) (off : Nat) (w : Word) :
    m.pageWrite src n off w = m.stray n off := by
  by_cases hcmd : off = 0x008
  · subst hcmd
    rw [Mach.pageWrite_cmd, Mach.cmdWrite, if_neg (by simp [h])]
  · simp [Mach.pageWrite, Mach.maskWrite, hcmd, h]

/-- Settles O41. -/
theorem occupied : Obligations.Occupied :=
  ⟨fun m c k hc hk => m.occupied_pgSat ⟨c, hc⟩ ⟨k, hk⟩, fun m _ hk => m.occupied_pgProxy hk,
    fun _ _ hlo hhi => Mach.occupied_of_bight (clsOf_bight hlo (by omega)),
    fun _ _ h => ⟨Mach.peek_of_unoccupied h, Mach.pageWrite_of_unoccupied h⟩⟩

/-! ## Narrow accesses (R58) -/

/-- A page access that is no aligned word has SUB 6, whatever the operation. -/
theorem accFault_narrow {c : Nat} {op : SOp} {x : Access} (hpage : regionOf x.addr = some .page) (h : x.bytes ≠ 4 ∨ x.addr % 4 ≠ 0) :
    accFault c op x = some 6 := by
  unfold accFault
  rw [hpage]
  cases op with
  | macd => rfl
  | _ => exact if_pos (by simpa using h)

/-- An aligned word of a page is admitted, but to SWAP and MACD (R401, R408). -/
theorem accFault_word {c : Nat} {op : SOp} {x : Access} (hpage : regionOf x.addr = some .page) (hbytes : x.bytes = 4)
    (haddr : x.addr % 4 = 0) (hswap : ∀ rd i : Nat, op ≠ .swap rd i) (hmacd : ∀ a n w i j, op ≠ .macd a n w i j) :
    accFault c op x = none := by
  unfold accFault
  rw [hpage]
  cases op with
  | macd => exact absurd rfl (hmacd _ _ _ _ _)
  | swap => exact absurd rfl (hswap _ _)
  | _ => exact if_neg (by simp [hbytes, haddr])

/-- A narrow access of a core that runs and waits for nothing is its BUS_ERROR. -/
theorem narrowAccess_running {c a : Nat} {s : State} (hm : s.m.mainOff = false) (hrun : s.m.coreSt c = 2)
    (hstall : (s.m.core c).stall = none) (hclosing : (s.m.core c).closing = false) :
    narrowAccess c a s = { s with m := s.m.coreTrap c ⟨2, 6, 0, 3, some a⟩ (s.m.core c).pc (s.m.core c).status } := by
  simp [narrowAccess, hm, hrun, hstall, hclosing]

theorem exec_narrowAccess_row (s : State) (c : Fin 6) (n : Fin 32768) (off : Fin 4096) :
    exec (.narrowAccess c n off) s = onRun (onState fun t => narrowAccess c (0x60000000 + 4096 * n + off) t) s := rfl

/-- NARROW_ACCESS raises BUS_ERROR with SUB 6 at the access's address, and does nothing else. -/
theorem exec_narrowAccess {s : State} {c : Fin 6} {n : Fin 32768} {off : Fin 4096} (hm : s.m.mainOff = false)
    (hentering : s.m.entering = false) (hrun : s.m.coreSt c = 2) (hstall : (s.m.core c).stall = none)
    (hclosing : (s.m.core c).closing = false) :
    exec (.narrowAccess c n off) s = .next (s.afterState
      { s with m := s.m.coreTrap c ⟨2, 6, 0, 3, some (0x60000000 + 4096 * n + off)⟩ (s.m.core c).pc (s.m.core c).status }) := by
  rw [exec_narrowAccess_row, onRun_row hentering, onState_next hm (narrowAccess_running hm hrun hstall hclosing)]

/-- Settles O42. -/
theorem narrowAccessTraps : Obligations.NarrowAccessTraps :=
  ⟨fun _ _ _ => accFault_narrow, fun _ _ _ => accFault_word, fun _ _ _ _ => exec_narrowAccess⟩

/-! ## Repeated commands (R66) -/

/-- At a page that no proxy forwards, a command with the SEQ of the last one changes nothing: a Bight and a unit both ask this first. -/
theorem Mach.pageCmd_duplicate {m : Mach} {src : Src} {n : Nat} {w origin : Word} {fanned : Bool} (fuel : Nat)
    (hocc : m.occupied n = true) (hproxy : clsOf n ≠ .proxy) (hg : m.gate src n 0x008 = none) (hseq : cmdSeq w ≠ 0)
    (hlast : cmdSeq w = m.fld n Hdr.LAST_SEQ) : m.pageCmd src origin (fuel + 1) n w fanned = ([], m) := by
  have hdup : (cmdSeq w ≠ 0 && cmdSeq w = m.fld n Hdr.LAST_SEQ) = true := by simp [hseq, ← hlast]
  unfold Mach.pageCmd
  rw [if_neg (by simp [hocc]), hg]
  by_cases hb : clsOf n = .bight
  · rw [if_pos (by simp [hb])]
    exact if_pos hdup
  · rw [if_neg (by simpa using hb), if_neg (by simpa using hproxy)]
    exact if_pos hdup

/-- Settles O43. -/
theorem duplicateDiscarded : Obligations.DuplicateDiscarded := by
  intro m src n code seq hcode hocc hproxy hg hseq hlast
  have hw : cmdSeq (cmdWord code seq) = seq.toNat := cmdSeq_cmdWord code seq (by omega)
  have hne : seq.toNat ≠ 0 := fun h => hseq (BitVec.eq_of_toNat_eq (by simpa using h))
  rw [Mach.pageWrite_cmd, Mach.cmdWrite, if_pos hocc,
    Mach.pageCmd_duplicate (m.depth + 1) hocc hproxy hg (by rwa [hw]) (by rw [hw, hlast])]

/-! ## Refusals (R73, R74, R76) -/

/-- A refusal sets no fault source. -/
theorem Mach.src_refuse (m : Mach) (n off reason k b : Nat) : (m.refuse n off reason).src k b = m.src k b := by
  unfold Mach.src
  rw [m.reg_refuse_ne (by decide) (by simp) (by simp)]

/-- Settles O44. -/
theorem refusalRecorded : Obligations.RefusalRecorded := by
  intro m n off reason hoff hreason
  refine ⟨m.flag_refuse n off reason, ?_, m.shadow_refuse n off reason, m.src_refuse n off reason,
    fun _ _ ho hState hInfo => m.reg_refuse_ne ho hState hInfo⟩
  rw [m.reg_refuse, BitVec.toNat_ofNat]
  omega

/-! ## The first-fault latch (R62) -/

/-- Of one source that a class defines, what is new is its bit, unless it is set. -/
theorem newSource_one {srcs b : Nat} (old : Word) (hb : b < 32) (hsrc : srcs.testBit b = true) :
    (2 ^ b &&& srcs) &&& (0xFFFFFFFF ^^^ old.toNat) = if old.getLsbD b then 0 else 2 ^ b := by
  refine Nat.eq_of_testBit_eq fun i => ?_
  have hones : Nat.testBit 0xFFFFFFFF i = decide (i < 32) := Nat.testBit_two_pow_sub_one 32 i
  rw [Nat.testBit_and, Nat.testBit_and, Nat.testBit_xor, hones, Nat.testBit_two_pow]
  by_cases hi : b = i
  · subst hi
    cases hold : old.getLsbD b <;> simp_all [BitVec.getLsbD]
  · cases old.getLsbD b <;> simp [hi]

/-- A source that is set already changes nothing. -/
theorem Mach.raise_of_src {m : Mach} {n b : Nat} (h : m.src n b = true) : m.raise n b = m := by
  have hb : b < 32 := BitVec.lt_of_getLsbD h
  have hnew : (2 ^ b &&& (info (clsOf n)).srcs) &&& (0xFFFFFFFF ^^^ (m.reg n 0x018).toNat) = 0 := by
    refine Nat.eq_of_testBit_eq fun i => ?_
    have hset : (m.reg n 0x018).toNat.testBit b = true := h
    have hones : Nat.testBit 0xFFFFFFFF i = decide (i < 32) := Nat.testBit_two_pow_sub_one 32 i
    rw [Nat.testBit_and, Nat.testBit_and, Nat.testBit_xor, hones, Nat.testBit_two_pow]
    by_cases hi : b = i
    · subst hi; simp [hset, hb]
    · simp [hi]
  simp [Mach.raise, Mach.raiseMask, hnew]

/-- No source of an absent unit sets (R6). -/
theorem Mach.raise_of_absent {m : Mach} {n : Nat} (h : m.absent n = true) (b : Nat) : m.raise n b = m := by
  simp [Mach.raise, Mach.raiseMask, h]

/-- FAULT_FIRST after source `b` has newly set: the latch is free only with FAULT_SET all zero and VALID 0. -/
def latchWord (faults first : Word) (b : Nat) : Word :=
  if Hdr.VALID.of first ≠ 0 then Hdr.OVF.put first 1
  else if faults = 0 then Hdr.OVF.put (Hdr.VALID.put (Hdr.SOURCE.put first b) 1) 0
  else first

/-- A write of a field of another register. -/
theorem Mach.reg_setFld_off (m : Mach) {n o : Nat} {f : Fld} (v : Nat) (h : o ≠ f.off) : (m.setFld n f v).reg n o = m.reg n o :=
  m.reg_setReg_off _ h

/-- A write of a field of the register itself. -/
theorem Mach.reg_setFld_self (m : Mach) {n o : Nat} {f : Fld} (v : Nat) (h : o = f.off) :
    (m.setFld n f v).reg n o = f.put (m.reg n o) v := by
  subst h; exact m.reg_setReg_self n _ _

theorem lowestBit_two_pow (b : Fin 32) : lowestBit (2 ^ b.val) = b := by
  decide +revert

/-- A defined source that sets newly: its bit joins FAULT_SET, and FAULT_FIRST takes the latch's word. STATE, which FAULTED and HEALTH may
change, is another register. -/
theorem Mach.reg_raise_new {m : Mach} {n b : Nat} (hpresent : m.absent n = false) (hb : b < 32)
    (hsrc : Nat.testBit (info (clsOf n)).srcs b = true) (hnew : m.src n b = false) :
    (m.raise n b).reg n 0x018 = BitVec.ofNat 32 ((m.reg n 0x018).toNat ||| 2 ^ b) ∧
    (m.raise n b).reg n 0x014 = latchWord (m.reg n 0x018) (m.reg n 0x014) b := by
  have hone := newSource_one (m.reg n 0x018) hb hsrc
  rw [if_neg (by simpa [Mach.src] using hnew)] at hone
  have hlow : lowestBit (2 ^ b) = b := lowestBit_two_pow ⟨b, hb⟩
  have hzero : (m.reg n 0x018).toNat = 0 ↔ m.reg n 0x018 = 0 := BitVec.toNat_inj (y := 0#32)
  have hstate : ∀ (p : Prop) [Decidable p] (m : Mach) (o : Nat), o ≠ 0x00C →
      (if p then m.setSt n 4 else m).reg n o = m.reg n o := by
    intro p _ m o ho
    split
    · exact m.reg_setFld_off _ ho
    · rfl
  have hhealth : ∀ (m : Mach) (o : Nat), o ≠ 0x00C → (m.refreshHealth n).reg n o = m.reg n o := fun m _ ho => m.reg_setFld_off _ ho
  simp only [Mach.raise, Mach.raiseMask, hone, hpresent, hlow]
  rw [if_neg (by simp), hhealth _ _ (by decide), hhealth _ _ (by decide), hstate _ _ _ (by decide), hstate _ _ _ (by decide)]
  constructor
  · split <;> [skip; split] <;> simp [Mach.setFlag, Mach.reg_setFld_off, Hdr.OVF, Hdr.VALID, Hdr.SOURCE]
  · have hvalid : (m.flag n Hdr.VALID = true) ↔ Hdr.VALID.of (m.reg n 0x014) ≠ 0 := decide_eq_true_iff
    have hfirst : ∀ w : Word, (m.setReg n 0x018 w).reg n 0x014 = m.reg n 0x014 := fun w => m.reg_setReg_off w (by decide)
    simp only [latchWord, hvalid, hzero]
    split <;> [skip; split] <;> simp [Mach.setFlag, Mach.reg_setFld_self, Hdr.OVF, Hdr.VALID, Hdr.SOURCE, hfirst]

/-- A field of FAULT_FIRST. -/
theorem Mach.fld_first {m : Mach} {n : Nat} {f : Fld} {w : Word} (h : f.off = 0x014) (hw : m.reg n 0x014 = w) : m.fld n f = f.of w := by
  rw [Mach.fld, h, hw]

theorem Mach.flag_first {m : Mach} {n : Nat} {f : Fld} {w : Word} (h : f.off = 0x014) (hw : m.reg n 0x014 = w) :
    m.flag n f = decide (f.of w ≠ 0) := by
  rw [Mach.flag, Mach.fld_first h hw]

/-- The free latch takes the source: SOURCE, VALID and OVF. -/
theorem latchWord_free {first : Word} {b : Nat} (hb : b < 32) (hvalid : Hdr.VALID.of first = 0) :
    Hdr.SOURCE.of (latchWord 0 first b) = b ∧ Hdr.VALID.of (latchWord 0 first b) = 1 ∧ Hdr.OVF.of (latchWord 0 first b) = 0 := by
  rw [latchWord, if_neg (by simpa using hvalid), if_pos rfl]
  refine ⟨?_, ?_, Fld.of_put _ _ _ (by decide) (by decide)⟩
  · rw [Fld.of_put_ne _ _ _ _ (by decide) (by decide) (by decide), Fld.of_put_ne _ _ _ _ (by decide) (by decide) (by decide),
      Fld.of_put _ _ _ (by decide) (by decide)]
    exact Nat.mod_eq_of_lt (by simp only [Hdr.SOURCE]; omega)
  · rw [Fld.of_put_ne _ _ _ _ (by decide) (by decide) (by decide)]
    exact Fld.of_put _ _ _ (by decide) (by decide)

/-- A latch that is taken keeps its source and notes the overflow. -/
theorem latchWord_taken {faults first : Word} {b : Nat} (hvalid : Hdr.VALID.of first ≠ 0) :
    Hdr.SOURCE.of (latchWord faults first b) = Hdr.SOURCE.of first ∧ Hdr.VALID.of (latchWord faults first b) = Hdr.VALID.of first ∧
    Hdr.OVF.of (latchWord faults first b) = 1 := by
  rw [latchWord, if_pos hvalid]
  exact ⟨Fld.of_put_ne _ _ _ _ (by decide) (by decide) (by decide), Fld.of_put_ne _ _ _ _ (by decide) (by decide) (by decide),
    Fld.of_put _ _ _ (by decide) (by decide)⟩

/-- A defined source that sets puts its bit into FAULT_SET, and clears none. -/
theorem Mach.src_raise {m : Mach} {n b k : Nat} (hpresent : m.absent n = false) (hb : b < 32) (hk : k < 32)
    (hsrc : Nat.testBit (info (clsOf n)).srcs b = true) : (m.raise n b).src n k = (decide (k = b) || m.src n k) := by
  cases hold : m.src n b with
  | true =>
    rw [Mach.raise_of_src hold]
    by_cases hkb : k = b
    · simp [hkb, hold]
    · simp [hkb]
  | false =>
    rw [Mach.src, (Mach.reg_raise_new hpresent hb hsrc hold).1, BitVec.getLsbD_ofNat, Nat.testBit_or, Nat.testBit_two_pow]
    simp [hk, Mach.src, BitVec.getLsbD, Bool.or_comm, eq_comm]

/-- Settles O45. -/
theorem firstFaultLatched : Obligations.FirstFaultLatched := by
  refine ⟨fun m n b k hp hb hk hs => Mach.src_raise hp hb hk hs, ?_, ?_, fun m n b h => Mach.raise_of_src h,
    fun m n b h => Mach.raise_of_absent h b⟩
  · intro m n b hp hb hs hzero hvalid
    have hfirst := (Mach.reg_raise_new hp hb hs (by simp [Mach.src, hzero])).2
    rw [hzero] at hfirst
    obtain ⟨hsource, hval, hovf⟩ := latchWord_free (first := m.reg n 0x014) hb (not_not.1 (of_decide_eq_false hvalid))
    exact ⟨by rw [Mach.fld_first rfl hfirst, hsource], by rw [Mach.flag_first rfl hfirst, hval]; rfl,
      by rw [Mach.flag_first rfl hfirst, hovf]; rfl⟩
  · intro m n b hp hb hs hnew hvalid
    have hfirst := (Mach.reg_raise_new hp hb hs hnew).2
    have htaken : Hdr.VALID.of (m.reg n 0x014) ≠ 0 := of_decide_eq_true hvalid
    obtain ⟨hsource, hval, hovf⟩ := latchWord_taken (faults := m.reg n 0x018) (b := b) htaken
    exact ⟨by rw [Mach.fld_first rfl hfirst, hsource]; rfl, by rw [Mach.flag_first rfl hfirst, hval]; exact decide_eq_true htaken,
      by rw [Mach.flag_first rfl hfirst, hovf]; rfl⟩

end Machine
end Sys2Proof
end

section
/-! PROOFS. O2: page writes that are taken (02_units_and_pages.md R55, R58, R62, R70, R74, R79, R84). Each row is the write of its register
under `onUnits`; what the write does is one lemma for each kind of register. -/

namespace Sys2Proof.Machine

/-! ## What a taken write does -/

/-- A register without a behaviour of its own stores the word; what its page derives from it follows. -/
theorem Mach.pageWrite_stored {m : Mach} {src : Src} {n off : Nat} {w : Word} (ho : 0x40 ≤ off)
    (hspecial : ((m.setFlag n Hdr.REJECT false).special src n off w).isNone = true) (h : m.takes src n off w = true) :
    m.pageWrite src n off w = m.ran src n off (fun m => (m.store n off w).stored n off (m.reg n off)) := by
  rw [Mach.pageWrite_takes (by omega) h]
  unfold Mach.ran
  rw [Mach.attempt_congr (g := fun m => (m.store n off w).stored n off (m.reg n off))]
  simp [show ¬ off < 0x040 by omega, Mach.classWrite, Option.isNone_iff_eq_none.1 hspecial]

/-- A write to the class window of a Bight that is not locked, whose leaves share a class, goes to every leaf (R84). -/
theorem Mach.bightWrite_window {m : Mach} {src : Src} {b off : Nat} {w mask : Word} (hlo : 0x40 ≤ off) (hhi : off < 0xF00)
    (hgate : m.gate src b off = none) (hcode : m.leafCode b ≠ 0) (hlock : m.flag b Hdr.LOCKED = false) :
    m.bightWrite src b off w mask = m.fanWrite src b off w mask := by
  unfold Mach.bightWrite
  rw [hgate]
  have hwindow : (0x040 ≤ off && decide (off < 0xF00)) = true := by simp [hlo, hhi]
  simp only [hlock, Bool.false_and, Bool.false_eq_true, if_false, hcode]
  split
  case h_6 => exact if_pos hwindow
  all_goals omega

theorem Mach.pageWrite_pgBight {m : Mach} {src : Src} {b : Fin 8192} {off : Nat} {w : Word} (hlo : 0x40 ≤ off) (hhi : off < 0xF00)
    (hgate : m.gate src (pgBight b) off = none) (hcode : m.leafCode (pgBight b) ≠ 0) (hlock : m.flag (pgBight b) Hdr.LOCKED = false) :
    m.pageWrite src (pgBight b) off w = m.fanWrite src (pgBight b) off w 0xFFFFFFFF#32 := by
  have hbight := clsOf_pgBight b
  unfold Mach.pageWrite Mach.maskWrite
  rw [if_neg (by omega), if_neg (by simp [Mach.occupied_of_bight hbight]), if_pos (by simp [hbight])]
  exact Mach.bightWrite_window hlo hhi hgate hcode hlock

/-- A class fault that does not persist leaves what holds the unit as it was. -/
theorem Mach.faultSource_passing {m : Mach} {n b : Nat} (hpresent : m.absent n = false)
    (hsrc : Nat.testBit (info (clsOf n)).srcs b = true) :
    m.faultSource n b false = ((m.modUnit n fun u => u).raise n b).actUnit n b := by
  have habsent : (m.modUnit n fun u => u).absent n = false := hpresent
  simp [Mach.faultSource, hsrc, habsent]

/-! ## The rows -/

theorem exec_registerWrite_row (s : State) (src : Src) (n : Fin 32768) (r : Fin 1024) (v : Word) :
    exec (.registerWrite src n r v) s = onUnits (fun m => m.pageWrite src n (4 * r) v) s := rfl
theorem exec_shadowWrite_row (s : State) (src : Src) (n : Fin 32768) (r : Fin 1024) (v : Word) :
    exec (.shadowWrite src n r v) s = onUnits (fun m => m.pageWrite src n (4 * r) v) s := rfl
theorem exec_boundWriteClamp_row (s : State) (src : Src) (n : Fin 32768) (r : Fin 1024) (v : Word) :
    exec (.boundWriteClamp src n r v) s = onUnits (fun m => m.pageWrite src n (4 * r) v) s := rfl
theorem exec_strayWrite_row (s : State) (src : Src) (n : Fin 32768) (r : Fin 1024) (v : Word) :
    exec (.strayWrite src n r v) s = onUnits (fun m => m.pageWrite src n (4 * r) v) s := rfl
theorem exec_faultSetClear_row (s : State) (src : Src) (n : Fin 32768) (v persist : Word) :
    exec (.faultSetClear src n v persist) s = onUnits (fun m => (m.persist n persist).pageWrite src n 0x018 v) s := rfl
theorem exec_faultSourceSet_row (s : State) (n : Fin 32768) (b : Fin 32) (holds : Bool) :
    exec (.faultSourceSet n b holds) s = onUnits (fun m => if m.occupied n then m.faultSource n b holds else m) s := rfl
theorem exec_parentWrite_row (s : State) (src : Src) (n : Fin 32768) (v : Word) :
    exec (.parentWrite src n v) s = onUnits (fun m => m.pageWrite src n 0x024 v) s := rfl
theorem exec_lockWrite_row (s : State) (src : Src) (n : Fin 32768) (v : Word) :
    exec (.lockWrite src n v) s = onUnits (fun m => m.pageWrite src n 0x02C v) s := rfl
theorem exec_baseCapWrite_row (s : State) (src : Src) (n : Fin 32768) (v : Word) :
    exec (.baseCapWrite src n v) s = onUnits (fun m => m.pageWrite src n 0x028 v) s := rfl
theorem exec_bightWindowWrite_row (s : State) (src : Src) (b : Fin 8192) (r : Fin 1024) (v : Word) :
    exec (.bightWindowWrite src b r v) s = onUnits (fun m => m.pageWrite src (pgBight b) (4 * r) v) s := rfl

/-- Settles O2: one bullet for each row, in the order of the statement. -/
theorem pageWritesComplete : Obligations.PageWritesComplete := by
  refine ⟨?_, ?_, ?_, ?_, ?_, ?_, ?_, ?_, ?_, ?_, ?_⟩
  · intro s src n r v hm hr h
    rw [exec_registerWrite_row]
    exact onUnits_next hm (Mach.pageWrite_takes (by omega) h)
  · intro s src n r v hm ho hspecial _ h
    rw [exec_shadowWrite_row]
    exact onUnits_next hm (Mach.pageWrite_stored ho hspecial h)
  · intro s src n v persist hm h
    rw [exec_faultSetClear_row]
    exact onUnits_next hm (Mach.pageWrite_header (by decide) (by decide) h)
  · intro s n b holds hm hocc hpresent hsrc hholds
    subst hholds
    rw [exec_faultSourceSet_row]
    exact onUnits_next hm ((if_pos hocc).trans (Mach.faultSource_passing hpresent hsrc))
  · intro s src n v hm h
    rw [exec_parentWrite_row]
    exact onUnits_next hm (Mach.pageWrite_header (by decide) (by decide) h)
  · intro s src n v hm h
    rw [exec_lockWrite_row]
    exact onUnits_next hm (Mach.pageWrite_header (by decide) (by decide) h)
  · intro s src n r v hm hr hocc
    rw [exec_strayWrite_row]
    exact onUnits_next hm (Mach.pageWrite_of_unoccupied hocc src (4 * r) v)
  · intro s c n off hm hentering hrun hstall hclosing
    exact exec_narrowAccess hm hentering hrun (Option.isNone_iff_eq_none.1 hstall) hclosing
  · intro s src b r v hm hlo hhi hgate hcode hlock
    rw [exec_bightWindowWrite_row]
    exact onUnits_next hm (Mach.pageWrite_pgBight hlo hhi (Option.isNone_iff_eq_none.1 hgate) hcode hlock)
  · intro s src n v hm h
    rw [exec_baseCapWrite_row]
    exact onUnits_next hm (Mach.pageWrite_header (by decide) (by decide) h)
  · intro s src n r v hm ho hspecial h
    rw [exec_boundWriteClamp_row]
    exact onUnits_next hm (Mach.pageWrite_stored ho hspecial h)

end Sys2Proof.Machine
end

section
/-! PROOFS. What keeps a valve in DECAY: its phase stands in one field of its own page (R267), so a unit's step keeps it unless the step
sets that valve's phase, and a valve's own step leaves DECAY alone (R268). -/

namespace Sys2Proof.Machine

/-! ## Operations on registers and on the state behind them -/

/-- A field that shares no bit with PHASE of a valve, at whatever page it stands. -/
def missesPhase (f : Fld) : Bool :=
  f.off % 4096 != Valve.PHASE.off || (f.off == Valve.PHASE.off && decide (Valve.PHASE.hi < f.lo) && decide (f.lo ≤ f.hi))

theorem Mach.vPhase_setReg_off (m : Mach) {v n off : Nat} (w : Word) (h : off % 4096 ≠ Valve.PHASE.off) :
    (m.setReg n off w).vPhase v = m.vPhase v := by
  have hkey : pageKey (pgValve v) Valve.PHASE.off ≠ pageKey n off := by
    simp only [pageKey, Valve.PHASE] at h ⊢
    omega
  simp only [Mach.vPhase, Mach.fld, Mach.reg_setReg_ne m w hkey]

theorem Mach.vPhase_setFld (m : Mach) {v n : Nat} {f : Fld} (w : Nat) (h : missesPhase f = true) :
    (m.setFld n f w).vPhase v = m.vPhase v := by
  simp only [missesPhase, Bool.or_eq_true, bne_iff_ne, Bool.and_eq_true, beq_iff_eq, decide_eq_true_eq] at h
  obtain hoff | ⟨⟨hoff, hlo⟩, hhi⟩ := h
  · exact Mach.vPhase_setReg_off m _ hoff
  · by_cases hn : n = pgValve v
    · subst hn
      simp only [Mach.vPhase, Mach.fld, Mach.setFld, hoff, Mach.reg_setReg_self]
      exact Fld.of_put_ne f Valve.PHASE _ w hhi (by decide) (.inl hlo)
    · exact Mach.fld_setFld_page m w (Ne.symm hn) (by rw [hoff]; decide) (by decide)

theorem Mach.vPhase_setFlag (m : Mach) {v n : Nat} {f : Fld} (b : Bool) (h : missesPhase f = true) :
    (m.setFlag n f b).vPhase v = m.vPhase v := m.vPhase_setFld _ h

theorem Mach.vPhase_setSat (m : Mach) {v n : Nat} {f : Fld} (w : Nat) (h : missesPhase f = true) :
    (m.setSat n f w).vPhase v = m.vPhase v := m.vPhase_setFld _ h

theorem Mach.vPhase_incSat (m : Mach) {v n : Nat} {f : Fld} (h : missesPhase f = true) :
    (m.incSat n f).vPhase v = m.vPhase v := m.vPhase_setFld _ h

@[simp] theorem Mach.vPhase_modUnit (m : Mach) (v n : Nat) (g : UnitAux → UnitAux) : (m.modUnit n g).vPhase v = m.vPhase v := (rfl)
@[simp] theorem Mach.vPhase_modOut (m : Mach) (v c : Nat) (g : OutAux → OutAux) : (m.modOut c g).vPhase v = m.vPhase v := (rfl)
@[simp] theorem Mach.vPhase_modBr (m : Mach) (v b : Nat) (g : BridgeAux → BridgeAux) : (m.modBr b g).vPhase v = m.vPhase v := (rfl)
@[simp] theorem Mach.vPhase_modRat (m : Mach) (v p : Nat) (g : RatAux → RatAux) : (m.modRat p g).vPhase v = m.vPhase v := (rfl)
@[simp] theorem Mach.vPhase_modChain (m : Mach) (v c : Nat) (g : ChainAux → ChainAux) : (m.modChain c g).vPhase v = m.vPhase v := (rfl)
@[simp] theorem Mach.vPhase_modSink (m : Mach) (v k : Nat) (g : SinkAux → SinkAux) : (m.modSink k g).vPhase v = m.vPhase v := (rfl)
@[simp] theorem Mach.vPhase_modValve (m : Mach) (v k : Nat) (g : ValveAux → ValveAux) : (m.modValve k g).vPhase v = m.vPhase v := (rfl)
@[simp] theorem Mach.vPhase_setCalm (m : Mach) (v k : Nat) (b : Bool) : (m.setCalm k b).vPhase v = m.vPhase v := (rfl)

/-- A phase is read on either side of a choice. -/
theorem Mach.vPhase_ite (c : Prop) [Decidable c] (a b : Mach) (v : Nat) :
    (if c then a else b).vPhase v = if c then a.vPhase v else b.vPhase v := apply_ite (fun m : Mach => m.vPhase v) c a b

/-- A walk whose every stage keeps a valve's phase keeps it. -/
theorem Mach.vPhase_foldl {α : Type} {v : Nat} {f : Mach → α → Mach} (hf : ∀ m a, (f m a).vPhase v = m.vPhase v) (l : List α) (m : Mach) :
    (l.foldl f m).vPhase v = m.vPhase v :=
  foldl_keeps (fun b : Mach => b.vPhase v = m.vPhase v) f (fun b a hb => (hf b a).trans hb) l m rfl

@[simp] theorem Mach.vPhase_setSt (m : Mach) (v n k : Nat) : (m.setSt n k).vPhase v = m.vPhase v := m.vPhase_setFld _ (by decide)

@[simp] theorem Mach.vPhase_settle (m : Mach) (v n : Nat) (d : Bool) : (m.settle n d).vPhase v = m.vPhase v := by
  simp [Mach.settle, Mach.vPhase_ite]

@[simp] theorem Mach.vPhase_refreshHealth (m : Mach) (v n : Nat) : (m.refreshHealth n).vPhase v = m.vPhase v :=
  m.vPhase_setFld _ (by decide)

@[simp] theorem Mach.vPhase_raiseMask (m : Mach) (v n srcs : Nat) : (m.raiseMask n srcs).vPhase v = m.vPhase v := by
  simp (disch := decide) only [Mach.raiseMask, Mach.vPhase_ite, Mach.vPhase_refreshHealth, Mach.vPhase_setSt, Mach.vPhase_setFlag,
    Mach.vPhase_setFld, Mach.vPhase_setReg_off, ite_self]

@[simp] theorem Mach.vPhase_raise (m : Mach) (v n b : Nat) : (m.raise n b).vPhase v = m.vPhase v := m.vPhase_raiseMask v n _

@[simp] theorem Mach.vPhase_clearSrc (m : Mach) (v n srcs : Nat) : (m.clearSrc n srcs).vPhase v = m.vPhase v := by
  simp (disch := decide) only [Mach.clearSrc, Mach.vPhase_refreshHealth, Mach.vPhase_setReg_off]

/-! ## Outputs and banks -/

@[simp] theorem Mach.vPhase_takeDrive (m : Mach) (v c : Nat) (d : Drive) : (m.takeDrive c d).vPhase v = m.vPhase v := by
  simp (disch := decide) [Mach.takeDrive, Mach.vPhase_ite, Mach.vPhase_setFlag,
    Mach.vPhase_foldl fun m e => m.vPhase_raiseMask v (pgOut e) _]

@[simp] theorem Mach.vPhase_outTurnOn (m : Mach) (v c : Nat) (d : Drive) : (m.outTurnOn c d).vPhase v = m.vPhase v := by
  simp (disch := decide) [Mach.outTurnOn, Mach.vPhase_ite, Mach.vPhase_setFlag, Mach.vPhase_incSat]

@[simp] theorem Mach.vPhase_outTurnOff (m : Mach) (v c : Nat) : (m.outTurnOff c).vPhase v = m.vPhase v := by
  simp (disch := decide) [Mach.outTurnOff, Mach.vPhase_setFlag]

@[simp] theorem Mach.vPhase_startEnds (m : Mach) (v c : Nat) : (m.startEnds c).vPhase v = m.vPhase v := by
  simp (disch := decide) [Mach.startEnds, Mach.vPhase_setFlag]

@[simp] theorem Mach.vPhase_outDrive (m : Mach) (v c : Nat) : (m.outDrive c).vPhase v = m.vPhase v := by
  simp [Mach.outDrive, Mach.vPhase_ite]

@[simp] theorem Mach.vPhase_outSettle (m : Mach) (v c : Nat) : (m.outSettle c).vPhase v = m.vPhase v := by
  simp (disch := decide) [Mach.outSettle, Mach.vPhase_ite, Mach.vPhase_setFlag]

@[simp] theorem Mach.vPhase_groupSettle (m : Mach) (v c : Nat) : (m.groupSettle c).vPhase v = m.vPhase v :=
  Mach.vPhase_foldl (fun m d => m.vPhase_outSettle v d) _ _

@[simp] theorem Mach.vPhase_outEnterSafe (m : Mach) (v c : Nat) (snub : Bool) : (m.outEnterSafe c snub).vPhase v = m.vPhase v := by
  simp (disch := decide) [Mach.outEnterSafe, Mach.keepHold, Mach.vPhase_ite, Mach.vPhase_setFlag]

end Sys2Proof.Machine
end

section
/-! PROOFS. A valve's phase through the steps of bridges, Ratline ports, sinks, chains and satellites: none sets it. -/

namespace Sys2Proof.Machine

/-! ## Bridges -/

@[simp] theorem Mach.vPhase_brCoast (m : Mach) (v b : Nat) : (m.brCoast b).vPhase v = m.vPhase v := by
  simp (disch := decide) [Mach.brCoast, Mach.vPhase_setFlag]

@[simp] theorem Mach.vPhase_brBrake (m : Mach) (v b : Nat) (ph : BrPhase) : (m.brBrake b ph).vPhase v = m.vPhase v := by
  simp (disch := decide) [Mach.brBrake, Mach.vPhase_setFlag]

@[simp] theorem Mach.vPhase_brAim (m : Mach) (v b : Nat) : (m.brAim b).vPhase v = m.vPhase v := (rfl)

@[simp] theorem Mach.vPhase_brBegin (m : Mach) (v b : Nat) : (m.brBegin b).vPhase v = m.vPhase v := by
  simp (disch := decide) [Mach.brBegin, Mach.vPhase_setFlag]

@[simp] theorem Mach.vPhase_brMotion (m : Mach) (v b : Nat) : (m.brMotion b).vPhase v = m.vPhase v := by
  simp (disch := decide) [Mach.brMotion, Mach.vPhase_ite, Mach.vPhase_setFlag]

@[simp] theorem Mach.vPhase_brStart (m : Mach) (v b : Nat) : (m.brStart b).vPhase v = m.vPhase v := by
  simp (disch := decide) [Mach.brStart, Mach.vPhase_ite, Mach.vPhase_setFlag]

@[simp] theorem Mach.vPhase_brSettle (m : Mach) (v b : Nat) (fresh : Bool) : (m.brSettle b fresh).vPhase v = m.vPhase v := by
  unfold Mach.brSettle
  extract_lets n dem m1
  have h1 : m1.vPhase v = m.vPhase v := m.vPhase_settle v n _
  split
  · simp [h1]
  · split <;> simp [Mach.vPhase_ite, h1]

@[simp] theorem Mach.vPhase_brUnparked (m : Mach) (v b : Nat) : (m.brUnparked b).vPhase v = m.vPhase v := by
  simp (disch := decide) [Mach.brUnparked, Mach.vPhase_setFlag]

/-! ## Ratline ports -/

@[simp] theorem Mach.vPhase_pushItem (m : Mach) (v c k nreg w : Nat) : (m.pushItem c k nreg w).vPhase v = m.vPhase v := (rfl)

@[simp] theorem Mach.vPhase_pushTarget (m : Mach) (v p : Nat) (t : RatTarget) : (m.pushTarget p t).vPhase v = m.vPhase v :=
  Mach.vPhase_foldl (fun m _ => Mach.vPhase_foldl (fun m k => m.vPhase_pushItem v _ k _ _) _ m) _ m

@[simp] theorem Mach.vPhase_divTake (m : Mach) (v p d : Nat) : (m.divTake p d).vPhase v = m.vPhase v := by
  simp (disch := decide) [Mach.divTake, Mach.vPhase_setFld, Mach.vPhase_setFlag]

@[simp] theorem Mach.vPhase_rungsOpen (m : Mach) (v p : Nat) : (m.rungsOpen p).vPhase v = m.vPhase v := (rfl)

@[simp] theorem Mach.vPhase_ratShow (m : Mach) (v p : Nat) : (m.ratShow p).vPhase v = m.vPhase v := by
  simp (disch := decide) only [Mach.ratShow, Mach.vPhase_ite, Mach.vPhase_setFld, Mach.vPhase_setFlag, Mach.vPhase_modRat,
    Mach.vPhase_divTake, Mach.vPhase_rungsOpen, ite_self]

@[simp] theorem Mach.vPhase_ratLevel (m : Mach) (v p l : Nat) : (m.ratLevel p l).vPhase v = m.vPhase v := m.vPhase_setFld _ (by decide)

@[simp] theorem Mach.vPhase_easeEnd (m : Mach) (v p : Nat) : (m.easeEnd p).vPhase v = m.vPhase v := (rfl)

@[simp] theorem Mach.vPhase_easeStart (m : Mach) (v p : Nat) (t : RatTarget) : (m.easeStart p t).vPhase v = m.vPhase v := by
  simp [Mach.easeStart, Mach.vPhase_ite]

@[simp] theorem Mach.vPhase_askTarget (m : Mach) (v p lvl easeT curve : Nat) (fresh : Bool) :
    (m.askTarget p lvl easeT curve fresh).vPhase v = m.vPhase v := by
  simp only [Mach.askTarget, Mach.vPhase_pushTarget, Mach.vPhase_modRat]

@[simp] theorem Mach.vPhase_dimFollow (m : Mach) (v p : Nat) : (m.dimFollow p).vPhase v = m.vPhase v := by
  simp (disch := decide) only [Mach.dimFollow, Mach.pushMode, Mach.ratClear, Mach.vPhase_ite, Mach.vPhase_setFlag, Mach.vPhase_modRat,
    Mach.vPhase_clearSrc, Mach.vPhase_raise, Mach.vPhase_foldl fun m k => m.vPhase_pushItem v _ k _ _, ite_self]

@[simp] theorem Mach.vPhase_ratTake (m : Mach) (v p : Nat) : (m.ratTake p).vPhase v = m.vPhase v := by
  unfold Mach.ratTake
  extract_lets n a m1
  have h1 : m1.vPhase v = m.vPhase v := by simp [m1, Mach.vPhase_ite]
  split
  · exact h1
  · split <;> simp [h1]

@[simp] theorem Mach.vPhase_ratCarry (m : Mach) (v p : Nat) : (m.ratCarry p).vPhase v = m.vPhase v := by
  simp only [Mach.ratCarry, Mach.vPhase_ite, Mach.vPhase_ratShow, Mach.vPhase_settle, Mach.vPhase_ratTake, Mach.vPhase_ratLevel,
    Mach.vPhase_easeEnd, ite_self]

@[simp] theorem Mach.vPhase_ratSettle (m : Mach) (v p : Nat) : (m.ratSettle p).vPhase v = m.vPhase v := by
  simp [Mach.ratSettle]

@[simp] theorem Mach.vPhase_ratEnterSafe (m : Mach) (v p : Nat) (snub : Bool) : (m.ratEnterSafe p snub).vPhase v = m.vPhase v := by
  simp (disch := decide) [Mach.ratEnterSafe, Mach.vPhase_ite, Mach.vPhase_setFlag]

/-! ## Sinks, chains and satellites -/

@[simp] theorem Mach.vPhase_sinkCarry (m : Mach) (v k cur : Nat) (on : Bool) : (m.sinkCarry k cur on).vPhase v = m.vPhase v := by
  simp (disch := decide) [Mach.sinkCarry, Mach.vPhase_setFld, Mach.vPhase_setFlag]

@[simp] theorem Mach.vPhase_sinkTake (m : Mach) (v k : Nat) (d : Drive) (cur : Nat) : (m.sinkTake k d cur).vPhase v = m.vPhase v := by
  simp (disch := decide) [Mach.sinkTake, Mach.vPhase_ite, Mach.vPhase_setFlag]

@[simp] theorem Mach.vPhase_sinkSettle (m : Mach) (v k : Nat) : (m.sinkSettle k).vPhase v = m.vPhase v := by
  simp [Mach.sinkSettle, Mach.vPhase_ite]

@[simp] theorem Mach.vPhase_sinkEnterSafe (m : Mach) (v k : Nat) (snub : Bool) : (m.sinkEnterSafe k snub).vPhase v = m.vPhase v := by
  simp (disch := decide) [Mach.sinkEnterSafe, Mach.vPhase_ite, Mach.vPhase_setFlag]

@[simp] theorem Mach.vPhase_chainReady (m : Mach) (v c : Nat) : (m.chainReady c).vPhase v = m.vPhase v :=
  Mach.vPhase_foldl (fun m i => by simp [Mach.vPhase_ite]) _ m

@[simp] theorem Mach.vPhase_chainOff (m : Mach) (v c : Nat) : (m.chainOff c).vPhase v = m.vPhase v := by
  simp [Mach.chainOff, Mach.vPhase_ite]

@[simp] theorem Mach.vPhase_satEnterSafe (m : Mach) (v c k : Nat) : (m.satEnterSafe c k).vPhase v = m.vPhase v := by
  simp [Mach.satEnterSafe]

end Sys2Proof.Machine
end

section
/-! PROOFS. A valve in DECAY stays there through every step that brings units to what they should be, into SAFE by a Snub, and through the
end of POLICY's tests: only a valve's own step sets a phase, and it leaves DECAY alone (R267, R268). -/

namespace Sys2Proof.Machine

/-! ## Valves, their switches and the boost -/

theorem Mach.vPhase_withLay (m : Mach) (v : Nat) (l : LayAux) : { m with lay := l }.vPhase v = m.vPhase v := (rfl)
theorem Mach.vPhase_withPolicy (m : Mach) (v : Nat) (p : PolicyAux) : { m with policy := p }.vPhase v = m.vPhase v := (rfl)

@[simp] theorem Mach.vPhase_coilWatch (m : Mach) (v x : Nat) : (m.coilWatch x).vPhase v = m.vPhase v := by
  simp only [Mach.coilWatch, Mach.vPhase_ite, Mach.vPhase_modValve, ite_self]

@[simp] theorem Mach.vPhase_vhsRead (m : Mach) (v k : Nat) : (m.vhsRead k).vPhase v = m.vPhase v := by
  simp (disch := decide) only [Mach.vhsRead, Mach.vPhase_setSat]

@[simp] theorem Mach.vPhase_vhsShow (m : Mach) (v k : Nat) : (m.vhsShow k).vPhase v = m.vPhase v := by
  simp (disch := decide) only [Mach.vhsShow, Mach.vPhase_ite, Mach.vPhase_setFlag, Mach.vPhase_settle, Mach.vPhase_coilWatch,
    Mach.vPhase_vhsRead, ite_self]

@[simp] theorem Mach.vPhase_boostSettle (m : Mach) (v : Nat) : m.boostSettle.vPhase v = m.vPhase v := by
  unfold Mach.boostSettle
  refine (Mach.vPhase_foldl (fun m k => m.vPhase_vhsShow v k) _ _).trans ?_
  simp (disch := decide) only [Mach.vPhase_ite, Mach.vPhase_setFld, Mach.vPhase_setSat, Mach.vPhase_setFlag, Mach.vPhase_settle, ite_self]

/-- Setting another valve's phase. -/
theorem Mach.vPhase_setPhase_ne (m : Mach) {v x : Nat} (k : Nat) (hx : x ≠ v) : (m.setPhase x k).vPhase v = m.vPhase v :=
  Mach.fld_setFld_page m k (by simp only [pgValve]; omega) (by decide) (by decide)

/-- The collector's reaction is on its own page and in its own lists. -/
@[simp] theorem Mach.vPhase_layRefresh (m : Mach) (v : Nat) : m.layRefresh.vPhase v = m.vPhase v := by
  simp (disch := decide) only [Mach.layRefresh, Mach.vPhase_ite, Mach.vPhase_setFlag, Mach.vPhase_setFld, Mach.vPhase_settle,
    Mach.vPhase_withLay, ite_self]

section
variable {v x : Nat} (hx : x ≠ v)
include hx

theorem Mach.vPhase_toProp_ne (m : Mach) : (m.toProp x).vPhase v = m.vPhase v := m.vPhase_setPhase_ne 4 hx

theorem Mach.vPhase_valveOff_ne (m : Mach) : (m.valveOff x).vPhase v = m.vPhase v := by
  simp (disch := decide) only [Mach.valveOff, Mach.pullMissed, Mach.vPhase_ite, Mach.vPhase_modValve, Mach.vPhase_setFlag,
    Mach.vPhase_setPhase_ne _ _ hx, Mach.vPhase_raise, Mach.vPhase_incSat, ite_self]

theorem Mach.vPhase_valveStart_ne (m : Mach) (mode : Nat) : (m.valveStart x mode).vPhase v = m.vPhase v := by
  simp (disch := decide) only [Mach.valveStart, Mach.vPhase_ite, Mach.vPhase_modValve, Mach.vPhase_setFlag, Mach.vPhase_incSat,
    Mach.vPhase_raise, Mach.vPhase_setPhase_ne _ _ hx, Mach.vPhase_toProp_ne hx, ite_self]

theorem Mach.vPhase_valveStep_ne (m : Mach) : (m.valveStep x).vPhase v = m.vPhase v := by
  unfold Mach.valveStep
  refine (Mach.vPhase_settle _ v _ _).trans ?_
  split <;> simp only [Mach.vPhase_ite, Mach.vPhase_setPhase_ne _ _ hx, Mach.vPhase_toProp_ne hx, Mach.vPhase_valveOff_ne hx,
    Mach.vPhase_valveStart_ne hx, ite_self]

end

section
variable {m : Mach} {v : Nat} (h : m.vPhase v = 5)
include h

/-- A valve's own step leaves its DECAY alone, and every other valve's. -/
theorem Mach.decay_valveStep (x : Nat) : (m.valveStep x).vPhase v = 5 := by
  by_cases hx : x = v
  · subst hx
    simp only [Mach.valveStep, h, Mach.vPhase_settle]
  · exact (m.vPhase_valveStep_ne hx).trans h

theorem Mach.decay_valveSettle (x : Nat) : (m.valveSettle x).vPhase v = 5 :=
  (Mach.vPhase_vhsShow _ v _).trans (Mach.decay_valveStep (Mach.decay_valveStep h x) _)

theorem Mach.decay_valveEnterSafe (x : Nat) (snub : Bool) : (m.valveEnterSafe x snub).vPhase v = 5 := by
  refine Mach.decay_valveSettle ?_ x
  simp (disch := decide) [Mach.vPhase_ite, Mach.vPhase_setFlag, h]

/-! ## Units -/

/-- What a unit does to follow its registers (R69). -/
theorem Mach.decay_settleUnit (n : Nat) : (m.settleUnit n).vPhase v = 5 := by
  have hvalve (x : Nat) : (m.valveSettle x).vPhase v = 5 := Mach.decay_valveSettle h x
  have hboost : ((List.range 4).foldl (fun m k => m.valveSettle (2 * k)) m.boostSettle).vPhase v = 5 :=
    foldl_keeps (fun m : Mach => m.vPhase v = 5) _ (fun _ k hk => Mach.decay_valveSettle hk (2 * k)) _ _ ((m.vPhase_boostSettle v).trans h)
  unfold Mach.settleUnit
  split <;> simp [Mach.capSettle, Mach.bankSettle, Mach.msgSettle, Mach.inSettle, Mach.touchSettle, Mach.canSettle, Mach.linSettle,
    Mach.ethSettle, h, hvalve, hboost]

theorem Mach.decay_classSafe (n : Nat) (snub : Bool) : (m.classSafe n snub).vPhase v = 5 := by
  have hvalve (x : Nat) : (m.valveEnterSafe x snub).vPhase v = 5 := Mach.decay_valveEnterSafe h x snub
  have hother : ((m.setSt n 3).settleUnit n).vPhase v = 5 := Mach.decay_settleUnit ((m.vPhase_setSt v n 3).trans h) n
  unfold Mach.classSafe
  split <;> simp [h, hvalve, hother]

theorem Mach.decay_markHeld (n : Nat) (snub : Bool) : (m.markHeld n snub).vPhase v = 5 := by
  unfold Mach.markHeld
  cases snub <;> split <;> simp (disch := decide) [Mach.vPhase_setFlag, h]

theorem Mach.decay_enterSafeOne (n : Nat) (snub : Bool) : (m.enterSafeOne n snub).vPhase v = 5 := by
  unfold Mach.enterSafeOne
  extract_lets s aborted
  have haborted : aborted.vPhase v = 5 := by simp (disch := decide) [aborted, Mach.vPhase_ite, Mach.vPhase_setFlag, h]
  split_ifs
  · exact Mach.decay_classSafe ((Mach.vPhase_modUnit _ v n _).trans haborted) n snub
  · exact Mach.decay_markHeld ((Mach.vPhase_modUnit m v n _).trans h) n snub
  · exact Mach.decay_markHeld h n snub
  · exact h

theorem Mach.decay_enterSafe (n : Nat) (snub : Bool) : (m.enterSafe n snub).vPhase v = 5 := by
  unfold Mach.enterSafe
  split
  · refine foldl_keeps (fun m : Mach => m.vPhase v = 5) _ (fun b c hb => ?_) _ _ h
    split
    · exact hb
    · exact Mach.decay_enterSafeOne hb (pgOut c) snub
  · exact Mach.decay_enterSafeOne h n snub

theorem Mach.decay_snubUnit (n : Nat) : (m.snubUnit n).vPhase v = 5 := by
  have hsafe : (m.enterSafe n true).vPhase v = 5 := Mach.decay_enterSafe h n true
  unfold Mach.snubUnit Mach.unshowSnub
  extract_lets safe
  split
  · split <;> simp (disch := decide) [Mach.vPhase_setFlag, safe, hsafe]
  · exact hsafe

/-- Every unit a Snub forces enters SAFE (R333). -/
theorem Mach.decay_snubForce : m.snubForce.vPhase v = 5 := by
  unfold Mach.snubForce
  split
  · exact h
  · refine foldl_keeps (fun m : Mach => m.vPhase v = 5) _ (fun b n hb => ?_) _ _ h
    simp only
    split
    · exact Mach.decay_snubUnit hb n
    · exact hb

end

/-! ## POLICY -/

theorem Mach.vPhase_trigShow (m : Mach) (v : Nat) : m.trigShow.vPhase v = m.vPhase v := by
  unfold Mach.trigShow
  refine (Mach.vPhase_foldl (fun m k => ?_) _ _).trans ?_
  · simp [Mach.vPhase_ite]
  · simp (disch := decide) [Mach.vPhase_ite, Mach.vPhase_setFld]

/-- Units settled in turn. -/
theorem Mach.decay_settleUnits {m : Mach} {v : Nat} (h : m.vPhase v = 5) (l : List Nat) :
    (l.foldl (fun m n => m.settleUnit n) m).vPhase v = 5 :=
  foldl_keeps (fun m : Mach => m.vPhase v = 5) _ (fun _ n hn => Mach.decay_settleUnit hn n) l m h

/-- The table emptied, and the units it named brought to what they should be (R325). -/
theorem Mach.decay_polEmptied {m : Mach} {v : Nat} (h : m.vPhase v = 5) : m.polEmptied.vPhase v = 5 := by
  unfold Mach.polEmptied Mach.shedApply Mach.polShow
  refine Mach.decay_settleUnits (Mach.decay_settleUnits ?_ _) _
  simp (disch := decide) only [Mach.vPhase_ite, Mach.vPhase_raise, Mach.vPhase_clearSrc, Mach.vPhase_setFlag, Mach.vPhase_setFld,
    Mach.vPhase_withPolicy, ite_self, h]

/-- POLICY's test ends on its own page. -/
theorem Mach.vPhase_testDone_pgPolicy (m : Mach) (v : Nat) (pass : Bool) : (m.testDone pgPolicy pass).vPhase v = m.vPhase v := by
  have hcls : clsOf pgPolicy = .policy := by decide
  unfold Mach.testDone
  split
  · rfl
  · simp (disch := decide) only [hcls, testSource, Mach.testCalibrates, Mach.startUnit, Mach.stopUnit, Mach.settleUnit, Mach.actUnit,
      Mach.vPhase_ite, Mach.vPhase_raise, Mach.vPhase_settle, Mach.vPhase_setSt, Mach.vPhase_refreshHealth, Mach.vPhase_setFlag,
      Mach.vPhase_modUnit, beq_iff_eq, reduceCtorEq, if_false, ite_self]

end Sys2Proof.Machine
end

section
/-! PROOFS. O1: commands that execute, self-tests that end and commands held while BUSY (02_units_and_pages.md R63, R66, R67, R69). -/

namespace Sys2Proof.Machine

/-! ## Two effects that other units follow alike

`Mach.settleLay before m` hands `before` to `Mach.bothOff` as the machine that goes on, so what follows a step reads the step's effect in one
place alone: whether the two valves of a switch that stand in DECAY before it still drive after it. An effect that keeps every DECAY is
therefore followed like any other that does. -/

/-- An effect that keeps every valve in DECAY there. -/
def Mach.keepsDecay (before m : Mach) : Prop := ∀ v, before.vPhase v = 5 → m.vPhase v = 5

theorem Mach.not_driving_of_decay {m : Mach} {v : Nat} (h : m.vPhase v = 5) : m.driving v = false := by
  simp [Mach.driving, h]

theorem Mach.bothOff_of_keepsDecay {before m : Mach} (h : before.keepsDecay m) : m.bothOff before = before := by
  unfold Mach.bothOff
  refine foldl_keeps (fun b : Mach => b = before) _ (fun b k hb => ?_) _ _ rfl
  subst hb
  have hcond : ¬ ((m.driving (2 * k) && m.driving (2 * k + 1) && b.vPhase (2 * k) == 5 && b.vPhase (2 * k + 1) == 5) = true) := by
    intro hc
    simp only [Bool.and_eq_true, beq_iff_eq] at hc
    obtain ⟨⟨⟨hdrive, _⟩, hphase⟩, _⟩ := hc
    rw [Mach.not_driving_of_decay (h _ hphase)] at hdrive
    cases hdrive
  exact if_neg hcond

theorem Mach.keepsDecay_collector {before m : Mach} (h : before.keepsDecay m) : before.keepsDecay m.trigShow.layRefresh.snubForce :=
  fun v hv => Mach.decay_snubForce ((Mach.vPhase_layRefresh _ v).trans ((m.vPhase_trigShow v).trans (h v hv)))

theorem State.after_of_keepsDecay {s : State} {u : Mach} (h : s.m.keepsDecay u) :
    s.after u =
      { s with m := (Mach.settlePages s.m ((s.m.withdraw (s.m.fld pgLay Lay.SNUBBED)).pairFollow s.m)).watchChanges s.m } := by
  simp only [State.after, Mach.settleAll, Mach.settleLay, Mach.bothOff_of_keepsDecay (Mach.keepsDecay_collector h)]

/-! ## The end of a self-test -/

/-- A test that ends at a page that is neither POLICY's nor the Locker's. -/
theorem Mach.testComplete_eq_testDone {m : Mach} {n : Nat} {pass : Bool} (fail : Nat) (hlocker : n ≠ pgLocker)
    (hpolicy : n ≠ pgPolicy ∨ pass = true) : m.testComplete n pass fail = m.testDone n pass := by
  obtain h | h := hpolicy <;> simp [Mach.testComplete, hlocker, h]

/-- A failed test of POLICY leaves its table empty (R325). -/
theorem Mach.testComplete_pgPolicy {m : Mach} (fail : Nat) (htest : (m.unit pgPolicy).test.isSome = true) (hst : m.st pgPolicy = 5) :
    m.testComplete pgPolicy false fail = (m.testDone pgPolicy false).polEmptied := by
  simp [Mach.testComplete, htest, hst, show pgPolicy ≠ pgLocker by decide]

theorem State.after_testComplete {s : State} {n : Nat} {pass : Bool} (fail : Nat) (hlocker : n ≠ pgLocker)
    (htest : (s.m.unit n).test.isSome = true) (hst : s.m.st n = 5) :
    s.after (s.m.testComplete n pass fail) = s.after (s.m.testDone n pass) := by
  by_cases hpolicy : n ≠ pgPolicy ∨ pass = true
  · rw [Mach.testComplete_eq_testDone fail hlocker hpolicy]
  · obtain ⟨hn, hpass⟩ := not_or.1 hpolicy
    obtain rfl := not_not.1 hn
    obtain rfl := Bool.eq_false_of_not_eq_true hpass
    have hdone : s.m.keepsDecay (s.m.testDone pgPolicy false) := fun v hv => (s.m.vPhase_testDone_pgPolicy v false).trans hv
    rw [Mach.testComplete_pgPolicy fail htest hst, State.after_of_keepsDecay fun v hv => Mach.decay_polEmptied (hdone v hv),
      State.after_of_keepsDecay hdone]

/-! ## Commands -/

/-- NOP is never refused. -/
theorem Mach.accepts_nop (m : Mach) (n : Nat) : m.accepts n (fun m => m) = true := by
  simp [Mach.accepts, Mach.attempt, Mach.flag_setFlag_self _ n Hdr.REJECT false (by decide) (by decide)]

/-- The tree of Bights stands in the registers. -/
theorem Mach.leavesBelow_modUnit (m : Mach) (n fuel b : Nat) (g : UnitAux → UnitAux) :
    (m.modUnit n g).leavesBelow fuel b = m.leavesBelow fuel b := by
  induction fuel generalizing b with
  | zero => rfl
  | succ fuel ih =>
    have hmembers : (m.modUnit n g).members b = m.members b := rfl
    simp only [Mach.leavesBelow, ih, hmembers]

theorem Mach.unitsOf_modUnit (m : Mach) (n k : Nat) (g : UnitAux → UnitAux) : (m.modUnit n g).unitsOf k = m.unitsOf k := by
  simp only [Mach.unitsOf, Mach.leaves, Mach.leavesBelow_modUnit]
  rfl

theorem Mach.leadHeld_modUnit (m : Mach) (n k : Nat) (g : UnitAux → UnitAux) : (m.modUnit n g).leadHeld k = m.leadHeld k := by
  simp only [Mach.leadHeld, Mach.guarded, Mach.unitsOf_modUnit]
  rfl

/-- A command held while BUSY executes once BUSY has cleared (R67). -/
theorem Mach.heldCmd_execute {m : Mach} {n : Nat} {w : Word} (hheld : (m.unit n).held = some w) (hbusy : m.flag n Hdr.BUSY = false)
    (hlead : m.leadHeld n = false) : m.heldCmd n = ((m.modUnit n fun u => { u with held := none }).runCode n w).2 := by
  simp [Mach.heldCmd, hheld, hbusy, Mach.leadHeld_modUnit, hlead]

theorem exec_cmdNop_row (s : State) (src : Src) (n : Fin 32768) (seq : BitVec 16) :
    exec (.cmdNop src n seq) s = onUnits (fun m => m.cmdWrite src noOrigin n (cmdWord 0 seq)) s := rfl
theorem exec_enable_row (s : State) (src : Src) (n : Fin 32768) (seq : BitVec 16) :
    exec (.enable src n seq) s = onUnits (fun m => m.cmdWrite src noOrigin n (cmdWord 1 seq)) s := rfl
theorem exec_disable_row (s : State) (src : Src) (n : Fin 32768) (seq : BitVec 16) :
    exec (.disable src n seq) s = onUnits (fun m => m.cmdWrite src noOrigin n (cmdWord 2 seq)) s := rfl
theorem exec_apply_row (s : State) (src : Src) (n : Fin 32768) (seq : BitVec 16) :
    exec (.apply src n seq) s = onUnits (fun m => m.cmdWrite src noOrigin n (cmdWord 3 seq)) s := rfl
theorem exec_clearFaults_row (s : State) (src : Src) (n : Fin 32768) (seq : BitVec 16) (persist : Word) :
    exec (.clearFaults src n seq persist) s = onUnits (fun m => (m.persist n persist).cmdWrite src noOrigin n (cmdWord 4 seq)) s := rfl
theorem exec_selftest_row (s : State) (src : Src) (n : Fin 32768) (seq : BitVec 16) :
    exec (.selftest src n seq) s = onUnits (fun m => m.cmdWrite src noOrigin n (cmdWord 5 seq)) s := rfl
theorem exec_freeze_row (s : State) (src : Src) (n : Fin 32768) (seq : BitVec 16) :
    exec (.freeze src n seq) s = onUnits (fun m => m.cmdWrite src noOrigin n (cmdWord 6 seq)) s := rfl
theorem exec_thaw_row (s : State) (src : Src) (n : Fin 32768) (seq : BitVec 16) :
    exec (.thaw src n seq) s = onUnits (fun m => m.cmdWrite src noOrigin n (cmdWord 7 seq)) s := rfl
theorem exec_heldCommandExecute_row (s : State) (n : Fin 32768) :
    exec (.heldCommandExecute n) s = onUnits (fun m => m.heldCmd n) s := rfl
theorem exec_testComplete_row (s : State) (n : Fin 32768) (pass : Bool) (fail : Fin 16) :
    exec (.testComplete n pass fail) s = onUnits (fun m => m.testComplete n pass fail) s := rfl

/-- Settles O1: one bullet for each command code, the held command and the end of a test, in the order of the statement. -/
theorem commandsComplete : Obligations.CommandsComplete := by
  refine ⟨?_, ?_, ?_, ?_, ?_, ?_, ?_, ?_, ?_, ?_⟩
  · intro s src n seq hm hopen
    rw [exec_cmdNop_row]
    exact onUnits_next hm (Mach.cmdWrite_open (by decide) (by decide) hopen (s.m.accepts_nop n) fun _ => rfl)
  · intro s src n seq hm htether hsplice hopen haccepts
    rw [exec_enable_row]
    exact onUnits_next hm (Mach.cmdWrite_open (by decide) (by decide) hopen haccepts fun m => by simp [Mach.doCode, htether, hsplice])
  · intro s src n seq hm hdisable hopen haccepts
    rw [exec_disable_row]
    exact onUnits_next hm (Mach.cmdWrite_open (by decide) (by decide) hopen haccepts fun m => by simp [Mach.doCode, hdisable])
  · intro s src n seq hm hpolicy hopen haccepts
    rw [exec_apply_row]
    exact onUnits_next hm (Mach.cmdWrite_open (by decide) (by decide) hopen haccepts fun m => by simp [Mach.doCode, hpolicy])
  · intro s src n seq persist hm hlocker hopen
    rw [exec_clearFaults_row]
    exact onUnits_next hm (Mach.cmdWrite_clear hopen hlocker)
  · intro s src n seq hm hopen haccepts
    rw [exec_selftest_row]
    exact onUnits_next hm (Mach.cmdWrite_open (by decide) (by decide) hopen haccepts fun _ => rfl)
  · intro s src n seq hm hopen haccepts
    rw [exec_freeze_row]
    exact onUnits_next hm (Mach.cmdWrite_open (by decide) (by decide) hopen haccepts fun _ => rfl)
  · intro s src n seq hm hopen haccepts
    rw [exec_thaw_row]
    exact onUnits_next hm (Mach.cmdWrite_open (by decide) (by decide) hopen haccepts fun _ => rfl)
  · intro s n w hm hheld hbusy hlead
    rw [exec_heldCommandExecute_row]
    exact onUnits_next hm (Mach.heldCmd_execute hheld hbusy hlead)
  · intro s n pass fail hm hlocker htest hst
    rw [exec_testComplete_row]
    exact (onUnits_next hm rfl).trans (congrArg _ (State.after_testComplete fail.val hlocker htest hst))

end Sys2Proof.Machine
end

section
/-! PROOFS. A valve in DECAY stays there while Marks fire (03_capstan_bases_and_marks.md R106, R110): of the actions, only an APPLY reaches a
valve's own step, which leaves DECAY alone (R268). -/

namespace Sys2Proof.Machine

/-! ## Parts of the state that hold no phase -/

@[simp] theorem Mach.vPhase_setMark (m : Mach) (v e : Nat) (q : Mark) : (m.setMark e q).vPhase v = m.vPhase v := (rfl)
@[simp] theorem Mach.vPhase_modCap (m : Mach) (v k : Nat) (g : CapAux → CapAux) : (m.modCap k g).vPhase v = m.vPhase v := (rfl)
@[simp] theorem Mach.vPhase_modCan (m : Mach) (v c : Nat) (g : CanAux → CanAux) : (m.modCan c g).vPhase v = m.vPhase v := (rfl)
@[simp] theorem Mach.vPhase_setHentry (m : Mach) (v i : Nat) (e : HEntry) : (m.setHentry i e).vPhase v = m.vPhase v := (rfl)
@[simp] theorem Mach.vPhase_setArrived (m : Mach) (v k : Nat) (b : Bool) : (m.setArrived k b).vPhase v = m.vPhase v := (rfl)
@[simp] theorem Mach.vPhase_edgeSend (m : Mach) (v n : Nat) (act : EdgeAct) (cause : Nat) :
    (m.edgeSend n act cause).vPhase v = m.vPhase v := (rfl)
@[simp] theorem Mach.vPhase_gather (m : Mach) (v n : Nat) (i : FItem) : (m.gather n i).vPhase v = m.vPhase v := (rfl)
theorem Mach.vPhase_withLog (m : Mach) (v : Nat) (l : LogAux) : { m with log := l }.vPhase v = m.vPhase v := (rfl)
theorem Mach.vPhase_withPwr (m : Mach) (v : Nat) (p : PwrAux) : { m with pwr := p }.vPhase v = m.vPhase v := (rfl)
theorem Mach.vPhase_withLocker (m : Mach) (v : Nat) (l : LockerAux) : { m with locker := l }.vPhase v = m.vPhase v := (rfl)
theorem Mach.vPhase_withSnap (m : Mach) (v : Nat) (c : Option Nat) : { m with snap := c }.vPhase v = m.vPhase v := (rfl)

/-- A walk keeps a valve's phase when every stage over a member of its list does. -/
theorem Mach.vPhase_foldl_mem {α : Type} {v : Nat} {f : Mach → α → Mach} {l : List α}
    (hf : ∀ m : Mach, ∀ a ∈ l, (f m a).vPhase v = m.vPhase v) (m : Mach) : (l.foldl f m).vPhase v = m.vPhase v :=
  List.foldlRecOn l f (motive := fun b => b.vPhase v = m.vPhase v) rfl fun b hb a ha => (hf b a ha).trans hb

/-! ## Writes and refusals -/

@[simp] theorem Mach.vPhase_refuse (m : Mach) (v n off reason : Nat) : (m.refuse n off reason).vPhase v = m.vPhase v := by
  simp (disch := decide) only [Mach.refuse, Mach.vPhase_setReg_off, Mach.vPhase_setFlag]

@[simp] theorem Mach.vPhase_setDirect (m : Mach) (v n off : Nat) (src : Src) (fanned : Bool) :
    (m.setDirect src fanned n off).vPhase v = m.vPhase v := by
  unfold Mach.setDirect
  cases src <;> simp only [Mach.vPhase_ite, Mach.vPhase_modUnit, ite_self]

@[simp] theorem Mach.vPhase_loglinePush (m : Mach) (v kind unit arg : Nat) (d0 d1 tseq ext0 ext1 : Word) (gap : Bool) :
    (m.loglinePush kind unit arg d0 d1 tseq ext0 ext1 gap).vPhase v = m.vPhase v := by
  simp (disch := decide) only [Mach.loglinePush, Mach.vPhase_ite, Mach.vPhase_setFld, Mach.vPhase_raise, Mach.vPhase_incSat,
    Mach.vPhase_withLog, ite_self]

@[simp] theorem Mach.vPhase_tlogWrite (m : Mach) (v kind unit arg : Nat) (d0 d1 : Word) :
    (m.tlogWrite kind unit arg d0 d1).vPhase v = m.vPhase v := by
  simp (disch := decide) only [Mach.tlogWrite, Mach.vPhase_ite, Mach.vPhase_loglinePush, Mach.vPhase_setReg_off, Mach.vPhase_setFld,
    Mach.vPhase_withLog, ite_self]

@[simp] theorem Mach.vPhase_logNow (m : Mach) (v kind unit arg : Nat) (d0 d1 : Word) :
    (m.logNow kind unit arg d0 d1).vPhase v = m.vPhase v := by
  simp only [Mach.logNow, Mach.vPhase_ite, Mach.vPhase_tlogWrite, Mach.vPhase_withPwr, ite_self]

@[simp] theorem Mach.vPhase_denial (m : Mach) (v n : Nat) (src : Src) : (m.denial src n).vPhase v = m.vPhase v := by
  simp (disch := decide) only [Mach.denial, Mach.security, Mach.vPhase_ite, Mach.vPhase_logNow, Mach.vPhase_withLocker, Mach.vPhase_raise,
    Mach.vPhase_incSat, ite_self]

/-- A gate that refuses writes the refusal, and a denial's count, alone. -/
theorem Mach.vPhase_of_gate {m m' : Mach} {src : Src} {n off : Nat} (v : Nat) (h : m.gate src n off = some m') :
    m'.vPhase v = m.vPhase v := by
  unfold Mach.gate at h
  split_ifs at h <;> cases h <;> simp

@[simp] theorem Mach.vPhase_fanDone (m : Mach) (v b : Nat) (refused : List Nat) : (m.fanDone b refused).vPhase v = m.vPhase v := by
  unfold Mach.fanDone
  split <;> simp (disch := decide) only [Mach.vPhase_setReg_off, Mach.vPhase_setFlag]

/-- An operation that keeps a valve in DECAY keeps it there when it is attempted. -/
theorem Mach.decay_attempt {m : Mach} {v n : Nat} {f : Mach → Mach} (hf : ∀ m : Mach, m.vPhase v = 5 → (f m).vPhase v = 5)
    (h : m.vPhase v = 5) : (m.attempt n f).2.vPhase v = 5 := by
  have hop : (f (m.setFlag n Hdr.REJECT false)).vPhase v = 5 := hf _ ((m.vPhase_setFlag _ (by decide)).trans h)
  unfold Mach.attempt
  extract_lets old u
  split
  · exact hop
  · exact (Mach.vPhase_setFlag _ _ (by decide)).trans hop

theorem Mach.decay_ran {m : Mach} {v n off : Nat} {src : Src} {f : Mach → Mach} (hf : ∀ m : Mach, m.vPhase v = 5 → (f m).vPhase v = 5)
    (h : m.vPhase v = 5) : (m.ran src n off f).vPhase v = 5 :=
  (Mach.vPhase_setDirect _ v n off src false).trans (Mach.decay_attempt hf h)

/-! ## APPLY -/

/-- No class holds a shadow register at PHASE's offset. -/
theorem rwsOffs_phase (c : Cls) : ∀ o ∈ rwsOffs c, o % 4096 ≠ Valve.PHASE.off := by
  cases c <;> decide +kernel

/-- The copy of a page's shadow registers (R71). -/
theorem Mach.vPhase_copyRegs (m : Mach) (v n : Nat) : ((rwsOffs (clsOf n)).foldl (fun m o => m.copyReg n o) m).vPhase v = m.vPhase v :=
  Mach.vPhase_foldl_mem (fun m o ho => m.vPhase_setReg_off _ (rwsOffs_phase _ o ho)) m

/-! ## Bases -/

@[simp] theorem Mach.vPhase_setPos (m : Mach) (v k : Nat) (p : Word) : (m.setPos k p).vPhase v = m.vPhase v :=
  m.vPhase_setReg_off p (by decide)

@[simp] theorem Mach.vPhase_missMark (m : Mach) (v e : Nat) (p : Word) : (m.missMark e p).vPhase v = m.vPhase v := by
  simp (disch := decide) only [Mach.missMark, Mach.vPhase_ite, Mach.vPhase_setMark, Mach.vPhase_raise, Mach.vPhase_incSat, ite_self]

@[simp] theorem Mach.vPhase_jumpTo (m : Mach) (v k : Nat) (p : Word) : (m.jumpTo k p).vPhase v = m.vPhase v := by
  unfold Mach.jumpTo
  extract_lets n old d u skip
  have hu : u.vPhase v = m.vPhase v := by simp (disch := decide) [u, Mach.vPhase_setFlag]
  split
  · exact hu
  · exact (Mach.vPhase_foldl (fun m q => by simp [Mach.vPhase_ite]) _ _).trans hu

@[simp] theorem Mach.vPhase_showRate (m : Mach) (v k : Nat) : (m.showRate k).vPhase v = m.vPhase v := by
  simp (disch := decide) only [Mach.showRate, Mach.vPhase_ite, Mach.vPhase_setFld, ite_self]

@[simp] theorem Mach.vPhase_capPeriod (m : Mach) (v k was now : Nat) : (m.capPeriod k was now).vPhase v = m.vPhase v := by
  simp (disch := decide) only [Mach.capPeriod, Mach.vPhase_ite, Mach.vPhase_setFld, Mach.vPhase_setFlag, Mach.vPhase_modCap, ite_self]

@[simp] theorem Mach.vPhase_capApplied (m : Mach) (v k : Nat) (old : List Word) : (m.capApplied k old).vPhase v = m.vPhase v := by
  simp only [Mach.capApplied, Mach.capSettle, Mach.vPhase_ite, Mach.vPhase_settle, Mach.vPhase_showRate, Mach.vPhase_jumpTo,
    Mach.vPhase_capPeriod, ite_self]

/-! ## Other classes -/

@[simp] theorem Mach.vPhase_outApplied (m : Mach) (v c : Nat) : (m.outApplied c).vPhase v = m.vPhase v := by
  simp (disch := decide) only [Mach.outApplied, Mach.vPhase_groupSettle, Mach.vPhase_setFlag]

@[simp] theorem Mach.vPhase_brApplied (m : Mach) (v b : Nat) : (m.brApplied b).vPhase v = m.vPhase v := by
  simp only [Mach.brApplied, Mach.vPhase_ite, Mach.vPhase_brSettle, Mach.vPhase_modBr, ite_self]

@[simp] theorem Mach.vPhase_ratApplied (m : Mach) (v p : Nat) : (m.ratApplied p).vPhase v = m.vPhase v := by
  simp only [Mach.ratApplied, Mach.askDiv, Mach.vPhase_ite, Mach.vPhase_ratShow, Mach.vPhase_ratSettle, Mach.vPhase_askTarget, ite_self]

theorem Mach.doCode_apply (m : Mach) (n : Nat) : m.doCode n 3 = if n = pgPolicy then m.polApply else m.applyUnit n := rfl

/-- The command word 3#32 is an APPLY without SEQ (R60). -/
theorem Mach.runCode_apply (m : Mach) (n : Nat) : m.runCode n 3#32 = m.attempt n fun m => m.doCode n 3 := by
  have hcode : cmdCode 3#32 = 3 := rfl
  have hseq : cmdSeq 3#32 = 0 := rfl
  simp [Mach.runCode, hcode, hseq]

section
variable {m : Mach} {v : Nat} (h : m.vPhase v = 5)
include h

theorem Mach.decay_classApplied (n : Nat) (old : List Word) : (m.classApplied n old).vPhase v = 5 := by
  have hvalve : (m.valveApplied (n - 0xA8)).vPhase v = 5 := Mach.decay_valveSettle ((m.vPhase_modValve v _ _).trans h) _
  have hother : (m.settleUnit n).vPhase v = 5 := Mach.decay_settleUnit h n
  unfold Mach.classApplied
  split <;> simp [h, hvalve, hother]

theorem Mach.decay_applyPage (n : Nat) : (m.applyPage n).vPhase v = 5 := by
  unfold Mach.applyPage
  split
  · refine Mach.decay_classApplied ?_ n _
    rw [Mach.vPhase_setFlag _ _ (by decide), Mach.vPhase_copyRegs, h]
  · simp [Mach.vPhase_ite, h]

theorem Mach.decay_applyUnit (n : Nat) : (m.applyUnit n).vPhase v = 5 := by
  unfold Mach.applyUnit
  split
  · exact foldl_keeps (fun m : Mach => m.vPhase v = 5) _
      (fun b k hb => (Mach.vPhase_sinkSettle _ v k).trans (Mach.decay_applyPage hb (pgSink k))) _ _ (Mach.decay_applyPage h n)
  · exact Mach.decay_applyPage h n

theorem Mach.decay_shedApply : m.shedApply.vPhase v = 5 := by
  unfold Mach.shedApply
  refine Mach.decay_settleUnits ?_ _
  simp (disch := decide) only [Mach.vPhase_ite, Mach.vPhase_raise, Mach.vPhase_clearSrc, Mach.vPhase_setFld, ite_self, h]

theorem Mach.decay_polApply : m.polApply.vPhase v = 5 := by
  unfold Mach.polApply Mach.polShow
  split
  · simp (disch := decide) only [Mach.vPhase_refuse, Mach.vPhase_setFld, Mach.vPhase_setFlag, h]
  · refine Mach.decay_settleUnits (Mach.decay_shedApply ?_) _
    simp (disch := decide) only [Mach.vPhase_setFlag, Mach.vPhase_setFld, Mach.vPhase_withPolicy, h]

/-- APPLY of a unit that is no Bight and no proxy. -/
theorem Mach.decay_doCode_apply (n : Nat) : (m.doCode n 3).vPhase v = 5 := by
  rw [Mach.doCode_apply]
  split
  · exact Mach.decay_polApply h
  · exact Mach.decay_applyUnit h n

theorem Mach.decay_runCode_apply (n : Nat) : (m.runCode n 3#32).2.vPhase v = 5 := by
  rw [Mach.runCode_apply]
  exact Mach.decay_attempt (fun _ hm => Mach.decay_doCode_apply hm n) h

/-- On the Lead the command of a held unit goes out to the partner first (R458). -/
theorem Mach.decay_leadCmd_apply (n : Nat) : (m.leadCmd n 3#32).2.vPhase v = 5 := by
  unfold Mach.leadCmd
  extract_lets code refused u
  split
  · exact Mach.decay_runCode_apply h n
  · exact h

theorem Mach.decay_unitCmd_apply (src : Src) (n : Nat) : (m.unitCmd src n 3#32).2.vPhase v = 5 := by
  unfold Mach.unitCmd
  split_ifs
  · exact (m.vPhase_refuse v n _ _).trans h
  · exact h
  · exact Mach.decay_leadCmd_apply h n
  · exact Mach.decay_runCode_apply h n

theorem Mach.decay_proxyCmd (n : Nat) (w origin : Word) : (m.proxyCmd n w origin).vPhase v = 5 := by
  simp only [Mach.proxyCmd, Mach.vPhase_ite, Mach.vPhase_refuse, Mach.vPhase_gather, ite_self, h]

end

/-- An APPLY at a page, and down the tree of a Bight (R81). -/
theorem Mach.decay_pageCmd_apply (src : Src) {v : Nat} (fuel : Nat) (origin : Word) (n : Nat) (fanned : Bool) {m : Mach}
    (h : m.vPhase v = 5) : (m.pageCmd src origin fuel n 3#32 fanned).2.vPhase v = 5 := by
  induction fuel generalizing origin n fanned m with
  | zero => exact h
  | succ fuel ih =>
    have hword : 3#32 &&& 0xFFFF#32 = 3#32 := rfl
    have hseq : cmdSeq 3#32 = 0 := rfl
    have hcode : cmdCode 3#32 = 3 := rfl
    unfold Mach.pageCmd
    simp only [hword, hseq, hcode, ne_eq, not_true_eq_false, decide_false, Bool.false_and, Bool.false_eq_true, Nat.reduceLeDiff,
      Nat.reduceEqDiff, if_false, if_true]
    split
    · exact h
    split
    next refused hgate => exact (Mach.vPhase_of_gate v hgate).trans h
    next =>
      split
      · refine (Mach.vPhase_fanDone _ v n _).trans (foldl_keeps (fun a : List Nat × Mach => a.2.vPhase v = 5) _ (fun a k ha => ?_) _ _ h)
        exact ih _ k true ha
      split
      · exact (Mach.vPhase_setDirect _ v n _ src fanned).trans (Mach.decay_attempt (fun _ hm => Mach.decay_proxyCmd hm n _ origin) h)
      · have hunit : (m.unitCmd src n 3#32).2.vPhase v = 5 := Mach.decay_unitCmd_apply h src n
        simp only [Mach.vPhase_ite, Mach.vPhase_setDirect, ite_self, hunit]

theorem Mach.decay_cmdWrite_apply {m : Mach} {v : Nat} (h : m.vPhase v = 5) (src : Src) (origin : Word) (n : Nat) :
    (m.cmdWrite src origin n 3#32).vPhase v = 5 := by
  unfold Mach.cmdWrite
  split
  · exact Mach.decay_pageCmd_apply src _ origin n false h
  · exact (m.vPhase_setReg_off _ (by decide)).trans h

end Sys2Proof.Machine
end

section
/-! PROOFS. A valve in DECAY stays there through every action of a Mark and every window operation of a base
(03_capstan_bases_and_marks.md R106 to R111, R117). -/

namespace Sys2Proof.Machine

/-! ## Snapshots, interrupts and Heaves -/

@[simp] theorem Mach.vPhase_snapStart (m : Mach) (v c : Nat) : (m.snapStart c).vPhase v = m.vPhase v := by
  refine (Mach.vPhase_foldl (fun m c => m.vPhase_setFlag _ (by decide)) _ _).trans ?_
  exact (Mach.vPhase_setReg_off _ _ (by decide)).trans (Mach.vPhase_withSnap m v _)

/-- A register of a page below the valves'. -/
theorem Mach.vPhase_setReg_low (m : Mach) {v n off : Nat} (w : Word) (hn : n < pgValve 0) (hoff : off < 4096) :
    (m.setReg n off w).vPhase v = m.vPhase v := by
  have hkey : pageKey (pgValve v) Valve.PHASE.off ≠ pageKey n off := by
    simp only [pageKey, pgValve, Valve.PHASE] at hn ⊢
    omega
  simp only [Mach.vPhase, Mach.fld, Mach.reg_setReg_ne m w hkey]

@[simp] theorem Mach.vPhase_irq (m : Mach) (v core vec : Nat) : (m.irq core vec).vPhase v = m.vPhase v := by
  unfold Mach.irq
  split
  next hcore =>
    have hstrand : pgStrand < pgValve 0 := by decide
    have hpend : (Strandctl.C_IRQ_PEND core).off < 4096 := by simp only [Strandctl.C_IRQ_PEND]; omega
    have hstate : (Strandctl.C_STATE core).off < 4096 := by simp only [Strandctl.C_STATE]; omega
    simp only [Mach.vPhase_ite, Mach.setFld, Mach.vPhase_setReg_low _ _ hstrand hpend, Mach.vPhase_setReg_low _ _ hstrand hstate, ite_self]
  next => rfl

@[simp] theorem Mach.vPhase_heaveForget (m : Mach) (v c e : Nat) : (m.heaveForget c e).vPhase v = m.vPhase v := (rfl)

@[simp] theorem Mach.vPhase_heaveDone (m : Mach) (v c e : Nat) : (m.heaveDone c e).vPhase v = m.vPhase v := by
  simp only [Mach.heaveDone, Mach.vPhase_chainReady, Mach.vPhase_modChain]

@[simp] theorem Mach.vPhase_setAwake (m : Mach) (v c : Nat) (l : List Nat) : (m.setAwake c l).vPhase v = m.vPhase v := by
  refine (Mach.vPhase_foldl (fun m k => ?_) _ _).trans ?_
  · simp (disch := decide) only [Mach.vPhase_settle, Mach.vPhase_setFlag]
  · simp (disch := decide) only [Mach.vPhase_setFld, Mach.vPhase_modChain]

@[simp] theorem Mach.vPhase_heave (m : Mach) (v c : Nat) (mark : Option Nat) : (m.heave c mark).vPhase v = m.vPhase v := by
  unfold Mach.heave
  extract_lets a awake turned ready
  have hawake : awake.vPhase v = m.vPhase v := by
    simp only [awake, Mach.vPhase_ite, Mach.vPhase_setAwake, Mach.vPhase_modChain, ite_self]
  have hturned : turned.vPhase v = m.vPhase v := (Mach.vPhase_foldl (fun m i => m.vPhase_modRat v _ _) _ awake).trans hawake
  have hready : ready.vPhase v = m.vPhase v := by
    unfold ready
    split <;> simp [hturned]
  split
  · rfl
  · split
    · exact hready
    · split <;> simp [hready]

/-! ## CAN requests -/

@[simp] theorem Mach.vPhase_hitchFill (m : Mach) (v dk keyB : Nat) (keyA : Word) (p : List Byte) :
    (m.hitchFill dk keyA keyB p).2.vPhase v = m.vPhase v := by
  refine foldl_keeps (fun a : List Byte × Mach => a.2.vPhase v = m.vPhase v) _ (fun a q ha => ?_) _ _ rfl
  dsimp only
  split
  · split
    · exact ha
    · exact ha
  · exact ha

section
variable {v : Nat} (hv : v < 8)
include hv

/-- The registers of a CAN controller's objects lie above every valve's. -/
theorem Mach.vPhase_setRegBit_pgCan (m : Mach) (c off i : Nat) (b : Bool) : (m.setRegBit (pgCan c) off i b).vPhase v = m.vPhase v := by
  have hkey : pageKey (pgValve v) Valve.PHASE.off ≠ pageKey (pgCan c) off := by
    simp only [pageKey, pgValve, pgCan, Valve.PHASE]
    omega
  simp only [Mach.vPhase, Mach.fld, Mach.setRegBit, Mach.reg_setReg_ne m _ hkey]

theorem Mach.vPhase_setCanObj (m : Mach) (c o : Nat) (x : CanObj) : (m.setCanObj c o x).vPhase v = m.vPhase v :=
  (Mach.vPhase_setRegBit_pgCan hv _ c _ _ _).trans (Mach.vPhase_setRegBit_pgCan hv _ c _ _ _)

theorem Mach.vPhase_canKick (m : Mach) (c : Nat) : (m.canKick c).vPhase v = m.vPhase v := by
  unfold Mach.canKick
  extract_lets n
  split
  · rfl
  · split
    · rfl
    · simp (disch := decide) only [Mach.vPhase_setFlag, Mach.vPhase_modCan, Mach.vPhase_setCanObj hv]
      split
      · rfl
      · exact m.vPhase_hitchFill v _ _ _ _

theorem Mach.vPhase_canRequestNow (m : Mach) (c o : Nat) : (m.canRequestNow c o).vPhase v = m.vPhase v := by
  simp only [Mach.canRequestNow, Mach.vPhase_ite, Mach.vPhase_canKick hv, Mach.vPhase_setCanObj hv, ite_self]

theorem Mach.vPhase_canRequest (m : Mach) (c o : Nat) : (m.canRequest c o).vPhase v = m.vPhase v := by
  unfold Mach.canRequest
  split
  · rfl
  · split <;> simp only [Mach.vPhase_ite, Mach.vPhase_canRequestNow hv, Mach.vPhase_setCanObj hv, Mach.vPhase_edgeSend,
      Mach.vPhase_hitchFill, ite_self]

theorem Mach.vPhase_canRequestMark (m : Mach) (c o : Nat) (periodic : Bool) :
    (m.canRequestMark c o periodic).vPhase v = m.vPhase v := by
  unfold Mach.canRequestMark
  extract_lets k x
  split <;> simp only [Mach.vPhase_ite, Mach.vPhase_canRequest hv, Mach.vPhase_canRequestNow hv, Mach.vPhase_setCanObj hv,
    Mach.vPhase_setArrived, ite_self]

end

/-! ## Firing -/

@[simp] theorem Mach.vPhase_powFired (m : Mach) (v k e : Nat) : (m.powFired k e).vPhase v = m.vPhase v := by
  refine Mach.vPhase_foldl_mem (fun m s hs => ?_) m
  have hmiss : missesPhase (Cap.POW_PHASE s) = true := (by decide : ∀ s ∈ List.range 8, missesPhase (Cap.POW_PHASE s) = true) s hs
  simp only [Mach.vPhase_ite, Mach.vPhase_setFld _ _ hmiss, ite_self]

section
variable {m : Mach} {v : Nat} (hv : v < 8) (h : m.vPhase v = 5)
include hv h

theorem Mach.decay_markAction (e : Nat) (q : Mark) : (m.markAction e q).2.vPhase v = 5 := by
  unfold Mach.markAction
  split
  · split
    · exact h
    · exact Mach.decay_cmdWrite_apply h _ _ _
  · split <;> simp [h]
  · simp [h]
  · split <;> simp [Mach.vPhase_canRequestMark hv, h]
  · simp [h]

theorem Mach.decay_fireMark (e status : Nat) : (m.fireMark e status).vPhase v = 5 := by
  unfold Mach.fireMark
  extract_lets q n u r w q' p next d
  have hr : r.2.vPhase v = 5 := Mach.decay_markAction hv ((m.vPhase_setMark v e _).trans h) e q
  have hw : w.vPhase v = 5 := by simp (disch := decide) [w, Mach.vPhase_ite, Mach.vPhase_incSat, hr]
  simp [Mach.vPhase_ite, hw]

theorem Mach.decay_fireFirst (k : Nat) : (m.fireFirst k).vPhase v = 5 := by
  unfold Mach.fireFirst
  split
  · exact Mach.decay_fireMark hv h _ _
  · exact h

theorem Mach.decay_fireDue : m.fireDue.vPhase v = 5 := by
  refine foldl_keeps (fun m : Mach => m.vPhase v = 5) _ (fun b k hb => ?_) _ _ h
  split
  · exact Mach.decay_fireFirst hv hb k
  · exact hb

/-! ## Window operations -/

theorem Mach.decay_arm (e : Nat) (q : Mark) : (m.arm e q).vPhase v = 5 := by
  unfold Mach.arm
  extract_lets u d late
  have hu : u.vPhase v = 5 := by simp [u, Mach.vPhase_ite, h]
  have hlate : late.vPhase v = 5 := (u.vPhase_setMark v e _).trans hu
  split_ifs
  · simp [hu]
  · exact Mach.decay_fireMark hv hlate e 2
  · exact hlate
  · simp [hu]

theorem Mach.decay_markArm (k : Nat) : (m.markArm k).vPhase v = 5 := by
  unfold Mach.markArm Mach.refuseOp
  extract_lets q e old
  split_ifs
  · simp [h]
  · simp [h]
  · exact Mach.decay_arm hv h e q

omit hv in
theorem Mach.decay_markRead (k : Nat) : (m.markRead k).vPhase v = 5 := by
  simp (disch := decide) only [Mach.markRead, Mach.vPhase_setFld, Mach.vPhase_setFlag, Mach.vPhase_setReg_off, h]

omit hv in
theorem Mach.decay_markDisarm (k : Nat) : (m.markDisarm k).vPhase v = 5 := by
  simp only [Mach.markDisarm, Mach.refuseOp, Mach.vPhase_ite, Mach.vPhase_refuse, Mach.vPhase_setMark, ite_self, h]

end

end Sys2Proof.Machine
end

section
/-! PROOFS. O7: each write, edge, pulse, loss and slot event of a Capstan base that is taken (03_capstan_bases_and_marks.md R94 to R118). -/

namespace Sys2Proof.Machine

/-! ## What each event does where its rule takes it -/

/-- A base's first due Mark fires with the status it became due with (R110). -/
theorem Mach.markFire_due {m : Mach} {k e : Nat} (hfire : m.marksFire k = true) (hdue : m.firstDue k = some e) :
    m.markFire k = m.fireMark e ((m.mark e).due.getD 1) := by
  simp [Mach.markFire, Mach.fireFirst, hfire, hdue]

/-- A base between its edges or pulses is brought to its next Mark, which fires (R101, R110; notes/assumptions/87.md). -/
theorem Mach.markFire_next {m : Mach} {k e : Nat} (hfire : m.marksFire k = true) (hdue : m.firstDue k = none)
    (hnext : m.nextMark k = some e) (hreach : m.canReach k (m.mark e).pos = true) (hcoast : m.flag (pgCap k) Cap.COAST = false) :
    m.markFire k = (m.moveTo k (m.mark e).pos).fireFirst k := by
  simp [Mach.markFire, hfire, hdue, hnext, hreach, hcoast]

theorem Mach.axleEdge_one {m : Mach} {k ns : Nat} {fwd : Bool} (htype : m.capType k = 2) (hruns : m.capRuns k = true)
    (hperiod : (m.reg (pgCap k) Cap.PERIOD.off).toNat ≠ 0) :
    m.axleEdge k fwd false ns = ((m.axleSeen k fwd ns).axleStep k fwd).showBacklog k := by
  simp [Mach.axleEdge, htype, hruns, hperiod]

theorem Mach.standstill_still {m : Mach} {k ms : Nat} (htype : m.capType k = 2) (hruns : m.capRuns k = true)
    (hstill : m.fld (pgCap k) Cap.STILL ≠ 0) (hms : m.fld (pgCap k) Cap.STILL ≤ ms) :
    m.standstill k ms = (m.setFlag (pgCap k) Cap.STANDSTILL true).setFld (pgCap k) Cap.RATE 0 := by
  simp [Mach.standstill, htype, hruns, hstill, hms]

/-- A base that runs is not FAULTED (R112). -/
theorem Mach.st_of_capRuns {m : Mach} {k : Nat} (h : m.capRuns k = true) : m.st (pgCap k) ≠ 4 := by
  intro hst
  simp [Mach.capRuns, hst] at h

theorem Mach.framePulse_taken {m : Mach} {k ns : Nat} (htype : m.capType k = 4) (hpulsed : m.capPulsed k = true)
    (hheld : m.capHeld k = false) (hruns : m.capRuns k = true) (hlos : m.flag (pgCap k) Cap.LOS_68 = false)
    (hcoast : m.flag (pgCap k) Cap.COAST = false) (hfallback : m.flag (pgCap k) Cap.FALLBACK = false) :
    m.framePulse k ns = m.frameTaken k ns := by
  simp [Mach.framePulse, htype, hpulsed, hheld, Mach.st_of_capRuns hruns, hruns, hlos, hcoast, hfallback]

theorem Mach.mainsCrossing_taken {m u : Mach} {k ns amp : Nat} {locked : Bool} (htype : m.capType k = 3)
    (hu : m.setFld (pgCap k) Cap.AUX (min 0xFFFF amp) = u) (hheld : u.capHeld k = false) (hruns : u.capRuns k = true)
    (hlos : u.flag (pgCap k) Cap.LOS_68 = false) (hcoast : u.flag (pgCap k) Cap.COAST = false) :
    m.mainsCrossing k ns amp locked = u.mainsTaken k ns amp locked := by
  simp [Mach.mainsCrossing, htype, hu, hheld, Mach.st_of_capRuns hruns, hruns, hlos, hcoast]

section
variable {m : Mach} {k t : Nat} (hruns : m.capRuns k = true) (hlos : m.flag (pgCap k) Cap.LOS_68 = false) (hheld : m.capHeld k = false)
  (hloss : m.lossSeen k t = true)
include hruns hlos hheld hloss

/-- A locked base coasts (R97). -/
theorem Mach.capLos_coast (hlocked : m.flag (pgCap k) Cap.LOCKED = true) (hreact : m.fld (pgCap k) Cap.LOS = 1)
    (hturns : m.fld (pgCap k) Cap.HOLDOVER ≠ 0) :
    m.capLos k t = (((m.modCap k fun c => { c with coasted := 0, sub := 0 }).setFlag (pgCap k) Cap.COAST true).setFlag
      (pgCap k) Cap.LOCKED false).setFlag (pgCap k) Cap.LOS_68 true := by
  simp [Mach.capLos, hruns, hlos, hheld, hloss, hlocked, hreact, hturns]

theorem Mach.capLos_hold (hreact : m.fld (pgCap k) Cap.LOS = 0) : m.capLos k t = m.capHold k := by
  simp [Mach.capLos, hruns, hlos, hheld, hloss, hreact]

theorem Mach.capLos_fallback (hreact : m.fld (pgCap k) Cap.LOS = 2) (hpulsed : m.capPulsed k = true) (htype : m.capType k = 4) :
    m.capLos k t = m.capFallback k := by
  simp [Mach.capLos, hruns, hlos, hheld, hloss, hreact, hpulsed, htype]

end

theorem Mach.holdoverExpiry_over {m : Mach} {k turns : Nat} (hcoast : m.flag (pgCap k) Cap.COAST = true)
    (hturns : m.fld (pgCap k) Cap.HOLDOVER ≤ turns) :
    m.holdoverExpiry k turns = (Mach.drainDue 8192 (m.coastBy k (m.fld (pgCap k) Cap.HOLDOVER * 65536))).capHold k := by
  simp [Mach.holdoverExpiry, hcoast, hturns]

section
variable {m u : Mach} {k phase : Nat} (hlos : m.flag (pgCap k) Cap.LOS_68 = true) (hpulsed : m.capPulsed k = true)
  (hu : (m.setFlag (pgCap k) Cap.LOS_68 false).setFlag (pgCap k) Cap.FALLBACK false = u) (hupulsed : u.capPulsed k = true)
include hlos hpulsed hu hupulsed

/-- The signal of a base that runs is back (R98). -/
theorem Mach.relock_running (hruns : u.capRuns k = true) :
    m.relock k phase = u.relockTo k (nearestTo (u.pos k) (phase % 65536)) (m.flag (pgCap k) Cap.FALLBACK) (m.cap k).resume := by
  simp [Mach.relock, hlos, hpulsed, hu, hupulsed, Mach.st_of_capRuns hruns, hruns]

/-- A FAULTED base keeps the position for CLEAR_FAULTS (R98; notes/assumptions/146.md). -/
theorem Mach.relock_faulted (hst : u.st (pgCap k) = 4) :
    m.relock k phase = u.modCap k fun c => { c with relock := some (nearestTo (u.pos k) (phase % 65536)) } := by
  simp [Mach.relock, hlos, hpulsed, hu, hupulsed, hst]

end

theorem Mach.powTimeout_over {m : Mach} {k slot us : Nat} (hphase : m.powPhase k slot = 2) (htype : m.capType k = 3)
    (hus : m.fld (pgCap k) (Cap.POW_MAX slot) + 20000 ≤ us) :
    m.powTimeout k slot us = (m.setFld (pgCap k) (Cap.POW_PHASE slot) 4).raise (pgCap k) 4 := by
  simp [Mach.powTimeout, hphase, htype, hus]

/-! ## Writes of a base's own registers -/

section
variable {m : Mach} {src : Src} {k : Fin 8} {w : Word}

theorem Mach.pageWrite_advance (h : m.takes src (pgCap k) 0x05C w = true) :
    m.pageWrite src (pgCap k) 0x05C w = m.ran src (pgCap k) 0x05C fun m => m.advance k w :=
  Mach.pageWrite_special (by decide) h fun m => by simp [Mach.special, clsOf_pgCap, pgCap_sub]

theorem Mach.pageWrite_setpos (h : m.takes src (pgCap k) 0x060 w = true) :
    m.pageWrite src (pgCap k) 0x060 w = m.ran src (pgCap k) 0x060 fun m => m.setpos k w :=
  Mach.pageWrite_special (by decide) h fun m => by simp [Mach.special, clsOf_pgCap, pgCap_sub]

/-- A write of MARK_OP runs the operation its low bits name (R112). -/
theorem Mach.pageWrite_markOp (h : m.takes src (pgCap k) 0x094 w = true) :
    m.pageWrite src (pgCap k) 0x094 w = m.ran src (pgCap k) 0x094 fun m => m.markOp k (w.toNat % 4) :=
  Mach.pageWrite_special (by decide) h fun m => by simp [Mach.special, clsOf_pgCap, pgCap_sub]

/-- GO of a slot has a behaviour of its own (R117). -/
theorem Mach.special_powGo (m : Mach) (slot : Fin 8) :
    m.special src (pgCap k) (0x110 + 0x20 * slot) w = some (if w.getLsbD 0 then m.powGo k slot else m) := by
  have hcls := clsOf_pgCap k
  have hsub := pgCap_sub k
  fin_cases slot <;> simp [Mach.special, hcls, hsub]

/-- A GO write schedules the slot's close (R117). -/
theorem Mach.pageWrite_powGo {slot : Fin 8} (h : m.takes src (pgCap k) (0x110 + 0x20 * slot) w = true) (hgo : w.getLsbD 0 = true) :
    m.pageWrite src (pgCap k) (0x110 + 0x20 * slot) w = m.ran src (pgCap k) (0x110 + 0x20 * slot) fun m => m.powGo k slot :=
  Mach.pageWrite_special (by omega) h fun m => by rw [m.special_powGo, if_pos hgo]

end

/-! ## What follows a window operation

A window operation comes behind the firing of its page clock (`Mach.markOp`, R110), which the statement's clauses for READ, ARM and DISARM do
not name. They hold all the same: `Mach.settleLay` hands the machine before the step to `Mach.bothOff` as the one that goes on, so what stands
after a step reads its effect in one place, whether both valves of a switch that stood in DECAY drive, and no Mark brings a valve out of DECAY. -/

/-- An effect that keeps each of the eight valves in DECAY there. -/
def Mach.keepsValveDecay (before m : Mach) : Prop := ∀ v < 8, before.vPhase v = 5 → m.vPhase v = 5

/-- No switch then has two valves that stood in DECAY and drive. -/
theorem Mach.bothOff_of_keepsValveDecay {before m : Mach} (h : before.keepsValveDecay m) : m.bothOff before = before := by
  refine List.foldlRecOn _ _ (motive := fun b : Mach => b = before) rfl fun b hb k hk => ?_
  subst hb
  have hk8 : 2 * k < 8 := by have := List.mem_range.1 hk; omega
  refine if_neg fun hc => ?_
  simp only [Bool.and_eq_true, beq_iff_eq] at hc
  obtain ⟨⟨⟨hdrive, -⟩, hphase⟩, -⟩ := hc
  rw [Mach.not_driving_of_decay (h _ hk8 hphase)] at hdrive
  cases hdrive

/-- Effects that keep valves in DECAY are followed alike. -/
theorem State.after_congr {s : State} {u u' : Mach} (h : s.m.keepsValveDecay u) (h' : s.m.keepsValveDecay u') : s.after u = s.after u' := by
  have hcollector {u : Mach} (h : s.m.keepsValveDecay u) : s.m.keepsValveDecay u.trigShow.layRefresh.snubForce := fun v hv hphase =>
    Mach.decay_snubForce ((Mach.vPhase_layRefresh _ v).trans ((u.vPhase_trigShow v).trans (h v hv hphase)))
  simp only [State.after, Mach.settleAll, Mach.settleLay, Mach.bothOff_of_keepsValveDecay (hcollector h),
    Mach.bothOff_of_keepsValveDecay (hcollector h')]

/-- A taken write of MARK_OP whose operation keeps valves in DECAY is followed as that operation alone. -/
theorem onUnits_markOp {s : State} {src : Src} {k : Fin 8} {w : Word} {f : Mach → Mach} (hm : s.m.mainOff = false)
    (h : s.m.takes src (pgCap k) 0x094 w = true) (hop : ∀ m : Mach, m.markOp k (w.toNat % 4) = f m.fireDue)
    (hf : ∀ v < 8, ∀ m : Mach, m.vPhase v = 5 → (f m).vPhase v = 5) :
    onUnits (fun m => m.pageWrite src (pgCap k) 0x094 w) s = .next (s.after (s.m.ran src (pgCap k) 0x094 f)) := by
  rw [onUnits_next hm (Mach.pageWrite_markOp h), funext hop]
  have hfired : s.m.keepsValveDecay (s.m.ran src (pgCap k) 0x094 fun m => f m.fireDue) := fun v hv =>
    Mach.decay_ran fun m hphase => hf v hv _ (Mach.decay_fireDue hv hphase)
  exact congrArg _ (State.after_congr hfired fun v hv => Mach.decay_ran (hf v hv))

/-! ## The rows -/

theorem exec_markFire_row (s : State) (k : Fin 8) : exec (.markFire k) s = onUnits (fun m => m.whenReady fun m => m.markFire k) s := rfl
theorem exec_markRead_row (s : State) (src : Src) (k : Fin 8) :
    exec (.markRead src k) s = onUnits (fun m => m.pageWrite src (pgCap k) 0x094 1) s := rfl
theorem exec_markArm_row (s : State) (src : Src) (k : Fin 8) :
    exec (.markArm src k) s = onUnits (fun m => m.pageWrite src (pgCap k) 0x094 2) s := rfl
theorem exec_markDisarm_row (s : State) (src : Src) (k : Fin 8) :
    exec (.markDisarm src k) s = onUnits (fun m => m.pageWrite src (pgCap k) 0x094 3) s := rfl
theorem exec_advance_row (s : State) (src : Src) (k : Fin 8) (v : Word) :
    exec (.advance src k v) s = onUnits (fun m => m.pageWrite src (pgCap k) 0x05C v) s := rfl
theorem exec_setpos_row (s : State) (src : Src) (k : Fin 8) (v : Word) :
    exec (.setpos src k v) s = onUnits (fun m => m.pageWrite src (pgCap k) 0x060 v) s := rfl
theorem exec_axleEdge_row (s : State) (k : Fin 8) (fwd both : Bool) (ns : Nat) :
    exec (.axleEdge k fwd both ns) s = onUnits (fun m => m.axleEdge k fwd both ns) s := rfl
theorem exec_standstill_row (s : State) (k : Fin 8) (ms : Nat) :
    exec (.standstill k ms) s = onUnits (fun m => m.standstill k ms) s := rfl
theorem exec_framePulse_row (s : State) (k : Fin 8) (ns : Nat) :
    exec (.framePulse k ns) s = onUnits (fun m => m.framePulse k ns) s := rfl
theorem exec_mainsZeroCrossing_row (s : State) (k : Fin 8) (ns amp : Nat) (locked : Bool) :
    exec (.mainsZeroCrossing k ns amp locked) s = onUnits (fun m => m.mainsCrossing k ns amp locked) s := rfl
theorem exec_los_row (s : State) (k : Fin 8) (t : Nat) : exec (.los k t) s = onUnits (fun m => m.capLos k t) s := rfl
theorem exec_holdoverExpiry_row (s : State) (k : Fin 8) (turns : Nat) :
    exec (.holdoverExpiry k turns) s = onUnits (fun m => m.holdoverExpiry k turns) s := rfl
theorem exec_relock_row (s : State) (k : Fin 8) (phase : Fin 65536) :
    exec (.relock k phase) s = onUnits (fun m => m.relock k phase) s := rfl
theorem exec_powGo_row (s : State) (src : Src) (k slot : Fin 8) (v : Word) :
    exec (.powGo src k slot v) s = onUnits (fun m => m.pageWrite src (pgCap k) (0x110 + 0x20 * slot) v) s := rfl
theorem exec_powCloseDetect_row (s : State) (k slot : Fin 8) (us : Nat) :
    exec (.powCloseDetect k slot us) s = onUnits (fun m => m.powClose k slot us) s := rfl
theorem exec_powTimeout_row (s : State) (k slot : Fin 8) (us : Nat) :
    exec (.powTimeout k slot us) s = onUnits (fun m => m.powTimeout k slot us) s := rfl

/-- MARK_FIRE waits for READY (R531). -/
theorem exec_markFire_ready {s : State} {k : Fin 8} {u : Mach} (hm : s.m.mainOff = false) (hready : s.m.ready = true)
    (e : s.m.markFire k = u) : exec (.markFire k) s = .next (s.after u) := by
  rw [exec_markFire_row]
  exact onUnits_next hm ((if_pos hready).trans e)

/-- Settles O7: one bullet for each clause, in the order of the statement. The clause that brings a base to its next Mark rests on
notes/assumptions/87.md, and the position a FAULTED base keeps at a relock on notes/assumptions/146.md. -/
theorem capstanComplete : Obligations.CapstanComplete := by
  refine ⟨?_, ?_, ?_, ?_, ?_, ?_, ?_, ?_, ?_, ?_, ?_, ?_, ?_, ?_, ?_, ?_, ?_, ?_, ?_, ?_⟩
  · intro s k e hm hready hfire hdue
    exact exec_markFire_ready hm hready (Mach.markFire_due hfire hdue)
  · intro s k e hm hready hfire hdue hnext hreach hcoast
    exact exec_markFire_ready hm hready (Mach.markFire_next hfire hdue hnext hreach hcoast)
  · intro s src k hm h
    rw [exec_markRead_row]
    exact onUnits_markOp hm h (fun _ => rfl) fun _ _ _ hphase => Mach.decay_markRead hphase k
  · intro s src k hm h
    rw [exec_markArm_row]
    exact onUnits_markOp hm h (fun _ => rfl) fun _ hv _ hphase => Mach.decay_markArm hv hphase k
  · intro s src k hm h
    rw [exec_markDisarm_row]
    exact onUnits_markOp hm h (fun _ => rfl) fun _ _ _ hphase => Mach.decay_markDisarm hphase k
  · intro s src k v hm h
    rw [exec_advance_row]
    exact onUnits_next hm (Mach.pageWrite_advance h)
  · intro s src k v hm h
    rw [exec_setpos_row]
    exact onUnits_next hm (Mach.pageWrite_setpos h)
  · intro s k fwd both ns hm htype hruns hperiod hboth
    subst hboth
    rw [exec_axleEdge_row]
    exact onUnits_next hm (Mach.axleEdge_one htype hruns hperiod)
  · intro s k ms hm htype hruns hstill hms
    rw [exec_standstill_row]
    exact onUnits_next hm (Mach.standstill_still htype hruns hstill hms)
  · intro s k ns hm htype hpulsed hheld hruns hlos hcoast hfallback
    rw [exec_framePulse_row]
    exact onUnits_next hm (Mach.framePulse_taken htype hpulsed hheld hruns hlos hcoast hfallback)
  · intro s k ns amp locked hm htype hheld hruns hlos hcoast
    rw [exec_mainsZeroCrossing_row]
    exact onUnits_next hm (Mach.mainsCrossing_taken htype rfl hheld hruns hlos hcoast)
  · intro s k t hm hruns hlos hheld hlocked hloss hreact hturns
    rw [exec_los_row]
    exact onUnits_next hm (Mach.capLos_coast hruns hlos hheld hloss hlocked hreact hturns)
  · intro s k t hm hruns hlos hheld hloss hreact
    rw [exec_los_row]
    exact onUnits_next hm (Mach.capLos_hold hruns hlos hheld hloss hreact)
  · intro s k t hm hruns hlos hheld hloss hreact hpulsed htype
    rw [exec_los_row]
    exact onUnits_next hm (Mach.capLos_fallback hruns hlos hheld hloss hreact hpulsed htype)
  · intro s k turns hm hcoast hturns
    rw [exec_holdoverExpiry_row]
    exact onUnits_next hm (Mach.holdoverExpiry_over hcoast hturns)
  · intro s k phase hm hlos hpulsed hupulsed hruns
    rw [exec_relock_row]
    exact onUnits_next hm (Mach.relock_running hlos hpulsed rfl hupulsed hruns)
  · intro s k phase hm hlos hpulsed hupulsed hst
    rw [exec_relock_row]
    exact onUnits_next hm (Mach.relock_faulted hlos hpulsed rfl hupulsed hst)
  · intro s src k slot v hm h hgo
    rw [exec_powGo_row]
    exact onUnits_next hm (Mach.pageWrite_powGo h hgo)
  · intro s k slot us hm _ _ _
    rw [exec_powCloseDetect_row]
    exact onUnits_next hm rfl
  · intro s k slot us hm hphase htype hus
    rw [exec_powTimeout_row]
    exact onUnits_next hm (Mach.powTimeout_over hphase htype hus)

/-- Settles O34: the empty queue's case of the step. -/
theorem idleTicks : Obligations.IdleTicks := fun _ => step_nil

end Sys2Proof.Machine
end

section
/-! PROOFS. O3: each event at an output channel whose condition the readings meet (04_protected_outputs.md R130 to R137), and a bridge's junction
that has cooled (06_motor_bridges.md R189). Where an event stores a reading first, `u` is the machine with that reading in its register. -/

namespace Sys2Proof.Machine

/-! ## Pages of drive units -/

/-- The page of an output is that of its channel. -/
theorem pgOut_of_cls {n : Nat} (h : clsOf n = .out) : pgOut (n - 0x20) = n := by
  have hlow : ¬ n < 0x20 := by
    intro hn
    exact absurd h ((by decide : ∀ n < 0x20, clsOf n ≠ .out) n hn)
  simp only [pgOut]
  omega

/-- The page of a bridge is that of its index. -/
theorem pgBridge_of_cls {n : Nat} (h : clsOf n = .bridge) : pgBridge (n - 0xA0) = n := by
  have hlow : ¬ n < 0xA0 := by
    intro hn
    exact absurd h ((by decide +kernel : ∀ n < 0xA0, clsOf n ≠ .bridge) n hn)
  simp only [pgBridge]
  omega

/-! ## Start phase and inrush window (R130, R131) -/

section
variable {m u : Mach} {c : Nat}

theorem Mach.startSuccess_ends {vOut : Int} (hread : m.readOut c vOut = u) (hstart : u.flag (pgOut c) Out.STARTING = true)
    (hrail : (u.rail (bankOf (pgOut c)) : Int) - 150 ≤ vOut) : m.startSuccess c vOut = u.startEnds c := by
  simp [Mach.startSuccess, hread, hstart, hrail]

theorem Mach.startTimeout_trips {ms : Nat} (hstart : m.flag (pgOut c) Out.STARTING = true) (hms : m.fld (m.outCfg c) Out.TSTART ≤ ms) :
    m.startTimeout c ms = m.outTrip c (2 ^ 4) := by
  simp [Mach.startTimeout, hstart, hms]

theorem Mach.startEnergy_trips {mj : Nat} (hstart : m.flag (pgOut c) Out.STARTING = true)
    (hmj : outStartMj c * m.fld (pgOut c) Out.F ≤ mj * 100) : m.startEnergy c mj = m.outTrip c (2 ^ 4) := by
  simp [Mach.startEnergy, hstart, hmj]

theorem Mach.inrushEnd_clears {ms : Nat} (hms : m.fld (m.outCfg c) Out.TINRUSH ≤ ms) :
    m.inrushEnd c ms = m.setFlag (pgOut c) Out.INRUSH false := by
  simp [Mach.inrushEnd, hms]

/-! ## Over-current and short circuit (R132, R145) -/

theorem Mach.outShort_trips {ma : Int} (hstart : m.flag (pgOut c) Out.STARTING = false) (hma : 2 * m.outRating c < ma.natAbs) :
    m.outShort c ma = m.outTrip c (2 ^ 0) := by
  simp [Mach.outShort, hstart, hma]

/-- A channel alone trips on its own threshold. -/
theorem Mach.outOver_alone {avg sum : Int} {t : Nat} (halone : (m.group c).length ≤ 1) (hover : m.outThreshold c < avg.natAbs)
    (hstart : m.flag (pgOut c) Out.STARTING = false) (ht : m.fld (m.outCfg c) Out.TRIP ≤ t) :
    m.outOver c avg sum t = m.outTrip c (2 ^ 1) := by
  simp [Mach.outOver, halone, hover, hstart, ht]

/-- A member of a group trips on the group's sum or on its own rating. -/
theorem Mach.outOver_group {avg sum : Int} {t : Nat} (hgroup : 1 < (m.group c).length)
    (hover : (m.group c).length * m.groupLimit c < sum.natAbs ∨ m.outRating c < avg.natAbs)
    (hstart : m.flag (pgOut c) Out.STARTING = false) (ht : m.fld (m.outCfg c) Out.TRIP ≤ t) :
    m.outOver c avg sum t = m.outTrip c (2 ^ 1) := by
  simp [Mach.outOver, Nat.not_le.2 hgroup, hover, hstart, ht]

/-! ## Junctions (R133, R189) -/

theorem Mach.outThermal_trips {tj : Int} (hread : m.setSFld (pgOut c) Out.TJ tj = u) (hhot : 1700 ≤ tj) :
    m.outThermal c tj = (u.modOut c fun a => { a with hot := true }).outTrip c (2 ^ 2) := by
  simp [Mach.outThermal, hread, hhot]

theorem Mach.outThermal_resumes {tj : Int} (hread : m.setSFld (pgOut c) Out.TJ tj = u) (hwas : (u.out c).hot = true) (hcool : tj < 1500) :
    m.outThermal c tj = (u.modOut c fun a => { a with hot := false }).groupSettle c := by
  have hbelow : ¬ 1700 ≤ tj := by omega
  simp [Mach.outThermal, hread, hwas, hcool, hbelow]

/-- A bridge whose junction has cooled drives again (R189; notes/assumptions/27.md). -/
theorem Mach.brThermal_resumes {b : Nat} {tj : Int} (hread : m.setSFld (pgBridge b) Bridge.TJ tj = u) (hwas : (u.br b).hot = true)
    (hcool : tj < 1500) : m.brThermal b tj = (u.modBr b fun a => { a with hot := false }).brSettle b true := by
  have hbelow : ¬ 1700 ≤ tj := by omega
  simp [Mach.brThermal, hread, hwas, hcool, hbelow]

theorem Mach.outTjWarn_raises {tj : Int} (hread : m.setSFld (pgOut c) Out.TJ tj = u) (hwas : (u.out c).warm = false)
    (hwarm : 10 * (m.fld (m.outCfg c) Out.TJ_WARN : Int) < tj) :
    m.outTjWarn c tj = (u.modOut c fun a => { a with warm := true }).outRaise c (2 ^ 3) := by
  simp [Mach.outTjWarn, hread, hwas, hwarm]

/-! ## Retries (R134) -/

/-- Only a leg of a pair's Second waits for the Lead (R460). -/
theorem Mach.retryRow_own {ms : Nat} {tj : Int} (hown : m.secondHeld (pgOut c) = false) : m.retryRow c ms tj = m.outRetry c ms tj := by
  simp [Mach.retryRow, hown]

theorem Mach.outRetry_due {ms w : Nat} {tj : Int} (hread : m.setSFld (pgOut c) Out.TJ tj = u) (hwait : (u.out c).wait = some w)
    (hms : w ≤ ms) :
    m.outRetry c ms tj = (u.modOut c fun a => { a with hot := a.hot && decide (1500 ≤ tj), retryDue := true }).groupSettle c := by
  simp [Mach.outRetry, hread, hwait, Nat.not_lt.2 hms]

theorem Mach.retrySeriesReset_resets {ms : Nat} (hdemand : m.outDemand c = true) (hwait : m.flag (pgOut c) Out.RETRY_WAIT = false)
    (hms : 10000 ≤ ms) : m.retrySeriesReset c ms = m.setFld (pgOut c) Out.RETRIES 0 := by
  simp [Mach.retrySeriesReset, hdemand, hwait, hms]

/-! ## Clamp and the checks of the switch (R135, R137) -/

theorem Mach.outClamp_raises {mj : Nat} (hmj : outClampMj c < mj) :
    m.outClamp c mj = (m.modOut c fun a => { a with clampMj := mj }).outRaise c (2 ^ 11) := by
  simp [Mach.outClamp, hmj]

theorem Mach.switchOpen_raises {cur vOut : Int} {us : Nat} (hread : m.readOut c vOut = u) (hgate : u.flag (pgOut c) Out.GATE = true)
    (hstart : u.flag (pgOut c) Out.STARTING = false) (hcur : cur < u.fld (u.outCfg c) Out.ILIM)
    (hout : vOut < (u.rail (bankOf (pgOut c)) : Int) - 300)
    (hrail : u.fld (pgBank (bankOf (pgOut c))) Bank.LOSS_V ≤ u.rail (bankOf (pgOut c))) (hus : 1000 ≤ us) :
    m.switchOpen c cur vOut us = u.outRaise c (2 ^ 12) := by
  simp [Mach.switchOpen, hread, hgate, hstart, hcur, hout, hrail, hus]

theorem Mach.switchStuck_raises {cur : Int} {us : Nat} (hgate : m.flag (pgOut c) Out.GATE = false) (hcur : 50 < cur) (hus : 1000 ≤ us) :
    m.switchStuck c cur us = m.outRaise c (2 ^ 13) := by
  simp [Mach.switchStuck, hgate, hcur, hus]

end

/-! ## What a protection several classes share is at an output and at a bridge -/

section
variable {m : Mach} {n : Nat}

theorem Mach.shortCircuit_out {ma : Int} (h : clsOf n = .out) : m.shortCircuit n ma = m.outShort (n - 0x20) ma := by
  simp [Mach.shortCircuit, h]

theorem Mach.junction_out {tj : Int} (h : clsOf n = .out) : m.junction n tj = m.outThermal (n - 0x20) tj := by
  simp [Mach.junction, h]

theorem Mach.junction_bridge {tj : Int} (h : clsOf n = .bridge) : m.junction n tj = m.brThermal (n - 0xA0) tj := by
  simp [Mach.junction, h]

theorem Mach.tjWarn_out {tj : Int} (h : clsOf n = .out) : m.tjWarn n tj = m.outTjWarn (n - 0x20) tj := by
  simp [Mach.tjWarn, h]

theorem Mach.clampEvent_out {mj : Nat} (h : clsOf n = .out) : m.clampEvent n mj = m.outClamp (n - 0x20) mj := by
  simp [Mach.clampEvent, h]

end

/-! ## The rows -/

theorem exec_startSuccess_row (s : State) (c : Fin 128) (vOut : Int) :
    exec (.startSuccess c vOut) s = onUnits (fun m => m.startSuccess c vOut) s := rfl
theorem exec_startTimeout_row (s : State) (c : Fin 128) (ms : Nat) :
    exec (.startTimeout c ms) s = onUnits (fun m => m.startTimeout c ms) s := rfl
theorem exec_startEnergyCap_row (s : State) (c : Fin 128) (mj : Nat) :
    exec (.startEnergyCap c mj) s = onUnits (fun m => m.startEnergy c mj) s := rfl
theorem exec_inrushEnd_row (s : State) (c : Fin 128) (ms : Nat) : exec (.inrushEnd c ms) s = onUnits (fun m => m.inrushEnd c ms) s := rfl
theorem exec_shortCircuit_row (s : State) (n : Fin 32768) (ma : Int) :
    exec (.shortCircuit n ma) s = onUnits (fun m => m.shortCircuit n ma) s := rfl
theorem exec_overcurrent_row (s : State) (c : Fin 128) (avg sum : Int) (t : Nat) :
    exec (.overcurrent c avg sum t) s = onUnits (fun m => m.outOver c avg sum t) s := rfl
theorem exec_thermal_row (s : State) (n : Fin 32768) (tj : Int) : exec (.thermal n tj) s = onUnits (fun m => m.junction n tj) s := rfl
theorem exec_thermalResume_row (s : State) (n : Fin 32768) (tj : Int) :
    exec (.thermalResume n tj) s = onUnits (fun m => m.junction n tj) s := rfl
theorem exec_tjWarn_row (s : State) (n : Fin 32768) (tj : Int) : exec (.tjWarn n tj) s = onUnits (fun m => m.tjWarn n tj) s := rfl
theorem exec_retry_row (s : State) (c : Fin 128) (ms : Nat) (tj : Int) :
    exec (.retry c ms tj) s = onUnits (fun m => m.retryRow c ms tj) s := rfl
theorem exec_retrySeriesReset_row (s : State) (c : Fin 128) (ms : Nat) :
    exec (.retrySeriesReset c ms) s = onUnits (fun m => m.retrySeriesReset c ms) s := rfl
theorem exec_clamp_row (s : State) (n : Fin 32768) (mj : Nat) : exec (.clamp n mj) s = onUnits (fun m => m.clampEvent n mj) s := rfl
theorem exec_switchOpen_row (s : State) (c : Fin 128) (cur vOut : Int) (us : Nat) :
    exec (.switchOpen c cur vOut us) s = onUnits (fun m => m.switchOpen c cur vOut us) s := rfl
theorem exec_switchStuck_row (s : State) (c : Fin 128) (cur : Int) (us : Nat) :
    exec (.switchStuck c cur us) s = onUnits (fun m => m.switchStuck c cur us) s := rfl

/-- Settles O3: one bullet for each clause, in the order of the statement. The clause of a bridge whose junction has cooled is
06_motor_bridges.md R189 and rests on notes/assumptions/27.md: its live registers then drive again. -/
theorem outputsComplete : Obligations.OutputsComplete := by
  refine ⟨?_, ?_, ?_, ?_, ?_, ?_, ?_, ?_, ?_, ?_, ?_, ?_, ?_, ?_, ?_, ?_⟩
  · intro s c vOut hm hstart hrail
    rw [exec_startSuccess_row]
    exact onUnits_next hm (Mach.startSuccess_ends rfl hstart hrail)
  · intro s c ms hm hstart hms
    rw [exec_startTimeout_row]
    exact onUnits_next hm (Mach.startTimeout_trips hstart hms)
  · intro s c mj hm hstart hmj
    rw [exec_startEnergyCap_row]
    exact onUnits_next hm (Mach.startEnergy_trips hstart hmj)
  · intro s c ms hm hms
    rw [exec_inrushEnd_row]
    exact onUnits_next hm (Mach.inrushEnd_clears hms)
  · intro s n ma hm hcls hstart hma
    rw [exec_shortCircuit_row]
    exact onUnits_next hm ((Mach.shortCircuit_out hcls).trans (Mach.outShort_trips hstart hma))
  · intro s c avg sum t hm halone hover hstart ht
    rw [exec_overcurrent_row]
    exact onUnits_next hm (Mach.outOver_alone halone hover hstart ht)
  · intro s c avg sum t hm hgroup hover hstart ht
    rw [exec_overcurrent_row]
    exact onUnits_next hm (Mach.outOver_group hgroup hover hstart ht)
  · intro s n tj hm hcls hhot
    rw [exec_thermal_row]
    exact onUnits_next hm ((Mach.junction_out hcls).trans (Mach.outThermal_trips rfl hhot))
  · intro s n tj hm hcls hwas hcool
    rw [exec_thermalResume_row]
    exact onUnits_next hm ((Mach.junction_out hcls).trans (Mach.outThermal_resumes rfl hwas hcool))
  · intro s n tj hm hcls hwas hcool
    have hread : s.m.setSFld (pgBridge (n - 0xA0)) Bridge.TJ tj = s.m.setSFld n Bridge.TJ tj := by rw [pgBridge_of_cls hcls]
    rw [exec_thermalResume_row]
    exact onUnits_next hm ((Mach.junction_bridge hcls).trans (Mach.brThermal_resumes hread hwas hcool))
  · intro s n tj hm hcls hwas _ hwarm
    have hread : s.m.setSFld (pgOut (n - 0x20)) Out.TJ tj = s.m.setSFld n Out.TJ tj := by rw [pgOut_of_cls hcls]
    rw [exec_tjWarn_row]
    exact onUnits_next hm ((Mach.tjWarn_out hcls).trans (Mach.outTjWarn_raises hread hwas hwarm))
  · intro s c ms tj w hm hown hwait hms
    rw [exec_retry_row]
    exact onUnits_next hm ((Mach.retryRow_own hown).trans (Mach.outRetry_due rfl hwait hms))
  · intro s c ms hm hdemand hwait hms
    rw [exec_retrySeriesReset_row]
    exact onUnits_next hm (Mach.retrySeriesReset_resets hdemand hwait hms)
  · intro s n mj hm hcls hmj
    rw [exec_clamp_row]
    exact onUnits_next hm ((Mach.clampEvent_out hcls).trans (Mach.outClamp_raises hmj))
  · intro s c cur vOut us hm hgate hstart hcur hout hrail hus
    rw [exec_switchOpen_row]
    exact onUnits_next hm (Mach.switchOpen_raises rfl hgate hstart hcur hout hrail hus)
  · intro s c cur us hm hgate hcur hus
    rw [exec_switchStuck_row]
    exact onUnits_next hm (Mach.switchStuck_raises hgate hcur hus)

end Sys2Proof.Machine
end

section
/-! PROOFS. O4: the diagnostics of an output whose condition the readings meet (04_protected_outputs.md R128, R129, R138 to R145), and a bridge's
PWM period (06_motor_bridges.md R188). -/

namespace Sys2Proof.Machine

section
variable {m u : Mach} {c : Nat}

/-! ## Open load (R138, R139) -/

theorem Mach.openOn_raises {cur : Int} {ms : Nat} (hcheck : m.fld (pgOut c) Out.OPEN_ON ≠ 0) (hcur : cur < m.fld (pgOut c) Out.OPEN_ON)
    (hgate : m.flag (pgOut c) Out.GATE = true)
    (hrail : m.fld (pgBank (bankOf (pgOut c))) Bank.LOSS_V ≤ m.rail (bankOf (pgOut c))) (hms : 100 ≤ ms) :
    m.openOn c cur ms = m.outRaise c (2 ^ 6) := by
  simp [Mach.openOn, hcheck, Int.not_le.2 hcur, hgate, hrail, hms]

theorem Mach.offdiagPulse_raises {vOut : Int} (hdiag : m.flag (pgOut c) Out.OFFDIAG = true) (hgate : m.flag (pgOut c) Out.GATE = false)
    (hout : 350 < vOut) : m.offdiagPulse c vOut = (m.readOut c vOut).outRaise c (2 ^ 7) := by
  simp [Mach.offdiagPulse, hdiag, hgate, hout]

/-! ## Back-feed (R140) -/

theorem Mach.bfArm_arms {vOut : Int} {ms : Nat} (hread : m.readOut c vOut = u) (hgate : u.flag (pgOut c) Out.GATE = false)
    (hquiet : vOut < 200 ∨ u.fld (pgOut c) Out.BF_BLANK ≤ ms) : m.bfArm c vOut ms = u.setFlag (pgOut c) Out.BF_ARMED true := by
  simp [Mach.bfArm, hread, hgate, hquiet]

/-- An armed channel that is off, outside a test pulse. -/
theorem Mach.backfeed_off {vOut : Int} {us : Nat} {partnerOff : Bool} (hread : m.readOut c vOut = u)
    (hgate : u.flag (pgOut c) Out.GATE = false) (harmed : u.flag (pgOut c) Out.BF_ARMED = true)
    (hduplex : u.flag (pgOut c) Out.DUPLEX = false) (hparallel : u.src (pgOut c) 9 = false) (hout : 200 < vOut) (hus : 50 ≤ us) :
    m.backfeed c vOut us false partnerOff = (u.incSat (pgOut c) Out.BACKFEEDS).outRaise c (2 ^ 8) := by
  simp [Mach.backfeed, hread, hgate, harmed, hduplex, hparallel, hout, hus]

/-- A channel that is on, above its rail. -/
theorem Mach.backfeed_on {vOut : Int} {us : Nat} {pulse partnerOff : Bool} (hread : m.readOut c vOut = u)
    (hgate : u.flag (pgOut c) Out.GATE = true) (hout : (u.rail (bankOf (pgOut c)) : Int) + 200 < vOut) (hus : 10 ≤ us) :
    m.backfeed c vOut us pulse partnerOff = (u.incSat (pgOut c) Out.BACKFEEDS).outRaise c (2 ^ 8) := by
  simp [Mach.backfeed, hread, hgate, hout, hus]

/-! ## Parallel channels (R143, R145) -/

theorem Mach.parallelFound_raises {d : Nat} {e : WireEdge} (hne : c ≠ d) (hbank : bankOf (pgOut c) = bankOf (pgOut d))
    (hgroup : m.fld (pgOut c) Out.GROUP = 0) (hwired : m.wiredAt c d e = true) :
    m.parallelFound c d e = (m.outRaise c (2 ^ 9)).outRaise d (2 ^ 9) := by
  simp [Mach.parallelFound, hne, hbank, hgroup, hwired]

/-- A member's share of its group's current. -/
theorem Mach.share_group {cur sum ms : Nat} (hduplex : m.flag (pgOut c) Out.DUPLEX = false) (hmany : 2 ≤ (m.group c).length)
    (hsum : (m.group c).length * m.fld (m.outCfg c) Out.ILIM ≤ 4 * sum) (hms : 1000 ≤ ms)
    (himb : m.fld (pgOut c) Out.IMB * sum < 100 * (((m.group c).length * cur : Int) - sum).natAbs) :
    m.share c cur sum ms = m.outRaise c (2 ^ 10) := by
  simp [Mach.share, hduplex, hmany, hsum, hms, himb]

/-- A duplex leg's share of the current of the two legs. -/
theorem Mach.share_duplex {cur sum ms : Nat} (hduplex : m.flag (pgOut c) Out.DUPLEX = true)
    (hsum : 2 * m.fld (m.outCfg c) Out.ILIM ≤ 4 * sum) (hms : 1000 ≤ ms)
    (himb : m.fld (pgOut c) Out.IMB * sum < 100 * ((2 * cur : Int) - sum).natAbs) :
    m.share c cur sum ms = m.outRaise c (2 ^ 10) := by
  simp [Mach.share, hduplex, hsum, hms, himb]

/-! ## Synchronisation and PWM periods (R128, R129) -/

theorem Mach.outSyncLost_raises (hmode : (m.out c).drive.mode = 2) (hgate : m.flag (pgOut c) Out.GATE = true)
    (hlost : m.baseLost (pgOut c) = true) : m.outSyncLost c = (m.takeDrive c (m.out c).drive).outRaise c (2 ^ 15) := by
  simp [Mach.outSyncLost, hmode, hgate, hlost]

theorem Mach.outPeriodStart_takes (hgate : m.flag (pgOut c) Out.GATE = true) (hconducts : (m.wantDrive c).conducts = true)
    (hmode : (m.wantDrive c).mode ≠ 0) : m.outPeriodStart c = m.takeDrive c (m.wantDrive c) := by
  simp [Mach.outPeriodStart, hgate, hconducts, hmode]

end

section
variable {m : Mach} {n : Nat}

theorem Mach.syncLost_out (h : clsOf n = .out) : m.syncLost n = m.outSyncLost (n - 0x20) := by
  simp [Mach.syncLost, h]

theorem Mach.periodStart_out (h : clsOf n = .out) : m.periodStart n = m.outPeriodStart (n - 0x20) := by
  simp [Mach.periodStart, h]

/-- A new period of a bridge ends LIMITING (R188). -/
theorem Mach.periodStart_bridge (h : clsOf n = .bridge) : m.periodStart n = m.setFlag n Bridge.LIMITING false := by
  simp [Mach.periodStart, Mach.brPeriodStart, h, pgBridge_of_cls h]

end

/-! ## The rows -/

theorem exec_openOn_row (s : State) (c : Fin 128) (cur : Int) (ms : Nat) :
    exec (.openOn c cur ms) s = onUnits (fun m => m.openOn c cur ms) s := rfl
theorem exec_offdiagPulse_row (s : State) (c : Fin 128) (vOut : Int) :
    exec (.offdiagPulse c vOut) s = onUnits (fun m => m.offdiagPulse c vOut) s := rfl
theorem exec_bfArm_row (s : State) (c : Fin 128) (vOut : Int) (ms : Nat) :
    exec (.bfArm c vOut ms) s = onUnits (fun m => m.bfArm c vOut ms) s := rfl
theorem exec_backfeed_row (s : State) (c : Fin 128) (vOut : Int) (us : Nat) (pulse partnerOff : Bool) :
    exec (.backfeed c vOut us pulse partnerOff) s = onUnits (fun m => m.backfeed c vOut us pulse partnerOff) s := rfl
theorem exec_parallelUndeclared_row (s : State) (c d : Fin 128) (e : WireEdge) :
    exec (.parallelUndeclared c d e) s = onUnits (fun m => m.parallelFound c d e) s := rfl
theorem exec_share_row (s : State) (c : Fin 128) (cur sum ms : Nat) :
    exec (.share c cur sum ms) s = onUnits (fun m => m.share c cur sum ms) s := rfl
theorem exec_syncLost_row (s : State) (n : Fin 32768) : exec (.syncLost n) s = onUnits (fun m => m.syncLost n) s := rfl
theorem exec_pwmPeriodStart_row (s : State) (n : Fin 32768) : exec (.pwmPeriodStart n) s = onUnits (fun m => m.periodStart n) s := rfl

/-- Settles O4: one bullet for each clause, in the order of the statement. The clause of a bridge's PWM period is 06_motor_bridges.md
R188. -/
theorem outputChecksComplete : Obligations.OutputChecksComplete := by
  refine ⟨?_, ?_, ?_, ?_, ?_, ?_, ?_, ?_, ?_, ?_, ?_⟩
  · intro s c cur ms hm hcheck hcur hgate hrail hms
    rw [exec_openOn_row]
    exact onUnits_next hm (Mach.openOn_raises hcheck hcur hgate hrail hms)
  · intro s c vOut hm hdiag hgate hout
    rw [exec_offdiagPulse_row]
    exact onUnits_next hm (Mach.offdiagPulse_raises hdiag hgate hout)
  · intro s c vOut ms hm hgate hquiet
    rw [exec_bfArm_row]
    exact onUnits_next hm (Mach.bfArm_arms rfl hgate hquiet)
  · intro s c vOut us pulse partnerOff hm hgate harmed hduplex hparallel hpulse hout hus
    subst hpulse
    rw [exec_backfeed_row]
    exact onUnits_next hm (Mach.backfeed_off rfl hgate harmed hduplex hparallel hout hus)
  · intro s c vOut us pulse partnerOff hm hgate hout hus
    rw [exec_backfeed_row]
    exact onUnits_next hm (Mach.backfeed_on rfl hgate hout hus)
  · intro s c d e hm hne hbank hgroup hwired
    rw [exec_parallelUndeclared_row]
    exact onUnits_next hm (Mach.parallelFound_raises hne hbank hgroup hwired)
  · intro s c cur sum ms hm hduplex hmany hsum hms himb
    rw [exec_share_row]
    exact onUnits_next hm (Mach.share_group hduplex hmany hsum hms himb)
  · intro s c cur sum ms hm hduplex hsum hms himb
    rw [exec_share_row]
    exact onUnits_next hm (Mach.share_duplex hduplex hsum hms himb)
  · intro s n hm hcls hmode hgate hlost
    rw [exec_syncLost_row]
    exact onUnits_next hm ((Mach.syncLost_out hcls).trans (Mach.outSyncLost_raises hmode hgate hlost))
  · intro s n hm hcls hgate hconducts hmode
    rw [exec_pwmPeriodStart_row]
    exact onUnits_next hm ((Mach.periodStart_out hcls).trans (Mach.outPeriodStart_takes hgate hconducts hmode))
  · intro s n hm hcls
    rw [exec_pwmPeriodStart_row]
    exact onUnits_next hm (Mach.periodStart_bridge hcls)

end Sys2Proof.Machine
end

section
/-! PROOFS. O5: each reading of a bank that meets a condition of R153, the trips of R154, and a taken CFG write
(04_protected_outputs.md R153 to R156; 01_module_and_connectors.md R17). `u` is the machine with the reading in its registers. -/

namespace Sys2Proof.Machine

section
variable {m u : Mach} {k : Nat}

/-! ## Feeds and their diodes (R17, R153) -/

theorem Mach.diodeOff_reversed {b : Bool} {cur : Int} (hcur : cur < 0) :
    m.diodeOff k b cur = (m.setFlag (pgBank k) (if b then Bank.B_ON else Bank.A_ON) false).setFld (pgBank k)
      (if b then Bank.IB else Bank.IA) 0 := if_pos hcur

/-- Feed A is found lost: its losses count one more. -/
theorem Mach.feedLost_a {v ms : Nat} (hread : m.setFeed k false v = u) (hused : u.feedUsed k false = true)
    (hv : v < u.fld (pgBank k) Bank.LOSS_V) (hms : u.fld (pgBank k) Bank.LOSS_T ≤ ms) (hnew : u.flag (pgBank k) Bank.A_LOST = false) :
    m.feedLost k false v ms = ((u.incSat (pgBank k) Bank.A_LOSSES).setFlag (pgBank k) Bank.A_LOST true).raise (pgBank k) 0 := by
  simp [Mach.feedLost, hread, hused, hv, hms, hnew]

theorem Mach.overvolt_b {v ms : Nat} (hread : m.setFeed k true v = u)
    (hv : u.fld (pgBank k) Bank.OV_V < u.fld (pgBank k) Bank.VB) (hms : u.fld (pgBank k) Bank.OV_T ≤ ms) :
    m.overvolt k true v ms = (u.setFlag (pgBank k) Bank.OV true).raise (pgBank k) 4 := by
  simp [Mach.overvolt, hread, hv, hms]

theorem Mach.diodeFault_a {v ms : Nat} (hread : m.readFeed k false v = u) (hoff : u.flag (pgBank k) Bank.A_ON = false)
    (hv : u.rail k + 50 < v) (hms : 10 ≤ ms) : m.diodeFault k false v ms = u.raise (pgBank k) 9 := by
  simp [Mach.diodeFault, hread, hoff, hv, hms]

theorem Mach.unusedLive_a {v : Nat} (hread : m.setFeed k false v = u) (hunused : u.feedUsed k false = false) (hv : 500 < v) :
    m.unusedLive k false v = (u.setFlag (pgBank k) Bank.UNUSED_LIVE true).raise (pgBank k) 10 := by
  simp [Mach.unusedLive, hread, hunused, hv]

/-! ## The rail (R153) -/

theorem Mach.railLost_raises {v ms : Nat} (hread : m.setRail k v = u) (hused : u.anyUsed k = true)
    (hv : v < u.fld (pgBank k) Bank.LOSS_V) (hms : u.fld (pgBank k) Bank.LOSS_T ≤ ms) : m.railLost k v ms = u.raise (pgBank k) 2 := by
  simp [Mach.railLost, hread, hused, hv, hms]

theorem Mach.railSag_raises {v ms : Nat} (hread : m.setRail k v = u) (hused : u.anyUsed k = true)
    (hv : v < u.fld (pgBank k) Bank.SAG_V) (hms : u.fld (pgBank k) Bank.SAG_T ≤ ms) :
    m.railSag k v ms = (u.setFlag (pgBank k) Bank.SAG true).raise (pgBank k) 3 := by
  simp [Mach.railSag, hread, hused, hv, hms]

/-! ## Bank current and baseplate (R153, R154) -/

theorem Mach.bankOc_raises {mean now : Int} (hread : m.setSFld (pgBank k) Bank.IR now = u)
    (hmean : (u.fld (pgBank k) Bank.LIM : Int) < mean) : m.bankOc k mean now = (u.setFlag (pgBank k) Bank.OC true).raise (pgBank k) 5 := by
  simp [Mach.bankOc, hread, hmean]

theorem Mach.bankOver_trips {cur : Int} {ms : Nat} (hread : m.setSFld (pgBank k) Bank.IR cur = u) (hcur : 15000 < cur) (hms : 10 ≤ ms)
    (hnew : u.src (pgBank k) 6 = false) : m.bankOver k cur ms = u.bankTrip k 6 := by
  simp [Mach.bankOver, hread, hcur, hms, hnew]

theorem Mach.bpWarn_raises {tb : Int} (hread : m.setSFld (pgBank k) Bank.TEMP tb = u)
    (hwarm : 10 * (u.fld (pgBank k) Bank.BP_WARN : Int) < tb) :
    m.bpWarn k tb = (u.setFlag (pgBank k) Bank.BP_WARN_64 true).raise (pgBank k) 7 := by
  simp [Mach.bpWarn, hread, hwarm]

theorem Mach.bpTrip_trips {tb : Int} {ms : Nat} (hread : m.setSFld (pgBank k) Bank.TEMP tb = u) (htb : 1000 ≤ tb) (hms : 1000 ≤ ms)
    (hnew : u.src (pgBank k) 8 = false) : m.bpTrip k tb ms = u.bankTrip k 8 := by
  simp [Mach.bpTrip, hread, htb, hms, hnew]

end

/-- A taken write of a bank's CFG (R156). -/
theorem Mach.pageWrite_bankCfg {m : Mach} {src : Src} {k : Fin 4} {w : Word} (h : m.takes src (pgBank k) 0x040 w = true) :
    m.pageWrite src (pgBank k) 0x040 w = m.ran src (pgBank k) 0x040 fun m => m.bankCfg k w :=
  Mach.pageWrite_special (by decide) h fun m => by simp [Mach.special, clsOf_pgBank, pgBank_sub]

/-! ## The rows -/

theorem exec_idealDiodeOff_row (s : State) (k : Fin 4) (b : Bool) (cur : Int) :
    exec (.idealDiodeOff k b cur) s = onUnits (fun m => (m.diodeOff k b cur).bankAfter k) s := rfl
theorem exec_aLost_row (s : State) (k : Fin 4) (b : Bool) (v ms : Nat) :
    exec (.aLost k b v ms) s = onUnits (fun m => (m.feedLost k b v ms).bankAfter k) s := rfl
theorem exec_railLost_row (s : State) (k : Fin 4) (v ms : Nat) :
    exec (.railLost k v ms) s = onUnits (fun m => (m.railLost k v ms).bankAfter k) s := rfl
theorem exec_sag_row (s : State) (k : Fin 4) (v ms : Nat) :
    exec (.sag k v ms) s = onUnits (fun m => (m.railSag k v ms).bankAfter k) s := rfl
theorem exec_overvolt_row (s : State) (k : Fin 4) (b : Bool) (v ms : Nat) :
    exec (.overvolt k b v ms) s = onUnits (fun m => (m.overvolt k b v ms).bankAfter k) s := rfl
theorem exec_bankOc_row (s : State) (k : Fin 4) (mean now : Int) :
    exec (.bankOc k mean now) s = onUnits (fun m => m.bankOc k mean now) s := rfl
theorem exec_bankTrip_row (s : State) (k : Fin 4) (cur : Int) (ms : Nat) :
    exec (.bankTrip k cur ms) s = onUnits (fun m => m.bankOver k cur ms) s := rfl
theorem exec_bpWarn_row (s : State) (k : Fin 4) (tb : Int) : exec (.bpWarn k tb) s = onUnits (fun m => m.bpWarn k tb) s := rfl
theorem exec_bpTrip_row (s : State) (k : Fin 4) (tb : Int) (ms : Nat) :
    exec (.bpTrip k tb ms) s = onUnits (fun m => m.bpTrip k tb ms) s := rfl
theorem exec_diode_row (s : State) (k : Fin 4) (b : Bool) (v ms : Nat) :
    exec (.diode k b v ms) s = onUnits (fun m => (m.diodeFault k b v ms).bankAfter k) s := rfl
theorem exec_unusedLive_row (s : State) (k : Fin 4) (b : Bool) (v : Nat) :
    exec (.unusedLive k b v) s = onUnits (fun m => (m.unusedLive k b v).bankAfter k) s := rfl
theorem exec_bankClassWrite_row (s : State) (src : Src) (k : Fin 4) (v : Word) :
    exec (.bankClassWrite src k v) s = onUnits (fun m => m.pageWrite src (pgBank k) 0x040 v) s := rfl
theorem exec_feedReturn_row (s : State) (k : Fin 4) (vA vB vR : Nat) (iA iB iR : Int) (ms : Nat) :
    exec (.feedReturn k vA vB vR iA iB iR ms) s
      = onUnits (fun m => ((m.readCurrents k iA iB iR).feedReturn k vA vB vR ms).bankAfter k) s := rfl

/-- A bank's reading whose own effect is `u`; BOOST follows the rail of bank 3 (R282). -/
theorem onUnits_bank {s : State} {k : Nat} {f : Mach → Mach} {u : Mach} (hm : s.m.mainOff = false) (e : f s.m = u) :
    onUnits (fun m => (f m).bankAfter k) s = .next (s.after (u.bankAfter k)) :=
  onUnits_next hm (congrArg (Mach.bankAfter k) e)

/-- Settles O5: one bullet for each clause, in the order of the statement. -/
theorem banksComplete : Obligations.BanksComplete := by
  refine ⟨?_, ?_, ?_, ?_, ?_, ?_, ?_, ?_, ?_, ?_, ?_, ?_, ?_⟩
  · intro s k b cur hm hcur
    rw [exec_idealDiodeOff_row]
    exact onUnits_bank hm (Mach.diodeOff_reversed hcur)
  · intro s k b v ms hm hb hused hv hms hnew
    subst hb
    rw [exec_aLost_row]
    exact onUnits_bank hm (Mach.feedLost_a rfl hused hv hms hnew)
  · intro s k v ms hm hused hv hms
    rw [exec_railLost_row]
    exact onUnits_bank hm (Mach.railLost_raises rfl hused hv hms)
  · intro s k v ms hm hused hv hms
    rw [exec_sag_row]
    exact onUnits_bank hm (Mach.railSag_raises rfl hused hv hms)
  · intro s k b v ms hm hb hv hms
    subst hb
    rw [exec_overvolt_row]
    exact onUnits_bank hm (Mach.overvolt_b rfl hv hms)
  · intro s k mean now hm hmean
    rw [exec_bankOc_row]
    exact onUnits_next hm (Mach.bankOc_raises rfl hmean)
  · intro s k cur ms hm hcur hms hnew
    rw [exec_bankTrip_row]
    exact onUnits_next hm (Mach.bankOver_trips rfl hcur hms hnew)
  · intro s k tb hm hwarm
    rw [exec_bpWarn_row]
    exact onUnits_next hm (Mach.bpWarn_raises rfl hwarm)
  · intro s k tb ms hm htb hms hnew
    rw [exec_bpTrip_row]
    exact onUnits_next hm (Mach.bpTrip_trips rfl htb hms hnew)
  · intro s k b v ms hm hb hoff hv hms
    subst hb
    rw [exec_diode_row]
    exact onUnits_bank hm (Mach.diodeFault_a rfl hoff hv hms)
  · intro s k b v hm hb hunused hv
    subst hb
    rw [exec_unusedLive_row]
    exact onUnits_bank hm (Mach.unusedLive_a rfl hunused hv)
  · intro s src k v hm h
    rw [exec_bankClassWrite_row]
    exact onUnits_next hm (Mach.pageWrite_bankCfg h)
  · intro s k vA vB vR iA iB iR ms hm
    rw [exec_feedReturn_row]
    exact onUnits_bank hm rfl

end Sys2Proof.Machine
end

section
/-! PROOFS. O8: the ripples, stops, pinches, brakes, parks and currents of a bridge whose condition the readings meet (06_motor_bridges.md R187,
R188, R190 to R193, R195, R196, R198 to R200). One lemma for each row's operation says what it does then. -/

namespace Sys2Proof.Machine

section
variable {m u : Mach} {b : Nat}

/-! ## Ripple counting (R190 to R192) -/

/-- The first ripple after standstill is taken whatever its interval. -/
theorem Mach.ripple_first {ns : Nat} {v cur : Int} (hstood : m.flag (pgBridge b) Bridge.MOVING = false) :
    m.ripple b ns v cur = ((m.brTurning b (m.backEmf b v cur)).brAccept b ns (m.backEmf b v cur) true).brSettle b false := by
  simp [Mach.ripple, hstood]

/-- A ripple at half the last interval or later is taken. -/
theorem Mach.ripple_accepted {ns : Nat} {v cur : Int} (hmoving : m.flag (pgBridge b) Bridge.MOVING = true)
    (hlate : (m.br b).tau ≤ 2 * ns) :
    m.ripple b ns v cur = ((m.brTurning b (m.backEmf b v cur)).brAccept b ns (m.backEmf b v cur) false).brSettle b false := by
  simp [Mach.ripple, hmoving, Nat.not_lt.2 hlate]

/-- A ripple before half the last interval is rejected, and the position is less certain. -/
theorem Mach.ripple_rejected {ns : Nat} {v cur : Int} (hmoving : m.flag (pgBridge b) Bridge.MOVING = true)
    (hearly : 2 * ns < (m.br b).tau) :
    m.ripple b ns v cur
      = (((m.brTurning b (m.backEmf b v cur)).incSat (pgBridge b) Bridge.REJECTED).brUncertain b).brSettle b false := by
  simp [Mach.ripple, hmoving, hearly]

/-- An inserted ripple counts in POS and UNCERT; τ and SPEED stay as the last accepted ripple left them (notes/assumptions/155.md). -/
theorem Mach.rippleInsert_inserts {ns : Nat} (hmoving : m.flag (pgBridge b) Bridge.MOVING = true) (htau : (m.br b).tau ≠ 0)
    (hlate : 16 * (m.br b).tau ≤ 10 * ns) :
    m.rippleInsert b ns
      = ((m.brCount b (m.flag (pgBridge b) Bridge.DIR)).incSat (pgBridge b) Bridge.INSERTED).brUncertain b := by
  simp [Mach.rippleInsert, hmoving, htau, hlate]

theorem Mach.motorStopped_stands {v cur : Int} (hslow : (m.backEmf b v cur).natAbs < 500000) :
    m.motorStopped b v cur = (m.brStands b).brSettle b false := by
  simp [Mach.motorStopped, hslow]

/-! ## End stops and stall (R193) -/

/-- A bridge that is not homed and drives away from its closed end: a stall. -/
theorem Mach.brRecognise_stall {ms : Nat} {cur : Int} (hphase : (m.br b).phase = .drive) (hduty : m.brAbsDuty b ≠ 0)
    (hms : m.fld (pgBridge b) Bridge.STALL_T ≤ ms) (hcur : m.fld (pgBridge b) Bridge.ILIM ≤ 2 * cur.natAbs)
    (hclosing : m.closing b = false) (hhomed : m.flag (pgBridge b) Bridge.HOMED = false) :
    m.brRecognise b ms cur = ((m.raise (pgBridge b) 4).incSat (pgBridge b) Bridge.STALLS).brStop b := by
  simp [Mach.brRecognise, hphase, hduty, hms, hcur, hclosing, hhomed]

/-- A homing stop: the closed end is found, and POS starts from 0. -/
theorem Mach.brRecognise_homes {ms : Nat} {cur : Int} (hphase : (m.br b).phase = .drive) (hduty : m.brAbsDuty b ≠ 0)
    (hms : m.fld (pgBridge b) Bridge.STALL_T ≤ ms) (hcur : m.fld (pgBridge b) Bridge.ILIM ≤ 2 * cur.natAbs)
    (hclosing : m.closing b = true) (hhomed : m.flag (pgBridge b) Bridge.HOMED = false) :
    m.brRecognise b ms cur
      = ((((m.setBrPos b 0).setFlag (pgBridge b) Bridge.HOMED true).setFld (pgBridge b) Bridge.UNCERT 0).setFlag (pgBridge b)
          Bridge.AT_CLOSED true).brStop b := by
  simp [Mach.brRecognise, hphase, hduty, hms, hcur, hclosing, hhomed]

theorem Mach.brakeEnd_coasts {ms : Nat} {v cur : Int} (hphase : (m.br b).phase = .stopBrake) (hms : 100 ≤ ms) :
    m.brakeEnd b ms v cur = ((m.brCoast b).brTurning b (m.backEmf b v cur)).brSettle b false := by
  simp [Mach.brakeEnd, hphase, hms]

/-! ## Anti-pinch (R195, R196) -/

/-- The second of two exceeding windows in succession is a pinch; R195's check must hold in both (notes/assumptions/156.md). -/
theorem Mach.pinchCheck_pinches {cur : Int} (hread : m.setSFld (pgBridge b) Bridge.I_MOT cur = u) (hwatch : u.pinchWatch b = true)
    (hcheck : u.flag (pgBridge b) Bridge.PINCH_EN = true) (hover : u.pinchOver b cur = true) (hlast : (u.br b).exceeded = true) :
    m.pinchCheck b cur = (u.pinchSeen b cur).brPinch b := by
  simp [Mach.pinchCheck, hread, hwatch, hcheck, hover, hlast]

/-- A window that does not exceed is noted. -/
theorem Mach.pinchCheck_passes {cur : Int} (hread : m.setSFld (pgBridge b) Bridge.I_MOT cur = u) (hwatch : u.pinchWatch b = true)
    (hcheck : u.flag (pgBridge b) Bridge.PINCH_EN = true) (hover : u.pinchOver b cur = false) :
    m.pinchCheck b cur = u.pinchSeen b cur := by
  simp [Mach.pinchCheck, hread, hwatch, hcheck, hover]

/-- Without PINCH_EN a window counts for training alone. -/
theorem Mach.pinchCheck_unchecked {cur : Int} (hread : m.setSFld (pgBridge b) Bridge.I_MOT cur = u) (hwatch : u.pinchWatch b = true)
    (hcheck : u.flag (pgBridge b) Bridge.PINCH_EN = false) : m.pinchCheck b cur = u.pinchNote b cur := by
  simp [Mach.pinchCheck, hread, hwatch, hcheck]

theorem Mach.reverseStart_drives {ms : Nat} (hphase : (m.br b).phase = .pinchBrake)
    (hms : m.fld (pgBridge b) Bridge.DEAD_REV ≤ ms) :
    m.reverseStart b ms
      = (m.modBr b fun a => { a with phase := .pinchBack, duty := a.closeDuty * 32768 }).setFlag (pgBridge b) Bridge.BRAKING false := by
  simp [Mach.reverseStart, hphase, hms]

/-- A reversal that reaches PPOS + REV before a stop could be recognised. -/
theorem Mach.reversalEnd_reached {ms : Nat} {cur : Int} (hphase : (m.br b).phase = .pinchBack)
    (hpos : (m.br b).ppos + m.fld (pgBridge b) Bridge.REV ≤ m.brPos b) (hms : ms < m.fld (pgBridge b) Bridge.STALL_T) :
    m.reversalEnd b ms cur = (m.brBrake b .pinchHold).brStore b := by
  simp [Mach.reversalEnd, hphase, hpos, Nat.not_le.2 hms]

/-! ## Drive and current (R186 to R189) -/

theorem Mach.turnBrakeEnd_turns {ms : Nat} (hphase : (m.br b).phase = .turnBrake) (hms : m.fld (pgBridge b) Bridge.DEAD_REV ≤ ms) :
    m.turnBrakeEnd b ms = (m.modBr b fun a => { a with turned := true }).brMotion b := by
  simp [Mach.turnBrakeEnd, hphase, hms]

theorem Mach.brLimiting_limits {cur : Int} (hduty : (m.br b).duty ≠ 0) (hcur : m.brLimit b ≤ cur.natAbs) :
    m.brLimiting b cur = (m.setFlag (pgBridge b) Bridge.LIMITING true).modBr b fun a => { a with train := false } := by
  simp [Mach.brLimiting, hduty, hcur]

/-- Two seconds at the limit end the motion, a reversal among them (notes/assumptions/26.md), and the bridge then acts on its next APPLY
alone (notes/assumptions/159.md). -/
theorem Mach.brLimitLong_givesUp {ms : Nat} (hduty : (m.br b).duty ≠ 0) (hms : 2000 ≤ ms) :
    m.brLimitLong b ms = (m.raise (pgBridge b) 1).brGiveUp b := by
  simp [Mach.brLimitLong, hduty, hms]

theorem Mach.brOpenLoad_raises {cur : Int} {ms : Nat} (hphase : (m.br b).phase = .drive) (hduty : 32767 ≤ 4 * m.brAbsDuty b)
    (hcur : cur.natAbs < 50) (hms : 100 ≤ ms) : m.brOpenLoad b cur ms = (m.raise (pgBridge b) 8).brSettle b false := by
  simp [Mach.brOpenLoad, hphase, hduty, hcur, hms]

/-- A drive taken up towards higher counts brakes at TARGET − LEAD (notes/assumptions/164.md). -/
theorem Mach.targetReached_up (hmode : m.fld (pgBridge b) Bridge.MODE = 3) (hphase : (m.br b).phase = .drive)
    (haim : (m.br b).aimUp = true) (hpos : m.sfld (pgBridge b) Bridge.TARGET - m.fld (pgBridge b) Bridge.LEAD ≤ m.brPos b) :
    m.targetReached b = (((m.brBrake b .brake).brDone b).brStore b).brSettle b false := by
  simp only [Mach.targetReached, hmode, hphase, haim, hpos, if_true, decide_true, Bool.and_self]

/-- A drive taken up towards lower counts brakes at TARGET + LEAD (notes/assumptions/164.md). -/
theorem Mach.targetReached_down (hmode : m.fld (pgBridge b) Bridge.MODE = 3) (hphase : (m.br b).phase = .drive)
    (haim : (m.br b).aimUp = false) (hpos : m.brPos b ≤ m.sfld (pgBridge b) Bridge.TARGET + m.fld (pgBridge b) Bridge.LEAD) :
    m.targetReached b = (((m.brBrake b .brake).brDone b).brStore b).brSettle b false := by
  simp [Mach.targetReached, hmode, hphase, haim, hpos]

/-! ## Wipers (R198, R199) -/

theorem Mach.parkEdge_zeroes {rising : Bool} (hwiper : m.flag (pgBridge b) Bridge.WIPER = true)
    (hinput : m.fld (pgBridge b) Bridge.PARK_IN ≠ 0xFFFF) (hpol : m.flag (pgBridge b) Bridge.PARK_POL = rising) :
    m.parkEdge b rising
      = (m.setBrPos b 0).modBr b fun a => { a with parkEdge := true, lastCycNs := a.cycNs, cycNs := 0 } := by
  simp [Mach.parkEdge, hwiper, hinput, hpol]

/-- PARK: PARK_OFS ripples after the park input's edge the wiper brakes, and demand ends. -/
theorem Mach.parked_park (hphase : (m.br b).phase = .drive) (hmode : m.fld (pgBridge b) Bridge.MODE = 6)
    (hinput : m.fld (pgBridge b) Bridge.PARK_IN ≠ 0xFFFF) (hedge : (m.br b).parkEdge = true)
    (hpos : (m.fld (pgBridge b) Bridge.PARK_OFS : Int) ≤ m.brPos b) :
    m.parked b = ((((m.brBrake b .brake).setFlag (pgBridge b) Bridge.PARKED true).brStore b).brDone b).brSettle b false := by
  simp [Mach.parked, hphase, hmode, hinput, hedge, hpos]

/-- INTERVAL: the wiper parks as in PARK, and waits the pause computed at this park. -/
theorem Mach.parked_interval (hphase : (m.br b).phase = .drive) (hmode : m.fld (pgBridge b) Bridge.MODE = 5)
    (hinput : m.fld (pgBridge b) Bridge.PARK_IN ≠ 0xFFFF) (hedge : (m.br b).parkEdge = true)
    (hpos : (m.fld (pgBridge b) Bridge.PARK_OFS : Int) ≤ m.brPos b)
    (hstop : ((m.brBrake b .brake).setFlag (pgBridge b) Bridge.PARKED true).brStore b = u) :
    m.parked b = (u.setFld (pgBridge b) Bridge.INTERVAL (u.wipePause b)).setFlag (pgBridge b) Bridge.WAIT true := by
  simp [Mach.parked, hphase, hmode, hinput, hedge, hpos, hstop]

/-- Two cycles of ripples without a park position: the bridge gives up as at LIMIT_LONG (notes/assumptions/159.md). -/
theorem Mach.parkFail_givesUp {ns : Nat} (hphase : (m.br b).phase = .drive) (hmode : m.fld (pgBridge b) Bridge.MODE = 6)
    (hripples : 2 * m.fld (pgBridge b) Bridge.CYCLE ≤ (m.br b).parkRipples) :
    m.parkFail b ns = (m.raise (pgBridge b) 7).brGiveUp b := by
  simp [Mach.parkFail, hphase, hmode, hripples]

theorem Mach.intervalEnd_wipes {tenths : Nat} (hwait : m.flag (pgBridge b) Bridge.WAIT = true)
    (hpause : m.fld (pgBridge b) Bridge.INTERVAL ≤ tenths) (hactive : m.st (pgBridge b) = 2) (hhot : (m.br b).hot = false)
    (hdefer : (m.holdOn (pgBridge b)).defer = false) (hoff : (m.holdOn (pgBridge b)).off = false) :
    m.intervalEnd b tenths = m.brMotion b := by
  simp [Mach.intervalEnd, hwait, hpause, hactive, hhot, hdefer, hoff]

end

/-- A taken write of POS (R192). -/
theorem Mach.pageWrite_brPos {m : Mach} {src : Src} {b : Fin 8} {w : Word} (h : m.takes src (pgBridge b) 0x070 w = true) :
    m.pageWrite src (pgBridge b) 0x070 w = m.ran src (pgBridge b) 0x070 fun m => m.brPosWrite b w :=
  Mach.pageWrite_special (by decide) h fun m => by simp [Mach.special, clsOf_pgBridge, pgBridge_sub]

/-! ## The rows -/

theorem exec_ripple_row (s : State) (b : Fin 8) (ns : Nat) (v cur : Int) :
    exec (.ripple b ns v cur) s = onUnits (fun m => m.ripple b ns v cur) s := rfl
theorem exec_rippleInsert_row (s : State) (b : Fin 8) (ns : Nat) :
    exec (.rippleInsert b ns) s = onUnits (fun m => m.rippleInsert b ns) s := rfl
theorem exec_posWrite_row (s : State) (src : Src) (b : Fin 8) (v : Word) :
    exec (.posWrite src b v) s = onUnits (fun m => m.pageWrite src (pgBridge b) 0x070 v) s := rfl
theorem exec_stopRecognition_row (s : State) (b : Fin 8) (ms : Nat) (cur : Int) :
    exec (.stopRecognition b ms cur) s = onUnits (fun m => m.brRecognise b ms cur) s := rfl
theorem exec_pinchCheck_row (s : State) (b : Fin 8) (cur : Int) :
    exec (.pinchCheck b cur) s = onUnits (fun m => m.pinchCheck b cur) s := rfl
theorem exec_reverseDriveStart_row (s : State) (b : Fin 8) (ms : Nat) :
    exec (.reverseDriveStart b ms) s = onUnits (fun m => m.reverseStart b ms) s := rfl
theorem exec_reversalEnd_row (s : State) (b : Fin 8) (ms : Nat) (cur : Int) :
    exec (.reversalEnd b ms cur) s = onUnits (fun m => m.reversalEnd b ms cur) s := rfl
theorem exec_brakeEnd_row (s : State) (b : Fin 8) (ms : Nat) (v cur : Int) :
    exec (.brakeEnd b ms v cur) s = onUnits (fun m => m.brakeEnd b ms v cur) s := rfl
theorem exec_reverseBrakeEnd_row (s : State) (b : Fin 8) (ms : Nat) :
    exec (.reverseBrakeEnd b ms) s = onUnits (fun m => m.turnBrakeEnd b ms) s := rfl
theorem exec_limiting_row (s : State) (b : Fin 8) (cur : Int) :
    exec (.limiting b cur) s = onUnits (fun m => m.brLimiting b cur) s := rfl
theorem exec_limitLong_row (s : State) (b : Fin 8) (ms : Nat) :
    exec (.limitLong b ms) s = onUnits (fun m => m.brLimitLong b ms) s := rfl
theorem exec_openLoad_row (s : State) (b : Fin 8) (cur : Int) (ms : Nat) :
    exec (.openLoad b cur ms) s = onUnits (fun m => m.brOpenLoad b cur ms) s := rfl
theorem exec_positionTargetReached_row (s : State) (b : Fin 8) :
    exec (.positionTargetReached b) s = onUnits (fun m => m.targetReached b) s := rfl
theorem exec_parkInputEdge_row (s : State) (b : Fin 8) (rising : Bool) :
    exec (.parkInputEdge b rising) s = onUnits (fun m => m.parkEdge b rising) s := rfl
theorem exec_parked_row (s : State) (b : Fin 8) : exec (.parked b) s = onUnits (fun m => m.parked b) s := rfl
theorem exec_parkFail_row (s : State) (b : Fin 8) (ns : Nat) :
    exec (.parkFail b ns) s = onUnits (fun m => m.parkFail b ns) s := rfl
theorem exec_intervalWaitEnd_row (s : State) (b : Fin 8) (tenths : Nat) :
    exec (.intervalWaitEnd b tenths) s = onUnits (fun m => m.intervalEnd b tenths) s := rfl
theorem exec_motorStopped_row (s : State) (b : Fin 8) (v cur : Int) :
    exec (.motorStopped b v cur) s = onUnits (fun m => m.motorStopped b v cur) s := rfl

/-- Settles O8: one bullet for each clause, in the order of the statement. Choices of the model that clauses rest on: what an inserted ripple
counts in (notes/assumptions/155.md), the check of both pinch windows (notes/assumptions/156.md), what LIMIT_LONG and PARK_FAIL leave
(notes/assumptions/26.md and 159.md), and the side of TARGET and a ripple's own MOVING (notes/assumptions/164.md). -/
theorem bridgesComplete : Obligations.BridgesComplete := by
  refine ⟨?_, ?_, ?_, ?_, ?_, ?_, ?_, ?_, ?_, ?_, ?_, ?_, ?_, ?_, ?_, ?_, ?_, ?_, ?_, ?_, ?_, ?_, ?_, ?_, ?_⟩
  · intro s b ns v cur hm hstood
    rw [exec_ripple_row]
    exact onUnits_next hm (Mach.ripple_first hstood)
  · intro s b ns v cur hm hmoving hlate
    rw [exec_ripple_row]
    exact onUnits_next hm (Mach.ripple_accepted hmoving hlate)
  · intro s b ns v cur hm hmoving hearly
    rw [exec_ripple_row]
    exact onUnits_next hm (Mach.ripple_rejected hmoving hearly)
  · intro s b ns hm hmoving htau hlate
    rw [exec_rippleInsert_row]
    exact onUnits_next hm (Mach.rippleInsert_inserts hmoving htau hlate)
  · intro s src b v hm h
    rw [exec_posWrite_row]
    exact onUnits_next hm (Mach.pageWrite_brPos h)
  · intro s b ms cur hm hphase hduty hms hcur hclosing hhomed
    rw [exec_stopRecognition_row]
    exact onUnits_next hm (Mach.brRecognise_stall hphase hduty hms hcur hclosing hhomed)
  · intro s b ms cur hm hphase hduty hms hcur hclosing hhomed
    rw [exec_stopRecognition_row]
    exact onUnits_next hm (Mach.brRecognise_homes hphase hduty hms hcur hclosing hhomed)
  · intro s b cur hm hwatch hcheck hover hlast
    rw [exec_pinchCheck_row]
    exact onUnits_next hm (Mach.pinchCheck_pinches rfl hwatch hcheck hover hlast)
  · intro s b cur hm hwatch hcheck hover
    rw [exec_pinchCheck_row]
    exact onUnits_next hm (Mach.pinchCheck_passes rfl hwatch hcheck hover)
  · intro s b cur hm hwatch hcheck
    rw [exec_pinchCheck_row]
    exact onUnits_next hm (Mach.pinchCheck_unchecked rfl hwatch hcheck)
  · intro s b ms hm hphase hms
    rw [exec_reverseDriveStart_row]
    exact onUnits_next hm (Mach.reverseStart_drives hphase hms)
  · intro s b ms cur hm hphase hpos hms
    rw [exec_reversalEnd_row]
    exact onUnits_next hm (Mach.reversalEnd_reached hphase hpos hms)
  · intro s b ms v cur hm hphase hms
    rw [exec_brakeEnd_row]
    exact onUnits_next hm (Mach.brakeEnd_coasts hphase hms)
  · intro s b ms hm hphase hms
    rw [exec_reverseBrakeEnd_row]
    exact onUnits_next hm (Mach.turnBrakeEnd_turns hphase hms)
  · intro s b cur hm hduty hcur
    rw [exec_limiting_row]
    exact onUnits_next hm (Mach.brLimiting_limits hduty hcur)
  · intro s b ms hm hduty hms
    rw [exec_limitLong_row]
    exact onUnits_next hm (Mach.brLimitLong_givesUp hduty hms)
  · intro s b cur ms hm hphase hduty hcur hms
    rw [exec_openLoad_row]
    exact onUnits_next hm (Mach.brOpenLoad_raises hphase hduty hcur hms)
  · intro s b hm hmode hphase haim hpos
    rw [exec_positionTargetReached_row]
    exact onUnits_next hm (Mach.targetReached_up hmode hphase haim hpos)
  · intro s b hm hmode hphase haim hpos
    rw [exec_positionTargetReached_row]
    exact onUnits_next hm (Mach.targetReached_down hmode hphase haim hpos)
  · intro s b rising hm hwiper hinput hpol
    rw [exec_parkInputEdge_row]
    exact onUnits_next hm (Mach.parkEdge_zeroes hwiper hinput hpol)
  · intro s b hm hphase hmode hinput hedge hpos
    rw [exec_parked_row]
    exact onUnits_next hm (Mach.parked_park hphase hmode hinput hedge hpos)
  · intro s b hm hphase hmode hinput hedge hpos
    rw [exec_parked_row]
    exact onUnits_next hm (Mach.parked_interval hphase hmode hinput hedge hpos rfl)
  · intro s b ns hm hphase hmode hripples
    rw [exec_parkFail_row]
    exact onUnits_next hm (Mach.parkFail_givesUp hphase hmode hripples)
  · intro s b tenths hm hwait hpause hactive hhot hdefer hoff
    rw [exec_intervalWaitEnd_row]
    exact onUnits_next hm (Mach.intervalEnd_wipes hwait hpause hactive hhot hdefer hoff)
  · intro s b v cur hm hslow
    rw [exec_motorStopped_row]
    exact onUnits_next hm (Mach.motorStopped_stands hslow)

end Sys2Proof.Machine
end

section
/-! PROOFS. O9: the turns, Ease steps, limits, string faults, failed LEDs and period choice of a Ratline port, the checks of a linear
sink, and the writes of the JB4410 image whose condition holds (07_ratline_lighting.md R207 to R237). One lemma for each row's operation says
what it does then; where an operation stores a reading or a flag first, `u` is the machine with it in its register. -/

namespace Sys2Proof.Machine

/-! ## Turns and edges (R213, R216 to R218, R220) -/

/-- A turn with an Ease delivered: the Ease starts, from the level of the one that ran (R216, R220). -/
theorem Mach.turnStart_eases {m u : Mach} {p ticks : Nat} {t : RatTarget} (hopen : m.turnOpened p ticks = u)
    (hdue : (m.rat p).turnDue = true) (hhot : (m.rat p).hot = false) (hready : (m.rat p).ready = some t) (hfresh : t.fresh = true)
    (hdim : u.dimAvail p = true) (hrun : u.running (pgRat p) = true) :
    m.turnStart p ticks
      = (((((u.modRat p fun a => { a with ready := none }).easeEval p ticks).easeStart p t).turnRow p t.div).ratSettle p) := by
  simp [Mach.turnStart, Mach.turnEase, hopen, hdue, hhot, hready, hfresh, hdim, hrun]

section
variable {m : Mach} {p : Nat}

/-- A step within tolerance, short of the 256 in succession that clear FF_MISMATCH (R218). -/
theorem Mach.ffCheck_good {step : Nat} (htol : 100 * ((step : Int) - m.ffStep p).natAbs ≤ m.fld (pgRat p) Rat.FF_TOL * m.ffStep p)
    (hgood : (m.rat p).ffGood < 255) :
    m.ffCheck p step = m.modRat p fun a => { a with ffBad := 0, ffGood := min 256 (a.ffGood + 1) } := by
  have hcount : min 256 ((m.rat p).ffGood + 1) ≠ 256 := by omega
  simp only [Mach.ffCheck, Nat.not_lt.2 htol, hcount, decide_false, Bool.false_eq_true, if_false]
  rfl

/-- The edge that is due at `ns` (R213, R217): the rungs switch, the regulator's voltage steps, and the measured step is checked. -/
theorem Mach.rungEdge_due {ns step i : Nat} (hpattern : (m.rat p).pattern ≠ 0)
    (hnext : nextEdge (m.rat p).turnTicks (m.rat p).pattern (m.fld (pgRat p) Rat.DIV_NOW) (m.rat p).edge (m.rat p).lit = some i)
    (hdue : 625 * rungTick (m.rat p).turnTicks (m.rat p).pattern (m.fld (pgRat p) Rat.DIV_NOW) i
      ≤ 10 * ns + 100 * m.fld (pgRat p) Rat.LEAD) :
    m.rungEdge p ns step
      = (m.modRat p fun a =>
          { a with edge := i + 1, lit := i % 2 == 0
                   ffV := if i % 2 == 0 then a.ffV + m.ffStep p else a.ffV - m.ffStep p }).ffCheck p step := by
  simp only [Mach.rungEdge, hpattern, hnext, hdue, if_false, if_true]

/-! ## Ease steps without rung dimming (R220, R221) -/

section
variable {u : Mach} (heval : m.easeEval p 16000 = u) (hdim : m.dimAvail p = false) (hrun : m.running (pgRat p) = true)
  (hhot : (m.rat p).hot = false)
include heval hdim hrun hhot

theorem Mach.easeStep_continues (hpending : (u.rat p).pending = none) : m.easeStep p = u.ratSettle p := by
  simp [Mach.easeStep, heval, hdim, hrun, hhot, hpending]

/-- An APPLY since the last step starts its Ease from the level then in force. -/
theorem Mach.easeStep_starts {t : RatTarget} (hpending : (u.rat p).pending = some t) :
    m.easeStep p = ((u.modRat p RatAux.forget).easeStart p t).ratSettle p := by
  simp [Mach.easeStep, heval, hdim, hrun, hhot, hpending]

end

/-! ## Limits, string faults and the junction (R207 to R209, R230) -/

/-- P_LIMIT begins to act alone: the current is lowered to what PMAX allows at the lowered voltage (R207). -/
theorem Mach.ratLimits_power {u : Mach} {v cur vLow curLow low : Nat}
    (hflags : (m.setFlag (pgRat p) Rat.P_LIMIT true).setFlag (pgRat p) Rat.V_LIMIT false = u)
    (hlow : min curLow (u.fld (pgRat p) Rat.PMAX * 10000 / max 1 vLow) = low)
    (hon : m.flag (pgRat p) Rat.REGULATING = true) (hpower : m.fld (pgRat p) Rat.PMAX * 10000 < v * cur)
    (hvolt : v ≤ m.fld (pgRat p) Rat.VMAX * 10) (hnew : m.flag (pgRat p) Rat.P_LIMIT = false) :
    m.ratLimits p v cur vLow curLow
      = (((u.modRat p fun a => { a with cap := some low }).ratMeasure p vLow low).ratRaise p (2 ^ 3)) := by
  simp [Mach.ratLimits, hon, hpower, Nat.not_lt.2 hvolt, hnew, hflags, hlow]

theorem Mach.openString_raises {u : Mach} {v cur ms : Nat} (hread : m.ratMeasure p v cur = u)
    (hon : u.flag (pgRat p) Rat.REGULATING = true) (hvolt : u.fld (pgRat p) Rat.VMAX * 10 ≤ v) (hcur : 2 * cur < u.ratSetpoint p)
    (hms : 2 ≤ ms) : m.openString p v cur ms = u.ratRaise p (2 ^ 0) := by
  simp [Mach.openString, hread, hon, hvolt, hcur, hms]

theorem Mach.shortString_raises {u : Mach} {v cur ms : Nat} (hread : m.ratMeasure p v cur = u)
    (hon : u.flag (pgRat p) Rat.REGULATING = true) (hexpect : 600 ≤ u.fld (pgRat p) Rat.V_EXP)
    (hvolt : 4 * v < u.fld (pgRat p) Rat.V_EXP) (hms : 1 ≤ ms) : m.shortString p v cur ms = u.ratRaise p (2 ^ 1) := by
  simp [Mach.shortString, hread, hon, hexpect, hvolt, hms]

/-- A port that a hot junction turned off resumes below 150 °C (R209). -/
theorem Mach.ratResume_resumes {u : Mach} {n : Nat} {tj : Int} (hpage : pgRat p = n) (hread : m.setSFld n Rat.TJ tj = u)
    (hhot : (u.rat p).hot = true) (hcool : tj < 1500) :
    m.ratResume p tj = (u.modRat p fun a => { a with hot := false }).ratSettle p := by
  simp [Mach.ratResume, hpage, hread, hhot, hcool]

theorem Mach.regFault_raises {u : Mach} {n cur ms : Nat} (hpage : pgRat p = n) (hread : m.setSat n Rat.I_STR cur = u)
    (hon : u.flag n Rat.REGULATING = true) (hpower : u.flag n Rat.P_LIMIT = false) (hvolt : u.flag n Rat.V_LIMIT = false)
    (hoff : m.ratSetpoint p < 5 * ((cur : Int) - m.ratSetpoint p).natAbs)
    (hms : 10 ≤ ms) : m.regFault p cur ms = u.ratRaise p (2 ^ 11) := by
  simp [Mach.regFault, hpage, hread, hon, hpower, hvolt, hoff, hms]

/-! ## Failed LEDs (R222 to R224) -/

/-- The node closes an open rung whose clamp acts (R222). -/
theorem Mach.ledClamp_closes {r v cur : Nat} (hopen : m.rungClosed p r = false) :
    m.ledClamp p r v cur = (m.modRat p fun a => { a with clamped := insertUp r a.clamped }).ratMeasure p v cur := by
  simp [Mach.ledClamp, hopen]

section
variable {r sec : Nat} {again : Bool} (hclamped : (m.rat p).clamped.contains r = true) (hr : r < 256)
  (hfrozen : m.isFrozen (pgRat p) = false)
include hclamped hr hfrozen

/-- RETEST_T after its clamp the rung is queued to be opened once (R223). -/
theorem Mach.rungRetest_queues (hstage : tget (m.rat p).retests 0 r = 0) (hdue : m.fld (pgRat p) Rat.RETEST_T ≤ sec) :
    m.rungRetest p r sec again = (m.modRat p fun a => { a with retests := tput a.retests 0 r 1 }).pushRetest p r := by
  simp [Mach.rungRetest, -List.contains_eq_mem, hclamped, hr, hstage, hdue, hfrozen]

/-- A rung that its clamp closes again while it is open on trial is bypassed for good (R223). -/
theorem Mach.rungRetest_bypasses (hstage : tget (m.rat p).retests 0 r = 4) (hagain : again = true) :
    m.rungRetest p r sec again = m.bypassSet p r := by
  simp [Mach.rungRetest, -List.contains_eq_mem, hclamped, hr, hstage, hagain, hfrozen]

end

/-! ## Rung dimming lost (R212) -/

/-- CHAIN_READY falls while the level in force needs the rungs: the nodes are told, DIM_LOST sets, and the port dims analogue. -/
theorem Mach.dimLost_raises {u : Mach} (hu : m.setFlag (pgRat p) Rat.CHAIN_READY false = u)
    (hchain : m.heaveRun (chainOf p) (m.fld (pgRat p) Hdr.BASE_CAP) = false) (hhad : (m.rat p).hadDim = true)
    (hlevel : u.fld (pgRat p) Rat.LEVEL_NOW < 65536) (hdim : u.dimAvail p = false)
    (hready : u.flag (pgRat p) Rat.CHAIN_READY = false) :
    m.dimLost p
      = ((((u.nodesOf (chainOf p) p).foldl (fun m k => m.pushMode (chainOf p) k p) (u.modRat p fun a => { a with hadDim := false })).setFlag
          (pgRat p) Rat.DIM_LOST true).raise (pgRat p) 8).ratCarry p := by
  have hrat : u.rat p = m.rat p := by rw [← hu]; rfl
  simp [Mach.dimLost, Mach.ratSettle, Mach.dimFollow, hchain, hu, hdim, hrat, hhad, hready, hlevel]

end

/-- The page of a Ratline port is that of its index. -/
theorem pgRat_of_cls {n : Nat} (h : clsOf n = .rat) : pgRat (n - 0xC0) = n := by
  have hlow : ¬ n < 0xC0 := by
    intro hn
    exact absurd h ((by decide +kernel : ∀ n < 0xC0, clsOf n ≠ .rat) n hn)
  simp only [pgRat]
  omega

theorem Mach.regulatorResume_rat {m : Mach} {n : Nat} {tj : Int} (h : clsOf n = .rat) :
    m.regulatorResume n tj = m.ratResume (n - 0xC0) tj := by
  simp [Mach.regulatorResume, h]

theorem Mach.regFaultOf_rat {m : Mach} {n cur ms : Nat} (h : clsOf n = .rat) :
    m.regFaultOf n cur ms = m.regFault (n - 0xC0) cur ms := by
  simp [Mach.regFaultOf, h]

/-! ## The choice of DIV (R219) -/


/-- The first choice for an output, at its base `k`: DIV is written through the shadow, and the choice drives the unit. -/
theorem Mach.divChoice_outFirst {m : Mach} {n k rate scale fmin fmax d : Nat} {no : Bool} (hbase : m.fld n Hdr.BASE_CAP = k)
    (hrate : m.fld (pgCap k) Cap.RATE = rate) (hscale : (m.reg (pgCap k) Cap.SCALE.off).toNat = scale)
    (hbounds : m.divBounds n = (fmin, fmax)) (hchoice : chooseDiv (m.capType k == 4) scale rate fmin fmax = (d, no))
    (hhanded : m.divHanded n = true) (hturns : rate ≠ 0) (hfirst : tget m.policy.chosen none n = none)
    (hfrozen : m.isFrozen n = false) (hcls : clsOf n = .out) :
    m.divChoice n
      = ((((({ m with policy := { m.policy with chosen := tput m.policy.chosen none n (some [rate, scale, fmin, fmax]) } } : Mach).setShFld
          n (divFld n) d).setFld n (divFld n) d).adapt 8 n 0 (m.fld n (divFld n)) d).settleUnit n) := by
  simp [Mach.divChoice, hbase, hrate, hscale, hbounds, hchoice, hhanded, hturns, hfirst, hfrozen, hcls]

/-! ## Sinks (R232, R234) -/

section
variable {m u : Mach} {k : Nat}

theorem Mach.sinkOpen_raises {v us : Nat} (hread : m.sinkPin k v = u) (hon : u.flag (pgSink k) Sink.SINKING = true) (hlow : v < 25)
    (hus : 1000 ≤ us) : m.sinkOpen k v us = (u.raise (pgSink k) 0).sinkSettle k := by
  simp [Mach.sinkOpen, hread, hon, hlow, hus]

theorem Mach.sinkHigh_raises {v ms : Nat} (hread : m.sinkPin k v = u) (hon : u.flag (pgSink k) Sink.SINKING = true)
    (hhigh : u.fld (pgSink k) Sink.VHIGH < v) (hms : 10 ≤ ms) : m.sinkHigh k v ms = (u.raise (pgSink k) 1).sinkSettle k := by
  simp [Mach.sinkHigh, hread, hon, hhigh, hms]

/-- A sink whose set current would dissipate more than 0.6 W carries on at the pin voltage read, folded back (R232). -/
theorem Mach.foldback_folds {v : Nat} (hfolded : (m.setFlag (pgSink k) Sink.FOLDBACK true).setSat (pgSink k) Sink.V_PIN v = u)
    (hwas : m.flag (pgSink k) Sink.SINKING = true)
    (hpower : 6000000 < v * sinkCurrent (m.fld pgCompat Compat.GLOBAL) (m.sink k).cur) :
    m.foldback k v = ((u.sinkCarry k (m.sink k).cur true).raise (pgSink k) 2).sinkPin k v := by
  simp [Mach.foldback, hwas, hpower, hfolded]

end

/-! ## Writes of BYPASS and of the JB4410 image (R225, R237) -/

/-- A taken write of a BYPASS word releases the rungs written 1. -/
theorem Mach.pageWrite_bypass {m : Mach} {src : Src} {p : Fin 24} {ix : Fin 8} {w : Word}
    (h : m.takes src (pgRat p) (0x100 + 4 * ix) w = true) :
    m.pageWrite src (pgRat p) (0x100 + 4 * ix) w = m.ran src (pgRat p) (0x100 + 4 * ix) fun m => m.bypassRelease p ix w :=
  Mach.pageWrite_special (by omega) h fun m => by
    have hcls := clsOf_pgRat p
    have hsub := pgRat_sub p
    fin_cases ix <;> simp [Mach.special, hcls, hsub]

theorem clsOf_pgCompat : clsOf pgCompat = .compat := by decide

/-- A taken write of an image register sets it to the low byte. -/
theorem Mach.pageWrite_image {m : Mach} {src : Src} {a : Fin 48} {w : Word} (h : m.takes src pgCompat (0x100 + 4 * a) w = true) :
    m.pageWrite src pgCompat (0x100 + 4 * a) w = m.ran src pgCompat (0x100 + 4 * a) fun m => m.imageSet a (w.toNat % 256) :=
  Mach.pageWrite_special (by omega) h fun m => by
    have := a.isLt
    simp [Mach.special, clsOf_pgCompat, show 0x100 + 4 * a.val < 0x1C0 by omega]

/-! ## The rows -/

theorem exec_rungTurnStart_row (s : State) (p : Fin 24) (ticks : Nat) :
    exec (.rungTurnStart p ticks) s = onRun (onUnits fun m => m.turnStart p ticks) s := rfl
theorem exec_rungEdge_row (s : State) (p : Fin 24) (ns step : Nat) :
    exec (.rungEdge p ns step) s = onUnits (fun m => m.rungEdge p ns step) s := rfl
theorem exec_easeStep_row (s : State) (p : Fin 24) : exec (.easeStep p) s = onRun (onUnits fun m => m.easeStep p) s := rfl
theorem exec_pLimit_row (s : State) (p : Fin 24) (v cur vLow curLow : Nat) :
    exec (.pLimit p v cur vLow curLow) s = onUnits (fun m => m.ratLimits p v cur vLow curLow) s := rfl
theorem exec_openString_row (s : State) (p : Fin 24) (v cur ms : Nat) :
    exec (.openString p v cur ms) s = onUnits (fun m => m.openString p v cur ms) s := rfl
theorem exec_shortString_row (s : State) (p : Fin 24) (v cur ms : Nat) :
    exec (.shortString p v cur ms) s = onUnits (fun m => m.shortString p v cur ms) s := rfl
theorem exec_regulatorResume_row (s : State) (n : Fin 32768) (tj : Int) :
    exec (.regulatorResume n tj) s = onUnits (fun m => m.regulatorResume n tj) s := rfl
theorem exec_regFault_row (s : State) (n : Fin 32768) (cur ms : Nat) :
    exec (.regFault n cur ms) s = onUnits (fun m => m.regFaultOf n cur ms) s := rfl
theorem exec_ledClamp_row (s : State) (p : Fin 24) (r : Fin 256) (v cur : Nat) :
    exec (.ledClamp p r v cur) s = onUnits (fun m => m.ledClamp p r v cur) s := rfl
theorem exec_rungRetest_row (s : State) (p : Fin 24) (r : Fin 256) (sec : Nat) (again : Bool) :
    exec (.rungRetest p r sec again) s = onRun (onUnits fun m => m.rungRetest p r sec again) s := rfl
theorem exec_bypassRelease_row (s : State) (src : Src) (p : Fin 24) (ix : Fin 8) (v : Word) :
    exec (.bypassRelease src p ix v) s = onUnits (fun m => m.pageWrite src (pgRat p) (0x100 + 4 * ix) v) s := rfl
theorem exec_divChoice_row (s : State) (n : Fin 32768) : exec (.divChoice n) s = onUnits (fun m => m.divChoice n) s := rfl
theorem exec_dimLost_row (s : State) (p : Fin 24) : exec (.dimLost p) s = onUnits (fun m => m.dimLost p) s := rfl
theorem exec_sinkOpen_row (s : State) (k : Fin 16) (v us : Nat) :
    exec (.sinkOpen k v us) s = onUnits (fun m => m.sinkOpen k v us) s := rfl
theorem exec_highV_row (s : State) (k : Fin 16) (v ms : Nat) :
    exec (.highV k v ms) s = onUnits (fun m => m.sinkHigh k v ms) s := rfl
theorem exec_foldback_row (s : State) (k : Fin 16) (v : Nat) : exec (.foldback k v) s = onUnits (fun m => m.foldback k v) s := rfl
theorem exec_jb4410ImageWrite_row (s : State) (src : Src) (a : Fin 48) (v : Word) :
    exec (.jb4410ImageWrite src a v) s = onUnits (fun m => m.pageWrite src pgCompat (0x100 + 4 * a) v) s := rfl
theorem exec_latch_row (s : State) (src : Src) (v : Word) :
    exec (.latch src v) s = onUnits (fun m => m.pageWrite src pgCompat (0x100 + 4 * (42 : Fin 48)) v) s := rfl
theorem exec_modeWrite_row (s : State) (src : Src) (v : Word) :
    exec (.modeWrite src v) s = onUnits (fun m => m.pageWrite src pgCompat (0x100 + 4 * (0 : Fin 48)) v) s := rfl

/-- Settles O9: one bullet for each clause, in the order of the statement. Choices of the model that clauses rest on: the edges of a period
lit throughout and of a turn's start (notes/assumptions/166.md), when CHAIN_READY clears (notes/assumptions/170.md), the current of a folded
sink (notes/assumptions/173.md), and the ends of the choice of DIV (notes/assumptions/32.md). -/
theorem lightingComplete : Obligations.LightingComplete := by
  refine ⟨?_, ?_, ?_, ?_, ?_, ?_, ?_, ?_, ?_, ?_, ?_, ?_, ?_, ?_, ?_, ?_, ?_, ?_, ?_, ?_, ?_⟩
  · intro s p ticks t hm hentering hdue hhot hready hfresh hdim hrun
    rw [exec_rungTurnStart_row, onRun_row hentering]
    exact onUnits_next hm (Mach.turnStart_eases rfl hdue hhot hready hfresh hdim hrun)
  · intro s p ns step i hm hpattern hnext hdue htol hgood
    rw [exec_rungEdge_row]
    exact onUnits_next hm ((Mach.rungEdge_due hpattern hnext hdue).trans
      (Mach.ffCheck_good htol (by rwa [Mach.rat_modRat_self])))
  · intro s p hm hentering hdim hrun hhot hpending
    rw [exec_easeStep_row, onRun_row hentering]
    exact onUnits_next hm (Mach.easeStep_continues rfl hdim hrun hhot hpending)
  · intro s p t hm hentering hdim hrun hhot hpending
    rw [exec_easeStep_row, onRun_row hentering]
    exact onUnits_next hm (Mach.easeStep_starts rfl hdim hrun hhot hpending)
  · intro s p v cur vLow curLow hm hon hpower hvolt hnew
    rw [exec_pLimit_row]
    exact onUnits_next hm (Mach.ratLimits_power rfl rfl hon hpower hvolt hnew)
  · intro s p v cur ms hm hon hvolt hcur hms
    rw [exec_openString_row]
    exact onUnits_next hm (Mach.openString_raises rfl hon hvolt hcur hms)
  · intro s p v cur ms hm hon hexpect hvolt hms
    rw [exec_shortString_row]
    exact onUnits_next hm (Mach.shortString_raises rfl hon hexpect hvolt hms)
  · intro s n tj hm hcls hhot hcool
    rw [exec_regulatorResume_row]
    exact onUnits_next hm ((Mach.regulatorResume_rat hcls).trans (Mach.ratResume_resumes (pgRat_of_cls hcls) rfl hhot hcool))
  · intro s n cur ms hm hcls hon hpower hvolt hoff hms
    rw [exec_regFault_row]
    exact onUnits_next hm ((Mach.regFaultOf_rat hcls).trans
      (Mach.regFault_raises (pgRat_of_cls hcls) rfl hon hpower hvolt hoff hms))
  · intro s p r v cur hm hopen
    rw [exec_ledClamp_row]
    exact onUnits_next hm (Mach.ledClamp_closes hopen)
  · intro s p r sec again hm hentering hclamped hstage hdue hfrozen
    rw [exec_rungRetest_row, onRun_row hentering]
    exact onUnits_next hm (Mach.rungRetest_queues hclamped r.isLt hfrozen hstage hdue)
  · intro s p r sec again hm hentering hclamped hstage hagain hfrozen
    rw [exec_rungRetest_row, onRun_row hentering]
    exact onUnits_next hm (Mach.rungRetest_bypasses hclamped r.isLt hfrozen hstage hagain)
  · intro s src p ix v hm h
    rw [exec_bypassRelease_row]
    exact onUnits_next hm (Mach.pageWrite_bypass h)
  · intro s n hm hhanded hturns hfirst hfrozen hcls
    rw [exec_divChoice_row]
    exact onUnits_next hm (Mach.divChoice_outFirst rfl rfl rfl rfl rfl hhanded hturns hfirst hfrozen hcls)
  · intro s p hm hchain hhad hlevel hdim hready
    rw [exec_dimLost_row]
    exact onUnits_next hm (Mach.dimLost_raises rfl hchain hhad hlevel hdim hready)
  · intro s k v us hm hon hlow hus
    rw [exec_sinkOpen_row]
    exact onUnits_next hm (Mach.sinkOpen_raises rfl hon hlow hus)
  · intro s k v ms hm hon hhigh hms
    rw [exec_highV_row]
    exact onUnits_next hm (Mach.sinkHigh_raises rfl hon hhigh hms)
  · intro s k v hm hwas hpower _
    rw [exec_foldback_row]
    exact onUnits_next hm (Mach.foldback_folds rfl hwas hpower)
  · intro s src a v hm h
    rw [exec_jb4410ImageWrite_row]
    exact onUnits_next hm (Mach.pageWrite_image h)
  · intro s src v hm h
    rw [exec_latch_row]
    exact onUnits_next hm (Mach.pageWrite_image (a := 42) h)
  · intro s src v hm h
    rw [exec_modeWrite_row]
    exact onUnits_next hm (Mach.pageWrite_image (a := 0) h)

end Sys2Proof.Machine
end

section
/-! PROOFS. O32: the frames, echoes, joining nodes, enumeration operations and timed checks of a Messenger chain whose condition holds
(08_messenger_line.md R244 to R260). One lemma for each row's operation says what it does then. -/

namespace Sys2Proof.Machine

section
variable {m : Mach} {c : Nat}

/-! ## Frames and Heaves (R244, R248, R259) -/

theorem Mach.messengerFrame_sends (hdue : (m.chain c).due = true) : m.messengerFrame c = m.sendFrame c := if_pos hdue

theorem Mach.refreshFrame_sends {ms : Nat} (hms : m.fld (pgMsg c) Msg.REFRESH ≤ ms) : m.refreshFrame c ms = m.sendFrame c := if_pos hms

/-- A Heave for SYNC nodes is of no Mark. -/
theorem Mach.syncHeave_heaves (hshare : (m.chain c).syncShare = true) (hmark : m.anyHeaveMark c = false) :
    m.syncHeave c = (m.modChain c fun a => { a with syncShare := false }).heave c none := by
  simp [Mach.syncHeave, hshare, hmark]

/-! ## Echoes (R256) -/

section
variable {tag hop : Nat} {replies : List NodeReply} (hreturn : m.flag (pgMsg c) Msg.RETURN = true) (hon : m.chainOn c = true)
include hreturn hon

/-- The echo of a Heave delivers the Mark that awaited it. -/
theorem Mach.echo_ofHeave {e : Nat} (hawaits : (m.chain c).awaiting = some e) :
    m.echo c true tag hop replies = (m.modChain c fun a => { a with awaiting := none }).heaveDone c e := by
  simp [Mach.echo, hreturn, hon, hawaits]

variable (hframe : (m.chain c).inFrame = true)
include hframe

/-- The echo of the frame in progress with its TAG, the whole awake set's HOP and every reply's CRC right. -/
theorem Mach.echo_good (htag : tag = (m.chain c).tag) (hhop : hop = (m.chain c).awake.length)
    (hcrc : (replies.all fun r => m.replyOk c r) = true) :
    m.echo c false tag hop replies
      = ((replies.foldl (fun (m : Mach) r => m.reply c r) ((m.setFld (pgMsg c) Msg.LAST_HOP hop).setFlag (pgMsg c) Msg.ECHO_OK true)).missReplies
          c (replies.filterMap fun r => (m.chain c).awake[r.h]?)).frameEnd c := by
  have hall : (replies.filter fun r => m.replyOk c r) = replies := List.filter_eq_self.2 (List.all_eq_true.1 hcrc)
  simp [Mach.echo, hreturn, hon, hframe, htag, hhop, hall]

/-- An echo with the TAG, the HOP or a reply's CRC wrong: the replies that pass are taken all the same. -/
theorem Mach.echo_bad
    (hbad : tag ≠ (m.chain c).tag ∨ hop ≠ (m.chain c).awake.length ∨ ¬ (replies.all fun r => m.replyOk c r) = true) :
    m.echo c false tag hop replies
      = (((replies.filter fun r => m.replyOk c r).foldl (fun (m : Mach) r => m.reply c r)
            ((((m.setFld (pgMsg c) Msg.LAST_HOP hop).setFlag (pgMsg c) Msg.ECHO_OK false).incSat (pgMsg c) Msg.ECHO_ERRS).msgRaise
              c 2)).missReplies c ((replies.filter fun r => m.replyOk c r).filterMap fun r => (m.chain c).awake[r.h]?)).frameEnd c := by
  have hok : (tag == (m.chain c).tag && hop == (m.chain c).awake.length
      && (replies.filter fun r => m.replyOk c r).length == replies.length) = false := by
    rw [← Bool.not_eq_true]
    simp only [Bool.and_eq_true, beq_iff_eq, List.length_filter_eq_length_iff, not_and_or]
    rw [List.all_eq_true] at hbad
    exact or_assoc.2 hbad
  simp [Mach.echo, hreturn, hon, hframe, hok]

/-- The trailer has not begun in time, or contact 14 is low for 4 µs. -/
theorem Mach.noEcho_ends {begun : Bool} {ns lowNs : Nat}
    (hlate : (begun = false ∧ 20000 + 250 * (m.chain c).awake.length < ns) ∨ 4000 ≤ lowNs) :
    m.noEcho c begun ns lowNs
      = (((((m.setFlag (pgMsg c) Msg.ECHO_OK false).msgRaise c 1).missReplies c []).modChain c fun a =>
          { a with runs := [], awaiting := none }).chainReady c).frameEnd c := by
  have hcond : ((!begun && decide (20000 + 250 * (m.chain c).awake.length < ns)) || decide (4000 ≤ lowNs)) = true := by simpa using hlate
  simp only [Mach.noEcho, hreturn, hon, hframe, hcond, Bool.not_true, Bool.or_self, Bool.false_eq_true, if_false]

end

/-! ## Nodes that come and go (R251, R252) -/

theorem Mach.nodeInsertion_joins {p ms : Nat} (hreg : m.flag (pgRat p) Rat.REGULATING = true) (hms : 5 ≤ ms)
    (hnew : ((m.nodesOf (chainOf p) p).filter fun k =>
      !(m.chain (chainOf p)).awake.contains k && !(m.chain (chainOf p)).joinSent.contains k) ≠ []) :
    m.nodeInsertion p ms
      = m.modChain (chainOf p) fun a => { a with
          joining := ((m.nodesOf (chainOf p) p).filter fun k => !a.awake.contains k && !a.joinSent.contains k).foldr insertUp a.joining,
          due := true } := by
  unfold Mach.nodeInsertion
  rw [if_pos (by simp [hreg, hms]), if_neg (by rwa [List.isEmpty_iff])]
  rfl

theorem Mach.nodeRemoval_leaves {p : Nat} (hoff : m.flag (pgRat p) Rat.REGULATING = false) :
    m.nodeRemoval p
      = (m.modChain (chainOf p) fun a => { a with joining := a.joining.filter fun k => !(m.nodesOf (chainOf p) p).contains k }).setAwake
          (chainOf p) ((m.chain (chainOf p)).awake.filter fun k => !(m.nodesOf (chainOf p) p).contains k) :=
  if_neg (by simp [hoff])

/-! ## Enumeration (R253 to R255, R258, R259) -/

section
variable {u : Mach} {nodes : List NodeFound} {heard : List (List Nat)} {falls : List Nat}
  (hidle : ((m.setFlag (pgMsg c) Msg.ENUM_BUSY false).modChain c fun a => { a with op := 0 }) = u)
  (hbusy : m.flag (pgMsg c) Msg.ENUM_BUSY = true)
include hidle hbusy

theorem Mach.enumComplete_discover (hrunning : (m.chain c).op = 1) : m.enumComplete c nodes heard falls = u.discovered c nodes := by
  simp [Mach.enumComplete, hbusy, hrunning, hidle]

theorem Mach.enumComplete_map (hrunning : (m.chain c).op = 2) (hruns : m.mapRuns c = true) :
    m.enumComplete c nodes heard falls = u.mapped c heard := by
  simp [Mach.enumComplete, hbusy, hrunning, hruns, hidle]

theorem Mach.enumComplete_accept (hrunning : (m.chain c).op = 3) (hruns : m.mapRuns c = true) :
    m.enumComplete c nodes heard falls = u.accepted c heard := by
  simp [Mach.enumComplete, hbusy, hrunning, hruns, hidle]

theorem Mach.enumComplete_locate (hrunning : (m.chain c).op = 4) : m.enumComplete c nodes heard falls = u.located c falls := by
  simp [Mach.enumComplete, hbusy, hrunning, hidle]

end

/-! ## Timed checks (R259) -/

theorem Mach.lineShort_raises {ms : Nat} (hms : 1 ≤ ms) (hon : m.chainOn c = true) : m.lineShort c ms = m.msgRaise c 16 :=
  if_pos (by simp [hms, hon])

theorem Mach.poll_asks {k ms : Nat} (hms : m.fld (pgMsg c) Msg.POLL_T ≤ ms) (hawake : (m.chain c).awake.contains k = true) :
    m.poll c k ms = m.modChain c fun a => { a with ask := insertUp k a.ask, due := true } :=
  if_pos (by simpa [hms] using hawake)

end

/-! ## Writes of ENUM and of a satellite's SYNC (R259, R260) -/

/-- A taken write of ENUM asks for the operation in its low bits. -/
theorem Mach.pageWrite_enum {m : Mach} {src : Src} {c : Fin 4} {w : Word} {op : Nat} (hcode : w.toNat % 8 = op) (hne : op ≠ 0)
    (h : m.takes src (pgMsg c) 0x048 w = true) :
    m.pageWrite src (pgMsg c) 0x048 w = m.ran src (pgMsg c) 0x048 fun m => m.enumOp c op :=
  Mach.pageWrite_special (by decide) h fun m => by simp [Mach.special, clsOf_pgMsg, pgMsg_sub, hcode, hne]

theorem Mach.pageWrite_satSync {m : Mach} {src : Src} {c : Fin 4} {k : Fin 1024} {w : Word} (h : m.takes src (pgSat c k) 0x04C w = true) :
    m.pageWrite src (pgSat c k) 0x04C w
      = m.ran src (pgSat c k) 0x04C fun m => (m.store (pgSat c k) 0x04C w).satSync c k (w.toNat % 2) :=
  Mach.pageWrite_special (by decide) h fun m => by simp [Mach.special, clsOf_pgSat, pgSat_chain, pgSat_node]

/-! ## The rows -/

theorem exec_messengerFrame_row (s : State) (c : Fin 4) :
    exec (.messengerFrame c) s = onRun (onUnits fun m => m.messengerFrame c) s := rfl
theorem exec_refresh_row (s : State) (c : Fin 4) (ms : Nat) :
    exec (.refresh c ms) s = onRun (onUnits fun m => m.refreshFrame c ms) s := rfl
theorem exec_syncHeave_row (s : State) (c : Fin 4) : exec (.syncHeave c) s = onRun (onUnits fun m => m.syncHeave c) s := rfl
theorem exec_echo_row (s : State) (c : Fin 4) (ofHeave : Bool) (tag hop : Nat) (replies : List NodeReply) :
    exec (.echo c ofHeave tag hop replies) s = onUnits (fun m => m.echo c ofHeave tag hop replies) s := rfl
theorem exec_noEcho_row (s : State) (c : Fin 4) (begun : Bool) (ns lowNs : Nat) :
    exec (.noEcho c begun ns lowNs) s = onUnits (fun m => m.noEcho c begun ns lowNs) s := rfl
theorem exec_nodeInsertion_row (s : State) (p : Fin 24) (ms : Nat) :
    exec (.nodeInsertion p ms) s = onUnits (fun m => m.nodeInsertion p ms) s := rfl
theorem exec_nodeRemoval_row (s : State) (p : Fin 24) : exec (.nodeRemoval p) s = onUnits (fun m => m.nodeRemoval p) s := rfl
theorem exec_discover_row (s : State) (src : Src) (c : Fin 4) :
    exec (.discover src c) s = onUnits (fun m => m.pageWrite src (pgMsg c) 0x048 1) s := rfl
theorem exec_mapChain_row (s : State) (src : Src) (c : Fin 4) :
    exec (.mapChain src c) s = onUnits (fun m => m.pageWrite src (pgMsg c) 0x048 2) s := rfl
theorem exec_accept_row (s : State) (src : Src) (c : Fin 4) :
    exec (.accept src c) s = onUnits (fun m => m.pageWrite src (pgMsg c) 0x048 3) s := rfl
theorem exec_locate_row (s : State) (src : Src) (c : Fin 4) :
    exec (.locate src c) s = onUnits (fun m => m.pageWrite src (pgMsg c) 0x048 4) s := rfl
theorem exec_enumComplete_row (s : State) (c : Fin 4) (nodes : List NodeFound) (heard : List (List Nat)) (falls : List Nat) :
    exec (.enumComplete c nodes heard falls) s = onUnits (fun m => m.enumComplete c nodes heard falls) s := rfl
theorem exec_lineShort_row (s : State) (c : Fin 4) (ms : Nat) :
    exec (.lineShort c ms) s = onUnits (fun m => m.lineShort c ms) s := rfl
theorem exec_poll_row (s : State) (c : Fin 4) (k : Fin 1024) (ms : Nat) :
    exec (.poll c k ms) s = onRun (onUnits fun m => m.poll c k ms) s := rfl
theorem exec_satelliteSyncWrite_row (s : State) (src : Src) (c : Fin 4) (k : Fin 1024) (v : Word) :
    exec (.satelliteSyncWrite src c k v) s = onUnits (fun m => m.pageWrite src (pgSat c k) 0x04C v) s := rfl

/-- Settles O32: one bullet for each clause, in the order of the statement. Choices of the model that clauses rest on: the TAG an echo must
carry (notes/assumptions/20.md), what a node that has joined is sent at a frame's end (notes/assumptions/165.md), CHAIN_READY at NO_ECHO
(notes/assumptions/170.md), DISCOVER without a return wire (notes/assumptions/172.md), MAP and ACCEPT with every enabled port regulating
(notes/assumptions/168.md), the order of LOCATE's tests (notes/assumptions/174.md), and when a SYNC write becomes an item
(notes/assumptions/22.md). -/
theorem messengerComplete : Obligations.MessengerComplete := by
  refine ⟨?_, ?_, ?_, ?_, ?_, ?_, ?_, ?_, ?_, ?_, ?_, ?_, ?_, ?_, ?_, ?_, ?_, ?_, ?_, ?_⟩
  · intro s c hm hentering hdue _ _
    rw [exec_messengerFrame_row, onRun_row hentering]
    exact onUnits_next hm (Mach.messengerFrame_sends hdue)
  · intro s c ms hm hentering hms _ _
    rw [exec_refresh_row, onRun_row hentering]
    exact onUnits_next hm (Mach.refreshFrame_sends hms)
  · intro s c hm hentering hshare hmark
    rw [exec_syncHeave_row, onRun_row hentering]
    exact onUnits_next hm (Mach.syncHeave_heaves hshare hmark)
  · intro s c ofHeave tag hop replies e hm hheave hreturn hon hawaits
    rw [exec_echo_row, hheave]
    exact onUnits_next hm (Mach.echo_ofHeave hreturn hon hawaits)
  · intro s c ofHeave tag hop replies hm hheave hreturn hon hframe htag hhop hcrc
    rw [exec_echo_row, hheave]
    exact onUnits_next hm (Mach.echo_good hreturn hon hframe htag hhop hcrc)
  · intro s c ofHeave tag hop replies hm hheave hreturn hon hframe hbad
    rw [exec_echo_row, hheave]
    exact onUnits_next hm (Mach.echo_bad hreturn hon hframe hbad)
  · intro s c begun ns lowNs hm hreturn hon hframe hlate
    rw [exec_noEcho_row]
    exact onUnits_next hm (Mach.noEcho_ends hreturn hon hframe hlate)
  · intro s p ms hm hreg hms hnew
    rw [exec_nodeInsertion_row]
    exact onUnits_next hm (Mach.nodeInsertion_joins hreg hms hnew)
  · intro s p hm hoff
    rw [exec_nodeRemoval_row]
    exact onUnits_next hm (Mach.nodeRemoval_leaves hoff)
  · intro s src c hm h
    rw [exec_discover_row]
    exact onUnits_next hm (Mach.pageWrite_enum rfl (by decide) h)
  · intro s src c hm h
    rw [exec_mapChain_row]
    exact onUnits_next hm (Mach.pageWrite_enum rfl (by decide) h)
  · intro s src c hm h
    rw [exec_accept_row]
    exact onUnits_next hm (Mach.pageWrite_enum rfl (by decide) h)
  · intro s src c hm h
    rw [exec_locate_row]
    exact onUnits_next hm (Mach.pageWrite_enum rfl (by decide) h)
  · intro s c nodes heard falls hm hbusy hrunning
    rw [exec_enumComplete_row]
    exact onUnits_next hm (Mach.enumComplete_discover rfl hbusy hrunning)
  · intro s c nodes heard falls hm hbusy hrunning hruns
    rw [exec_enumComplete_row]
    exact onUnits_next hm (Mach.enumComplete_map rfl hbusy hrunning hruns)
  · intro s c nodes heard falls hm hbusy hrunning hruns
    rw [exec_enumComplete_row]
    exact onUnits_next hm (Mach.enumComplete_accept rfl hbusy hrunning hruns)
  · intro s c nodes heard falls hm hbusy hrunning
    rw [exec_enumComplete_row]
    exact onUnits_next hm (Mach.enumComplete_locate rfl hbusy hrunning)
  · intro s c ms hm hms hon
    rw [exec_lineShort_row]
    exact onUnits_next hm (Mach.lineShort_raises hms hon)
  · intro s c k ms hm hentering hms hawake
    rw [exec_poll_row, onRun_row hentering]
    exact onUnits_next hm (Mach.poll_asks hms hawake)
  · intro s src c k v hm h
    rw [exec_satelliteSyncWrite_row]
    exact onUnits_next hm (Mach.pageWrite_satSync h)

end Sys2Proof.Machine
end

section
/-! PROOFS. O10: the phase ends, pull-ins, turn-offs, rail changes, boost readings, coil measurements, duty bins and stuck switches of the
valve block whose condition holds (09_valve_drivers.md R263 to R282). One lemma for each row's operation says what it does then; where an
operation stores a reading first, `u` is the machine with it in its register. -/

namespace Sys2Proof.Machine

section
variable {m u : Mach} {v : Nat}

/-! ## Phases (R265, R267, R268) -/

theorem Mach.pullMissed_undetected (hdet : m.flag (pgValve v) Valve.PI_DET = false) : m.pullMissed v = m := if_neg (by simp [hdet])

/-- At T_PEAK a proportional valve regulates, its dither at phase 0. -/
theorem Mach.peakEnd_prop {ms mj : Nat} (hread : m.setSat (pgValve v) Valve.PK_LAST mj = u) (hphase : m.vPhase v = 2)
    (hms : m.fld (pgValve v) Valve.T_PEAK ≤ ms) (hdet : u.flag (pgValve v) Valve.PI_DET = false) (hwant : (u.valveWant v).1 = 2) :
    m.peakEnd v ms mj = (u.toProp v).valveSettle v := by
  simp [Mach.peakEnd, hphase, hms, hread, Mach.pullMissed_undetected hdet, hwant]

/-- The current dips by PI_DIP below its maximum before it has reached I_PEAK. -/
theorem Mach.pullIn_detects {tens top cur : Nat} (hread : m.setSat (pgValve v) Valve.I_COIL cur = u) (hphase : u.vPhase v = 2)
    (hdet : u.flag (pgValve v) Valve.PI_DET = true) (hnew : u.flag (pgValve v) Valve.PULLED = false)
    (htop : top < u.fld (pgValve v) Valve.I_PEAK) (hdip : cur + 10 * u.fld (pgValve v) Valve.PI_DIP ≤ top) :
    m.pullIn v tens top cur
      = (((u.setSat (pgValve v) Valve.T_PULL tens).setFlag (pgValve v) Valve.PULLED true).incSat (pgValve v) Valve.PULLINS).modValve v
          fun a => { a with pullAt := tens } := by
  simp [Mach.pullIn, hread, hphase, hdet, hnew, htop, hdip]

/-- The partner follows at once, since its PEAK may have waited for this one. -/
theorem Mach.valveTurnOff_driving (hon : m.driving v = true) :
    m.valveTurnOff v = ((m.valveOff v).valveStep (partner v)).vhsShow (switchOf v) := if_pos hon

theorem Mach.decayEnd_ends {cur : Nat} (hphase : m.vPhase v = 5) (hcur : cur < 10) :
    m.decayEnd v cur
      = (((m.setPhase v 0).setFlag (pgValve v) Valve.CLAMPING false).modValve v fun a => { a with path := 0 }).valveSettle v :=
  if_pos (by simp [hphase, hcur])

/-- A valve in PROP that cannot reach its setpoint takes the boost rail (R263). -/
theorem Mach.railUp_prop {duty cur ms : Nat} (hread : m.setSat (pgValve v) Valve.I_COIL cur = u) (hclass : u.boosted = true)
    (hready : u.flag pgBoost Boost.READY = true) (hphase : u.vPhase v = 4)
    (hrail : u.flag (pgVhs (switchOf v)) Vhs.RAIL = false) (hduty : 1000 ≤ duty) (hlow : 100 * cur < 95 * u.valveSet v) (hms : 10 ≤ ms) :
    m.railUp v duty cur ms = (u.modValve v fun a => { a with railUp := true }).vhsShow (switchOf v) := by
  simp [Mach.railUp, hread, hclass, hready, hphase, hrail, hduty, hlow, hms]

/-! ## Boost (R270, R282) -/

/-- Recovery begins more than 2 V above V_SET; nothing has gone back to the rail yet. -/
theorem Mach.recovering_begins {vc mj : Nat} {cur : Int} (hclass : m.boosted = true) (hnew : m.flag pgBoost Boost.RECOVERING = false)
    (hvc : 10 * m.fld pgBoost Boost.V_SET + 200 < vc) :
    m.recovering vc cur mj = (m.setFlag pgBoost Boost.RECOVERING true).boostRead vc cur := by
  simp [Mach.recovering, hclass, hnew, hvc]

theorem Mach.boostOv_clamps {vc : Nat} (hread : m.boostVc vc = u) (hclass : u.boosted = true) (hvc : 6500 < vc) :
    m.boostOv vc = (u.setFlag pgBoost Boost.CLAMP true).raise pgBoost 0 := by
  simp [Mach.boostOv, hread, hclass, hvc]

theorem Mach.boostUv_raises {vc ms : Nat} (hread : m.boostVc vc = u) (hclass : u.boosted = true) (hpeak : u.anyPeak = true)
    (hvc : vc + 600 < 10 * u.fld pgBoost Boost.V_SET) (hms : 10 ≤ ms) : m.boostUv vc ms = u.raise pgBoost 1 := by
  simp [Mach.boostUv, hread, hclass, hpeak, hvc, hms]

theorem Mach.boostFault_raises {vc ms : Nat} (hread : m.boostVc vc = u) (hclass : u.boosted = true) (hok : u.boostOk = true)
    (hunready : u.flag pgBoost Boost.READY = false) (hms : 20 ≤ ms) : m.boostFault vc ms = (u.raise pgBoost 3).boostSettle := by
  simp [Mach.boostFault, hread, hclass, hok, hunready, hms]

/-! ## Coil resistance (R271, R272) -/

/-- The clamp leaves an estimate between R_MIN and R_MAX as it is, and R_BOUND is not set. -/
theorem Mach.coilTake_within {x : Int} (hlo : (m.fld (pgValve v) Valve.R_MIN : Int) ≤ x) (hhi : x ≤ (m.fld (pgValve v) Valve.R_MAX : Int)) :
    m.coilTake v x
      = ((m.setFld (pgValve v) Valve.R_EST x.toNat).adapt 5 (pgValve v) 0 (m.fld (pgValve v) Valve.R_EST) x.toNat).modValve v
          fun a => { a with bound := false } := by
  have hclamp : max (m.fld (pgValve v) Valve.R_MIN : Int) (min x (m.fld (pgValve v) Valve.R_MAX)) = x := by
    rw [min_eq_left hhi, max_eq_right hlo]
  simp [Mach.coilTake, hclamp, not_lt.2 hlo, not_lt.2 hhi]

/-- An undisturbed interval with enough current, whose estimate lies within the bounds. -/
theorem Mach.coilUpdate_within {vm : Int} {im : Nat} (hread : m.coilMeasured v vm im = u) (hsteady : (m.coilSteady v).isSome = true)
    (hcalm : (m.valve v).touched = false) (him : 100 ≤ im) (hlive : u.isFrozen (pgValve v) = false)
    (hlo : (u.fld (pgValve v) Valve.R_MIN : Int) ≤ u.coilEstimate v vm im)
    (hhi : u.coilEstimate v vm im ≤ (u.fld (pgValve v) Valve.R_MAX : Int)) :
    m.coilUpdate v vm im
      = (((u.setFld (pgValve v) Valve.R_EST (u.coilEstimate v vm im).toNat).adapt 5 (pgValve v) 0 (u.fld (pgValve v) Valve.R_EST)
            (u.coilEstimate v vm im).toNat).modValve v fun a => { a with bound := false }).coilShow v := by
  simp [Mach.coilUpdate, hread, hsteady, hcalm, him, hlive, Mach.coilTake_within hlo hhi]

/-- R_m has exceeded 4 × R_MAX for 1 s: the second case of OPEN_COIL. -/
theorem Mach.openCoil_resistance {duty cur ms vm im rmMs : Nat} (hread : m.setSat (pgValve v) Valve.I_COIL cur = u)
    (hon : u.driving v = true) (him : 100 ≤ im) (hrm : 4 * u.fld (pgValve v) Valve.R_MAX * im < 1000 * vm) (hms : 1000 ≤ rmMs) :
    m.openCoil v duty cur ms vm im rmMs = u.valveRaise v 1 := by
  simp [Mach.openCoil, hread, hon, him, hrm, hms]

/-! ## Switches (R281) -/

theorem Mach.vhsStuck_raises {k ms : Nat} (hoff : m.flag (pgVhs k) Vhs.ON = false) (hms : 1 ≤ ms) :
    m.vhsStuck k ms = (m.raise (pgVhs k) 4).valveSettle (2 * k) := if_pos (by simp [hoff, hms])

end

/-! ## The rows -/

theorem exec_peakEnd_row (s : State) (v : Fin 8) (ms mj : Nat) :
    exec (.peakEnd v ms mj) s = onUnits (fun m => m.peakEnd v ms mj) s := rfl
theorem exec_pullIn_row (s : State) (v : Fin 8) (tens top cur : Nat) :
    exec (.pullIn v tens top cur) s = onUnits (fun m => m.pullIn v tens top cur) s := rfl
theorem exec_valveTurnOff_row (s : State) (v : Fin 8) : exec (.valveTurnOff v) s = onUnits (fun m => m.valveTurnOff v) s := rfl
theorem exec_decayEnd_row (s : State) (v : Fin 8) (cur : Nat) : exec (.decayEnd v cur) s = onUnits (fun m => m.decayEnd v cur) s := rfl
theorem exec_railUp_row (s : State) (v : Fin 8) (duty cur ms : Nat) :
    exec (.railUp v duty cur ms) s = onUnits (fun m => m.railUp v duty cur ms) s := rfl
theorem exec_recovering_row (s : State) (vc : Nat) (cur : Int) (mj : Nat) :
    exec (.recovering vc cur mj) s = onUnits (fun m => m.recovering vc cur mj) s := rfl
theorem exec_boostOv_row (s : State) (vc : Nat) : exec (.boostOv vc) s = onUnits (fun m => m.boostOv vc) s := rfl
theorem exec_boostUv_row (s : State) (vc ms : Nat) : exec (.boostUv vc ms) s = onUnits (fun m => m.boostUv vc ms) s := rfl
theorem exec_boostFault_row (s : State) (vc ms : Nat) : exec (.boostFault vc ms) s = onUnits (fun m => m.boostFault vc ms) s := rfl
theorem exec_coilResistanceUpdate_row (s : State) (v : Fin 8) (vm : Int) (im : Nat) :
    exec (.coilResistanceUpdate v vm im) s = onUnits (fun m => m.coilUpdate v vm im) s := rfl
theorem exec_openCoil_row (s : State) (v : Fin 8) (duty cur ms vm im rmMs : Nat) :
    exec (.openCoil v duty cur ms vm im rmMs) s = onUnits (fun m => m.openCoil v duty cur ms vm im rmMs) s := rfl
theorem exec_dutyBin_row (s : State) (k : Fin 4) (a b ea eb : Nat) :
    exec (.dutyBin k a b ea eb) s = onUnits (fun m => m.dutyBin k a b ea eb) s := rfl
theorem exec_vhsStuck_row (s : State) (k : Fin 4) (ms : Nat) : exec (.vhsStuck k ms) s = onUnits (fun m => m.vhsStuck k ms) s := rfl
theorem exec_boostReady_row (s : State) (vc : Nat) (cur : Int) :
    exec (.boostReady vc cur) s = onUnits (fun m => m.boostRead vc cur) s := rfl

/-- Settles O10: one bullet for each clause, in the order of the statement. Choices of the model that clauses rest on: the turn-off of a
valve that has demand (notes/assumptions/28.md), and the bits, releases and counts of a duty bin (notes/assumptions/176.md). -/
theorem valvesComplete : Obligations.ValvesComplete := by
  refine ⟨?_, ?_, ?_, ?_, ?_, ?_, ?_, ?_, ?_, ?_, ?_, ?_, ?_, ?_⟩
  · intro s v ms mj hm hphase hms hdet hwant
    rw [exec_peakEnd_row]
    exact onUnits_next hm (Mach.peakEnd_prop rfl hphase hms hdet hwant)
  · intro s v tens top cur hm hphase hdet hnew htop hdip
    rw [exec_pullIn_row]
    exact onUnits_next hm (Mach.pullIn_detects rfl hphase hdet hnew htop hdip)
  · intro s v hm hon
    rw [exec_valveTurnOff_row]
    exact onUnits_next hm (Mach.valveTurnOff_driving hon)
  · intro s v cur hm hphase hcur
    rw [exec_decayEnd_row]
    exact onUnits_next hm (Mach.decayEnd_ends hphase hcur)
  · intro s v duty cur ms hm hclass hready hphase hrail hduty hlow hms
    rw [exec_railUp_row]
    exact onUnits_next hm (Mach.railUp_prop rfl hclass hready hphase hrail hduty hlow hms)
  · intro s vc cur mj hm hclass hnew hvc
    rw [exec_recovering_row]
    exact onUnits_next hm (Mach.recovering_begins hclass hnew hvc)
  · intro s vc hm hclass hvc
    rw [exec_boostOv_row]
    exact onUnits_next hm (Mach.boostOv_clamps rfl hclass hvc)
  · intro s vc ms hm hclass hpeak hvc hms
    rw [exec_boostUv_row]
    exact onUnits_next hm (Mach.boostUv_raises rfl hclass hpeak hvc hms)
  · intro s vc ms hm hclass hok hunready hms
    rw [exec_boostFault_row]
    exact onUnits_next hm (Mach.boostFault_raises rfl hclass hok hunready hms)
  · intro s v vm im hm hsteady hcalm him hlive hlo hhi
    rw [exec_coilResistanceUpdate_row]
    exact onUnits_next hm (Mach.coilUpdate_within rfl hsteady hcalm him hlive hlo hhi)
  · intro s v duty cur ms vm im rmMs hm hon him hrm hms
    rw [exec_openCoil_row]
    exact onUnits_next hm (Mach.openCoil_resistance rfl hon him hrm hms)
  · intro s k a b ea eb hm
    rw [exec_dutyBin_row]
    exact onUnits_next hm rfl
  · intro s k ms hm hoff hms
    rw [exec_vhsStuck_row]
    exact onUnits_next hm (Mach.vhsStuck_raises hoff hms)
  · intro s vc cur hm
    rw [exec_boostReady_row]
    exact onUnits_next hm rfl

end Sys2Proof.Machine
end

section
/-! PROOFS. O11: the windows, hold times, cleaning pulses and touch scans, and the checks of an input or a touch channel whose condition
holds (10_inputs_and_touch.md R285 to R301). One lemma for each row's operation says what it does then. -/

namespace Sys2Proof.Machine

section
variable {m u : Mach} {i t ms sec : Nat}

/-! ## Inputs (R285 to R288, R301) -/

/-- An enabled input that is neither OFF nor in SELFTEST takes its window: the readings, the chatter, the train, the count. -/
theorem Mach.inWindow_takes {cur v : Nat} {lim : Bool} (hon : (m.unit (pgIn i)).enabled = true) (hoff : m.st (pgIn i) ≠ 0)
    (htest : m.st (pgIn i) ≠ 5) :
    m.inWindow i cur lim v
      = (((m.windowRead i cur lim v).windowChatter i (bandOf (m.flag (pgIn i) Inp.NETWORK) cur lim)).windowTrain i
          (bandOf (m.flag (pgIn i) Inp.NETWORK) cur lim)).windowCount i (bandOf (m.flag (pgIn i) Inp.NETWORK) cur lim) (m.inp i) :=
  if_neg (by simp [hon, hoff, htest])

/-- LONG is posted once for each stretch of activity, and not before the first decision after a wake. -/
theorem Mach.inLong_posts (hactive : m.flag (pgIn i) Inp.ACTIVE = true) (hset : m.flag (pgIn i) Inp.LONG_T = true)
    (hms : m.fld (pgIn i) Inp.LONG_T ≤ ms) (hnew : (m.inp i).longDone = false) (hdecided : (m.inp i).recheck = false) :
    m.inLong i ms = (m.modInp i fun a => { a with longDone := true }).inEvent i Inp.LONGS Inp.IRQ_LONG :=
  if_pos (by simp [hactive, hset, hms, hnew, hdecided])

theorem Mach.bandErr_raises (hrun : m.running (pgIn i) = true) (hband : m.fld (pgIn i) Inp.BAND = 4) (hms : 50 ≤ ms) :
    m.bandErr i ms = (m.modInp i fun a => { a with indet := true }).raise (pgIn i) 2 :=
  if_pos (by simp [hrun, hband, hms])

/-- BROKEN for 20 ms: source 0, and the logical state goes to FAIL_STATE. -/
theorem Mach.inBroken_broken (hrun : m.running (pgIn i) = true) (hband : m.fld (pgIn i) Inp.BAND = 0) (hms : 20 ≤ ms) :
    m.inBroken i ms = ((m.modInp i fun a => { a with bad := a.bad ||| 1 }).raise (pgIn i) 0).inFail i := by
  simp [Mach.inBroken, hrun, hband, hms]

/-- SHORT for 20 ms: source 1, and the logical state goes to FAIL_STATE. -/
theorem Mach.inBroken_short (hrun : m.running (pgIn i) = true) (hband : m.fld (pgIn i) Inp.BAND = 3) (hms : 20 ≤ ms) :
    m.inBroken i ms = ((m.modInp i fun a => { a with bad := a.bad ||| 2 }).raise (pgIn i) 1).inFail i := by
  simp [Mach.inBroken, hrun, hband, hms]

/-- The first pulse of a train is due at once, whatever has passed of CLEAN_T. -/
theorem Mach.cleaningPulse_first (htrain : (m.inp i).train = true) (hclean : m.flag (pgIn i) Inp.CLEAN_EN = true)
    (hfirst : (m.inp i).pulses = 0) :
    m.cleaningPulse i ms
      = (m.modInp i fun a => { a with
          pulses := a.pulses + 1, pulseEnd := m.rk + (m.fld (pgIn i) Inp.CT_NOW * 32768 + 9999) / 10000 }).setFlag (pgIn i)
            Inp.CLEANING (m.fld (pgIn i) Inp.BAND == 2) := by
  simp [Mach.cleaningPulse, htrain, hclean, hfirst]

/-! ## Touch channels (R296, R297, R300) -/

section
variable (htouched : m.flag (pgTouch t) Touch.TOUCHED = true) (hset : m.flag (pgTouch t) Touch.STUCK_EN = true)
  (hsec : m.fld (pgTouch t) Touch.STUCK_T ≤ sec)
  (hended : ((m.setFlag (pgTouch t) Touch.TOUCHED false).touchEvent t Touch.STUCKS Touch.IRQ_STUCK).raise (pgTouch t) 0 = u)
include htouched hset hsec hended

/-- Frozen, the channel keeps its baselines; `u` is the machine once the touch has ended with its event and source. -/
theorem Mach.touchStuck_frozen (hfrozen : u.isFrozen (pgTouch t) = true) :
    m.touchStuck t sec = u.setFlag (pgTouch t) Touch.STUCK_HELD true := by
  simp [Mach.touchStuck, htouched, hset, hsec, hended, hfrozen]

/-- Not frozen, the baselines take the readings, and a new touch can begin at once. -/
theorem Mach.touchStuck_rebases (hlive : u.isFrozen (pgTouch t) = false) :
    m.touchStuck t sec
      = ((u.setBases t (u.fld (pgTouch t) Touch.RAW_D) (u.fld (pgTouch t) Touch.RAW_G)).setFlag (pgTouch t) Touch.STUCK_HELD
          false).modTouch t fun a => { a with pressRun := 0 } := by
  simp [Mach.touchStuck, htouched, hset, hsec, hended, hlive]

end

theorem Mach.touchWater_raises (hwater : m.flag (pgTouch t) Touch.WATER = true) (hsec : 10 ≤ sec) :
    m.touchWater t sec = m.raise (pgTouch t) 1 := if_pos (by simp [hwater, hsec])

theorem Mach.touchShield_raises (hms : 10 ≤ ms) : m.touchShield t ms = m.raise (pgTouch t) 3 := if_pos hms

end

/-! ## The rows -/

theorem exec_inWindow_row (s : State) (ix : Fin 96) (cur : Nat) (lim : Bool) (v : Nat) :
    exec (.inWindow ix cur lim v) s = onRun (onUnits fun m => m.inWindow ix cur lim v) s := rfl
theorem exec_long_row (s : State) (ix : Fin 96) (ms : Nat) : exec (.long ix ms) s = onRun (onUnits fun m => m.inLong ix ms) s := rfl
theorem exec_bandErr_row (s : State) (ix : Fin 96) (ms : Nat) : exec (.bandErr ix ms) s = onUnits (fun m => m.bandErr ix ms) s := rfl
theorem exec_broken_row (s : State) (ix : Fin 96) (ms : Nat) : exec (.broken ix ms) s = onUnits (fun m => m.inBroken ix ms) s := rfl
theorem exec_cleaningPulse_row (s : State) (ix : Fin 96) (ms : Nat) :
    exec (.cleaningPulse ix ms) s = onRun (onUnits fun m => m.cleaningPulse ix ms) s := rfl
theorem exec_touchScan_row (s : State) (readings : List (BitVec 16 × BitVec 16)) :
    exec (.touchScan readings) s = onRun (onUnits fun m => m.touchScanAll readings) s := rfl
theorem exec_stuck_row (s : State) (tc : Fin 16) (sec : Nat) : exec (.stuck tc sec) s = onUnits (fun m => m.touchStuck tc sec) s := rfl
theorem exec_water_row (s : State) (tc : Fin 16) (sec : Nat) : exec (.water tc sec) s = onUnits (fun m => m.touchWater tc sec) s := rfl
theorem exec_shield_row (s : State) (tc : Fin 16) (ms : Nat) : exec (.shield tc ms) s = onUnits (fun m => m.touchShield tc ms) s := rfl

/-- Settles O11: one bullet for each clause, in the order of the statement. Choices of the model that clauses rest on: when CLEANING ends
(notes/assumptions/184.md), what the windows of a FAULTED input do (notes/assumptions/181.md), the first decision after a wake
(notes/assumptions/183.md), and the first scan after ENABLE (notes/assumptions/25.md). -/
theorem inputsComplete : Obligations.InputsComplete := by
  refine ⟨?_, ?_, ?_, ?_, ?_, ?_, ?_, ?_, ?_, ?_, ?_⟩
  · intro s ix cur lim v hm hentering hon hoff htest
    rw [exec_inWindow_row, onRun_row hentering]
    exact onUnits_next hm (Mach.inWindow_takes hon hoff htest)
  · intro s ix ms hm hentering hactive hset hms hnew hdecided
    rw [exec_long_row, onRun_row hentering]
    exact onUnits_next hm (Mach.inLong_posts hactive hset hms hnew hdecided)
  · intro s ix ms hm hrun hband hms
    rw [exec_bandErr_row]
    exact onUnits_next hm (Mach.bandErr_raises hrun hband hms)
  · intro s ix ms hm hrun hband hms
    rw [exec_broken_row]
    exact onUnits_next hm (Mach.inBroken_broken hrun hband hms)
  · intro s ix ms hm hrun hband hms
    rw [exec_broken_row]
    exact onUnits_next hm (Mach.inBroken_short hrun hband hms)
  · intro s ix ms hm hentering htrain hclean hfirst
    rw [exec_cleaningPulse_row, onRun_row hentering]
    exact onUnits_next hm (Mach.cleaningPulse_first htrain hclean hfirst)
  · intro s readings hm hentering
    rw [exec_touchScan_row, onRun_row hentering]
    exact onUnits_next hm rfl
  · intro s tc sec hm htouched hset hsec hfrozen
    rw [exec_stuck_row]
    exact onUnits_next hm (Mach.touchStuck_frozen htouched hset hsec rfl hfrozen)
  · intro s tc sec hm htouched hset hsec hlive
    rw [exec_stuck_row]
    exact onUnits_next hm (Mach.touchStuck_rebases htouched hset hsec rfl hlive)
  · intro s tc sec hm hwater hsec
    rw [exec_water_row]
    exact onUnits_next hm (Mach.touchWater_raises hwater hsec)
  · intro s tc ms hm hms
    rw [exec_shield_row]
    exact onUnits_next hm (Mach.touchShield_raises hms)

end Sys2Proof.Machine
end

section
/-! PROOFS. O12: the shed stages, the policy table and application silence (11_policy_and_adaptation.md R311 to R324). One lemma for each row's
operation says what it does where its condition holds, and one for each register of POLICY what a taken write of it does. -/

namespace Sys2Proof.Machine

section
variable {m u : Mach} {k c ms : Nat}

/-! ## Load shedding (R311) -/

/-- A trigger that begins takes the stage to at least 1, within CEIL; `u` is the machine once TRIGGERED shows the banks and the fall of this
one has stopped. -/
theorem Mach.shedBegin_rises (hshown : m.trigShow.setCalm k false = u) (htrig : u.triggered k = true)
    (hen : u.flag pgPolicy Policy.SHED_EN = true) (hlive : u.isFrozen pgPolicy = false) :
    m.shedBegin k = u.stageTo k (min (u.ceil k) (max (u.stage k) 1)) := by
  subst hshown
  exact if_pos (by simp [htrig, hen, hlive])

/-- STEP_T after the last raise, a bank that is still triggered rises by one stage, up to CEIL. -/
theorem Mach.shedRaise_rises (htrig : m.triggered k = true) (hen : m.flag pgPolicy Policy.SHED_EN = true)
    (hlive : m.isFrozen pgPolicy = false) (hms : m.stepT k ≤ ms) (hceil : m.stage k < m.ceil k) :
    m.shedRaise k ms = m.stageTo k (m.stage k + 1) :=
  if_pos (by simp [htrig, hen, hlive, hms, hceil])

/-- With shedding off the triggers are ignored: the stage falls at every STEP_T. -/
theorem Mach.shedLower_disabled (hen : m.flag pgPolicy Policy.SHED_EN = false) (hlive : m.isFrozen pgPolicy = false)
    (hms : m.stepT k ≤ ms) : m.shedLower k ms = (m.setCalm k true).stageTo k (m.stage k - 1) :=
  if_pos (by simp [hen, hlive, hms])

/-! ## Application silence (R317, R318) -/

/-- The window of the `c`-th application core runs out: SILENCES counts, SILENT sets, and every unit that names the core enters SAFE. -/
theorem Mach.slackExpiry_expires (happ : c < 4) (hmon : m.monitored (2 + c) = true) (hruns : tget m.policy.window 0 (2 + c) ≠ 0)
    (hms : tget m.policy.window 0 (2 + c) ≤ ms) :
    m.slackExpiry (2 + c) ms
      = slackUnits.foldl (fun m n => if Nat.testBit (m.slackOf n) c then m.enterSafe n false else m)
          (((m.silencesUp (2 + c)).setSilent (2 + c) true).windowStop (2 + c)) := by
  have hcore : 2 + c ≤ 5 := by omega
  simp [Mach.slackExpiry, hcore, hmon, hruns, hms]

/-- Each unit that R318 lets resume, and that no pair holds for the Lead, is sent CLEAR_FAULTS as a command of S0 with SEQ 0
(notes/assumptions/127.md). -/
theorem Mach.resumption_clears (hdue : m.resumeDue c ms = true) :
    m.resumption c ms
      = ((m.resumable c).filter fun n => !m.secondHeld n).foldl
          (fun (m : Mach) (n : Nat) => (m.unitCmd (.core 0) n (cmdWord 4 0)).2) m := if_pos hdue

/-! ## The table (R324) -/

theorem Mach.polStored_completes (hbusy : m.flag pgPolicy Hdr.BUSY = true) (htest : m.st pgPolicy ≠ 5) :
    m.polStored = ({ m with policy := { m.policy with stored := m.policy.live, storedBad := false } } : Mach).setFlag pgPolicy Hdr.BUSY
      false := if_pos (by simp [hbusy, htest])

end

/-! ## Writes of POLICY's registers (R315, R322, R323) -/

section
variable {m : Mach} {src : Src}

theorem clsOf_pgPolicy : clsOf pgPolicy = .policy := by decide

/-- A taken write of a class register, whatever its behaviour. -/
theorem Mach.pageWrite_class {n off : Nat} {w : Word} (ho : 0x040 ≤ off) (h : m.takes src n off w = true) :
    m.pageWrite src n off w = m.ran src n off fun m => m.classWrite src n off w := by
  rw [Mach.pageWrite_takes (by omega) h]
  simp [show ¬ off < 0x040 by omega]

/-- A taken write of an ALIVE word offers the count of its core. -/
theorem Mach.pageWrite_alive {c : Fin 4} {w : Word} (h : m.takes src pgPolicy (0x048 + 4 * c) w = true) :
    m.pageWrite src pgPolicy (0x048 + 4 * c) w
      = m.ran src pgPolicy (0x048 + 4 * c) fun m => m.alive src (2 + c) (w.toNat % 65536) :=
  Mach.pageWrite_special (by omega) h fun m => by fin_cases c <;> simp [Mach.special, clsOf_pgPolicy]

/-- The word of a table operation: SEL above OP. -/
theorem toNat_polWord (sel : BitVec 8) {op : Nat} (hop : op < 4) : (BitVec.ofNat 32 (sel.toNat * 256 + op)).toNat = sel.toNat * 256 + op :=
  (BitVec.toNat_ofNat _ _).trans (Nat.mod_eq_of_lt (by have := sel.isLt; omega))

theorem sel_polWord (sel : BitVec 8) {op : Nat} (hop : op < 4) : Policy.SEL.of (BitVec.ofNat 32 (sel.toNat * 256 + op)) = sel.toNat := by
  have := sel.isLt
  simp only [Fld.of, Policy.SEL, toNat_polWord sel hop]
  omega

/-- The operation a table word names. -/
theorem op_polWord (sel : BitVec 8) {op : Nat} (hop : op < 4) : (BitVec.ofNat 32 (sel.toNat * 256 + op)).toNat % 2 ^ 2 = op := by
  rw [toNat_polWord sel hop]
  omega

theorem Mach.pageWrite_polRead {sel : BitVec 8} (h : m.takes src pgPolicy 0x0C0 (BitVec.ofNat 32 (sel.toNat * 256 + 1)) = true) :
    m.pageWrite src pgPolicy 0x0C0 (BitVec.ofNat 32 (sel.toNat * 256 + 1)) = m.ran src pgPolicy 0x0C0 fun m => m.polRead sel.toNat :=
  Mach.pageWrite_special (by decide) h fun m => by
    simp only [Mach.special, clsOf_pgPolicy, op_polWord sel (op := 1) (by decide), sel_polWord sel (op := 1) (by decide)]

theorem Mach.pageWrite_polWrite {sel : BitVec 8} (h : m.takes src pgPolicy 0x0C0 (BitVec.ofNat 32 (sel.toNat * 256 + 2)) = true) :
    m.pageWrite src pgPolicy 0x0C0 (BitVec.ofNat 32 (sel.toNat * 256 + 2)) = m.ran src pgPolicy 0x0C0 fun m => m.polWrite sel.toNat :=
  Mach.pageWrite_special (by decide) h fun m => by
    simp only [Mach.special, clsOf_pgPolicy, op_polWord sel (op := 2) (by decide), sel_polWord sel (op := 2) (by decide)]

theorem Mach.pageWrite_polStore (h : m.takes src pgPolicy 0x0C0 3 = true) :
    m.pageWrite src pgPolicy 0x0C0 3 = m.ran src pgPolicy 0x0C0 fun m => m.polStore :=
  Mach.pageWrite_special (by decide) h fun m => by simp [Mach.special, clsOf_pgPolicy]

end

/-! ## The rows -/

theorem exec_shedTriggerBegin_row (s : State) (k : Fin 4) :
    exec (.shedTriggerBegin k) s = onRun (onUnits fun m => m.shedBegin k) s := rfl
theorem exec_shedStageRaise_row (s : State) (k : Fin 4) (ms : Nat) :
    exec (.shedStageRaise k ms) s = onRun (onUnits fun m => m.shedRaise k ms) s := rfl
theorem exec_shedStageLower_row (s : State) (k : Fin 4) (ms : Nat) :
    exec (.shedStageLower k ms) s = onRun (onUnits fun m => m.shedLower k ms) s := rfl
theorem exec_shedEnWrite_row (s : State) (src : Src) (v : Word) :
    exec (.shedEnWrite src v) s = onUnits (fun m => m.pageWrite src pgPolicy 0x040 v) s := rfl
theorem exec_ceilWrite_row (s : State) (src : Src) (k : Fin 4) (v : Word) :
    exec (.ceilWrite src k v) s = onUnits (fun m => m.pageWrite src pgPolicy (0x088 + 4 * k) v) s := rfl
theorem exec_alive_row (s : State) (src : Src) (c : Fin 4) (v : Word) :
    exec (.alive src c v) s = onUnits (fun m => m.pageWrite src pgPolicy (0x048 + 4 * c) v) s := rfl
theorem exec_slackExpiry_row (s : State) (c : Fin 4) (ms : Nat) :
    exec (.slackExpiry c ms) s = onUnits (fun m => if m.coreSt (2 + c) = 4 then m else m.slackExpiry (2 + c) ms) s := rfl
theorem exec_automaticResumption_row (s : State) (c : Fin 4) (ms : Nat) :
    exec (.automaticResumption c ms) s = onRun (onUnits fun m => m.resumption (2 + c) ms) s := rfl
theorem exec_policyRead_row (s : State) (src : Src) (sel : BitVec 8) :
    exec (.policyRead src sel) s = onPage (fun m => m.pageWrite src pgPolicy 0x0C0 (BitVec.ofNat 32 (sel.toNat * 256 + 1))) s := rfl
theorem exec_policyWrite_row (s : State) (src : Src) (sel : BitVec 8) :
    exec (.policyWrite src sel) s = onPage (fun m => m.pageWrite src pgPolicy 0x0C0 (BitVec.ofNat 32 (sel.toNat * 256 + 2))) s := rfl
theorem exec_store_row (s : State) (src : Src) :
    exec (.store src) s = onPage (fun m => m.pageWrite src pgPolicy 0x0C0 3) s := rfl
theorem exec_storeComplete_row (s : State) : exec .storeComplete s = onPage (fun m => m.polStored) s := rfl
theorem exec_gfreezeWrite_row (s : State) (src : Src) (v : Word) :
    exec (.gfreezeWrite src v) s = onUnits (fun m => m.pageWrite src pgPolicy 0x040 v) s := rfl

/-- Settles O12: one bullet for each clause, in the order of the statement. Choices of the model that clauses rest on: the stage a
trigger begins at under CEIL = 0 (notes/assumptions/31.md), an expiry of a window of a core that is SILENT already
(notes/assumptions/187.md), and how the firmware sends CLEAR_FAULTS at a resumption (notes/assumptions/127.md). -/
theorem policyComplete : Obligations.PolicyComplete := by
  refine ⟨?_, ?_, ?_, ?_, ?_, ?_, ?_, ?_, ?_, ?_, ?_, ?_, ?_⟩
  · intro s k hm hentering htrig hen hlive
    rw [exec_shedTriggerBegin_row, onRun_row hentering]
    exact onUnits_next hm (Mach.shedBegin_rises rfl htrig hen hlive)
  · intro s k ms hm hentering htrig hen hlive hms hceil
    rw [exec_shedStageRaise_row, onRun_row hentering]
    exact onUnits_next hm (Mach.shedRaise_rises htrig hen hlive hms hceil)
  · intro s k ms hm hentering hen hlive hms
    rw [exec_shedStageLower_row, onRun_row hentering]
    exact onUnits_next hm (Mach.shedLower_disabled hen hlive hms)
  · intro s src v hm h
    rw [exec_shedEnWrite_row]
    exact onUnits_next hm (Mach.pageWrite_class (by decide) h)
  · intro s src k v hm h
    rw [exec_ceilWrite_row]
    exact onUnits_next hm (Mach.pageWrite_class (by omega) h)
  · intro s src c v hm h
    rw [exec_alive_row]
    exact onUnits_next hm (Mach.pageWrite_alive h)
  · intro s c ms hm hawake hmon hruns hms
    rw [exec_slackExpiry_row]
    exact onUnits_next hm ((if_neg hawake).trans (Mach.slackExpiry_expires c.isLt hmon hruns hms))
  · intro s c ms hm hentering hdue
    rw [exec_automaticResumption_row, onRun_row hentering]
    exact onUnits_next hm (Mach.resumption_clears hdue)
  · intro s src sel hm h
    rw [exec_policyRead_row]
    exact onPage_next hm (Mach.pageWrite_polRead h)
  · intro s src sel hm h
    rw [exec_policyWrite_row]
    exact onPage_next hm (Mach.pageWrite_polWrite h)
  · intro s src hm h
    rw [exec_store_row]
    exact onPage_next hm (Mach.pageWrite_polStore h)
  · intro s hm hbusy htest
    rw [exec_storeComplete_row]
    exact onPage_next hm (Mach.polStored_completes hbusy htest)
  · intro s src v hm h
    rw [exec_gfreezeWrite_row]
    exact onUnits_next hm (Mach.pageWrite_class (by decide) h)

end Sys2Proof.Machine
end

section
/-! PROOFS. O13: the sources that start to assert, the breaks of a pair, the writes of SOFT and of a reaction entry, and the readings of
FAULT_N and HALT_N whose condition holds (12_lay_fault_collection.md R327 to R341; 01_module_and_connectors.md R30). One lemma for each row's
operation says what it does then, and one for each register of LAY what a taken write of it does. -/

namespace Sys2Proof.Machine

section
variable {m u : Mach} {n b : Nat}

/-! ## Sources and breaks (R326, R327, R332) -/

/-- A set and unmasked source that the collector does not hold yet starts asserting. -/
theorem Mach.layAssert_starts (hset : m.src n b = true) (hunmasked : (m.reg n 0x01C).getLsbD b = true) (hocc : m.occupied n = true)
    (hnew : (m.layLive n).getLsbD b = false) :
    m.layAssert n b
      = ({ m with lay := { m.lay with asserting := tput m.lay.asserting 0 n (tget m.lay.asserting 0 n ||| BitVec.ofNat 32 (2 ^ b)) } }
          : Mach).assertStarts n b false :=
  if_pos (by simp [hset, hunmasked, hocc, hnew])

/-- A collector clock orders its sources by unit and bit; of a single one it takes both back out of its key. -/
theorem Mach.layClock_single (q : Fin 32768 × Fin 32) : m.layClock [q] = m.layAssert q.1 q.2 := by
  have hunit : (q.1.val * 32 + q.2.val) / 32 = q.1 := by omega
  have hbit : (q.1.val * 32 + q.2.val) % 32 = q.2 := by omega
  simp only [Mach.layClock, List.foldr_cons, List.foldr_nil, insertUp, List.foldl_cons, List.foldl_nil, hunit, hbit]

/-- A pair that disagrees beyond 2 collector clocks latches a break: counted, recorded in BREAK_INFO, raised as LAYBREAK; `u` is the machine
with the break held. The source then starts asserting, unless it asserts already. -/
theorem Mach.layBreak_breaks {clocks : Nat}
    (hheld : ({ m with lay := { m.lay with breaks := tput m.lay.breaks 0 n (tget m.lay.breaks 0 n ||| BitVec.ofNat 32 (2 ^ b)),
                                           bad := (n, b) :: m.lay.bad } } : Mach) = u)
    (hclocks : 2 < clocks) (hfirst : m.lay.bad.contains (n, b) = false) (hsrc : Nat.testBit (info (clsOf n)).srcs b = true)
    (hocc : m.occupied n = true) (hnew : (m.layLive n).getLsbD b = false) :
    m.layBreak n b clocks false
      = (((u.incSat pgLay Lay.BREAKS).setReg pgLay 0x068 (BitVec.ofNat 32 (2 ^ 31 + b % 32 * 65536 + n))).raise pgLay 1).assertStarts n b
          true := by
  subst hheld
  have hgate : (clocks ≤ 2 || m.lay.bad.contains (n, b) || !Nat.testBit (info (clsOf n)).srcs b || !m.occupied n) = false := by
    simp only [hfirst, hsrc, hocc, Nat.not_le.2 hclocks, decide_false, Bool.not_true, Bool.or_false]
  simp only [Mach.layBreak, hgate, hnew, Bool.false_eq_true, if_false]

/-! ## FAULT_N and HALT_N (R336, R338, R30) -/

/-- The pin has differed from its command for 1 ms; `u` is the machine with its level in FAULTN_PIN. -/
theorem Mach.faultnErr_raises {conducts : Bool} {ms : Nat} (hread : m.setFlag pgLay Lay.FAULTN_PIN conducts = u)
    (hdiffers : conducts ≠ u.flag pgLay Lay.FAULTN_ON) (hms : 1 ≤ ms) : m.faultnErr conducts ms = u.raise pgLay 2 := by
  subst hread
  exact if_pos (by simp [hdiffers, hms])

/-- A reading of at most 5 V is low under every falling threshold R30 allows (notes/assumptions/71.md). -/
theorem Mach.haltInput_falls {mv : Nat} (hhigh : m.flag pgLay Lay.HALT_LOW = false) (hmv : mv ≤ 5000) :
    m.haltInput mv = m.setFlag pgLay Lay.HALT_LOW true := by
  have hbelow : mv ≤ 5000 + Config.haltFall % 2001 := Nat.le_add_right_of_le hmv
  simp [Mach.haltInput, hhigh, hbelow]

theorem Mach.halt_raises {us : Nat} (hlow : m.flag pgLay Lay.HALT_LOW = true) (hus : m.fld pgLay Lay.HALT_FLT ≤ us) :
    m.halt us = m.raise pgLay 0 := if_pos (by simp [hlow, hus])

end

/-! ## Writes of SOFT and of a reaction entry (R330, R335, R341)

Each register has a behaviour of its own: `Mach.special` at LAY and the register's offset computes to it. -/

section
variable {m : Mach} {src : Src}

theorem Mach.pageWrite_soft {w : Word} (h : m.takes src pgLay 0x05C w = true) :
    m.pageWrite src pgLay 0x05C w = m.ran src pgLay 0x05C fun m => m.softWrite (w.toNat % 65536) :=
  Mach.pageWrite_special (by decide) h fun _ => rfl

theorem Mach.pageWrite_entryRead (h : m.takes src pgLay 0x084 1 = true) :
    m.pageWrite src pgLay 0x084 1 = m.ran src pgLay 0x084 fun m => m.entryRead :=
  Mach.pageWrite_special (by decide) h fun _ => rfl

theorem Mach.pageWrite_entryWrite (h : m.takes src pgLay 0x084 2 = true) :
    m.pageWrite src pgLay 0x084 2 = m.ran src pgLay 0x084 fun m => m.entryWrite :=
  Mach.pageWrite_special (by decide) h fun _ => rfl

end

/-! ## The rows -/

theorem exec_layAssert_row (s : State) (l : List (Fin 32768 × Fin 32)) :
    exec (.layAssert l) s = onUnits (fun m => m.layClock l) s := rfl
theorem exec_laybreak_row (s : State) (n : Fin 32768) (b : Fin 32) (clocks : Nat) (agree : Bool) :
    exec (.laybreak n b clocks agree) s = onUnits (fun m => m.layBreak n b clocks agree) s := rfl
theorem exec_faultnErr_row (s : State) (conducts : Bool) (ms : Nat) :
    exec (.faultnErr conducts ms) s = onUnits (fun m => m.faultnErr conducts ms) s := rfl
theorem exec_softWrite_row (s : State) (src : Src) (v : Word) :
    exec (.softWrite src v) s = onUnits (fun m => m.pageWrite src pgLay 0x05C v) s := rfl
theorem exec_entryRead_row (s : State) (src : Src) :
    exec (.entryRead src) s = onPage (fun m => m.pageWrite src pgLay 0x084 1) s := rfl
theorem exec_entryWrite_row (s : State) (src : Src) :
    exec (.entryWrite src) s = onUnits (fun m => m.pageWrite src pgLay 0x084 2) s := rfl
theorem exec_haltNInput_row (s : State) (mv : Nat) : exec (.haltNInput mv) s = onKept (fun m => m.haltInput mv) s := rfl
theorem exec_halt_row (s : State) (us : Nat) : exec (.halt us) s = onUnits (fun m => m.halt us) s := rfl

/-- Settles O13: one bullet for each clause, in the order of the statement. The clause of LAY_ASSERT rests on a choice of the model: one row
is one collector clock and carries the sources that start in it (notes/assumptions/190.md). -/
theorem layComplete : Obligations.LayComplete := by
  refine ⟨?_, ?_, ?_, ?_, ?_, ?_, ?_, ?_⟩
  · intro s l n b hm hone hset hunmasked hocc hnew
    subst hone
    rw [exec_layAssert_row]
    exact onUnits_next hm ((Mach.layClock_single (n, b)).trans (Mach.layAssert_starts hset hunmasked hocc hnew))
  · intro s n b clocks agree hm hagree hclocks hfirst hsrc hocc hnew
    subst hagree
    rw [exec_laybreak_row]
    exact onUnits_next hm (Mach.layBreak_breaks rfl hclocks hfirst hsrc hocc hnew)
  · intro s conducts ms hm hdiffers hms
    rw [exec_faultnErr_row]
    exact onUnits_next hm (Mach.faultnErr_raises rfl hdiffers hms)
  · intro s src v hm h
    rw [exec_softWrite_row]
    exact onUnits_next hm (Mach.pageWrite_soft h)
  · intro s src hm h
    rw [exec_entryRead_row]
    exact onPage_next hm (Mach.pageWrite_entryRead h)
  · intro s src hm h
    rw [exec_entryWrite_row]
    exact onUnits_next hm (Mach.pageWrite_entryWrite h)
  · intro s mv hawake hm hhigh hmv
    rw [exec_haltNInput_row]
    exact onKept_next hawake hm (Mach.haltInput_falls hhigh hmv)
  · intro s us hm hlow hus
    rw [exec_halt_row]
    exact onUnits_next hm (Mach.halt_raises hlow hus)

end Sys2Proof.Machine
end

section
/-! PROOFS. O25: the two-register operations of the X and Y units at a plain boundary (15_strand_instructions.md R390, R391, R393). -/

namespace Sys2Proof.Machine

/-! ## A row that issues one operation -/

section
variable {i : Instr} {s : State} {c : Fin 6} {y : Syl} {w : Writes} {u : State}

/-- A row that issues one operation does what issuing it does, where the main domain runs and no sleep entry is under way. -/
theorem exec_issueOp (hrow : exec i s = onRun (onState fun t => issueOp c y t) s) (hm : s.m.mainOff = false)
    (hentering : s.m.entering = false) (hu : issueOp c y s = u) : exec i s = .next (s.afterState u) := by
  rw [hrow, onRun_row hentering]
  exact onState_next hm hu

/-- A row that issues a register operation at a plain boundary: its writes, under its guard (R374, R390). -/
theorem exec_registerOp (hrow : exec i s = onRun (onState fun t => issueOp c y t) s) (hm : s.m.mainOff = false)
    (hentering : s.m.entering = false) (hp : s.m.plain c = true) (hstill : y.op.still = true)
    (hw : (s.m.core c).mOp y.op ((s.m.core c).xyOp y.op Writes.none) = w) :
    exec i s = .next (s.afterState (s.grouped c id ((s.m.core c).guarded y.pr w))) :=
  exec_issueOp hrow hm hentering (hw ▸ issueOp_still hm hp hstill)

end

/-! ## Results of the two-register operations (R393) -/

theorem fits32_eq (i : Int) : fits32 i = (decide (-2147483648 ≤ i) && decide (i < 2147483648)) := rfl

/-- Saturation is a clamp, and its flag says that the exact result does not fit. -/
theorem sat32_eq (i : Int) :
    sat32 i = (BitVec.ofInt 32 (max (-2147483648) (min 2147483647 i)), !(decide (-2147483648 ≤ i) && decide (i < 2147483648))) := by
  unfold sat32
  split
  next hlow =>
    have hclamp : max (-2147483648) (min 2147483647 i) = -2147483648 := by omega
    have hlt : ¬ -2147483648 ≤ i := by omega
    rw [hclamp, decide_eq_false hlt]
    rfl
  next hlow =>
    split
    next hhigh =>
      have hclamp : max (-2147483648) (min 2147483647 i) = 2147483647 := by omega
      have hge : ¬ i < 2147483648 := by omega
      rw [hclamp, decide_eq_false hge, Bool.and_false]
      rfl
    next hhigh =>
      have hclamp : max (-2147483648) (min 2147483647 i) = i := by omega
      rw [hclamp, decide_eq_true (by omega : -2147483648 ≤ i), decide_eq_true (by omega : i < 2147483648)]
      rfl

theorem aluRes_add (x y : Word) (c : Bool) :
    aluRes .add x y c = (x + y, decide (4294967296 ≤ x.toNat + y.toNat),
      !(decide (-2147483648 ≤ x.toInt + y.toInt) && decide (x.toInt + y.toInt < 2147483648)), false) := by
  have hsum : BitVec.ofNat 32 (x.toNat + y.toNat) = x + y := by rw [BitVec.ofNat_add, BitVec.ofNat_toNat, BitVec.ofNat_toNat]; simp
  simp [aluRes, addFlags, fits32_eq, hsum]

theorem aluRes_sub (x y : Word) (c : Bool) :
    aluRes .sub x y c = (x - y, decide (y.toNat ≤ x.toNat),
      !(decide (-2147483648 ≤ x.toInt - y.toInt) && decide (x.toInt - y.toInt < 2147483648)), false) := by
  have hdiff : BitVec.ofInt 32 ((x.toNat : Int) - y.toNat - 1 + 1) = x - y := by
    apply BitVec.eq_of_toInt_eq
    rw [BitVec.toInt_ofInt, BitVec.toInt_sub, BitVec.toInt_eq_toNat_bmod, BitVec.toInt_eq_toNat_bmod]
    simp
  have hint : x.toInt - y.toInt - 1 + 1 = x.toInt - y.toInt := by omega
  have hborrow : decide (0 ≤ (x.toNat : Int) - y.toNat - 1 + 1) = decide (y.toNat ≤ x.toNat) := decide_eq_decide.2 (by omega)
  simp only [aluRes, subFlags, fits32_eq, Bool.toNat_true, Nat.cast_one, hdiff, hint, hborrow]

theorem aluRes_adc (x y : Word) (c : Bool) :
    aluRes .adc x y c = (BitVec.ofNat 32 (x.toNat + y.toNat + c.toNat), decide (4294967296 ≤ x.toNat + y.toNat + c.toNat),
      !(decide (-2147483648 ≤ x.toInt + y.toInt + (c.toNat : Int)) && decide (x.toInt + y.toInt + (c.toNat : Int) < 2147483648)),
      false) := rfl

theorem aluRes_sbc (x y : Word) (c : Bool) :
    aluRes .sbc x y c = (BitVec.ofInt 32 ((x.toNat : Int) - (y.toNat : Int) - 1 + (c.toNat : Int)),
      decide (y.toNat + 1 ≤ x.toNat + c.toNat),
      !(decide (-2147483648 ≤ x.toInt - y.toInt - 1 + (c.toNat : Int)) && decide (x.toInt - y.toInt - 1 + (c.toNat : Int) < 2147483648)),
      false) := by
  have hborrow : decide (0 ≤ (x.toNat : Int) - y.toNat - 1 + c.toNat) = decide (y.toNat + 1 ≤ x.toNat + c.toNat) :=
    decide_eq_decide.2 (by omega)
  simp only [aluRes, subFlags, fits32_eq, hborrow]

theorem aluRes_adds (x y : Word) (c : Bool) :
    aluRes .adds x y c = (BitVec.ofInt 32 (max (-2147483648) (min 2147483647 (x.toInt + y.toInt))), false, false,
      !(decide (-2147483648 ≤ x.toInt + y.toInt) && decide (x.toInt + y.toInt < 2147483648))) := by
  simp only [aluRes, sat32_eq]

theorem aluRes_subs (x y : Word) (c : Bool) :
    aluRes .subs x y c = (BitVec.ofInt 32 (max (-2147483648) (min 2147483647 (x.toInt - y.toInt))), false, false,
      !(decide (-2147483648 ≤ x.toInt - y.toInt) && decide (x.toInt - y.toInt < 2147483648))) := by
  simp only [aluRes, sat32_eq]

/-- Of equal operands it makes no difference which one a minimum or a maximum takes. -/
theorem ite_lt_eq_ite_le {β α : Type} [LinearOrder β] {x y : β} {a b : α} (heq : x = y → a = b) :
    (if x < y then a else b) = if x ≤ y then a else b := by
  rcases lt_trichotomy x y with h | h | h
  · rw [if_pos h, if_pos h.le]
  · rw [if_neg h.not_lt, if_pos h.le, heq h]
  · rw [if_neg h.not_gt, if_neg h.not_ge]

theorem aluRes_min (x y : Word) (c : Bool) : aluRes .min x y c = (if x.toInt ≤ y.toInt then x else y, false, false, false) := by
  simp only [aluRes, BitVec.slt, decide_eq_true_eq, ite_lt_eq_ite_le (BitVec.eq_of_toInt_eq (x := x) (y := y))]

theorem aluRes_max (x y : Word) (c : Bool) : aluRes .max x y c = (if x.toInt ≤ y.toInt then y else x, false, false, false) := by
  simp only [aluRes, BitVec.slt, decide_eq_true_eq, ite_lt_eq_ite_le fun h => (BitVec.eq_of_toInt_eq (x := x) (y := y) h).symm]

theorem aluRes_minu (x y : Word) (c : Bool) : aluRes .minu x y c = (if x.toNat ≤ y.toNat then x else y, false, false, false) := by
  simp only [aluRes, BitVec.ult, decide_eq_true_eq, ite_lt_eq_ite_le (BitVec.eq_of_toNat_eq (x := x) (y := y))]

theorem aluRes_maxu (x y : Word) (c : Bool) : aluRes .maxu x y c = (if x.toNat ≤ y.toNat then y else x, false, false, false) := by
  simp only [aluRes, BitVec.ult, decide_eq_true_eq, ite_lt_eq_ite_le fun h => (BitVec.eq_of_toNat_eq (x := x) (y := y) h).symm]

/-! ## The writes of a two-register operation -/

section
variable {k : Core} {o : AluOp} {rd rs1 rs2 : Nat} {v : Word} {carry ovf sat : Bool}

/-- With F the flags are written, without it they stay. -/
theorem Core.writes_alu (f : Bool) (h : aluRes o (k.gr rs1) (k.gr rs2) (k.stBit stC) = (v, carry, ovf, false)) :
    k.mOp (.alu o f rd rs1 rs2) (k.xyOp (.alu o f rd rs1 rs2) Writes.none)
      = { Writes.none.addG rd v with cv := if f then some (carry, ovf) else none } := by
  cases f <;> simp [Core.mOp, Core.xyOp, h, Writes.addG, Writes.none]

/-- An operation that takes no F writes its result, and SAT where it saturated. -/
theorem Core.writes_aluSat (h : aluRes o (k.gr rs1) (k.gr rs2) (k.stBit stC) = (v, false, false, sat)) :
    k.mOp (.alu o false rd rs1 rs2) (k.xyOp (.alu o false rd rs1 rs2) Writes.none) = { Writes.none.addG rd v with sat := sat } := by
  simp [Core.mOp, Core.xyOp, h, Writes.addG, Writes.none]

theorem Core.writes_aluPlain (h : aluRes o (k.gr rs1) (k.gr rs2) (k.stBit stC) = (v, false, false, false)) :
    k.mOp (.alu o false rd rs1 rs2) (k.xyOp (.alu o false rd rs1 rs2) Writes.none) = Writes.none.addG rd v :=
  Core.writes_aluSat h

end

/-- Settles O25: one bullet for each operation, in the order of the statement; `y` is the syllable the row issues, and a group of one
syllable is the framing of notes/assumptions/50.md. -/
theorem aluComplete : Obligations.AluComplete := by
  refine ⟨?_, ?_, ?_, ?_, ?_, ?_, ?_, ?_, ?_, ?_, ?_, ?_, ?_, ?_, ?_, ?_, ?_, ?_⟩
  · intro s c y pr f rd rs1 rs2 hm he hp
    exact exec_registerOp (y := ⟨xy y, pr, .alu .add f rd rs1 rs2⟩) rfl hm he hp rfl (Core.writes_alu f (aluRes_add _ _ _))
  · intro s c y pr f rd rs1 rs2 hm he hp
    exact exec_registerOp (y := ⟨xy y, pr, .alu .sub f rd rs1 rs2⟩) rfl hm he hp rfl (Core.writes_alu f (aluRes_sub _ _ _))
  · intro s c y pr f rd rs1 rs2 hm he hp
    exact exec_registerOp (y := ⟨xy y, pr, .alu .adc f rd rs1 rs2⟩) rfl hm he hp rfl (Core.writes_alu f (aluRes_adc _ _ _))
  · intro s c y pr f rd rs1 rs2 hm he hp
    exact exec_registerOp (y := ⟨xy y, pr, .alu .sbc f rd rs1 rs2⟩) rfl hm he hp rfl (Core.writes_alu f (aluRes_sbc _ _ _))
  · intro s c y pr rd rs1 rs2 hm he hp
    exact exec_registerOp (y := ⟨xy y, pr, .alu .adds false rd rs1 rs2⟩) rfl hm he hp rfl (Core.writes_aluSat (aluRes_adds _ _ _))
  · intro s c y pr rd rs1 rs2 hm he hp
    exact exec_registerOp (y := ⟨xy y, pr, .alu .subs false rd rs1 rs2⟩) rfl hm he hp rfl (Core.writes_aluSat (aluRes_subs _ _ _))
  · intro s c y pr rd rs1 rs2 hm he hp
    exact exec_registerOp (y := ⟨xy y, pr, .alu .and false rd rs1 rs2⟩) rfl hm he hp rfl (Core.writes_aluPlain rfl)
  · intro s c y pr rd rs1 rs2 hm he hp
    exact exec_registerOp (y := ⟨xy y, pr, .alu .or false rd rs1 rs2⟩) rfl hm he hp rfl (Core.writes_aluPlain rfl)
  · intro s c y pr rd rs1 rs2 hm he hp
    exact exec_registerOp (y := ⟨xy y, pr, .alu .xor false rd rs1 rs2⟩) rfl hm he hp rfl (Core.writes_aluPlain rfl)
  · intro s c y pr rd rs1 rs2 hm he hp
    exact exec_registerOp (y := ⟨xy y, pr, .alu .andn false rd rs1 rs2⟩) rfl hm he hp rfl (Core.writes_aluPlain rfl)
  · intro s c y pr rd rs1 rs2 hm he hp
    exact exec_registerOp (y := ⟨xy y, pr, .alu .shl false rd rs1 rs2⟩) rfl hm he hp rfl (Core.writes_aluPlain rfl)
  · intro s c y pr rd rs1 rs2 hm he hp
    exact exec_registerOp (y := ⟨xy y, pr, .alu .shr false rd rs1 rs2⟩) rfl hm he hp rfl (Core.writes_aluPlain rfl)
  · intro s c y pr rd rs1 rs2 hm he hp
    exact exec_registerOp (y := ⟨xy y, pr, .alu .sar false rd rs1 rs2⟩) rfl hm he hp rfl (Core.writes_aluPlain rfl)
  · intro s c y pr rd rs1 rs2 hm he hp
    exact exec_registerOp (y := ⟨xy y, pr, .alu .ror false rd rs1 rs2⟩) rfl hm he hp rfl (Core.writes_aluPlain rfl)
  · intro s c y pr rd rs1 rs2 hm he hp
    exact exec_registerOp (y := ⟨xy y, pr, .alu .min false rd rs1 rs2⟩) rfl hm he hp rfl (Core.writes_aluPlain (aluRes_min _ _ _))
  · intro s c y pr rd rs1 rs2 hm he hp
    exact exec_registerOp (y := ⟨xy y, pr, .alu .max false rd rs1 rs2⟩) rfl hm he hp rfl (Core.writes_aluPlain (aluRes_max _ _ _))
  · intro s c y pr rd rs1 rs2 hm he hp
    exact exec_registerOp (y := ⟨xy y, pr, .alu .minu false rd rs1 rs2⟩) rfl hm he hp rfl (Core.writes_aluPlain (aluRes_minu _ _ _))
  · intro s c y pr rd rs1 rs2 hm he hp
    exact exec_registerOp (y := ⟨xy y, pr, .alu .maxu false rd rs1 rs2⟩) rfl hm he hp rfl (Core.writes_aluPlain (aluRes_maxu _ _ _))

end Sys2Proof.Machine
end

section
/-! PROOFS. O26: the other operations of the X and Y units, those with an immediate among them, at a plain boundary
(15_strand_instructions.md R393 to R397). -/

namespace Sys2Proof.Machine

/-! ## Immediates -/

/-- A shift distance survives its way through a word. -/
theorem toNat_wordOfInt_shift (sh : Fin 32) : (wordOfInt (sh.val : Nat)).toNat % 32 = sh := by
  have := sh.isLt
  simp [wordOfInt]

/-- A signed compare with an immediate compares with the immediate's own value. -/
theorem compare_lt_imm9 (x : Word) (imm : BitVec 9) : compare .lt x (wordOfInt imm.toInt) = decide (x.toInt < imm.toInt) := by
  have hext : (wordOfInt imm.toInt).toInt = imm.toInt := BitVec.toInt_signExtend_of_le (x := imm) (by decide)
  simp only [compare, BitVec.slt, hext]

/-- MOVH moves the old value up by 14 bits and fills them with the immediate. -/
theorem movh_word (x : Word) (imm : BitVec 14) : BitVec.ofNat 32 (x.toNat * 2 ^ 14 + imm.toNat) = x <<< 14 ||| imm.setWidth 32 := by
  have hor : x.toNat * 2 ^ 14 + imm.toNat = x.toNat <<< 14 ||| imm.toNat := by
    rw [← Nat.shiftLeft_add_eq_or_of_lt imm.isLt, Nat.shiftLeft_eq]
  apply BitVec.eq_of_toNat_eq
  rw [hor, BitVec.toNat_ofNat, BitVec.toNat_or, BitVec.toNat_shiftLeft, BitVec.toNat_setWidth, Nat.or_mod_two_pow]

/-! ## The writes of an operation with an immediate -/

section
variable {k : Core} {rd pd rs1 : Nat} {imm : Int} {v : Word}

theorem Core.writes_alui {o : AluOp} (h : (aluRes o (k.gr rs1) (wordOfInt imm) false).1 = v) :
    k.mOp (.alui o rd rs1 imm) (k.xyOp (.alui o rd rs1 imm) Writes.none) = Writes.none.addG rd v := by
  subst h
  rfl

theorem Core.writes_cmpi {o : CmpOp} {b : Bool} (h : compare o (k.gr rs1) (wordOfInt imm) = b) :
    k.mOp (.cmpi o pd rs1 imm) (k.xyOp (.cmpi o pd rs1 imm) Writes.none) = { Writes.none with p := [(pd, b)] } := by
  subst h
  rfl

end

/-- Settles O26: one bullet for each operation, in the order of the statement; `y` is the syllable the row issues. -/
theorem dataOpsComplete : Obligations.DataOpsComplete := by
  refine ⟨?_, ?_, ?_, ?_, ?_, ?_, ?_, ?_, ?_, ?_, ?_, ?_, ?_, ?_, ?_, ?_, ?_, ?_, ?_, ?_, ?_, ?_, ?_, ?_, ?_, ?_, ?_, ?_, ?_, ?_, ?_⟩
  · intro s c y pr rd rs1 hm he hp
    exact exec_registerOp (y := ⟨xy y, pr, .clz rd rs1⟩) rfl hm he hp rfl rfl
  · intro s c y pr rd rs1 rs2 hm he hp
    exact exec_registerOp (y := ⟨xy y, pr, .perm rd rs1 rs2⟩) rfl hm he hp rfl rfl
  · intro s c y pr rd rs1 rs2 hm he hp
    exact exec_registerOp (y := ⟨xy y, pr, .bfx false rd rs1 rs2⟩) rfl hm he hp rfl rfl
  · intro s c y pr rd rs1 rs2 hm he hp
    exact exec_registerOp (y := ⟨xy y, pr, .bfx true rd rs1 rs2⟩) rfl hm he hp rfl rfl
  · intro s c y pr rd rs1 rs2 hm he hp
    exact exec_registerOp (y := ⟨xy y, pr, .bfi rd rs1 rs2⟩) rfl hm he hp rfl rfl
  · intro s c y pr p rd rs1 rs2 hm he hp
    exact exec_registerOp (y := ⟨xy y, pr, .sel p rd rs1 rs2⟩) rfl hm he hp rfl rfl
  · intro s c y pr pd rs1 rs2 hm he hp
    exact exec_registerOp (y := ⟨xy y, pr, .cmp .eq pd rs1 rs2⟩) rfl hm he hp rfl rfl
  · intro s c y pr pd rs1 rs2 hm he hp
    exact exec_registerOp (y := ⟨xy y, pr, .cmp .ne pd rs1 rs2⟩) rfl hm he hp rfl rfl
  · intro s c y pr pd rs1 rs2 hm he hp
    exact exec_registerOp (y := ⟨xy y, pr, .cmp .lt pd rs1 rs2⟩) rfl hm he hp rfl rfl
  · intro s c y pr pd rs1 rs2 hm he hp
    exact exec_registerOp (y := ⟨xy y, pr, .cmp .ltu pd rs1 rs2⟩) rfl hm he hp rfl rfl
  · intro s c y pr pd rs1 rs2 hm he hp
    exact exec_registerOp (y := ⟨xy y, pr, .cmp .le pd rs1 rs2⟩) rfl hm he hp rfl rfl
  · intro s c y pr pd rs1 rs2 hm he hp
    exact exec_registerOp (y := ⟨xy y, pr, .cmp .leu pd rs1 rs2⟩) rfl hm he hp rfl rfl
  · intro s c y pr pd ps1 ps2 tbl hm he hp
    exact exec_registerOp (y := ⟨xy y, pr, .plog pd ps1 ps2 tbl⟩) rfl hm he hp rfl rfl
  · intro s c y pr f idx rs1 hm he hp
    exact exec_registerOp (y := ⟨xy y, pr, .mvtx f idx rs1⟩) rfl hm he hp rfl rfl
  · intro s c y pr rd f idx hm he hp
    exact exec_registerOp (y := ⟨xy y, pr, .mvfx rd f idx⟩) rfl hm he hp rfl rfl
  · intro s c y pr r rs1 hm he hp hr
    exact exec_registerOp (y := ⟨xy y, pr, .mvts r rs1⟩) rfl hm he hp rfl (by cases r with
      | trapInfo => exact absurd rfl hr
      | rpt | dsp | status => rfl)
  · intro s c y pr rd r hm he hp
    exact exec_registerOp (y := ⟨xy y, pr, .mvfs rd r⟩) rfl hm he hp rfl (by cases r <;> rfl)
  · intro s c y pr rd rs1 imm hm he hp
    exact exec_registerOp (y := ⟨xy y, pr, .alui .add rd rs1 imm.toInt⟩) rfl hm he hp rfl (Core.writes_alui (congrArg Prod.fst (aluRes_add _ _ _)))
  · intro s c y pr rd rs1 imm hm he hp
    exact exec_registerOp (y := ⟨xy y, pr, .alui .and rd rs1 imm.toInt⟩) rfl hm he hp rfl (Core.writes_alui rfl)
  · intro s c y pr rd rs1 imm hm he hp
    exact exec_registerOp (y := ⟨xy y, pr, .alui .or rd rs1 imm.toInt⟩) rfl hm he hp rfl (Core.writes_alui rfl)
  · intro s c y pr rd rs1 imm hm he hp
    exact exec_registerOp (y := ⟨xy y, pr, .alui .xor rd rs1 imm.toInt⟩) rfl hm he hp rfl (Core.writes_alui rfl)
  · intro s c y pr rd rs1 sh hm he hp
    exact exec_registerOp (y := ⟨xy y, pr, .alui .shl rd rs1 (sh.val : Nat)⟩) rfl hm he hp rfl (Core.writes_alui (congrArg (fun d => _ <<< d) (toNat_wordOfInt_shift sh)))
  · intro s c y pr rd rs1 sh hm he hp
    exact exec_registerOp (y := ⟨xy y, pr, .alui .shr rd rs1 (sh.val : Nat)⟩) rfl hm he hp rfl (Core.writes_alui (congrArg (fun d => _ >>> d) (toNat_wordOfInt_shift sh)))
  · intro s c y pr rd rs1 sh hm he hp
    exact exec_registerOp (y := ⟨xy y, pr, .alui .sar rd rs1 (sh.val : Nat)⟩) rfl hm he hp rfl (Core.writes_alui (congrArg ((BitVec.sshiftRight _)) (toNat_wordOfInt_shift sh)))
  · intro s c y pr rd rs1 pos width hm he hp
    exact exec_registerOp (y := ⟨xy y, pr, .bfxi rd rs1 pos (width + 1)⟩) rfl hm he hp rfl rfl
  · intro s c y pr rd rs1 pos width hm he hp
    exact exec_registerOp (y := ⟨xy y, pr, .bfii rd rs1 pos (width + 1)⟩) rfl hm he hp rfl rfl
  · intro s c y pr pd rs1 imm hm he hp
    exact exec_registerOp (y := ⟨xy y, pr, .cmpi .eq pd rs1 imm.toInt⟩) rfl hm he hp rfl rfl
  · intro s c y pr pd rs1 imm hm he hp
    exact exec_registerOp (y := ⟨xy y, pr, .cmpi .lt pd rs1 imm.toInt⟩) rfl hm he hp rfl (Core.writes_cmpi (compare_lt_imm9 _ imm))
  · intro s c y pr pd rs1 imm hm he hp
    exact exec_registerOp (y := ⟨xy y, pr, .cmpi .ltu pd rs1 imm.toInt⟩) rfl hm he hp rfl rfl
  · intro s c y pr rd imm hm he hp
    exact exec_registerOp (y := ⟨xy y, pr, .movi rd imm.toInt⟩) rfl hm he hp rfl rfl
  · intro s c y pr rd imm hm he hp
    exact exec_registerOp (y := ⟨xy y, pr, .movh rd imm.toNat⟩) rfl hm he hp rfl (congrArg (Writes.none.addG rd) (movh_word _ imm))

end Sys2Proof.Machine
end

section
/-! PROOFS. O46: an operation whose guard reads 0 (15_strand_instructions.md R392). Its group has no syllable that acts, so it neither traps
nor waits, and leaves the core at the next word. -/

namespace Sys2Proof.Machine

section
variable {s : State} {c : Nat} {y : Syl}

/-- The address that a group without a pending transfer goes on to. -/
theorem slotPass_nil (next : Nat) : slotPass [] next = ([], next, none) := rfl

/-- A group of one operation whose guard reads 0 does not trap, unless it sets up a REP body that may not stand there. -/
theorem groupFault_unguarded {a n : Nat} (hjumps : (s.m.core c).jumps = []) (hguard : (s.m.core c).pred y.pr = false)
    (hlegal : illegal [.ok y] = none)
    (hbody : y.op.isRep = true → ((sylsOf (fetchAt s.m s.mem c n).decs).any fun z => z.op.rptWriter) = false) :
    groupFault c ⟨a, n, [.ok y], none⟩ 0 s = none := by
  have hsyls : sylsOf [.ok y] = [y] := rfl
  simp only [groupFault, hlegal, hsyls, hjumps, slotPass_nil, List.filter_cons, hguard]
  simpa using fun (_ : (s.m.core c).rep = none) hrep => List.any_eq_false.1 (hbody hrep)

/-- A group of one operation whose guard reads 0 leaves its core at the next word, with nothing written. -/
theorem runGroup_unguarded (hp : s.m.plain c = true) (hguard : (s.m.core c).pred y.pr = false) :
    runGroup c ⟨(s.m.core c).pc, (s.m.core c).nextWord, [y]⟩ s = s.grouped c id Writes.none := by
  obtain ⟨-, hstall, -, -, hjumps, hrep, hdoze, hirq⟩ := (plain_iff _ _).1 hp
  simp only [runGroup, List.filter_cons, hguard, Bool.false_eq_true, if_false, List.filter_nil, List.foldl_nil, List.any_nil,
    List.findSome?_nil, framesAfter, commit_same _ _ hstall]
  rw [leave_plain (by simp [hrep]) (by simp [hjumps]), groupEnds_plain hirq (by simp [hdoze])]
  rfl

theorem issueReady_unguarded {g : Group} (hg : g.syls = [y]) (hguard : (s.m.core c).pred y.pr = false) :
    issueReady c g s = runGroup c g s := by
  have hready : (s.m.core c).waits [y] = .ready := by simp [Core.waits, hguard]
  rw [issueReady, hg, hready]

/-- An operation whose guard reads 0 does nothing but pass. -/
theorem issueOp_unguarded (hm : s.m.mainOff = false) (hp : s.m.plain c = true) (hguard : (s.m.core c).pred y.pr = false)
    (hlegal : illegal [.ok y] = none)
    (hbody : y.op.isRep = true →
      ((sylsOf (fetchAt s.m s.mem c (s.m.core c).nextWord).decs).any fun z => z.op.rptWriter) = false) :
    issueOp c y s = s.grouped c id Writes.none := by
  obtain ⟨-, -, -, -, hjumps, -⟩ := (plain_iff _ _).1 hp
  rw [issueOp_plain hm hp (groupFault_unguarded hjumps hguard hlegal hbody), issueReady_unguarded rfl hguard,
    runGroup_unguarded hp hguard]

end

/-! ## A guard that a compare writes -/

theorem getLsbD_two_pow (w i j : Nat) : (BitVec.ofNat w (2 ^ i)).getLsbD j = (decide (j < w) && decide (i = j)) := by
  rw [BitVec.getLsbD_ofNat, Nat.testBit_two_pow]

theorem Core.pred_setP_self (k : Core) {i : Nat} (b : Bool) (hi : i % 8 ≠ 0) : (k.setP i b).pred i = b := by
  have hlt : i % 8 < 8 := Nat.mod_lt _ (by decide)
  cases b <;>
    simp only [Core.setP, Core.pred, hi, hlt, if_true, if_false, Bool.false_eq_true, decide_false, decide_true, Bool.false_or,
      BitVec.getLsbD_or, BitVec.getLsbD_and, BitVec.getLsbD_not, getLsbD_two_pow, Bool.and_true, Bool.or_true, Bool.not_true, Bool.and_false]

theorem Core.pred_commit_one (k : Core) {i : Nat} (b : Bool) (hi : i % 8 ≠ 0) :
    (k.commit { Writes.none with p := [(i, b)] }).pred i = b :=
  Core.pred_setP_self (k := Core.landDue _ _) b hi

/-- Settles O46. A group of one syllable is the framing of notes/assumptions/50.md. -/
theorem guardZeroDoesNothing : Obligations.GuardZeroDoesNothing :=
  ⟨fun _ _ _ => issueOp_unguarded, fun k _ b hi => k.pred_commit_one b hi⟩

end Sys2Proof.Machine
end

section
/-! PROOFS. O47 and O48: what PERM, BFX, BFXS and BFI write, byte by byte and bit by bit (15_strand_instructions.md R394, R395). -/

namespace Sys2Proof.Machine

/-! ## A register operation whose guard reads 1 -/

theorem Core.guarded_true {k : Core} {pr : Nat} (w : Writes) (h : k.pred pr = true) : k.guarded pr w = w := if_pos h

/-- A row that issues a register operation under a guard that reads 1. -/
theorem exec_registerOp_true {i : Instr} {s : State} {c : Fin 6} {y : Syl} {w : Writes}
    (hrow : exec i s = onRun (onState fun t => issueOp c y t) s) (hm : s.m.mainOff = false)
    (hentering : s.m.entering = false) (hp : s.m.plain c = true) (hguard : (s.m.core c).pred y.pr = true) (hstill : y.op.still = true)
    (hw : (s.m.core c).mOp y.op ((s.m.core c).xyOp y.op Writes.none) = w) :
    exec i s = .next (s.afterState (s.grouped c id w)) := by
  rw [exec_registerOp hrow hm hentering hp hstill hw, Core.guarded_true w hguard]

/-! ## PERM (R394) -/

/-- The byte that a selector of PERM names. -/
def permByte (x old : Word) (q : Nat) : Nat :=
  if q ≤ 3 then x.toNat / 256 ^ q % 256
  else if q ≤ 7 then old.toNat / 256 ^ (q - 4) % 256
  else if q = 9 then 255
  else if q = 10 ∧ x.getLsbD 31 = true then 255
  else 0

theorem permByte_lt (x old : Word) (q : Nat) : permByte x old q < 256 := by
  unfold permByte
  split_ifs <;> omega

/-- PERM puts the four named bytes together. -/
theorem perm_eq (x old sel : Word) :
    perm x old sel = BitVec.ofNat 32 (permByte x old (sel.toNat / 16 ^ 0 % 16) + 256 * permByte x old (sel.toNat / 16 ^ 1 % 16)
      + 65536 * permByte x old (sel.toNat / 16 ^ 2 % 16) + 16777216 * permByte x old (sel.toNat / 16 ^ 3 % 16)) := by
  have hbyte (q : Nat) : (if q < 4 then x.toNat / 256 ^ q % 256 else if q < 8 then old.toNat / 256 ^ (q - 4) % 256
      else if q = 9 then 255 else if q = 10 then (if x.getLsbD 31 then 255 else 0) else 0) = permByte x old q := by
    simp only [permByte, ite_and, show q < 4 ↔ q ≤ 3 from Nat.lt_succ_iff, show q < 8 ↔ q ≤ 7 from Nat.lt_succ_iff]
  simp only [perm, hbyte]

/-- Each byte of a word put together from four bytes. -/
theorem byte_of_four {b0 b1 b2 b3 : Nat} (h0 : b0 < 256) (h1 : b1 < 256) (h2 : b2 < 256) (h3 : b3 < 256) :
    let n := (BitVec.ofNat 32 (b0 + 256 * b1 + 65536 * b2 + 16777216 * b3)).toNat
    n / 256 ^ 0 % 256 = b0 ∧ n / 256 ^ 1 % 256 = b1 ∧ n / 256 ^ 2 % 256 = b2 ∧ n / 256 ^ 3 % 256 = b3 := by
  simp only [BitVec.toNat_ofNat]
  omega

/-- Byte `b` of PERM's result is the one that selector `b` names. -/
theorem perm_byte (x old sel : Word) {b : Nat} (hb : b < 4) :
    (perm x old sel).toNat / 256 ^ b % 256 = permByte x old (sel.toNat / 16 ^ b % 16) := by
  rw [perm_eq]
  obtain ⟨e0, e1, e2, e3⟩ := byte_of_four (permByte_lt x old (sel.toNat / 16 ^ 0 % 16)) (permByte_lt x old (sel.toNat / 16 ^ 1 % 16))
    (permByte_lt x old (sel.toNat / 16 ^ 2 % 16)) (permByte_lt x old (sel.toNat / 16 ^ 3 % 16))
  interval_cases b <;> assumption

/-- Settles O47. -/
theorem permSelects : Obligations.PermSelects := by
  intro s c y pr rd rs1 rs2 hm hentering hp hguard
  exact ⟨_, exec_registerOp_true (y := ⟨xy y, pr, .perm rd rs1 rs2⟩) rfl hm hentering hp hguard rfl rfl, fun _ hb => perm_byte _ _ _ hb⟩

/-! ## Bit fields (R395) -/

/-- A field that is cut short by bit 31 is as wide as what is left of the word. -/
theorem lt_fieldWidth {pos width i : Nat} : i < fieldWidth pos width ↔ i < min 32 width ∧ pos + i < 32 := by
  unfold fieldWidth
  omega

theorem testBit_field (x : Word) (pos w i : Nat) :
    (x.toNat / 2 ^ pos % 2 ^ w).testBit i = (decide (i < w) && x.getLsbD (pos + i)) := by
  rw [Nat.testBit_mod_two_pow, Nat.testBit_div_two_pow, Nat.add_comm, BitVec.getLsbD]

/-- BFX: the bits of the field, and 0 above it. -/
theorem extract_unsigned_bit (x : Word) (pos width : Nat) {i : Nat} (hi : i < 32) :
    (extract false x pos width).getLsbD i = (decide (i < min 32 width) && x.getLsbD (pos + i)) := by
  simp only [extract, Bool.false_and, Bool.false_eq_true, if_false, BitVec.getLsbD_ofNat, hi, decide_true, Bool.true_and,
    testBit_field, lt_fieldWidth]
  by_cases hcut : pos + i < 32
  · simp only [hcut, and_true]
  · rw [BitVec.getLsbD_of_ge x _ (by omega), Bool.and_false, Bool.and_false]

/-- The sign extension of a number of `w` bits: its own bits, and above them the bits of a run of ones. -/
theorem testBit_ones_above {v w i : Nat} (hv : v < 2 ^ w) (hw : w ≤ 32) (hi : i < 32) :
    (v + 2 ^ 32 - 2 ^ w).testBit i = if i < w then v.testBit i else true := by
  have hpow : 2 ^ 32 = 2 ^ w * 2 ^ (32 - w) := by rw [← Nat.pow_add]; congr 1; omega
  have hones : v + 2 ^ 32 - 2 ^ w = 2 ^ w * (2 ^ (32 - w) - 1) + v := by
    have : 2 ^ w ≤ 2 ^ w * 2 ^ (32 - w) := Nat.le_mul_of_pos_right _ (Nat.two_pow_pos _)
    rw [hpow, Nat.mul_sub, Nat.mul_one]
    omega
  rw [hones, Nat.testBit_two_pow_mul_add _ hv, Nat.testBit_two_pow_sub_one]
  by_cases h : i < w
  · rw [if_pos h, if_pos h]
  · rw [if_neg h, if_neg h, decide_eq_true (by omega)]

/-- BFXS: the bits of the field, and its sign above it. -/
theorem extract_signed_bit (x : Word) {pos : Nat} (width : Nat) (hpos : pos < 32) {i : Nat} (hi : i < 32) :
    (extract true x pos width).getLsbD i = if i < min (min 32 width) (32 - pos) then x.getLsbD (pos + i)
      else decide (0 < min 32 width) && x.getLsbD (min (pos + min 32 width) 32 - 1) := by
  have hwidth : fieldWidth pos width = min (min 32 width) (32 - pos) := by unfold fieldWidth; omega
  generalize hw : min (min 32 width) (32 - pos) = w at *
  have hfield : (x.toNat / 2 ^ pos % 2 ^ w) < 2 ^ w := Nat.mod_lt _ (Nat.two_pow_pos _)
  have hpositive : decide (0 < min 32 width) = decide (0 < w) := decide_eq_decide.2 (by omega)
  simp only [extract, hwidth, hpositive, Bool.true_and]
  rcases Nat.eq_zero_or_pos w with hzero | hposw
  · simp [hzero, Nat.mod_one]
  have htop : min (pos + min 32 width) 32 - 1 = pos + (w - 1) := by omega
  have hsign : (x.toNat / 2 ^ pos % 2 ^ w).testBit (w - 1) = x.getLsbD (pos + (w - 1)) := by
    rw [testBit_field, decide_eq_true (by omega), Bool.true_and, BitVec.getLsbD]
  rw [htop, hsign]
  cases hneg : x.getLsbD (pos + (w - 1)) with
  | true =>
    rw [if_pos (by simp [hposw]), BitVec.getLsbD_ofNat, testBit_ones_above hfield (by omega) hi, testBit_field]
    by_cases hin : i < w <;> simp [hi, hin, hposw]
  | false =>
    rw [if_neg (by simp), BitVec.getLsbD_ofNat, testBit_field]
    by_cases hin : i < w <;> simp [hi, hin]

/-- BFI: the bits of the field come from the operand, the others stay. -/
theorem insertField_bit (old x : Word) {pos : Nat} (width : Nat) (hpos : pos < 32) {i : Nat} (hi : i < 32) :
    (insertField old x pos width).getLsbD i = if pos ≤ i ∧ i < pos + min 32 width then x.getLsbD (i - pos) else old.getLsbD i := by
  cases hw : fieldWidth pos width with
  | zero =>
    have hempty : ¬ (pos ≤ i ∧ i < pos + min 32 width) := by unfold fieldWidth at hw; omega
    simp [insertField, hw, hempty, Nat.mod_one, Nat.mod_add_div']
  | succ w =>
    have hput : insertField old x pos width = (⟨0, pos + w, pos⟩ : Fld).put old x.toNat := by
      simp only [insertField, hw, Fld.put, Nat.add_assoc, Nat.add_sub_cancel_left]
    have hrange : (pos ≤ i ∧ i ≤ pos + w) ↔ (pos ≤ i ∧ i < pos + min 32 width) := by unfold fieldWidth at hw; omega
    rw [hput, Fld.getLsbD_put _ _ _ _ (Nat.le_add_right _ _) hi]
    simp only [hrange, BitVec.getLsbD]

/-- Settles O48. -/
theorem fieldBits : Obligations.FieldBits := by
  refine ⟨?_, ?_⟩
  · intro s c y pr rd rs1 rs2 hm hentering hp hguard
    have hpos : ((s.m.core c).gr rs2).toNat % 32 < 32 := Nat.mod_lt _ (by decide)
    exact ⟨⟨_, exec_registerOp_true (y := ⟨xy y, pr, .bfx false rd rs1 rs2⟩) rfl hm hentering hp hguard rfl rfl,
        fun _ hi => extract_unsigned_bit _ _ _ hi⟩,
      ⟨_, exec_registerOp_true (y := ⟨xy y, pr, .bfx true rd rs1 rs2⟩) rfl hm hentering hp hguard rfl rfl,
        fun _ hi => extract_signed_bit _ _ hpos hi⟩,
      ⟨_, exec_registerOp_true (y := ⟨xy y, pr, .bfi rd rs1 rs2⟩) rfl hm hentering hp hguard rfl rfl,
        fun _ hi => insertField_bit _ _ _ hpos hi⟩⟩
  · intro rd rs1 rs2 hrd
    exact if_neg hrd

end Sys2Proof.Machine
end

section
/-! PROOFS. What an operation of the L unit, or MACD, does at a plain boundary when its guard reads 1 and it neither traps nor waits
(14_strand_architecture.md R374 to R378, 15_strand_instructions.md R400 to R402): the lemmas that the statements about multiplies, the data
stack and stores share. -/

namespace Sys2Proof.Machine

/-! ## Local data memory -/

theorem ite_ne {α : Type} {p : Prop} [Decidable p] {x y z : α} (hx : x ≠ z) (hy : y ≠ z) : (if p then x else y) ≠ z := by
  split <;> assumption

theorem regionOf_dm {a : Nat} : regionOf a = some .dm ↔ 0x10000 ≤ a ∧ a < 0x20000 := by
  by_cases him : a < 0x10000
  · simp [regionOf, him]
  by_cases hdm : a < 0x20000
  · simp [regionOf, him, hdm]
    omega
  · simp only [hdm, and_false, iff_false]
    rw [regionOf, if_neg him, if_neg hdm]
    repeat' apply ite_ne
    all_goals decide

theorem inLocal_iff {a n : Nat} : inLocal a n = true ↔ regionOf a = some .dm ∧ a % n = 0 := by simp [inLocal]

/-- A byte of local data memory is no byte of a log. -/
theorem peekByte_local {m : Mach} {mem : Memory} {c a : Nat} (ha : a < 0x20000) : peekByte m mem c a = readByte mem (memKey c a) := by
  have hlow : ¬ 0x30060000 ≤ a := by omega
  have hlow' : ¬ 0x40900000 ≤ a := by omega
  simp [peekByte, Mach.logByte, hlow, hlow']

section
variable {s : State} {c : Nat} {x : Access}

/-- A load from local data memory reads its bytes, and nothing else happens. -/
theorem loadVal_local (hlocal : inLocal x.addr x.bytes = true) (hbytes : x.bytes = 1 ∨ x.bytes = 2 ∨ x.bytes = 4) :
    loadVal c x s = (s.localNum c x.addr x.bytes, s) := by
  obtain ⟨hdm, halign⟩ := inLocal_iff.1 hlocal
  obtain ⟨hlo, hhi⟩ := regionOf_dm.1 hdm
  have hnear : x.outside = false := by simp [Access.outside, hdm]
  have hbyte : ∀ i ∈ List.range x.bytes, peekByte s.m s.mem c (x.addr + i) = readByte s.mem (memKey c x.addr + i) := by
    intro i hi
    have hend : x.addr + i < 0x20000 := by
      have := List.mem_range.1 hi
      rcases hbytes with h | h | h <;> rw [h] at halign this <;> omega
    rw [peekByte_local hend, memKey, memKey, if_pos hend, if_pos hhi, ← Nat.add_assoc]
  have hread : readNow c x s = (s.localNum c x.addr x.bytes, s) := by
    simp [readNow, hdm, State.localNum, readBytes, List.map_congr_left hbyte]
  simp [loadVal, hnear, hread]

/-- A store takes its way by its region, except on a core that replays. -/
theorem storeVal_live (v : Word) (hlive : (s.m.core c).replay = false) : storeVal c x v s = s.stored c x.addr x.bytes v := by
  by_cases hdm : regionOf x.addr = some .dm <;> simp [storeVal, State.stored, Access.outside, hdm, hlive]

/-- Nothing buffered, nothing to drain. -/
theorem drainAll_empty (h : (s.m.core c).wbuf = []) : drainAll c s = s := by simp [drainAll, h]

end

/-! ## A group's register writes in stages

The results in flight land, then each kind of write follows; the write buffer takes no part in any of it. -/

def Core.setWbuf (b : List WStore) (k : Core) : Core := { k with wbuf := b }

/-- The late results of a group are in flight, and its number is taken. -/
def Core.launch (w : Writes) (k : Core) : Core :=
  { k with
    flight := k.flight ++ w.late.map (fun (q : Bool × Nat × BitVec 72) => (⟨k.issued + 3, q.1, q.2.1, q.2.2⟩ : Flight))
    issued := k.issued + 1 }

/-- A result in flight lands. -/
def Core.land (k : Core) (f : Flight) : Core :=
  if f.acc then { k with view := tput k.view 0 (f.reg % 2) f.val } else k.setG f.reg (f.val.setWidth 32)

/-- A chained accumulator takes its value. -/
def Core.chain (k : Core) (q : Nat × BitVec 72) : Core := { k with acc := tput k.acc 0 (q.1 % 2) q.2 }

/-- The special registers take their values. -/
def Core.special (w : Writes) (k : Core) : Core :=
  let st := match w.st with
    | some v => (k.status &&& 0x06#32) ||| (v &&& 0xE1#32)
    | none => k.status
  let st := match w.cv with
    | some (c, v) => setBit (setBit st stC c) stV v
    | none => st
  { k with status := if w.sat then setBit st stSAT true else st, rpt := w.rpt.getD k.rpt, dsp := w.dsp.getD k.dsp }

theorem Core.landDue_eq (n : Nat) (k : Core) :
    k.landDue n = (k.flight.filter fun f => decide (f.land ≤ n)).foldl Core.land
      { k with flight := k.flight.filter fun f => !decide (f.land ≤ n) } := rfl

theorem Core.commit_eq (w : Writes) (k : Core) :
    k.commit w = (w.acc.foldl Core.chain (w.p.foldl (fun k q => k.setP q.1 q.2) (w.x.foldl (fun k q => k.setX q.1 q.2.1 q.2.2)
      (w.g.foldl (fun k q => k.setG q.1 q.2) ((k.launch w).landDue (k.issued + 1)))))).special w := rfl

section
variable (k : Core) (b : List WStore)

theorem Core.setG_setWbuf (r : Nat) (v : Word) : (k.setWbuf b).setG r v = (k.setG r v).setWbuf b := by
  unfold Core.setG
  split <;> rfl

theorem Core.setX_setWbuf (f : RFile) (i : Nat) (v : Word) : (k.setWbuf b).setX f i v = (k.setX f i v).setWbuf b := by
  cases f <;> rfl

theorem Core.setP_setWbuf (i : Nat) (v : Bool) : (k.setWbuf b).setP i v = (k.setP i v).setWbuf b := by
  unfold Core.setP
  split <;> rfl

theorem Core.land_setWbuf (f : Flight) : (k.setWbuf b).land f = (k.land f).setWbuf b := by
  unfold Core.land
  split
  · rfl
  · exact k.setG_setWbuf b _ _

theorem foldl_setWbuf {α : Type} (f : Core → α → Core) (hf : ∀ k x, f (Core.setWbuf b k) x = (f k x).setWbuf b) (l : List α) :
    l.foldl f (k.setWbuf b) = (l.foldl f k).setWbuf b := List.foldl_hom (Core.setWbuf b) hf

theorem Core.landDue_setWbuf (n : Nat) : (k.setWbuf b).landDue n = (k.landDue n).setWbuf b :=
  foldl_setWbuf { k with flight := k.flight.filter fun f => !decide (f.land ≤ n) } b Core.land (fun k f => k.land_setWbuf b f) _

/-- The write buffer takes no part in a group's register writes. -/
theorem Core.commit_setWbuf (w : Writes) : (k.setWbuf b).commit w = (k.commit w).setWbuf b := by
  have hlaunch : (k.setWbuf b).launch w = (k.launch w).setWbuf b := rfl
  have hissued : (k.setWbuf b).issued = k.issued := rfl
  rw [Core.commit_eq, Core.commit_eq, hlaunch, hissued, Core.landDue_setWbuf, foldl_setWbuf _ b _ fun k q => k.setG_setWbuf b _ _,
    foldl_setWbuf _ b _ fun k q => k.setX_setWbuf b _ _ _, foldl_setWbuf _ b _ fun k q => k.setP_setWbuf b _ _,
    foldl_setWbuf _ b _ fun _ _ => rfl]
  rfl

end

/-! ## Groups that go on at the next word -/

/-- An operation behind which the core goes on at the next word: none of those of the C unit but NOP. -/
def SOp.onward : SOp → Bool
  | .br _ | .call _ | .brdec _ | .brr _ | .callr _ | .ret | .reti | .rep _ | .repr _ | .wait | .trap _ | .brk => false
  | _ => true

theorem onward_facts {op : SOp} (h : op.onward = true) :
    (∀ (k : Core) (a : Nat), cJump k a op = none) ∧ (∀ k : Core, repCount k op = none) ∧
    (∀ (m : Mach) (mem : Memory) (c : Nat) (k : Core) (a : Nat), cFault m mem c k a op = none) ∧
    op.isRep = false ∧ op.isBrdec = false ∧ op.isWait = false ∧ op.stackOp = none := by
  cases op with
  | br | call | brdec | brr | callr | ret | reti | rep | repr | wait | trap | brk => exact absurd h Bool.false_ne_true
  | _ => exact ⟨fun _ _ => rfl, fun _ => rfl, fun _ _ _ _ _ => rfl, rfl, rfl, rfl, rfl⟩

/-- An operation acts with the writes `w` and leaves machine and memory as `t` has them: it does not trap, waits for nothing, and changes
of its core the write buffer at most. -/
structure Acts (s : State) (c : Nat) (op : SOp) (w : Writes) (t : State) : Prop where
  sound : s.m.lFault c (s.m.core c) op false = none
  ready : ∀ unit pr : Nat, (s.m.core c).waits [⟨unit, pr, op⟩] = .ready
  effect : lEffect c (s.m.core c) op ((s.m.core c).mOp op ((s.m.core c).xyOp op Writes.none)) s = (w, t)
  core : ∃ b : List WStore, t.m.core c = (s.m.core c).setWbuf b
  irq : t.m.irqDue c = s.m.irqDue c

section
variable {s t : State} {c : Nat} {y : Syl} {w : Writes}

theorem groupFault_acts {n : Nat} (hon : y.op.onward = true) (hlegal : illegal [.ok y] = none)
    (hact : Acts s c y.op w t) : groupFault c ⟨(s.m.core c).pc, n, [.ok y], none⟩ 0 s = none := by
  obtain ⟨-, -, hc, hrep, -⟩ := onward_facts hon
  have hsyls : sylsOf [.ok y] = [y] := rfl
  cases hguard : (s.m.core c).pred y.pr <;>
    simp [groupFault, hlegal, hsyls, hguard, hrep, hc, hact.sound]

theorem runGroup_acts (hp : s.m.plain c = true) (hguard : (s.m.core c).pred y.pr = true) (hon : y.op.onward = true)
    (hact : Acts s c y.op w t) : runGroup c ⟨(s.m.core c).pc, (s.m.core c).nextWord, [y]⟩ s = t.grouped c id w := by
  obtain ⟨-, hstall, -, -, hjumps, hrep, hdoze, hirq⟩ := (plain_iff _ _).1 hp
  obtain ⟨hjump, hcount, -, -, hbrdec, hwait, hstack⟩ := onward_facts hon
  obtain ⟨b, hcore⟩ := hact.core
  have hirq' : t.m.irqDue c = 0 := hact.irq.trans hirq
  have hk : ({ (s.m.core c).commit w with frames := (s.m.core c).frames, wbuf := b, stall := none } : Core) = (t.m.core c).commit w := by
    rw [hcore, Core.commit_setWbuf, ← commit_same w _ hstall]
    rfl
  have hwbuf : ((s.m.core c).setWbuf b).wbuf = b := rfl
  simp only [runGroup, List.filter_cons, hguard, if_true, List.filter_nil, List.foldl_cons, List.foldl_nil, hact.effect, List.any_cons,
    List.any_nil, hbrdec, hwait, Bool.or_false, Bool.false_eq_true, if_false, List.findSome?_cons, List.findSome?_nil, hjump, hcount,
    framesAfter, hstack, hcore, hwbuf]
  have hpc : (s.m.core c).pc = (t.m.core c).pc := by rw [hcore]; rfl
  have hnext : (s.m.core c).nextWord = (t.m.core c).nextWord := by rw [hcore]; rfl
  have hrep' : ((t.m.core c).commit w).rep = none := by rw [commit_rep, hcore]; exact hrep
  have hjumps' : ((t.m.core c).commit w).jumps = [] := by rw [commit_jumps, hcore]; exact hjumps
  have hdoze' : ((t.m.core c).commit w).dozeReq = false := by rw [commit_dozeReq, hcore]; exact hdoze
  rw [hk, leave_plain hrep' hjumps', groupEnds_plain hirq' (by exact hdoze'), hpc, hnext]
  rfl

/-- An operation that acts at a plain boundary: its writes, and the next word. -/
theorem issueOp_acts (hm : s.m.mainOff = false) (hp : s.m.plain c = true) (hguard : (s.m.core c).pred y.pr = true)
    (hon : y.op.onward = true) (hlegal : illegal [.ok y] = none) (hact : Acts s c y.op w t) : issueOp c y s = t.grouped c id w := by
  have hready : issueReady c ⟨(s.m.core c).pc, (s.m.core c).nextWord, [y]⟩ s
      = runGroup c ⟨(s.m.core c).pc, (s.m.core c).nextWord, [y]⟩ s := by
    rw [issueReady, hact.ready y.unit y.pr]
  rw [issueOp_plain hm hp (groupFault_acts hon hlegal hact), hready, runGroup_acts hp hguard hon hact]

end

/-- A row that issues an operation which acts when its guard reads 1. -/
theorem exec_actingOp {i : Instr} {s t : State} {c : Fin 6} {y : Syl} {w : Writes}
    (hrow : exec i s = onRun (onState fun t => issueOp c y t) s) (hm : s.m.mainOff = false) (hentering : s.m.entering = false)
    (hp : s.m.plain c = true) (hon : y.op.onward = true) (hlegal : illegal [.ok y] = none)
    (hact : (s.m.core c).pred y.pr = true → Acts s c y.op w t) :
    exec i s = .next (s.afterState ((if (s.m.core c).pred y.pr then t else s).grouped c id ((s.m.core c).guarded y.pr w))) := by
  refine exec_issueOp hrow hm hentering ?_
  cases hguard : (s.m.core c).pred y.pr with
  | true =>
    rw [issueOp_acts hm hp hguard hon hlegal (hact hguard), Core.guarded_true w hguard]
    rfl
  | false =>
    obtain ⟨-, -, -, hrep, -⟩ := onward_facts hon
    rw [issueOp_unguarded hm hp hguard hlegal (by simp [hrep])]
    simp [Core.guarded, hguard]

/-! ## Traps and waits of an operation of the L unit -/

section
variable {s : State} {m : Mach} {k : Core} {c : Nat} {op : SOp}

/-- Away from the data stack, an operation whose accesses may be made does not trap. -/
theorem lFault_none (hpush : ∀ rd : Nat, op ≠ .push rd) (hpop : ∀ rd : Nat, op ≠ .pop rd)
    (hbus : ∀ x ∈ k.accs op, accFault c op x = none) : m.lFault c k op false = none := by
  have hfaults : (k.accs op).findSome? (fun x => (accFault c op x).map fun b => (2, b, x.addr)) = none :=
    List.findSome?_eq_none_iff.2 fun x hx => by rw [hbus x hx, Option.map_none]
  unfold Mach.lFault
  split
  · exact absurd rfl (hpush _)
  · exact absurd rfl (hpop _)
  · simp [hfaults]

/-- An operation waits for nothing whose accesses outside local data memory are stores that the write buffer has room for. -/
theorem waits_ready (hsync : op ≠ .sync) (hswap : ∀ rd i : Nat, op ≠ .swap rd i)
    (hfar : ∀ x ∈ k.accs op, x.outside = true → x.write = true ∧ k.wbuf.length < 4) (unit pr : Nat) :
    k.waits [⟨unit, pr, op⟩] = .ready := by
  have hloads : ((k.accs op).filter fun x => x.outside).filter (fun x => !x.write) = [] := by
    rw [List.filter_filter, List.filter_eq_nil_iff]
    intro x hx hout
    simp only [Bool.and_eq_true, Bool.not_eq_true'] at hout
    simp [(hfar x hx hout.2).1] at hout
  have hroom : 0 < ((k.accs op).filter fun x => x.write && x.outside).length → k.wbuf.length < 4 := by
    intro hpos
    obtain ⟨x, hx⟩ := List.exists_mem_of_length_pos hpos
    obtain ⟨hmem, hout⟩ := List.mem_filter.1 hx
    exact (hfar x hmem (Bool.and_eq_true_iff.1 hout).2).2
  cases hguard : k.pred pr with
  | false => simp [Core.waits, hguard]
  | true =>
    have hdrains : (match op with | .sync => true | .swap _ _ => true | _ => false) = false := by
      split
      · exact absurd rfl hsync
      · exact absurd rfl (hswap _ _)
      · rfl
    have hswaps : (match op with | .swap _ _ => true | _ => false) = false := by
      split
      · exact absurd rfl (hswap _ _)
      · rfl
    simpa [Core.waits, hguard, hdrains, hswaps, hloads, -List.length_filter_pos_iff] using fun hpos _ => hroom hpos

end

/-! ## What acting operations do -/

section
variable {s : State} {c : Nat} {op : SOp} {w : Writes}

/-- Operations other than SWAP and SYNC act with the loads and stores they make, where these do not trap, and every access outside local
data memory is a store that the write buffer has room for. -/
theorem acts_of_accesses {t : State} (hpush : ∀ rd : Nat, op ≠ .push rd) (hpop : ∀ rd : Nat, op ≠ .pop rd) (hsync : op ≠ .sync)
    (hswap : ∀ rd i : Nat, op ≠ .swap rd i) (hbus : ∀ x ∈ (s.m.core c).accs op, accFault c op x = none)
    (hfar : ∀ x ∈ (s.m.core c).accs op, x.outside = true → x.write = true ∧ (s.m.core c).wbuf.length < 4)
    (heffect : lEffect c (s.m.core c) op ((s.m.core c).mOp op ((s.m.core c).xyOp op Writes.none)) s = (w, t))
    (hcore : ∃ b : List WStore, t.m.core c = (s.m.core c).setWbuf b) (hirq : t.m.irqDue c = s.m.irqDue c) : Acts s c op w t :=
  ⟨lFault_none hpush hpop hbus, waits_ready hsync hswap hfar, heffect, hcore, hirq⟩

/-- The state itself, for an operation that makes no store. -/
theorem setWbuf_self (k : Core) : ∃ b : List WStore, k = k.setWbuf b := ⟨k.wbuf, rfl⟩

/-- An aligned access to local data memory may be made, whatever it is. -/
theorem accFault_local {x : Access} (hlocal : inLocal x.addr x.bytes = true) : accFault c op x = none := by
  obtain ⟨hdm, halign⟩ := inLocal_iff.1 hlocal
  unfold accFault
  rw [hdm]
  cases op <;> simp [halign, allowed]

theorem outside_of_local {x : Access} (hlocal : inLocal x.addr x.bytes = true) : x.outside = false := by
  simp [Access.outside, (inLocal_iff.1 hlocal).1]

end
end Sys2Proof.Machine
end

section
/-! PROOFS. O27: multiplies and accumulator operations at a plain boundary (15_strand_instructions.md R398, R399; 14_strand_architecture.md
R374). -/

namespace Sys2Proof.Machine

/-! ## Results (R398) -/

/-- A sum in an accumulator is the exact sum modulo 2^72. -/
theorem add_acc72 (a : BitVec 72) (i : Int) : a + acc72 i = BitVec.ofInt 72 (a.toInt + i) := by
  rw [BitVec.ofInt_add, BitVec.ofInt_toInt, acc72]

theorem halfOf_low (x : Word) : halfOf x false = (x.extractLsb' 0 16).toInt := by
  have hlow : x.setWidth 16 = x.extractLsb' 0 16 := by simp [BitVec.setWidth_eq_extractLsb']
  simp [halfOf, hlow]

theorem halfOf_high (x : Word) : halfOf x true = (x.extractLsb' 16 16).toInt := by
  have hhigh : (x >>> 16).setWidth 16 = x.extractLsb' 16 16 := by
    apply BitVec.eq_of_toNat_eq
    simp
  simp [halfOf, hhigh]

theorem machSum_eq (cross : Bool) (x y : Word) :
    machSum cross x y = if cross
      then (x.extractLsb' 0 16).toInt * (y.extractLsb' 16 16).toInt + (x.extractLsb' 16 16).toInt * (y.extractLsb' 0 16).toInt
      else (x.extractLsb' 0 16).toInt * (y.extractLsb' 0 16).toInt + (x.extractLsb' 16 16).toInt * (y.extractLsb' 16 16).toInt := by
  cases cross <;> simp [machSum, halfOf_low, halfOf_high]

/-- The value that MVFACC reads: rounded, shifted, and saturated where asked. -/
theorem accRead_eq (a : BitVec 72) (sh : Nat) (rnd sat : Bool) :
    let v : Int := (a.toInt + (if rnd && decide (0 < sh) then 2 ^ (sh - 1) else 0)) / 2 ^ sh
    accRead a sh rnd sat = if sat
      then (BitVec.ofInt 32 (max (-2147483648) (min 2147483647 v)), !(decide (-2147483648 ≤ v) && decide (v < 2147483648)))
      else (BitVec.ofInt 32 v, false) := by
  cases sat
  · rfl
  · exact sat32_eq _

section
variable {k : Core} {rd rs1 rs2 : Nat}

/-- The writes of a multiply: its result three groups later, and SAT where it saturated. -/
theorem Core.writes_mul {o : MulOp} {v : Word} {sat : Bool} (h : mulRes o (k.gr rs1) (k.gr rs2) = (v, sat)) :
    k.mOp (.mul o rd rs1 rs2) (k.xyOp (.mul o rd rs1 rs2) Writes.none) = { Writes.none.lateG rd v with sat := sat } := by
  simp [Core.mOp, Core.xyOp, h, Writes.lateG, Writes.none]

theorem mulRes_mul (x y : Word) : mulRes .mul x y = (x * y, false) := by
  have hprod : BitVec.ofNat 32 (x.toNat * y.toNat) = x * y := by apply BitVec.eq_of_toNat_eq; simp
  simp [mulRes, hprod]

end

/-! ## MACD (R399) -/

theorem illegal_macd {acc pr i j : Nat} {neg word : Bool} (hij : i ≠ j) : illegal [.ok ⟨2, pr, .macd acc neg word i j⟩] = none := by
  refine illegal_one rfl ?_
  simp [SOp.dests, twice, hij]

/-- MACD with both operands in local data memory acts: their product joins the accumulator, and both address registers move on. -/
theorem acts_macd {s : State} {c acc i j : Nat} {neg word : Bool}
    (hi : inLocal ((s.m.core c).ar i).toNat (if word then 4 else 2) = true)
    (hj : inLocal ((s.m.core c).ar j).toNat (if word then 4 else 2) = true) :
    let q := s.m.core c
    let b := if word then 4 else 2
    let x := signedOf b (s.localNum c (q.ar i).toNat b)
    let z := signedOf b (s.localNum c (q.ar j).toNat b)
    Acts s c (.macd acc neg word i j) { Writes.none.addAcc acc (BitVec.ofInt 72 ((q.accOf acc).toInt + (if neg then -(x * z) else x * z))) with
      x := [(.a, i, q.addrUp i), (.a, j, q.addrUp j)] } s := by
  intro q b x z
  have hbytes : b = 1 ∨ b = 2 ∨ b = 4 := by cases word <;> simp [b]
  have hload (k : Nat) (hk : inLocal (q.ar k).toNat b = true) :
      loadVal c ⟨(q.ar k).toNat, b, false⟩ s = (s.localNum c (q.ar k).toNat b, s) := loadVal_local hk hbytes
  have haccs : q.accs (.macd acc neg word i j) = [⟨(q.ar i).toNat, b, false⟩, ⟨(q.ar j).toNat, b, false⟩] := rfl
  have hlocal : ∀ y ∈ q.accs (.macd acc neg word i j), inLocal y.addr y.bytes = true := by
    simp [haccs, hi, hj, q, b]
  refine acts_of_accesses (by simp) (by simp) (by simp) (by simp) (fun y hy => accFault_local (hlocal y hy))
    (fun y hy hout => absurd hout (by simp [outside_of_local (hlocal y hy)])) ?_ (setWbuf_self _) rfl
  change lEffect c q _ _ s = _
  simp only [lEffect, haccs, List.headD_cons, hload i hi, hload j hj, Core.macdOp, add_acc72]
  rfl

/-- Settles O27: one bullet for each operation, in the order of the statement; `y` is the syllable the row issues. -/
theorem multipliesComplete : Obligations.MultipliesComplete := by
  refine ⟨?_, ?_, ?_, ?_, ?_, ?_, ?_, ?_, ?_, ?_⟩
  · intro s c pr rd rs1 rs2 hm he hp
    exact exec_registerOp (y := ⟨2, pr, .mul .mul rd rs1 rs2⟩) rfl hm he hp rfl (Core.writes_mul (mulRes_mul _ _))
  · intro s c pr rd rs1 rs2 hm he hp
    exact exec_registerOp (y := ⟨2, pr, .mul .mulh rd rs1 rs2⟩) rfl hm he hp rfl (Core.writes_mul rfl)
  · intro s c pr rd rs1 rs2 hm he hp
    exact exec_registerOp (y := ⟨2, pr, .mul .mulhu rd rs1 rs2⟩) rfl hm he hp rfl (Core.writes_mul rfl)
  · intro s c pr rd rs1 rs2 hm he hp
    exact exec_registerOp (y := ⟨2, pr, .mul .mulq rd rs1 rs2⟩) rfl hm he hp rfl (Core.writes_mul (sat32_eq _))
  · intro s c pr acc neg uns rs1 rs2 hm he hp
    exact exec_registerOp (y := ⟨2, pr, .mac acc neg uns false rs1 rs2⟩) rfl hm he hp rfl
      (congrArg (Writes.none.addAcc acc) (add_acc72 _ _))
  · intro s c pr acc neg uns rs1 rs2 hm he hp
    exact exec_registerOp (y := ⟨2, pr, .mac acc neg uns true rs1 rs2⟩) rfl hm he hp rfl
      (congrArg (Writes.none.addAcc acc) (add_acc72 0 _))
  · intro s c pr acc neg cross rs1 rs2 hm he hp
    exact exec_registerOp (y := ⟨2, pr, .mach acc neg cross rs1 rs2⟩) rfl hm he hp rfl (congrArg (Writes.none.addAcc acc)
      ((add_acc72 _ _).trans (by rw [machSum_eq])))
  · intro s c pr acc neg word ix j hm he hp hij hlocal
    refine (exec_actingOp (y := ⟨2, pr, .macd acc neg word ix j⟩) rfl hm he hp rfl (illegal_macd (Fin.val_ne_of_ne hij))
      fun hguard => acts_macd (hlocal hguard).1 (hlocal hguard).2).trans ?_
    rw [ite_self]
  · intro s c pr rd acc sh rnd sat hm he hp
    refine exec_registerOp (y := ⟨2, pr, .mvfacc rd acc sh rnd sat⟩) rfl hm he hp rfl ?_
    simp only [Core.mOp, Core.xyOp, accRead_eq]
    cases sat <;> rfl
  · intro s c pr acc rs1 sh hm he hp
    exact exec_registerOp (y := ⟨2, pr, .mvtacc acc rs1 sh⟩) rfl hm he hp rfl rfl

end Sys2Proof.Machine
end

section
/-! PROOFS. O29 and O49: stores, SWAP and SYNC, and the data stack (14_strand_architecture.md R376, R378; 15_strand_instructions.md R400 to
R402). -/

namespace Sys2Proof.Machine

section
variable {s : State} {c : Nat} {op : SOp} {w : Writes} {rd i a n : Nat} {v : Word}

/-! ## Stores (R400) -/

/-- A store changes of its core the write buffer at most. -/
theorem stored_core (s : State) (c a n : Nat) (v : Word) : ∃ b : List WStore, (s.stored c a n v).m.core c = (s.m.core c).setWbuf b := by
  unfold State.stored
  split
  · exact setWbuf_self _
  · exact ⟨(s.m.core c).wbuf ++ [⟨a, n, v⟩], Mach.core_modCore_self _ _ _⟩

theorem stored_irqDue (s : State) (c a n : Nat) (v : Word) : (s.stored c a n v).m.irqDue c = s.m.irqDue c := by
  unfold State.stored
  split <;> rfl

/-- An access to local data memory asks nothing of the write buffer. -/
theorem local_is_near {x : Access} (hlocal : inLocal x.addr x.bytes = true) (k : Core) :
    ∀ y ∈ [x], y.outside = true → y.write = true ∧ k.wbuf.length < 4 := by
  intro y hy hout
  obtain rfl := List.mem_singleton.1 hy
  simp [outside_of_local hlocal] at hout

/-- An operation of STO, STP and STX. -/
def SOp.isStore : SOp → Bool
  | .sto .. | .stp .. | .stx .. => true
  | _ => false

/-- A permitted store acts, where the write buffer has room or local data memory takes it. -/
theorem acts_store (hop : op.isStore = true) (hlive : (s.m.core c).replay = false) (haccs : (s.m.core c).accs op = [⟨a, n, true⟩])
    (heffect : lEffect c (s.m.core c) op ((s.m.core c).mOp op ((s.m.core c).xyOp op Writes.none)) s = (w, storeVal c ⟨a, n, true⟩ v s))
    (hpermitted : accFault c op ⟨a, n, true⟩ = none) (hroom : regionOf a = some .dm ∨ (s.m.core c).wbuf.length < 4) :
    Acts s c op w (s.stored c a n v) := by
  refine acts_of_accesses (by rintro _ rfl; simp [SOp.isStore] at hop) (by rintro _ rfl; simp [SOp.isStore] at hop)
    (by rintro rfl; simp [SOp.isStore] at hop) (by rintro _ _ rfl; simp [SOp.isStore] at hop) ?_ ?_ (heffect.trans (by rw [storeVal_live v hlive])) (stored_core _ _ _ _ _)
    (stored_irqDue _ _ _ _ _)
  · simpa [haccs] using hpermitted
  · rw [haccs]
    rintro x hx hout
    obtain rfl := List.mem_singleton.1 hx
    refine ⟨rfl, hroom.resolve_left fun hdm => ?_⟩
    simp [Access.outside, hdm] at hout

/-! ## The data stack (R378) -/

/-- A push above DSTK_LO into local data memory acts. -/
theorem acts_push (hlive : (s.m.core c).replay = false) (hlow : s.m.fld pgStrand (Strandctl.C_DSTK_LO c) ≤ ((s.m.core c).dsp - 4).toNat)
    (hlocal : inLocal ((s.m.core c).dsp - 4).toNat 4 = true) :
    Acts s c (.push rd) { Writes.none with dsp := some ((s.m.core c).dsp - 4) }
      (s.stored c ((s.m.core c).dsp - 4).toNat 4 ((s.m.core c).gr rd)) where
  sound := by
    have hbus := accFault_local (c := c) (op := .push rd) (x := ⟨((s.m.core c).dsp - 4).toNat, 4, true⟩) hlocal
    simpa [Mach.lFault, Core.accs] using And.intro hlow hbus
  ready := waits_ready (by simp) (by simp) (local_is_near (x := ⟨((s.m.core c).dsp - 4).toNat, 4, true⟩) hlocal _)
  effect := by rw [← storeVal_live (x := ⟨_, 4, true⟩) _ hlive]; rfl
  core := stored_core _ _ _ _ _
  irq := stored_irqDue _ _ _ _ _

/-- A pop below DSTK_HI from local data memory acts. -/
theorem acts_pop (hhigh : (s.m.core c).dsp.toNat < s.m.fld pgStrand (Strandctl.C_DSTK_HI c))
    (hlocal : inLocal (s.m.core c).dsp.toNat 4 = true) :
    Acts s c (.pop rd) { Writes.none.lateG rd (BitVec.ofNat 32 (s.localNum c (s.m.core c).dsp.toNat 4)) with
      dsp := some ((s.m.core c).dsp + 4) } s where
  sound := by
    have hbus := accFault_local (c := c) (op := .pop rd) (x := ⟨(s.m.core c).dsp.toNat, 4, false⟩) hlocal
    simp [Mach.lFault, Core.accs, Nat.not_le.2 hhigh, hbus]
  ready := waits_ready (by simp) (by simp) (local_is_near (x := ⟨(s.m.core c).dsp.toNat, 4, false⟩) hlocal _)
  effect := by
    have hload := loadVal_local (s := s) (c := c) (x := ⟨(s.m.core c).dsp.toNat, 4, false⟩) hlocal (by simp)
    simp only [lEffect, Core.accs, hload]
    rfl
  core := setWbuf_self _
  irq := rfl

/-! ## SWAP and SYNC (R402) -/

theorem dests_swap (rd i : Nat) : twice (SOp.swap rd i).dests = false := by
  simp only [SOp.dests]
  split <;> rfl

/-- SWAP of a word of local data memory acts once the buffer is empty. -/
theorem acts_swap (hlive : (s.m.core c).replay = false) (hlocal : inLocal ((s.m.core c).ar i).toNat 4 = true)
    (hempty : (s.m.core c).wbuf = []) :
    Acts s c (.swap rd i) (Writes.none.lateG rd (BitVec.ofNat 32 (s.localNum c ((s.m.core c).ar i).toNat 4)))
      (s.stored c ((s.m.core c).ar i).toNat 4 ((s.m.core c).gr rd)) where
  sound := lFault_none (by simp) (by simp) fun x hx => by
    obtain rfl := List.mem_singleton.1 hx
    exact accFault_local hlocal
  ready := by
    intro unit pr
    have hnear : Access.outside ⟨((s.m.core c).ar i).toNat, 4, true⟩ = false := outside_of_local hlocal
    cases hguard : (s.m.core c).pred pr
    · simp [Core.waits, hguard]
    · simp [Core.waits, hguard, hempty, Core.accs, Core.xr, hnear]
  effect := by
    have hload := loadVal_local (s := s) (c := c) (x := ⟨((s.m.core c).ar i).toNat, 4, false⟩) hlocal (by simp)
    have hdm : regionOf ((s.m.core c).ar i).toNat = some .dm := (inLocal_iff.1 hlocal).1
    have hstored : ((s.stored c ((s.m.core c).ar i).toNat 4 ((s.m.core c).gr rd)).m.core c).wbuf = [] := by
      rw [State.stored, if_pos hdm]
      exact hempty
    have hstore := storeVal_live (s := s) (c := c) (x := ⟨((s.m.core c).ar i).toNat, 4, true⟩) ((s.m.core c).gr rd) hlive
    simp only [lEffect, Core.accs, Core.xr, hload, hstore, drainAll_empty hstored]
    rfl
  core := stored_core _ _ _ _ _
  irq := stored_irqDue _ _ _ _ _

/-- SYNC passes once the buffer is empty. -/
theorem acts_sync (hempty : (s.m.core c).wbuf = []) : Acts s c .sync Writes.none s where
  sound := rfl
  ready := by
    intro unit pr
    cases hguard : (s.m.core c).pred pr <;> simp [Core.waits, hguard, hempty, Core.accs]
  effect := rfl
  core := setWbuf_self _
  irq := rfl

end

theorem plain_live {m : Mach} {c : Nat} (hp : m.plain c = true) : (m.core c).replay = false := by
  obtain ⟨-, -, -, hlive, -⟩ := (plain_iff _ _).1 hp
  exact hlive

/-- Settles O29: one bullet for each operation, in the order of the statement; `y` is the syllable the row issues. -/
theorem storesComplete : Obligations.StoresComplete := by
  refine ⟨?_, ?_, ?_, ?_, ?_, ?_, ?_, ?_⟩
  · intro s c pr rd ix imm hm he hp hstore
    exact exec_actingOp (y := ⟨3, pr, .sto .byte rd ix imm.toInt⟩) rfl hm he hp rfl (illegal_one rfl rfl) fun hguard =>
      acts_store rfl (plain_live hp) rfl rfl (hstore hguard).1 (hstore hguard).2
  · intro s c pr rd ix imm hm he hp hstore
    exact exec_actingOp (y := ⟨3, pr, .sto .half rd ix imm.toInt⟩) rfl hm he hp rfl (illegal_one rfl rfl) fun hguard =>
      acts_store rfl (plain_live hp) rfl rfl (hstore hguard).1 (hstore hguard).2
  · intro s c pr rd ix imm hm he hp hstore
    exact exec_actingOp (y := ⟨3, pr, .sto .word rd ix imm.toInt⟩) rfl hm he hp rfl (illegal_one rfl rfl) fun hguard =>
      acts_store rfl (plain_live hp) rfl rfl (hstore hguard).1 (hstore hguard).2
  · intro s c pr z rd ix hm he hp hstore
    exact exec_actingOp (y := ⟨3, pr, .stp z rd ix⟩) rfl hm he hp rfl (illegal_one rfl rfl) fun hguard =>
      acts_store rfl (plain_live hp) rfl rfl (hstore hguard).1 (hstore hguard).2
  · intro s c pr z rd ix rs2 hm he hp hstore
    exact exec_actingOp (y := ⟨3, pr, .stx z rd ix rs2⟩) rfl hm he hp rfl (illegal_one rfl rfl) fun hguard =>
      acts_store rfl (plain_live hp) rfl rfl (hstore hguard).1 (hstore hguard).2
  · intro s c pr rd hm he hp hpush
    exact exec_actingOp (y := ⟨3, pr, .push rd⟩) rfl hm he hp rfl (illegal_one rfl rfl) fun hguard =>
      acts_push (plain_live hp) (hpush hguard).1 (hpush hguard).2
  · intro s c pr rd ix hm he hp hswap
    exact exec_actingOp (y := ⟨3, pr, .swap rd ix⟩) rfl hm he hp rfl (illegal_one rfl (dests_swap _ _)) fun hguard =>
      acts_swap (plain_live hp) (hswap hguard).1 (hswap hguard).2
  · intro s c pr hm he hp hempty
    refine (exec_actingOp (y := ⟨3, pr, .sync⟩) rfl hm he hp rfl (illegal_one rfl rfl) fun hguard => acts_sync (hempty hguard)).trans ?_
    rw [ite_self, Core.guarded, ite_self]

/-! ## Traps of the data stack (R378) -/

/-- The address a trap's frame holds: TRAP and BREAK return behind their group, any other trap to it (R383, R405). -/
def trapReturn (k : Core) (t : TrapInfo) : Nat := if t.cause = 5 ∨ t.cause = 6 then k.nextWord else k.pc

/-- An operation that traps at a plain boundary. -/
theorem issueOp_traps {s : State} {c : Nat} {y : Syl} {t : TrapInfo} (hm : s.m.mainOff = false) (hp : s.m.plain c = true)
    (hfault : groupFault c ⟨(s.m.core c).pc, (s.m.core c).nextWord, [.ok y], none⟩ 0 s = some t) (hcause : t.cause ≠ 7) :
    issueOp c y s = { s with m := s.m.coreTrap c t (trapReturn (s.m.core c) t) (s.m.core c).status } := by
  obtain ⟨hrun, hstall, hopen, hlive, hjumps, hrep, -, -⟩ := (plain_iff _ _).1 hp
  unfold issueOp issue
  simp only [hm, hrun, hstall, hopen, hjumps, hlive, Mach.replayHolds, List.find?_nil]
  simp only [Core.nextWord] at hfault
  simp [hfault, hcause, groupTrap, hrep, hjumps, slotPass_nil, trapReturn, Core.nextWord]

/-- A group of one operation whose guard reads 1 takes the trap of its L unit. -/
theorem groupFault_ofL {s : State} {c n sub cause a : Nat} {y : Syl} (hguard : (s.m.core c).pred y.pr = true) (hrep : y.op.isRep = false)
    (hlegal : illegal [.ok y] = none) (hl : s.m.lFault c (s.m.core c) y.op false = some (cause, sub, a)) :
    groupFault c ⟨(s.m.core c).pc, n, [.ok y], none⟩ 0 s = some ⟨cause, sub, 0, y.unit, some a⟩ := by
  have hsyls : sylsOf [.ok y] = [y] := rfl
  simp [groupFault, hlegal, hsyls, hguard, hrep, hl, List.findIdx_cons]

section
variable {s : State} {c : Fin 6} {pr rd : Nat}

theorem illegal_pop (pr rd : Nat) : illegal [.ok ⟨3, pr, .pop rd⟩] = none := by
  refine illegal_one rfl ?_
  simp only [SOp.dests]
  split <;> rfl

/-- A push that would leave the stack at its low end takes the DSTACK trap. -/
theorem issueOp_push_traps (hm : s.m.mainOff = false) (hp : s.m.plain c = true) (hguard : (s.m.core c).pred pr = true)
    (hlow : ((s.m.core c).dsp - 4).toNat < s.m.fld pgStrand (Strandctl.C_DSTK_LO c)) :
    issueOp c ⟨3, pr, .push rd⟩ s =
      { s with m := s.m.coreTrap c ⟨4, 1, 0, 3, some ((s.m.core c).dsp - 4).toNat⟩ (s.m.core c).pc (s.m.core c).status } :=
  issueOp_traps hm hp (groupFault_ofL hguard rfl (illegal_one rfl rfl) (by rw [Mach.lFault, if_pos hlow]; rfl)) (by simp)

/-- A pop at the high end of the stack takes the DSTACK trap. -/
theorem issueOp_pop_traps (hm : s.m.mainOff = false) (hp : s.m.plain c = true) (hguard : (s.m.core c).pred pr = true)
    (hhigh : s.m.fld pgStrand (Strandctl.C_DSTK_HI c) ≤ (s.m.core c).dsp.toNat) :
    issueOp c ⟨3, pr, .pop rd⟩ s =
      { s with m := s.m.coreTrap c ⟨4, 2, 0, 3, some (s.m.core c).dsp.toNat⟩ (s.m.core c).pc (s.m.core c).status } :=
  issueOp_traps hm hp (groupFault_ofL hguard rfl (illegal_pop _ _) (by rw [Mach.lFault, if_pos hhigh]; rfl)) (by simp)

end

theorem stored_local {s : State} {c a n : Nat} (v : Word) (hlocal : inLocal a n = true) :
    s.stored c a n v = { s with mem := writeBytes (memKey c a) (leBytes n v.toNat) s.mem } := if_pos (inLocal_iff.1 hlocal).1

/-- Settles O49: the push, its trap, the pop, its trap, and MVTS. -/
theorem dataStack : Obligations.DataStack := by
  intro s c pr rd hm he hp hguard
  refine ⟨fun hlow hlocal => ?_, fun hlow => ?_, fun hhigh hlocal => ?_, fun hhigh => ?_, fun y rs1 => ?_⟩
  · exact exec_issueOp rfl hm he ((issueOp_acts (y := ⟨3, pr, .push rd⟩) hm hp hguard rfl (illegal_one rfl rfl)
      (acts_push (plain_live hp) hlow hlocal)).trans (by rw [stored_local _ hlocal]))
  · exact exec_issueOp rfl hm he (issueOp_push_traps hm hp hguard hlow)
  · exact exec_issueOp rfl hm he (issueOp_acts (y := ⟨3, pr, .pop rd⟩) hm hp hguard rfl (illegal_pop _ _) (acts_pop hhigh hlocal))
  · exact exec_issueOp rfl hm he (issueOp_pop_traps hm hp hguard hhigh)
  · exact exec_registerOp_true (y := ⟨xy y, pr, .mvts .dsp rs1⟩) rfl hm he hp hguard rfl rfl

end Sys2Proof.Machine
end

section
/-! PROOFS. Operations that write page registers only, and which: what shows a state, a fault or a silence leaves every other register and
all that stands behind the pages as it was (02_units_and_pages.md R62, R69; 14_strand_architecture.md R388, R389). -/

namespace Sys2Proof.Machine

/-- From `m` to `m'` only live registers `(page, offset)` of `S` have changed. -/
structure OnlyRegs (S : Nat → Nat → Prop) (m m' : Mach) : Prop where
  rest : ∃ live : Table Word, m' = { m with live := live }
  reg : ∀ k o : Nat, o < 4096 → ¬ S k o → m'.reg k o = m.reg k o

/-- The registers of the page `n` in which a unit shows its state and its faults. -/
def shows (n k o : Nat) : Prop := k = n ∧ (o = 0x00C ∨ o = 0x014 ∨ o = 0x018)

namespace OnlyRegs

section
variable {S S' : Nat → Nat → Prop} {m m' m'' : Mach} {n : Nat}

theorem refl (m : Mach) : OnlyRegs S m m := ⟨⟨m.live, rfl⟩, fun _ _ _ _ => rfl⟩

theorem trans (h : OnlyRegs S m m') (h' : OnlyRegs S m' m'') : OnlyRegs S m m'' := by
  refine ⟨?_, fun k o ho hS => (h'.reg k o ho hS).trans (h.reg k o ho hS)⟩
  obtain ⟨l, rfl⟩ := h.rest
  obtain ⟨l', rfl⟩ := h'.rest
  exact ⟨l', rfl⟩

theorem ite {p : Prop} [Decidable p] {f g : Mach} (hf : OnlyRegs S m f) (hg : OnlyRegs S m g) : OnlyRegs S m (if p then f else g) := by
  split <;> assumption

theorem mono (h : OnlyRegs S m m') (hsub : ∀ k o, S k o → S' k o) : OnlyRegs S' m m' :=
  ⟨h.rest, fun k o ho hS => h.reg k o ho fun hin => hS (hsub k o hin)⟩

theorem setReg {off : Nat} (w : Word) (hoff : off < 4096) (h : S n off) : OnlyRegs S m (m.setReg n off w) := by
  refine ⟨⟨_, rfl⟩, fun k o ho hS => m.reg_setReg_ne w fun hkey => hS ?_⟩
  obtain ⟨rfl, rfl⟩ := Prod.mk.inj ((pageKey_inj ho hoff).1 hkey)
  exact h

theorem setFld {f : Fld} (v : Nat) (hoff : f.off < 4096) (h : S n f.off) : OnlyRegs S m (m.setFld n f v) := setReg _ hoff h

theorem setFlag {f : Fld} (b : Bool) (hoff : f.off < 4096) (h : S n f.off) : OnlyRegs S m (m.setFlag n f b) := setReg _ hoff h

theorem setRegBit {off i : Nat} {b : Bool} (hoff : off < 4096) (h : S n off) : OnlyRegs S m (m.setRegBit n off i b) := setReg _ hoff h

theorem setSt (v : Nat) : OnlyRegs (shows n) m (m.setSt n v) := setFld v (by decide) ⟨rfl, .inl rfl⟩

theorem settle (b : Bool) : OnlyRegs (shows n) m (m.settle n b) := ite (setSt _) (refl m)

theorem refreshHealth : OnlyRegs (shows n) m (m.refreshHealth n) := setFld _ (by decide) ⟨rfl, .inl rfl⟩

/-- A fault shows in the header of its page only. -/
theorem raise (b : Nat) : OnlyRegs (shows n) m (m.raise n b) := by
  have hset (w : Word) : OnlyRegs (shows n) m (m.setReg n 0x018 w) := setReg w (by decide) ⟨rfl, .inr (.inr rfl)⟩
  have hflag {q : Mach} {f : Fld} (v : Bool) (h : OnlyRegs (shows n) m q) (hf : f.off = 0x014) : OnlyRegs (shows n) m (q.setFlag n f v) :=
    h.trans (setFlag v (by omega) ⟨rfl, .inr (.inl hf)⟩)
  have hfld {q : Mach} {f : Fld} (v : Nat) (h : OnlyRegs (shows n) m q) (hf : f.off = 0x014) : OnlyRegs (shows n) m (q.setFld n f v) :=
    h.trans (setFld v (by omega) ⟨rfl, .inr (.inl hf)⟩)
  have hst {q : Mach} (p : Bool) (h : OnlyRegs (shows n) m q) : OnlyRegs (shows n) m (if p then q.setSt n 4 else q) :=
    ite (h.trans (setSt 4)) h
  exact ite (refl m) ((hst _ (ite (hflag _ (hset _) rfl) (ite (hflag _ (hflag _ (hfld _ (hset _) rfl) rfl) rfl) (hset _)))).trans
    refreshHealth)

theorem clearSrc (b : Nat) : OnlyRegs (shows n) m (m.clearSrc n b) :=
  trans (setReg _ (by decide) ⟨rfl, .inr (.inr rfl)⟩) refreshHealth

end
end OnlyRegs

/-- From `m` to `m'` no core and no register of a core on STRANDCTL has changed. -/
abbrev KeepsCores : Mach → Mach → Prop := OnlyRegs fun k o => k = pgStrand → o < 0x100

namespace KeepsCores

section
variable {m m' : Mach} {n : Nat}

theorem cores (h : KeepsCores m m') : m'.cores = m.cores := by
  obtain ⟨l, rfl⟩ := h.rest
  rfl

theorem of_shows (h : OnlyRegs (shows n) m m') : KeepsCores m m' := h.mono fun _ _ hs _ => by
  obtain ⟨-, rfl | rfl | rfl⟩ := hs <;> decide

theorem raise (b : Nat) : KeepsCores m (m.raise n b) := of_shows (OnlyRegs.raise b)

/-- RUNNING, IDLE or ACTIVE, and PSTATE stand apart from the cores. -/
theorem coresShow : KeepsCores m m.coresShow := by
  have hpwr {q : Mach} (v : Nat) (f : Fld) (hf : f.off = 0x04C) : KeepsCores q (q.setFld pgPwr f v) :=
    OnlyRegs.setFld v (by omega) (by simp [pgPwr, pgStrand])
  have hpstate {q : Mach} (v : Nat) (p : Prop) [Decidable p] (h : KeepsCores m q) :
      KeepsCores m (if p then (q.setFld pgPwr Pwr.PSTATE v).setFld pgPwr Pwr.BIAS v else q) :=
    OnlyRegs.ite (h.trans ((hpwr v _ rfl).trans (hpwr v _ rfl))) h
  have hrunning (v : Nat) : KeepsCores m (m.setFld pgStrand Strandctl.RUNNING v) := OnlyRegs.setFld v (by decide) fun _ => by decide
  exact hpstate _ _ (((hrunning _).trans (of_shows (OnlyRegs.settle _))).trans (hpwr _ _ rfl))

/-- A core that becomes silent, or no longer is, shows so on POLICY. -/
theorem setSilent {c : Nat} {b : Bool} : KeepsCores m (m.setSilent c b) := by
  have hbit : KeepsCores m (m.setRegBit pgPolicy 0x060 (c - 2) b) := OnlyRegs.setRegBit (by decide) (by simp [pgPolicy, pgStrand])
  exact OnlyRegs.ite (hbit.trans (raise 0)) (hbit.trans (of_shows (OnlyRegs.clearSrc 1)))

end
end KeepsCores

/-! ## What that says of the fields and the state of a core -/

section
variable {m m' : Mach} {c d v : Nat}

theorem KeepsCores.core (h : KeepsCores m m') : m'.core c = m.core c := by rw [Mach.core, h.cores, Mach.core]

/-- The offsets of the registers of a core lie in the page, above the common ones. -/
def coreOffset (o : Nat) : Prop := 0x100 ≤ o ∧ o < 4096

theorem KeepsCores.fld (h : KeepsCores m m') {f : Fld} (hf : coreOffset f.off) : m'.fld pgStrand f = m.fld pgStrand f := by
  rw [Mach.fld, h.reg _ _ hf.2 fun hlow => absurd (hlow rfl) (Nat.not_lt.2 hf.1), Mach.fld]

theorem KeepsCores.irqDue (h : KeepsCores m m') (hc : c < 6) : m'.irqDue c = m.irqDue c := by
  rw [Mach.irqDue, h.fld, h.fld, Mach.irqDue] <;> simp only [coreOffset, Strandctl.C_IRQ_EN, Strandctl.C_IRQ_PEND] <;> omega

theorem KeepsCores.coreSt (h : KeepsCores m m') (hc : c < 6) : m'.coreSt c = m.coreSt c :=
  h.fld (by simp only [coreOffset, Strandctl.C_STATE]; omega)

/-- STATE of a core reads what was set. -/
theorem coreSt_setCoreSt (m : Mach) (hc : c < 6) (hv : v < 8) : (m.setCoreSt c v).coreSt c = v := by
  rw [Mach.setCoreSt, KeepsCores.coresShow.coreSt hc, Mach.coreSt,
    Mach.fld_setFld_self _ _ _ _ (by simp [Strandctl.C_STATE]) (by simp [Strandctl.C_STATE])]
  exact Nat.mod_eq_of_lt hv

theorem core_setCoreSt (m : Mach) : (m.setCoreSt c v).core d = m.core d := KeepsCores.coresShow.core

theorem reg_setCoreSt (m : Mach) {o : Nat} (ho : coreOffset o) (hne : o ≠ (Strandctl.C_STATE c).off) :
    (m.setCoreSt c v).reg pgStrand o = m.reg pgStrand o :=
  (KeepsCores.coresShow.reg _ o ho.2 fun hlow => absurd (hlow rfl) (Nat.not_lt.2 ho.1)).trans (m.reg_setReg_off _ hne)

theorem irqDue_setCoreSt (m : Mach) (hd : d < 6) : (m.setCoreSt c v).irqDue d = m.irqDue d := by
  have hpend := reg_setCoreSt (c := c) (v := v) m (o := (Strandctl.C_IRQ_PEND d).off)
    (by simp only [coreOffset, Strandctl.C_IRQ_PEND]; omega) (by simp only [Strandctl.C_IRQ_PEND, Strandctl.C_STATE]; omega)
  have hen := reg_setCoreSt (c := c) (v := v) m (o := (Strandctl.C_IRQ_EN d).off)
    (by simp only [coreOffset, Strandctl.C_IRQ_EN]; omega) (by simp only [Strandctl.C_IRQ_EN, Strandctl.C_STATE]; omega)
  simp only [Mach.irqDue, Mach.fld, hpend, hen]

end

end Sys2Proof.Machine
end

section
/-! PROOFS. O50, O51, O56 and O59: traps, halts, the reset of a core, and vectors that are raised (14_strand_architecture.md R381, R383, R384,
R389, R546). -/

namespace Sys2Proof.Machine

/-! ## Results that land -/

section
variable (k : Core)

theorem Core.land_frame (f : Flight) : ∃ (g : Table Word) (v : Table (BitVec 72)), k.land f = { k with g := g, view := v } := by
  unfold Core.land Core.setG
  split
  · exact ⟨_, _, rfl⟩
  · split <;> exact ⟨_, _, rfl⟩

theorem Core.foldl_land_frame (l : List Flight) :
    ∃ (g : Table Word) (v : Table (BitVec 72)), l.foldl Core.land k = { k with g := g, view := v } := by
  induction l generalizing k with
  | nil => exact ⟨_, _, rfl⟩
  | cons f l ih =>
    obtain ⟨g, v, hf⟩ := k.land_frame f
    rw [List.foldl_cons, hf]
    exact ih _

/-- Landing results changes general registers and the accumulators' views only. -/
theorem Core.landAll_frame : ∃ (g : Table Word) (v : Table (BitVec 72)), k.landAll = { k with g := g, view := v, flight := [] } :=
  Core.foldl_land_frame { k with flight := [] } k.flight

@[simp] theorem Core.landAll_status : k.landAll.status = k.status := by obtain ⟨_, _, h⟩ := k.landAll_frame; rw [h]
@[simp] theorem Core.landAll_frames : k.landAll.frames = k.frames := by obtain ⟨_, _, h⟩ := k.landAll_frame; rw [h]
@[simp] theorem Core.landAll_flight : k.landAll.flight = [] := by obtain ⟨_, _, h⟩ := k.landAll_frame; rw [h]
@[simp] theorem Core.landAll_a : k.landAll.a = k.a := by obtain ⟨_, _, h⟩ := k.landAll_frame; rw [h]
@[simp] theorem Core.landAll_dsp : k.landAll.dsp = k.dsp := by obtain ⟨_, _, h⟩ := k.landAll_frame; rw [h]
@[simp] theorem Core.landAll_acc : k.landAll.acc = k.acc := by obtain ⟨_, _, h⟩ := k.landAll_frame; rw [h]

end

/-! ## Bits of status -/

theorem getLsbD_setBit (w : Word) (i j : Nat) (b : Bool) (hj : j < 32) : (setBit w i b).getLsbD j = if j = i then b else w.getLsbD j := by
  unfold setBit
  by_cases h : j = i
  · subst h
    cases b <;> simp only [if_true, if_false, Bool.false_eq_true, BitVec.getLsbD_or, BitVec.getLsbD_and, BitVec.getLsbD_not, getLsbD_two_pow,
      hj, decide_true, Bool.and_true, Bool.or_true, Bool.not_true, Bool.and_false]
  · cases b <;> simp only [if_true, if_false, Bool.false_eq_true, BitVec.getLsbD_or, BitVec.getLsbD_and, BitVec.getLsbD_not,
      getLsbD_two_pow, hj, h, Ne.symm h, decide_true, decide_false, Bool.and_true, Bool.and_false, Bool.or_false, Bool.not_false]

/-! ## Cores other than the one written -/

theorem core_setCore_ne {c d : Nat} (k : Core) (m : Mach) (h : d ≠ c) : (m.setCore c k).core d = m.core d := tget_tput_ne _ _ _ _ h

/-! ## Taking a trap (R383) -/

section
variable {m : Mach} {c : Nat} {t : TrapInfo} {ret : Nat} {st : Word}

/-- The machine with TRAP_INFO, FADDR and the count of traps of a core that traps. -/
def Mach.trapShown (c : Nat) (t : TrapInfo) (m : Mach) : Mach :=
  let m := m.setFld pgStrand (Strandctl.C_TRAP_INFO c) t.word.toNat
  let m := match t.addr with
    | some a => m.setFld pgStrand (Strandctl.C_FADDR c) a
    | none => m
  m.incSat pgStrand (Strandctl.C_TRAPS c)

/-- The core that a trap stops: its results have landed, and nothing is under way. -/
def Core.halted (t : TrapInfo) (k : Core) : Core := { k.landAll with trapInfo := t.word, jumps := [], rep := none, stall := none }

/-- The core behind a trap that is taken. -/
def Core.trapped (t : TrapInfo) (ret : Nat) (st : Word) (vbar : Nat) (k : Core) : Core :=
  { k.halted t with
    frames := ⟨ret, st, 2⟩ :: (k.halted t).frames
    status := setBit (setBit (setBit (k.halted t).status stTRAP true) stIE false) stREP false
    pc := vbar + 0x20 * t.cause }

theorem Mach.cores_incSat (m : Mach) (n : Nat) (f : Fld) : (m.incSat n f).cores = m.cores := Mach.cores_setFld n f _ m

theorem trapShown_cores : (m.trapShown c t).cores = m.cores := by
  rw [Mach.trapShown, Mach.cores_incSat]
  cases t.addr with
  | none => exact Mach.cores_setFld _ _ _ _
  | some a => exact (Mach.cores_setFld _ _ _ _).trans (Mach.cores_setFld _ _ _ _)

theorem Mach.fld_incSat_off (m : Mach) {n : Nat} {f g : Fld} (h : g.off ≠ f.off) : (m.incSat n f).fld n g = m.fld n g :=
  m.fld_setFld_off _ h

/-- Only TRAP_INFO, FADDR and TRAPS of the core change. -/
theorem trapShown_fld {f : Fld} (hinfo : f.off ≠ (Strandctl.C_TRAP_INFO c).off) (haddr : f.off ≠ (Strandctl.C_FADDR c).off)
    (htraps : f.off ≠ (Strandctl.C_TRAPS c).off) : (m.trapShown c t).fld pgStrand f = m.fld pgStrand f := by
  rw [Mach.trapShown, Mach.fld_incSat_off _ htraps]
  cases t.addr with
  | none => exact m.fld_setFld_off _ hinfo
  | some a => exact (Mach.fld_setFld_off _ _ haddr).trans (m.fld_setFld_off _ hinfo)

theorem trapShown_core : (m.trapShown c t).core c = m.core c := by rw [Mach.core, trapShown_cores, Mach.core]

theorem coreTrap_taken (htrap : (m.core c).stBit stTRAP = false) (hroom : (m.core c).frames.length < 32) :
    m.coreTrap c t ret st
      = (m.trapShown c t).setCore c ((m.core c).trapped t ret st ((m.trapShown c t).fld pgStrand (Strandctl.C_VBAR c))) := by
  have hgo : ¬ (((m.core c).halted t).stBit stTRAP || decide (32 ≤ ((m.core c).halted t).frames.length)) = true := by
    simpa [Core.stBit, Core.halted] using And.intro htrap hroom
  exact if_neg hgo

theorem coreTrap_halts (h : (m.core c).stBit stTRAP = true ∨ 32 ≤ (m.core c).frames.length) :
    m.coreTrap c t ret st = ((((m.trapShown c t).setCore c ((m.core c).halted t)).setCoreSt c 5).raise pgStrand c) := by
  have hstop : (((m.core c).halted t).stBit stTRAP || decide (32 ≤ ((m.core c).halted t).frames.length)) = true := by
    simpa [Core.stBit, Core.halted] using h
  exact if_pos hstop

theorem Core.trapped_bits (k : Core) (vbar : Nat) :
    (k.trapped t ret st vbar).stBit stTRAP = true ∧ (k.trapped t ret st vbar).stBit stIE = false ∧
    (k.trapped t ret st vbar).stBit stREP = false ∧
    ∀ b : Nat, b = stSAT ∨ b = stV ∨ b = stC → (k.trapped t ret st vbar).stBit b = k.stBit b := by
  have hbit (b : Nat) (hb : b < 32) : (k.trapped t ret st vbar).stBit b
      = if b = stREP then false else if b = stIE then false else if b = stTRAP then true else k.stBit b := by
    simp only [Core.stBit, Core.trapped, Core.halted, Core.landAll_status, getLsbD_setBit _ _ _ _ hb]
  refine ⟨hbit _ (by decide), hbit _ (by decide), hbit _ (by decide), ?_⟩
  rintro b (rfl | rfl | rfl) <;> exact hbit _ (by decide)

theorem trapShown_info : (m.trapShown c t).fld pgStrand (Strandctl.C_TRAP_INFO c) = t.word.toNat := by
  have hword : (m.setFld pgStrand (Strandctl.C_TRAP_INFO c) t.word.toNat).fld pgStrand (Strandctl.C_TRAP_INFO c) = t.word.toNat :=
    (Mach.fld_setFld_self _ _ _ _ (Nat.zero_le _) (by simp [Strandctl.C_TRAP_INFO])).trans (Nat.mod_eq_of_lt t.word.isLt)
  rw [Mach.trapShown, Mach.fld_incSat_off _ (by simp [Strandctl.C_TRAP_INFO, Strandctl.C_TRAPS])]
  cases t.addr with
  | none => exact hword
  | some a => exact (Mach.fld_setFld_off _ _ (by simp [Strandctl.C_TRAP_INFO, Strandctl.C_FADDR])).trans hword

theorem trapShown_faddr {a : Nat} (ha : t.addr = some a) (hlt : a < 2 ^ 32) :
    (m.trapShown c t).fld pgStrand (Strandctl.C_FADDR c) = a := by
  rw [Mach.trapShown, Mach.fld_incSat_off _ (by simp [Strandctl.C_FADDR, Strandctl.C_TRAPS]), ha]
  exact (Mach.fld_setFld_self _ _ _ _ (Nat.zero_le _) (by simp [Strandctl.C_FADDR])).trans (Nat.mod_eq_of_lt hlt)

theorem trapShown_vbar : (m.trapShown c t).fld pgStrand (Strandctl.C_VBAR c) = m.fld pgStrand (Strandctl.C_VBAR c) :=
  trapShown_fld (by simp only [Strandctl.C_VBAR, Strandctl.C_TRAP_INFO]; omega)
    (by simp only [Strandctl.C_VBAR, Strandctl.C_FADDR]; omega) (by simp only [Strandctl.C_VBAR, Strandctl.C_TRAPS]; omega)

theorem fld_setCore (c : Nat) (k : Core) (m : Mach) (n : Nat) (f : Fld) : (m.setCore c k).fld n f = m.fld n f := rfl

/-- Settles O50. -/
theorem trapEntry : Obligations.TrapEntry := by
  intro m c t ret st htrap hroom k r k'
  have hr : r = (m.trapShown c t).setCore c (k.trapped t ret st (m.fld pgStrand (Strandctl.C_VBAR c))) := by
    rw [← trapShown_vbar (t := t)]
    exact coreTrap_taken htrap hroom
  have hk : k' = k.trapped t ret st (m.fld pgStrand (Strandctl.C_VBAR c)) := by
    change r.core c = _
    rw [hr, core_setCore]
  clear_value k' r
  subst hk hr
  obtain ⟨hTRAP, hIE, hREP, hkept⟩ := k.trapped_bits (t := t) (ret := ret) (st := st) (m.fld pgStrand (Strandctl.C_VBAR c))
  refine ⟨congrArg (List.cons _) k.landAll_frames, hTRAP, hIE, hREP, hkept, rfl, rfl, k.landAll_flight, rfl, rfl, rfl, k.landAll_a, k.landAll_dsp, k.landAll_acc,
    ?_, fun a ha hlt => ?_, fun d hd => ?_⟩
  · rw [fld_setCore, trapShown_info]
  · rw [fld_setCore, trapShown_faddr ha hlt]
  · rw [core_setCore_ne _ _ hd, Mach.core, trapShown_cores, Mach.core]

end

/-! ## Halting (R384, R389) -/

/-- Every core has its HALT source on STRANDCTL. -/
theorem src_raise_halt (m : Mach) (c : Fin 6) : (m.raise pgStrand c).src pgStrand c = true := by
  have hpresent : m.absent pgStrand = false := by simp [Mach.absent, pgStrand, pgTether, pgSplice]
  have hsrc : Nat.testBit (info (clsOf pgStrand)).srcs c = true := by decide +revert
  rw [Mach.src_raise hpresent (by omega) (by omega) hsrc]
  simp

/-- Settles O51. -/
theorem trapHalts : Obligations.TrapHalts := by
  refine ⟨fun m c t ret st hc h => ?_, fun s c f ecc hhalted => ?_⟩
  · rw [coreTrap_halts h]
    refine ⟨?_, src_raise_halt _ ⟨c, hc⟩, ?_⟩
    · rw [(KeepsCores.raise c).coreSt hc, coreSt_setCoreSt _ hc (by decide)]
    · rw [(KeepsCores.raise c).core, core_setCoreSt, core_setCore]
      exact (m.core c).landAll_frames
  · exact if_pos (by simp [hhalted])

/-! ## Raising a vector (R381) -/

section
variable {m : Mach} {c v : Nat}

/-- The machine with the vector pending. -/
def Mach.pended (c v : Nat) (m : Mach) : Mach :=
  m.setReg pgStrand (Strandctl.C_IRQ_PEND c).off (m.reg pgStrand (Strandctl.C_IRQ_PEND c).off ||| BitVec.ofNat 32 (2 ^ v))

theorem pended_reg {o : Nat} (h : o ≠ (Strandctl.C_IRQ_PEND c).off) : (m.pended c v).reg pgStrand o = m.reg pgStrand o :=
  m.reg_setReg_off _ h

/-- A raised vector pends, and a waiting core that enables it goes on. -/
theorem irq_eq (hc : c < 6) (hv : v < 32) :
    m.irq c v = if m.coreSt c = 3 ∧ (m.reg pgStrand (Strandctl.C_IRQ_EN c).off).getLsbD v = true
      then (m.pended c v).setFld pgStrand (Strandctl.C_STATE c) 2 else m.pended c v := by
  have hmod : v % 32 = v := Nat.mod_eq_of_lt hv
  have hst : (m.pended c v).fld pgStrand (Strandctl.C_STATE c) = m.coreSt c :=
    m.fld_setReg_off _ (by simp only [Strandctl.C_STATE, Strandctl.C_IRQ_PEND]; omega)
  have hen : (m.pended c v).reg pgStrand (Strandctl.C_IRQ_EN c).off = m.reg pgStrand (Strandctl.C_IRQ_EN c).off :=
    pended_reg (by simp only [Strandctl.C_IRQ_EN, Strandctl.C_IRQ_PEND]; omega)
  unfold Mach.pended at hst hen ⊢
  simp only [Mach.irq, hc, if_true, hmod, hst, hen, Bool.and_eq_true, decide_eq_true_eq]

/-- Beside IRQ_PEND and STATE of the core, the page and the cores are as they were. -/
theorem irq_reg (hc : c < 6) (hv : v < 32) {o : Nat} (hpend : o ≠ (Strandctl.C_IRQ_PEND c).off) (hst : o ≠ (Strandctl.C_STATE c).off) :
    (m.irq c v).reg pgStrand o = m.reg pgStrand o := by
  rw [irq_eq hc hv]
  split
  · exact (Mach.reg_setFld_off _ _ hst).trans (pended_reg hpend)
  · exact pended_reg hpend

theorem irq_cores (hc : c < 6) (hv : v < 32) : (m.irq c v).cores = m.cores := by
  have hpended : (m.pended c v).cores = m.cores := Mach.cores_setReg _ _ _ _
  rw [irq_eq hc hv]
  split
  · exact (Mach.cores_setFld _ _ _ _).trans hpended
  · exact hpended

/-- The vector's bit of IRQ_PEND sets, and no other. -/
theorem irq_pend (hc : c < 6) (hv : v < 32) {b : Nat} (hb : b < 32) :
    ((m.irq c v).reg pgStrand (Strandctl.C_IRQ_PEND c).off).getLsbD b
      = (decide (b = v) || (m.reg pgStrand (Strandctl.C_IRQ_PEND c).off).getLsbD b) := by
  have hreg : (m.irq c v).reg pgStrand (Strandctl.C_IRQ_PEND c).off
      = m.reg pgStrand (Strandctl.C_IRQ_PEND c).off ||| BitVec.ofNat 32 (2 ^ v) := by
    rw [irq_eq hc hv]
    split
    · exact (Mach.reg_setFld_off _ _ (by simp only [Strandctl.C_STATE, Strandctl.C_IRQ_PEND]; omega)).trans (m.reg_setReg_self _ _ _)
    · exact m.reg_setReg_self _ _ _
  rw [hreg, BitVec.getLsbD_or, getLsbD_two_pow, decide_eq_true hb, Bool.true_and, Bool.or_comm]
  simp only [eq_comm]

theorem irq_coreSt (hc : c < 6) (hv : v < 32) :
    (m.irq c v).coreSt c
      = if m.coreSt c = 3 ∧ (m.reg pgStrand (Strandctl.C_IRQ_EN c).off).getLsbD v = true then 2 else m.coreSt c := by
  rw [irq_eq hc hv]
  split
  · exact Mach.fld_setFld_self _ _ _ _ (by simp [Strandctl.C_STATE]) (by simp [Strandctl.C_STATE])
  · exact m.fld_setReg_off _ (by simp only [Strandctl.C_STATE, Strandctl.C_IRQ_PEND]; omega)

end

/-- Settles O59. -/
theorem vectorRaised : Obligations.VectorRaised := by
  intro m c v hc hv
  refine ⟨fun b hb => irq_pend hc hv hb, irq_coreSt hc hv, fun d hd => ⟨?_, ?_⟩, irq_cores hc hv⟩
  · rw [Mach.coreSt, Mach.fld, irq_reg hc hv (by simp only [Strandctl.C_STATE, Strandctl.C_IRQ_PEND]; omega)
      (by simp only [Strandctl.C_STATE]; omega)]
    rfl
  · exact irq_reg hc hv (by simp only [Strandctl.C_IRQ_PEND]; omega) (by simp only [Strandctl.C_STATE, Strandctl.C_IRQ_PEND]; omega)

end Sys2Proof.Machine
end

section
/-! PROOFS. O54 to O56: when results are read, how address registers move, and the reset of a core (14_strand_architecture.md R367, R374,
R375, R546). -/

namespace Sys2Proof.Machine

/-! ## Results in flight (R374) -/

section
variable {k : Core} {n r i : Nat}

theorem Core.landDue_early (h : ∀ f ∈ k.flight, n < f.land) : k.landDue n = k := by
  have hnone : (k.flight.filter fun f => decide (f.land ≤ n)) = [] := List.filter_eq_nil_iff.2 fun f hf => by
    simpa using h f hf
  have hall : (k.flight.filter fun f => !decide (f.land ≤ n)) = k.flight := List.filter_eq_self.2 fun f hf => by
    simpa using h f hf
  rw [Core.landDue_eq, hnone, hall, List.foldl_nil]

theorem Core.landDue_all (h : ∀ f ∈ k.flight, f.land ≤ n) : k.landDue n = k.landAll := by
  have hall : (k.flight.filter fun f => decide (f.land ≤ n)) = k.flight := List.filter_eq_self.2 fun f hf => by
    simpa using h f hf
  have hnone : (k.flight.filter fun f => !decide (f.land ≤ n)) = [] := List.filter_eq_nil_iff.2 fun f hf => by
    simpa using h f hf
  rw [Core.landDue_eq, hnone, hall]
  rfl

/-- A group that writes late results and chained accumulators only: what is due lands, then the accumulators chain. -/
theorem Core.commit_late (late : List (Bool × Nat × BitVec 72)) (acc : List (Nat × BitVec 72)) :
    k.commit { Writes.none with late := late, acc := acc }
      = acc.foldl Core.chain ((k.launch { Writes.none with late := late, acc := acc }).landDue (k.issued + 1)) := rfl

theorem Core.gr_setG_self (k : Core) (v : Word) (h : r % 32 ≠ 0) : (k.setG r v).gr r = v := by
  simp [Core.gr, Core.setG, h]

/-- A group that writes nothing, while one result is on its way, brings it one group nearer. -/
theorem Core.commit_passes {f : Flight} (hf : k.flight = [f]) (hearly : k.issued + 1 < f.land) :
    k.commit Writes.none = { k with issued := k.issued + 1 } := by
  have hlaunch : k.launch Writes.none = { k with issued := k.issued + 1 } := by
    simp [Core.launch, Writes.none]
  refine (Core.commit_late [] []).trans ?_
  rw [List.foldl_nil]
  refine (congrArg _ hlaunch).trans (Core.landDue_early fun g hg => ?_)
  obtain rfl : g = f := by simpa [hf] using hg
  exact hearly

/-- A group that writes nothing, when the one result on its way is due, lands it. -/
theorem Core.commit_lands {f : Flight} (hf : k.flight = [f]) (hdue : f.land ≤ k.issued + 1) :
    k.commit Writes.none = Core.land { k with issued := k.issued + 1, flight := [] } f := by
  have hlaunch : k.launch Writes.none = { k with issued := k.issued + 1 } := by
    simp [Core.launch, Writes.none]
  refine (Core.commit_late [] []).trans ?_
  rw [List.foldl_nil]
  refine (congrArg _ hlaunch).trans ((Core.landDue_all fun g hg => ?_).trans ?_)
  · obtain rfl : g = f := by simpa [hf] using hg
    exact hdue
  · change k.flight.foldl Core.land _ = _
    rw [hf]
    rfl

/-- A group whose one late result flies, and whose accumulators chain. -/
theorem Core.commit_flies (q : Bool × Nat × BitVec 72) (acc : List (Nat × BitVec 72)) (hidle : k.flight = []) :
    k.commit { Writes.none with late := [q], acc := acc }
      = acc.foldl Core.chain { k with flight := [⟨k.issued + 3, q.1, q.2.1, q.2.2⟩], issued := k.issued + 1 } := by
  rw [Core.commit_late]
  congr 1
  have hlaunch : k.launch { Writes.none with late := [q], acc := acc }
      = { k with flight := [⟨k.issued + 3, q.1, q.2.1, q.2.2⟩], issued := k.issued + 1 } := by
    simp [Core.launch, hidle]
  rw [hlaunch]
  refine Core.landDue_early fun g hg => ?_
  obtain rfl := List.mem_singleton.1 hg
  exact Nat.add_lt_add_left (by decide) _

end

/-- Settles O54. -/
theorem oldValueRule : Obligations.OldValueRule := by
  refine ⟨fun k r v hr => Core.gr_setG_self _ v hr, fun k r v hr hidle => ?_, fun k i v hidle => ?_⟩
  · have h1 : k.commit (Writes.none.lateG r v)
        = { k with flight := [⟨k.issued + 3, false, r, v.setWidth 72⟩], issued := k.issued + 1 } :=
      Core.commit_flies (false, r, v.setWidth 72) [] hidle
    have h2 := Core.commit_passes (k := { k with flight := [⟨k.issued + 3, false, r, v.setWidth 72⟩], issued := k.issued + 1 }) rfl
      (Nat.lt_succ_self _)
    have h3 := Core.commit_lands (k := { k with flight := [⟨k.issued + 3, false, r, v.setWidth 72⟩], issued := k.issued + 2 }) rfl
      (Nat.le_refl _)
    have hvalue : (v.setWidth 72).setWidth 32 = v := by simp
    simp only [h1, h2, h3]
    refine ⟨rfl, rfl, ?_⟩
    refine (Core.gr_setG_self _ _ hr).trans hvalue
  · have h1 : k.commit (Writes.none.addAcc i v)
        = { k with acc := tput k.acc 0 (i % 2) v, flight := [⟨k.issued + 3, true, i, v⟩], issued := k.issued + 1 } :=
      Core.commit_flies (true, i, v) [(i, v)] hidle
    have h2 := Core.commit_passes
      (k := { k with acc := tput k.acc 0 (i % 2) v, flight := [⟨k.issued + 3, true, i, v⟩], issued := k.issued + 1 }) rfl
      (Nat.lt_succ_self _)
    have h3 := Core.commit_lands
      (k := { k with acc := tput k.acc 0 (i % 2) v, flight := [⟨k.issued + 3, true, i, v⟩], issued := k.issued + 2 }) rfl (Nat.le_refl _)
    simp only [h1, h2, h3]
    exact ⟨tget_tput_self .., rfl, rfl, tget_tput_self ..⟩

/-! ## The reset of a core (R367, R546) -/

section
variable {m : Mach} {c : Nat}

/-- A core at reset reads 0 in every register, and 1 in p0. -/
theorem coreFresh_registers (m : Mach) (c i : Nat) :
    (m.coreFresh c).gr i = 0 ∧ (m.coreFresh c).ar i = 0 ∧ (m.coreFresh c).xr .m i = 0 ∧ (m.coreFresh c).xr .l i = 0 ∧
    (m.coreFresh c).xr .am i = 0 ∧ (m.coreFresh c).accOf i = 0 ∧ (m.coreFresh c).accView i = 0 ∧
    (m.coreFresh c).pred i = decide (i % 8 = 0) := by
  refine ⟨by simp [Core.gr, Mach.coreFresh, coreReset, tget, tfind], rfl, rfl, rfl, rfl, rfl, rfl, ?_⟩
  have hlt : i % 8 < 8 := Nat.mod_lt _ (by decide)
  have hbit : (1 : BitVec 8).getLsbD (i % 8) = decide (i % 8 = 0) := by
    generalize i % 8 = j at hlt
    interval_cases j <;> rfl
  simp only [Core.pred, Mach.coreFresh, coreReset, hbit, Bool.or_self]

/-- The machine in which the core has its reset values and no vector pending; where its silence ends, no other core is concerned. -/
def Mach.closed (c : Nat) (m : Mach) : Mach := (m.setCore c (m.coreFresh c)).setFld pgStrand (Strandctl.C_IRQ_PEND c) 0

/-- The core closes: its silence ends, and it stops unless its load had failed. -/
theorem coreClose_shape (m : Mach) (hc : c < 6) :
    ∃ u : Mach, KeepsCores (m.closed c) u ∧ m.coreClose c = if m.coreSt c = 6 then u else u.setCoreSt c 0 := by
  have hbit : KeepsCores (m.closed c) ((m.closed c).setRegBit pgPolicy 0x060 (c + 2) false) :=
    OnlyRegs.setRegBit (by decide) (by simp [pgPolicy, pgStrand])
  have hu : KeepsCores (m.closed c) (((m.closed c).setRegBit pgPolicy 0x060 (c + 2) false).setSilent c false) :=
    hbit.trans KeepsCores.setSilent
  have hst : (m.closed c).coreSt c = m.coreSt c :=
    Mach.fld_setFld_off _ _ (by simp only [Strandctl.C_STATE, Strandctl.C_IRQ_PEND]; omega)
  refine ⟨_, hu, ?_⟩
  have hread := (hu.coreSt hc).trans hst
  unfold Mach.closed at hread ⊢
  simp only [Mach.coreClose, beq_iff_eq, hread]

theorem coreClose_core (hc : c < 6) : (m.coreClose c).core c = m.coreFresh c := by
  obtain ⟨u, hu, hclose⟩ := coreClose_shape m hc
  have hcore : u.core c = m.coreFresh c := hu.core.trans ((setFld_core _ _ _ _ _).trans (core_setCore _ _ _))
  rw [hclose]
  split
  · exact hcore
  · rw [core_setCoreSt, hcore]

theorem coreClose_reg (hc : c < 6) {o : Nat} (ho : coreOffset o) (hst : o ≠ (Strandctl.C_STATE c).off) :
    (m.coreClose c).reg pgStrand o = (m.closed c).reg pgStrand o := by
  obtain ⟨u, hu, hclose⟩ := coreClose_shape m hc
  have hreg : u.reg pgStrand o = (m.closed c).reg pgStrand o :=
    hu.reg _ _ ho.2 fun hlow => absurd (hlow rfl) (Nat.not_lt.2 ho.1)
  rw [hclose]
  split
  · exact hreg
  · rw [reg_setCoreSt _ ho hst, hreg]

theorem coreClose_coreSt (hc : c < 6) : (m.coreClose c).coreSt c = if m.coreSt c = 6 then 6 else 0 := by
  obtain ⟨u, hu, hclose⟩ := coreClose_shape m hc
  rw [hclose]
  split
  next hfailed =>
    have hst : (m.closed c).coreSt c = m.coreSt c :=
      Mach.fld_setFld_off _ _ (by simp only [Strandctl.C_STATE, Strandctl.C_IRQ_PEND]; omega)
    rw [hu.coreSt hc, hst, hfailed]
  next => exact coreSt_setCoreSt _ hc (by decide)

/-- A register of the core other than IRQ_PEND and STATE is kept. -/
theorem coreClose_keeps (hc : c < 6) {f : Fld} (ho : coreOffset f.off) (hst : f.off ≠ (Strandctl.C_STATE c).off)
    (hpend : f.off ≠ (Strandctl.C_IRQ_PEND c).off) : (m.coreClose c).fld pgStrand f = m.fld pgStrand f := by
  rw [Mach.fld, coreClose_reg hc ho hst]
  exact Mach.fld_setFld_off _ _ hpend

/-- No vector is pending. -/
theorem coreClose_pend (hc : c < 6) : (m.coreClose c).reg pgStrand (Strandctl.C_IRQ_PEND c).off = 0 := by
  rw [coreClose_reg hc (by simp only [coreOffset, Strandctl.C_IRQ_PEND]; omega)
    (by simp only [Strandctl.C_IRQ_PEND, Strandctl.C_STATE]; omega), Mach.closed, Mach.reg_setFld_self _ _ rfl]
  apply BitVec.eq_of_toNat_eq
  simp [Fld.put, Strandctl.C_IRQ_PEND, Nat.mod_one]

end

/-- Settles O56. -/
theorem coreResets : Obligations.CoreReset := by
  intro m c hlo hhi r k
  have hc : c < 6 := by omega
  have hk : k = m.coreFresh c := coreClose_core hc
  rw [hk]
  refine ⟨coreFresh_registers m c, rfl, rfl, rfl, rfl, rfl, coreClose_pend hc, ?_, coreClose_coreSt hc⟩
  intro f hf
  simp only [List.mem_cons, List.not_mem_nil, or_false] at hf
  apply coreClose_keeps hc <;> rcases hf with rfl | rfl | rfl | rfl | rfl | rfl <;>
    simp only [coreOffset, Strandctl.C_IRQ_EN, Strandctl.C_TWIN_MAP, Strandctl.C_VBAR, Strandctl.C_DSTK_LO, Strandctl.C_DSTK_HI,
      Strandctl.C_IMG_VER, Strandctl.C_STATE, Strandctl.C_IRQ_PEND] <;> omega

end Sys2Proof.Machine
end

section
/-! PROOFS. O55 and O58: the update of an address register (14_strand_architecture.md R375), and the Trouble-log ring
(13_trouble_log_and_logline.md R347, R348). -/

namespace Sys2Proof.Machine

/-! ## Reversed fields -/

/-- The part of a reversal that the first `j` bits of the operand make. -/
def revPart (n x j : Nat) : Nat := (List.range j).foldl (fun a i => if Nat.testBit x i then a + 2 ^ (n - 1 - i) else a) 0

theorem revPart_succ (n x j : Nat) :
    revPart n x (j + 1) = if Nat.testBit x j then revPart n x j + 2 ^ (n - 1 - j) else revPart n x j := by
  simp [revPart, List.range_succ]

theorem two_pow_dvd_revPart (n x : Nat) : ∀ j, 2 ^ (n - j) ∣ revPart n x j
  | 0 => by simp [revPart]
  | j + 1 => by
    have hlower : 2 ^ (n - (j + 1)) ∣ revPart n x j := (Nat.pow_dvd_pow 2 (by omega)).trans (two_pow_dvd_revPart n x j)
    have hbit : 2 ^ (n - (j + 1)) ∣ 2 ^ (n - 1 - j) := Nat.pow_dvd_pow 2 (by omega)
    rw [revPart_succ]
    split
    · exact Nat.dvd_add hlower hbit
    · exact hlower

/-- The first `j` bits of the operand stand reversed in the upper `j` bits of the field. -/
theorem testBit_revPart {n x j : Nat} (hj : j ≤ n) (i : Nat) :
    (revPart n x j).testBit i = (decide (n - j ≤ i) && decide (i < n) && x.testBit (n - 1 - i)) := by
  induction j with
  | zero =>
    by_cases hi : n ≤ i
    · simp [revPart, Nat.not_lt.2 hi]
    · simp [revPart, hi]
  | succ j ih =>
    have ih := ih (Nat.le_of_succ_le hj)
    obtain ⟨q, hq⟩ := two_pow_dvd_revPart n x j
    have hor : revPart n x j + 2 ^ (n - 1 - j) = revPart n x j ||| 2 ^ (n - 1 - j) := by
      rw [hq, Nat.two_pow_add_eq_or_of_lt (Nat.pow_lt_pow_right (by decide) (by omega))]
    by_cases hi : n - 1 - j = i
    · subst hi
      have hback : n - 1 - (n - 1 - j) = j := by omega
      have hout : ¬ n - j ≤ n - 1 - j := by omega
      have hin : n - (j + 1) ≤ n - 1 - j ∧ n - 1 - j < n := by omega
      rw [revPart_succ, hor]
      split <;> simp_all
    · have hsame : n - (j + 1) ≤ i ↔ n - j ≤ i := by omega
      rw [revPart_succ, hor]
      split <;> simp [Nat.testBit_or, hi, hsame, ih]

theorem testBit_revBits {n x i : Nat} (hi : i < n) : (revBits n x).testBit i = x.testBit (n - 1 - i) := by
  refine (testBit_revPart (Nat.le_refl n) i).trans ?_
  simp [hi]

theorem revBits_lt (n x : Nat) : revBits n x < 2 ^ n :=
  Nat.lt_pow_two_of_testBit _ fun i hi => (testBit_revPart (Nat.le_refl n) i).trans (by simp [Nat.not_lt.2 hi])

/-! ## The modes (R375) -/

theorem clog2_eq {l k : Nat} (hl : 0 < l) (hlow : 2 ^ k < 2 * l) (hhigh : l ≤ 2 ^ k) : clog2 l = k := by
  unfold clog2
  cases k with
  | zero => exact if_pos (by simpa using hhigh)
  | succ k =>
    rw [Nat.pow_succ] at hlow hhigh
    have hpos : 1 ≤ 2 ^ k := Nat.one_le_two_pow
    have hlog : Nat.log2 (l - 1) = k := (Nat.log2_eq_iff (by omega)).2 (by rw [Nat.pow_succ]; omega)
    rw [if_neg (by omega), hlog]

/-- A value of `n` bits put at bit `e`. -/
theorem fld_put_span {n e v : Nat} {a : Word} (hn : 1 ≤ n) (hv : v < 2 ^ n) :
    (⟨0, e + n - 1, e⟩ : Fld).put a v = BitVec.ofNat 32 (a.toNat % 2 ^ e + v * 2 ^ e + a.toNat / 2 ^ (n + e) * 2 ^ (n + e)) := by
  have htop : e + n - 1 + 1 = n + e := by omega
  simp only [Fld.put, htop, Nat.add_sub_cancel, Nat.mod_eq_of_lt hv]

/-- The modular update: the buffer starts where the low bits of `a` are cleared. -/
theorem addrNext_modular {a m l am : Word} {k : Nat} (hbr : am.getLsbD 7 = false) (hl : l ≠ 0) (hlow : 2 ^ k < 2 * l.toNat)
    (hhigh : l.toNat ≤ 2 ^ k) :
    addrNext a m l am = BitVec.ofInt 32 (((a.toNat / 2 ^ k * 2 ^ k : Nat) : Int) + ((a.toNat % 2 ^ k : Nat) + m.toInt) % (l.toNat : Int)) := by
  have hpos : 0 < l.toNat := Nat.pos_of_ne_zero fun h => hl (BitVec.eq_of_toNat_eq h)
  have hoff : (a.toNat : Int) - (a.toNat / 2 ^ k * 2 ^ k : Nat) = (a.toNat % 2 ^ k : Nat) := by
    have := Nat.div_add_mod' a.toNat (2 ^ k)
    omega
  simp only [addrNext, hbr, Bool.false_eq_true, if_false, if_neg hl, clog2_eq hpos hlow hhigh, hoff]

/-- The bit-reversed update: the field of `n` bits from bit `e` on is replaced, the other bits stay. -/
theorem addrNext_reversed {a m l am : Word} {i : Nat} (hbr : am.getLsbD 7 = true) (hbits : am.toNat % 32 ≠ 0) (hi : i < 32) :
    let n := min 16 (am.toNat % 32)
    let e := am.toNat / 32 % 4
    (addrNext a m l am).getLsbD i = if e ≤ i ∧ i < e + n then
      Nat.testBit (revBits n (a.toNat / 2 ^ e % 2 ^ n) + m.toNat / 2 ^ e) (n - 1 - (i - e)) else a.getLsbD i := by
  have hn : 1 ≤ min 16 (am.toNat % 32) ∧ min 16 (am.toNat % 32) ≤ 16 := by omega
  have he : am.toNat / 32 % 4 < 4 := Nat.mod_lt _ (by decide)
  simp only [addrNext, hbr, if_true]
  generalize min 16 (am.toNat % 32) = n at hn ⊢
  generalize am.toNat / 32 % 4 = e at he ⊢
  rw [if_neg (by omega), ← fld_put_span hn.1 (revBits_lt _ _), Fld.getLsbD_put _ _ _ _ (by simp only; omega) hi]
  have hrange : (e ≤ i ∧ i ≤ e + n - 1) ↔ (e ≤ i ∧ i < e + n) := by omega
  simp only [hrange]
  by_cases hin : e ≤ i ∧ i < e + n
  · have hlow : n - 1 - (i - e) < n := by omega
    rw [if_pos hin, if_pos hin, testBit_revBits (by omega), Nat.testBit_mod_two_pow, decide_eq_true hlow, Bool.true_and]
  · rw [if_neg hin, if_neg hin]

/-- Settles O55: one bullet for each mode, the reversed one taken apart in `addrNext_reversed`. -/
theorem addressUpdate : Obligations.AddressUpdate := by
  refine ⟨fun a m am hbr => ?_, fun a m l am k hbr hl hlow hhigh => addrNext_modular hbr hl hlow hhigh, fun a m l am hbr hbits => ?_,
    fun a m l am i hbr hbits hi => addrNext_reversed hbr hbits hi, fun n x i hi => testBit_revBits hi⟩
  · simp only [addrNext, hbr, Bool.false_eq_true, if_false, if_true]
  · simp only [addrNext, hbr, hbits, Nat.min_zero, if_true]

/-! ## The Trouble-log ring -/

section
variable (m : Mach) {kind unit arg : Nat} {d0 d1 : Word}

/-- A Logline record leaves the Trouble log as it is. -/
theorem loglinePush_tlog {tseq ext0 ext1 : Word} {gap : Bool} (m : Mach) :
    (m.loglinePush kind unit arg d0 d1 tseq ext0 ext1 gap).log.ring = m.log.ring ∧
      (m.loglinePush kind unit arg d0 d1 tseq ext0 ext1 gap).reg pgTlog 0x044 = m.reg pgTlog 0x044 := by
  have hdrop : OnlyRegs (fun k _ => k = pgLogline) m ((m.incSat pgLogline Logline.DROPS).raise pgLogline 0) :=
    OnlyRegs.trans (OnlyRegs.setFld _ (by decide) rfl) ((OnlyRegs.raise 0).mono fun _ _ h => h.1)
  have hdepth (q : Mach) : OnlyRegs (fun k _ => k = pgLogline) q (q.setFld pgLogline Logline.QDEPTH q.log.queue.length) :=
    OnlyRegs.setFld _ (by decide) rfl
  unfold Mach.loglinePush
  split
  · exact ⟨rfl, rfl⟩
  split
  · obtain ⟨live, hlive⟩ := hdrop.rest
    exact ⟨by rw [hlive], hdrop.reg _ _ (by decide) (by decide)⟩
  · exact ⟨by simp, (hdepth _).reg _ _ (by decide) (by decide)⟩

/-- The word of an entry that holds its kind above EPOCH and the upper count. -/
theorem entry_kind {kind epoch rk : Nat} (hkind : kind < 256) (hepoch : epoch < 256) (hrk : rk < 2 ^ 48) :
    (BitVec.ofNat 32 (kind * 2 ^ 24 + epoch * 2 ^ 16 + rk / 2 ^ 32)).toNat / 2 ^ 24 = kind := by
  rw [BitVec.toNat_ofNat]
  omega

/-- What an entry leaves: the ring with its slot written, and SEQ one further. -/
theorem tlogWrite_ring :
    ∃ e : TEntry, (m.tlogWrite kind unit arg d0 d1).log.ring = tput m.log.ring entryNone ((m.reg pgTlog 0x044).toNat % 4096) e ∧
      (m.tlogWrite kind unit arg d0 d1).reg pgTlog 0x044 = m.reg pgTlog 0x044 + 1 ∧
      e.seq = m.reg pgTlog 0x044 ∧ e.d0 = d0 ∧ e.d1 = d1 ∧ e.rkLo = BitVec.ofNat 32 m.rk ∧
      e.kind = BitVec.ofNat 32 (kind * 2 ^ 24 + m.fld pgReckon Reckon.EPOCH * 2 ^ 16 + m.rk / 2 ^ 32) := by
  have hseq (q : Mach) (cnt : Nat) (w : Word) :
      (((q.setReg pgTlog 0x044 (m.reg pgTlog 0x044 + 1)).setFld pgTlog Tlog.COUNT cnt).setReg pgTlog 0x048 w).reg pgTlog 0x044 =
        m.reg pgTlog 0x044 + 1 := by
    rw [Mach.reg_setReg_off _ _ (by decide), Mach.reg_setFld_off _ _ (by decide), Mach.reg_setReg_self]
  cases hcopy : (m.reg pgLogline 0x040).getLsbD kind && decide (1 ≤ kind) && decide (kind ≤ 15) with
  | true =>
    simp only [Mach.tlogWrite, hcopy, if_true]
    exact ⟨_, (loglinePush_tlog _).1, (loglinePush_tlog _).2.trans (hseq _ _ _), rfl, rfl, rfl, rfl, rfl⟩
  | false =>
    simp only [Mach.tlogWrite, hcopy, Bool.false_eq_true, if_false]
    exact ⟨_, rfl, hseq _ _ _, rfl, rfl, rfl, rfl, rfl⟩

end

/-- Settles O58. -/
theorem logRing : Obligations.LogRing := by
  intro m kind unit arg d0 d1 hkind hrk
  obtain ⟨e, hring, hseq, heseq, hd0, hd1, hrkLo, hword⟩ := tlogWrite_ring m (kind := kind) (unit := unit) (arg := arg) (d0 := d0) (d1 := d1)
  have hepoch : m.fld pgReckon Reckon.EPOCH < 256 := Nat.mod_lt _ (by decide)
  simp only [hring, tget_tput_self, hseq, heseq, hd0, hd1, hrkLo, hword, entry_kind hkind hepoch hrk, true_and]
  exact fun i hi => tget_tput_ne _ _ _ _ hi

end Sys2Proof.Machine
end

section
/-! PROOFS. O30 and O53: transfers, REP, WAIT, TRAP and BREAK at a plain boundary, and the return stack (14_strand_architecture.md R373, R377,
R379; 15_strand_instructions.md R403 to R405). -/

namespace Sys2Proof.Machine

/-- The operations of the C unit but NOP. -/
def SOp.control : SOp → Bool
  | .br _ | .call _ | .brdec _ | .brr _ | .callr _ | .ret | .reti | .rep _ | .repr _ | .wait | .trap _ | .brk => true
  | _ => false

/-- An operation of the C unit touches no memory and writes no register of its own. -/
theorem control_facts {op : SOp} (h : op.control = true) :
    (∀ k : Core, k.accs op = []) ∧ (∀ (m : Mach) (c : Nat) (k : Core), m.lFault c k op false = none) ∧
    (∀ k : Core, k.mOp op (k.xyOp op Writes.none) = Writes.none) ∧
    (∀ (c : Nat) (k : Core) (w : Writes) (s : State), lEffect c k op w s = (w, s)) ∧
    (∀ (unit pr : Nat) (k : Core), k.waits [⟨unit, pr, op⟩] = .ready) := by
  have hwaits (hsync : op ≠ .sync) (hswap : ∀ rd i : Nat, op ≠ .swap rd i) (haccs : ∀ k : Core, k.accs op = []) (unit pr : Nat) (k : Core) :
      k.waits [⟨unit, pr, op⟩] = .ready := waits_ready hsync hswap (by simp [haccs]) unit pr
  cases op with
  | br | call | brdec | brr | callr | ret | reti | rep | repr | wait | trap | brk =>
    exact ⟨fun _ => rfl, fun _ _ _ => rfl, fun _ => rfl, fun _ _ _ _ => rfl, hwaits (by simp) (by simp) fun _ => rfl⟩
  | _ => exact absurd h Bool.false_ne_true

/-- The transfers, and their writes: BRDEC counts RPT down. -/
def Core.controlWrites (k : Core) (op : SOp) : Writes := if op.isBrdec then { Writes.none with rpt := some (k.rpt - 1) } else Writes.none

section
variable {s : State} {c : Nat} {y : Syl}

/-- The trap of a group of one operation of the C unit whose guard reads 1. -/
theorem groupFault_control {n : Nat} (hguard : (s.m.core c).pred y.pr = true) (hop : y.op.control = true)
    (hlegal : illegal [.ok y] = none) (hjumps : (s.m.core c).jumps = [])
    (hbody : y.op.isRep = true → ((sylsOf (fetchAt s.m s.mem c n).decs).any fun z => z.op.rptWriter) = false) :
    groupFault c ⟨(s.m.core c).pc, n, [.ok y], none⟩ 0 s =
      (cFault s.m s.mem c (s.m.core c) (s.m.core c).pc y.op).map fun q => ⟨q.1, q.2, 0, y.unit, none⟩ := by
  obtain ⟨-, hl, -⟩ := control_facts hop
  have hsyls : sylsOf [.ok y] = [y] := rfl
  have hplain : ((s.m.core c).rep.isNone && y.op.isRep && (sylsOf (fetchAt s.m s.mem c n).decs).any fun z => z.op.rptWriter) = false := by
    cases hrep : y.op.isRep
    · simp
    · simp [hbody hrep]
  simp [groupFault, hlegal, hsyls, hguard, hjumps, slotPass_nil, hl, hplain, List.findIdx_cons]

/-- A group that neither pushes nor pops. -/
theorem commit_sameFrames (w : Writes) (k : Core) : ({ k.commit w with frames := k.frames } : Core) = k.commit w := by
  rw [← commit_frames w k]

/-- An operation of the C unit that does not trap runs: its frames, its transfer or count, and what the group's end shows. -/
theorem issueOp_control (hm : s.m.mainOff = false) (hp : s.m.plain c = true) (hguard : (s.m.core c).pred y.pr = true)
    (hop : y.op.control = true) (hlegal : illegal [.ok y] = none)
    (hbody : y.op.isRep = true →
      ((sylsOf (fetchAt s.m s.mem c (s.m.core c).nextWord).decs).any fun z => z.op.rptWriter) = false)
    (hsound : cFault s.m s.mem c (s.m.core c) (s.m.core c).pc y.op = none) :
    let k := s.m.core c
    let g : Group := ⟨k.pc, k.nextWord, [y]⟩
    let q := ({ k.commit (k.controlWrites y.op) with frames := framesAfter c g k [y] s } : Core)
    issueOp c y s = { s with m := s.m.groupEnds c k.pc y.op.isWait (q.leave c g (cJump k k.pc y.op) (repCount k y.op) s) } := by
  intro k g q
  obtain ⟨-, hstall, -, -, hjumps, -⟩ := (plain_iff _ _).1 hp
  obtain ⟨-, -, hw, heffect, hready⟩ := control_facts hop
  have hfault : groupFault c ⟨k.pc, k.nextWord, [.ok y], none⟩ 0 s = none := by
    rw [groupFault_control hguard hop hlegal hjumps hbody, hsound, Option.map_none]
  have hissue : issueReady c g s = runGroup c g s := by rw [issueReady, hready y.unit y.pr]
  have hk (w : Writes) (fr : List Frame) : ({ k.commit w with frames := fr, wbuf := k.wbuf, stall := none } : Core) =
      { k.commit w with frames := fr } := congrArg (fun q : Core => { q with frames := fr }) (commit_same w k hstall)
  have hlive : g.syls.filter (fun z => k.pred z.pr) = [y] := by simp [g, k, hguard]
  rw [issueOp_plain hm hp hfault, hissue, runGroup]
  simp only [← show k = s.m.core c from rfl, hlive, List.foldl_cons, List.foldl_nil, hw, heffect, List.any_cons, List.any_nil, Bool.or_false,
    List.findSome?_cons, List.findSome?_nil, hk]
  cases cJump k g.addr y.op <;> cases repCount k y.op <;> rfl

/-! ## Transfers (R373, R377, R403) -/

/-- Two descriptions of one core leave one state. -/
theorem grouped_congr {f f' : Core → Core} {w : Writes}
    (h : f { (s.m.core c).commit w with pc := (s.m.core c).nextWord } = f' { (s.m.core c).commit w with pc := (s.m.core c).nextWord }) :
    s.grouped c f w = s.grouped c f' w :=
  congrArg (fun q : Core => ({ s with m := (s.m.setCore c q).setFld pgStrand (Strandctl.C_PC c) (s.m.core c).pc } : State)) h

theorem grouped_id (w : Writes) : s.grouped c id w = { s with
    m := (s.m.setCore c { (s.m.core c).commit w with pc := (s.m.core c).nextWord }).setFld pgStrand (Strandctl.C_PC c) (s.m.core c).pc } := rfl

/-- A transfer to a permitted target does not trap, where a call finds room on the return stack. -/
theorem cFault_transfer {op : SOp} {k : Core} {a t : Nat} {st : Option Word} (hjump : cJump k a op = some (t, st))
    (hgood : s.goodTarget c t = true) (hroom : op.stackOp = some true → k.frames.length < 28) : cFault s.m s.mem c k a op = none := by
  have htarget : (decide (t % 2 = 1) || badTarget s.m s.mem c t) = false := by
    simp only [State.goodTarget, Bool.and_eq_true, beq_iff_eq, Bool.not_eq_true'] at hgood
    simp [hgood.1, hgood.2]
  have hpopped (fr : List Frame) (g : Frame → Nat × Option Word) (h : fr.head?.map g = some (t, st)) : fr.isEmpty = false := by
    cases fr
    · simp at h
    · rfl
  unfold cFault
  rw [hjump]
  simp only [htarget, Bool.false_eq_true, if_false]
  cases op with
  | call off => rw [if_neg (Nat.not_le.2 (hroom rfl))]; rfl
  | callr rs1 => rw [if_neg (Nat.not_le.2 (hroom rfl))]; rfl
  | ret => rw [hpopped _ _ hjump]; rfl
  | reti => rw [hpopped _ _ hjump]; rfl
  | trap code => exact absurd hjump (by simp [cJump])
  | brk => exact absurd hjump (by simp [cJump])
  | _ => rfl

/-- A transfer is pending behind its two delay groups, with the frames its operation leaves. -/
theorem issueOp_transfer {t : Nat} {st : Option Word} (hm : s.m.mainOff = false) (hp : s.m.plain c = true)
    (hguard : (s.m.core c).pred y.pr = true) (hop : y.op.control = true) (hlegal : illegal [.ok y] = none)
    (hjump : cJump (s.m.core c) (s.m.core c).pc y.op = some (t, st)) (hgood : s.goodTarget c t = true)
    (hroom : y.op.stackOp = some true → (s.m.core c).frames.length < 28) :
    issueOp c y s = s.grouped c (fun x => { x with
      jumps := [⟨2, t, st⟩]
      frames := framesAfter c ⟨(s.m.core c).pc, (s.m.core c).nextWord, [y]⟩ (s.m.core c) [y] s })
      ((s.m.core c).controlWrites y.op) := by
  obtain ⟨-, hstall, -, -, hjumps, hrep, hdoze, hirq⟩ := (plain_iff _ _).1 hp
  have hfacts : y.op.isRep = false ∧ repCount (s.m.core c) y.op = none ∧ y.op.isWait = false := by
    obtain ⟨unit, pr, op⟩ := y
    cases op <;> simp_all [cJump, SOp.isRep, repCount, SOp.isWait]
  obtain ⟨hnorep, hcount, hwait⟩ := hfacts
  rw [issueOp_control hm hp hguard hop hlegal (by simp [hnorep]) (cFault_transfer hjump hgood hroom), hjump, hcount, hwait,
    leave_jump (by exact (commit_rep _ _).trans hrep) (by exact (commit_jumps _ _).trans hjumps),
    groupEnds_plain hirq (by exact (commit_dozeReq _ _).trans hdoze)]
  rfl

/-- A transfer that neither pushes nor pops. -/
theorem issueOp_branch {t : Nat} {st : Option Word} (hm : s.m.mainOff = false) (hp : s.m.plain c = true)
    (hguard : (s.m.core c).pred y.pr = true) (hop : y.op.control = true) (hlegal : illegal [.ok y] = none)
    (hjump : cJump (s.m.core c) (s.m.core c).pc y.op = some (t, st)) (hgood : s.goodTarget c t = true) (hstack : y.op.stackOp = none) :
    issueOp c y s = s.grouped c (fun x => { x with jumps := [⟨2, t, st⟩] }) ((s.m.core c).controlWrites y.op) := by
  rw [issueOp_transfer hm hp hguard hop hlegal hjump hgood (by simp [hstack])]
  refine grouped_congr ?_
  simp only [framesAfter, List.findSome?_cons, hstack, List.findSome?_nil]
  rw [← commit_frames ((s.m.core c).controlWrites y.op) (s.m.core c)]

/-- A call pushes the address behind its delay groups. -/
theorem issueOp_call {t : Nat} {st : Option Word} (hm : s.m.mainOff = false) (hp : s.m.plain c = true)
    (hguard : (s.m.core c).pred y.pr = true) (hop : y.op.control = true) (hlegal : illegal [.ok y] = none)
    (hjump : cJump (s.m.core c) (s.m.core c).pc y.op = some (t, st)) (hgood : s.goodTarget c t = true) (hstack : y.op.stackOp = some true)
    (hroom : (s.m.core c).frames.length < 28) :
    issueOp c y s = s.grouped c (fun x => { x with
      jumps := [⟨2, t, st⟩]
      frames := ⟨(fetchAt s.m s.mem c (fetchAt s.m s.mem c (s.m.core c).nextWord).next).next, (s.m.core c).status, 0⟩ :: x.frames })
      ((s.m.core c).controlWrites y.op) := by
  obtain ⟨-, -, -, -, hjumps, -⟩ := (plain_iff _ _).1 hp
  rw [issueOp_transfer hm hp hguard hop hlegal hjump hgood fun _ => hroom]
  refine grouped_congr ?_
  simp only [framesAfter, List.findSome?_cons, hstack, hjumps, afterTwo, slotPass_nil]
  rw [← commit_frames ((s.m.core c).controlWrites y.op) (s.m.core c)]

/-- A return takes the newest frame. -/
theorem issueOp_return {t : Nat} {st : Option Word} {fr : Frame} {rest : List Frame} (hm : s.m.mainOff = false) (hp : s.m.plain c = true)
    (hguard : (s.m.core c).pred y.pr = true) (hop : y.op.control = true) (hlegal : illegal [.ok y] = none)
    (hjump : cJump (s.m.core c) (s.m.core c).pc y.op = some (t, st)) (hgood : s.goodTarget c t = true) (hstack : y.op.stackOp = some false)
    (hframes : (s.m.core c).frames = fr :: rest) :
    issueOp c y s = s.grouped c (fun x => { x with jumps := [⟨2, t, st⟩], frames := rest }) ((s.m.core c).controlWrites y.op) := by
  rw [issueOp_transfer hm hp hguard hop hlegal hjump hgood (by simp [hstack])]
  refine grouped_congr ?_
  simp only [framesAfter, List.findSome?_cons, hstack, hframes, List.drop_one, List.tail_cons]

/-! ## REP, WAIT, and the traps of the C unit (R379, R381, R405) -/

theorem advance_nil (m : Mach) (mem : Memory) {k : Core} (next : Nat) (hjumps : k.jumps = []) :
    k.advance m mem c next none = { k with pc := next } := by
  obtain ⟨⟩ := k
  simp_all [Core.advance, slotPass_nil]

/-- A REP of no iterations skips its body, any other counts the group that follows. -/
theorem leave_rep {g : Group} {k : Core} (n : Nat) (hrep : k.rep = none) (hjumps : k.jumps = []) :
    k.leave c g none (some n) s = if n = 0 then { k with rpt := 0, pc := (fetchAt s.m s.mem c g.next).next }
      else { k with pc := g.next, rpt := BitVec.ofNat 32 n, rep := some n } := by
  unfold Core.leave
  rw [hrep]
  simp only [Option.map_none, advance_nil _ _ _ hjumps]
  cases n with
  | zero =>
    simp only [if_true, hrep]
    exact advance_nil _ _ _ (by exact hjumps)
  | succ n => rfl

theorem issueOp_rep {n : Nat} (hm : s.m.mainOff = false) (hp : s.m.plain c = true) (hguard : (s.m.core c).pred y.pr = true)
    (hop : y.op.isRep = true) (hlegal : illegal [.ok y] = none) (hcount : repCount (s.m.core c) y.op = some n)
    (hbody : ((sylsOf (fetchAt s.m s.mem c (s.m.core c).nextWord).decs).any fun z => z.op.rptWriter) = false) :
    issueOp c y s = s.grouped c (fun x => if n = 0 then { x with rpt := 0, pc := (fetchAt s.m s.mem c (s.m.core c).nextWord).next }
      else { x with rpt := BitVec.ofNat 32 n, rep := some n }) Writes.none := by
  obtain ⟨-, hstall, -, -, hjumps, hrep, hdoze, hirq⟩ := (plain_iff _ _).1 hp
  have hfacts : y.op.control = true ∧ cFault s.m s.mem c (s.m.core c) (s.m.core c).pc y.op = none ∧
      cJump (s.m.core c) (s.m.core c).pc y.op = none ∧ y.op.isWait = false ∧ (s.m.core c).controlWrites y.op = Writes.none ∧
      y.op.stackOp = none := by
    obtain ⟨unit, pr, op⟩ := y
    cases op with
    | rep _ => exact ⟨rfl, rfl, rfl, rfl, rfl, rfl⟩
    | repr _ => exact ⟨rfl, rfl, rfl, rfl, rfl, rfl⟩
    | _ => exact absurd hop Bool.false_ne_true
  obtain ⟨hcontrol, hsound, hjump, hwait, hw, hstack⟩ := hfacts
  rw [issueOp_control hm hp hguard hcontrol hlegal (fun _ => hbody) hsound, hjump, hcount, hwait, hw]
  simp only [framesAfter, List.findSome?_cons, hstack, List.findSome?_nil, commit_sameFrames]
  rw [leave_rep n ((commit_rep _ _).trans hrep) ((commit_jumps _ _).trans hjumps), groupEnds_plain hirq (by split <;> exact (commit_dozeReq _ _).trans hdoze)]
  rfl

theorem groupEnds_wait {k : Core} {m : Mach} {a : Nat} (hc : c < 6) (hdoze : k.dozeReq = false) (hirq : m.irqDue c = 0) :
    m.groupEnds c a true k = ((m.setCore c k).setFld pgStrand (Strandctl.C_PC c) a).setCoreSt c 3 := by
  have hshown : ((m.setCore c k).setFld pgStrand (Strandctl.C_PC c) a).irqDue c = 0 := by rw [irqDue_pc, hirq]
  have hcore : (((m.setCore c k).setFld pgStrand (Strandctl.C_PC c) a).core c).dozeReq = false := by rw [setFld_core, core_setCore, hdoze]
  unfold Mach.groupEnds
  generalize (m.setCore c k).setFld pgStrand (Strandctl.C_PC c) a = q at hshown hcore ⊢
  have hdue : (q.setCoreSt c 3).irqDue c = 0 := by rw [irqDue_setCoreSt _ hc, hshown]
  have hsettled : (q.setCoreSt c 3).dozeSettle c = q.setCoreSt c 3 := dozeSettle_none (by rw [core_setCoreSt, hcore])
  simp only [hshown, beq_self_eq_true, Bool.or_true, Bool.and_true, if_true]
  generalize q.setCoreSt c 3 = q' at hdue hsettled ⊢
  simp only [hdue, bne_self_eq_false, Bool.false_and, Bool.false_eq_true, if_false, hsettled]

/-- WAIT at a boundary where nothing is pending waits. -/
theorem issueOp_wait {unit pr : Nat} (hc : c < 6) (hm : s.m.mainOff = false) (hp : s.m.plain c = true)
    (hguard : (s.m.core c).pred pr = true) (hlegal : illegal [.ok ⟨unit, pr, .wait⟩] = none) :
    issueOp c ⟨unit, pr, .wait⟩ s =
      { s.grouped c id Writes.none with m := (s.grouped c id Writes.none).m.setCoreSt c 3 } := by
  obtain ⟨-, hstall, -, hlive, hjumps, hrep, hdoze, hirq⟩ := (plain_iff _ _).1 hp
  rw [issueOp_control hm hp hguard rfl hlegal (by simp [SOp.isRep]) rfl]
  simp only [SOp.isWait, cJump, repCount, framesAfter, List.findSome?_cons, SOp.stackOp, List.findSome?_nil, Core.controlWrites, SOp.isBrdec, Bool.false_eq_true, if_false, commit_sameFrames]
  rw [leave_plain ((commit_rep _ _).trans hrep) ((commit_jumps _ _).trans hjumps), groupEnds_wait hc (by exact (commit_dozeReq _ _).trans hdoze) hirq, grouped_id]

/-- The C unit's own trap of an operation whose guard reads 1. -/
theorem issueOp_control_traps {cause sub : Nat} (hm : s.m.mainOff = false) (hp : s.m.plain c = true) (hguard : (s.m.core c).pred y.pr = true)
    (hop : y.op.control = true) (hnorep : y.op.isRep = false) (hlegal : illegal [.ok y] = none)
    (hfault : cFault s.m s.mem c (s.m.core c) (s.m.core c).pc y.op = some (cause, sub)) (hcause : cause ≠ 7) :
    issueOp c y s = { s with
      m := s.m.coreTrap c ⟨cause, sub, 0, y.unit, none⟩ (if cause = 5 ∨ cause = 6 then (s.m.core c).nextWord else (s.m.core c).pc)
        (s.m.core c).status } := by
  obtain ⟨-, -, -, -, hjumps, -⟩ := (plain_iff _ _).1 hp
  refine issueOp_traps hm hp ?_ hcause
  rw [groupFault_control hguard hop hlegal hjumps (by simp [hnorep]), hfault, Option.map_some]

end

/-! ## Rows -/

section
variable {i : Instr} {s : State} {c : Fin 6} {y : Syl} {F : Core → Core} {u : State}

/-- A row whose operation does what `u` says under its guard, and nothing otherwise. -/
theorem exec_controlOp (hrow : exec i s = onRun (onState fun t => issueOp c y t) s) (hm : s.m.mainOff = false)
    (hentering : s.m.entering = false) (hp : s.m.plain c = true) (hlegal : illegal [.ok y] = none)
    (hbody : y.op.isRep = true → ((sylsOf (fetchAt s.m s.mem c (s.m.core c).nextWord).decs).any fun z => z.op.rptWriter) = false)
    (hacts : (s.m.core c).pred y.pr = true → issueOp c y s = u) :
    exec i s = .next (s.afterState (if (s.m.core c).pred y.pr then u else s.grouped c id Writes.none)) := by
  refine exec_issueOp hrow hm hentering ?_
  cases hguard : (s.m.core c).pred y.pr with
  | true => exact hacts hguard
  | false => exact issueOp_unguarded hm hp hguard hlegal hbody

/-- A change of the core under a guard. -/
theorem grouped_guarded (s : State) (pr : Nat) (F : Core → Core) :
    (if (s.m.core c).pred pr then s.grouped c F Writes.none else s.grouped c id Writes.none) =
      s.grouped c (fun x => if (s.m.core c).pred pr then F x else x) Writes.none := by
  cases hguard : (s.m.core c).pred pr <;> rfl

theorem exec_transferOp (hrow : exec i s = onRun (onState fun t => issueOp c y t) s) (hm : s.m.mainOff = false)
    (hentering : s.m.entering = false) (hp : s.m.plain c = true) (hlegal : illegal [.ok y] = none) (hnorep : y.op.isRep = false)
    (hacts : (s.m.core c).pred y.pr = true → issueOp c y s = s.grouped c F Writes.none) :
    exec i s = .next (s.afterState (s.grouped c (fun x => if (s.m.core c).pred y.pr then F x else x) Writes.none)) := by
  rw [exec_controlOp hrow hm hentering hp hlegal (by simp [hnorep]) hacts, grouped_guarded]

/-- BRDEC counts down, and branches unless that leaves 0. -/
theorem issueOp_brdec {pr : Nat} {off : Int} (hm : s.m.mainOff = false) (hp : s.m.plain c = true) (hguard : (s.m.core c).pred pr = true)
    (hgood : (s.m.core c).rpt ≠ 1 → s.goodTarget c (BitVec.ofInt 32 (((s.m.core c).pc : Int) + 2 * off)).toNat = true) :
    issueOp c ⟨4, pr, .brdec off⟩ s = s.grouped c (fun x => if (s.m.core c).rpt ≠ 1 then { x with
      jumps := [⟨2, (BitVec.ofInt 32 (((s.m.core c).pc : Int) + 2 * off)).toNat, none⟩] } else x)
      { Writes.none with rpt := some ((s.m.core c).rpt - 1) } := by
  obtain ⟨-, hstall, -, -, hjumps, hrep, hdoze, hirq⟩ := (plain_iff _ _).1 hp
  by_cases hlast : (s.m.core c).rpt = 1
  · have hjump : cJump (s.m.core c) (s.m.core c).pc (.brdec off) = none := if_pos hlast
    have hsound : cFault s.m s.mem c (s.m.core c) (s.m.core c).pc (.brdec off) = none := by
      unfold cFault
      rw [hjump]
      rfl
    rw [issueOp_control hm hp hguard rfl (illegal_one rfl rfl) (by simp [SOp.isRep]) hsound, hjump]
    simp only [framesAfter, List.findSome?_cons, SOp.stackOp, List.findSome?_nil, repCount, SOp.isWait, commit_sameFrames]
    rw [leave_plain ((commit_rep _ _).trans hrep) ((commit_jumps _ _).trans hjumps), groupEnds_plain hirq (by exact (commit_dozeReq _ _).trans hdoze)]
    exact grouped_congr (f := id) (if_neg (not_not_intro hlast)).symm
  · rw [issueOp_branch (y := ⟨4, pr, .brdec off⟩) hm hp hguard rfl (illegal_one rfl rfl) (if_neg hlast) (hgood hlast) rfl]
    refine grouped_congr ?_
    rw [if_pos hlast]

end

/-- A return with a frame on the stack goes to its address. -/
theorem cJump_head {k : Core} {fr : Frame} {rest : List Frame} (hframes : k.frames = fr :: rest) (a : Nat) :
    cJump k a .ret = some (fr.addr, none) ∧ cJump k a .reti = some (fr.addr, some fr.status) := by
  simp [cJump, hframes]

/-- Settles O30: one bullet for each operation, in the order of the statement; `y` is the syllable the row issues. -/
theorem transfersComplete : Obligations.TransfersComplete := by
  refine ⟨?_, ?_, ?_, ?_, ?_, ?_, ?_, ?_, ?_, ?_, ?_, ?_, ?_⟩
  · intro s c pr hm he hp
    refine (exec_registerOp (y := ⟨4, pr, .nop⟩) rfl hm he hp rfl rfl).trans ?_
    rw [Core.guarded, show Core.mOp _ _ _ = Writes.none from rfl, ite_self]
  · intro s c pr off hm he hp hgood
    exact exec_transferOp (y := ⟨4, pr, .br off.toInt⟩) rfl hm he hp (illegal_one rfl rfl) rfl fun hguard =>
      issueOp_branch hm hp hguard rfl (illegal_one rfl rfl) rfl (hgood hguard) rfl
  · intro s c pr off hm he hp hgood
    exact exec_transferOp (y := ⟨4, pr, .call off.toInt⟩) rfl hm he hp (illegal_one rfl rfl) rfl fun hguard =>
      issueOp_call hm hp hguard rfl (illegal_one rfl rfl) rfl (hgood hguard).1 rfl (hgood hguard).2
  · intro s c pr off hm he hp hgood
    refine (exec_controlOp (y := ⟨4, pr, .brdec off.toInt⟩) rfl hm he hp (illegal_one rfl rfl) nofun fun hguard =>
      issueOp_brdec hm hp hguard (hgood hguard)).trans ?_
    cases hguard : (s.m.core c).pred pr with
    | true => simp only [Core.guarded, hguard, if_true, Bool.true_and, decide_eq_true_eq]
    | false => simp only [Core.guarded, hguard, Bool.false_and, Bool.false_eq_true, if_false]; rfl
  · intro s c pr rs1 hm he hp hgood
    exact exec_transferOp (y := ⟨4, pr, .brr rs1⟩) rfl hm he hp (illegal_one rfl rfl) rfl fun hguard =>
      issueOp_branch hm hp hguard rfl (illegal_one rfl rfl) rfl (hgood hguard) rfl
  · intro s c pr rs1 hm he hp hgood
    exact exec_transferOp (y := ⟨4, pr, .callr rs1⟩) rfl hm he hp (illegal_one rfl rfl) rfl fun hguard =>
      issueOp_call hm hp hguard rfl (illegal_one rfl rfl) rfl (hgood hguard).1 rfl (hgood hguard).2
  · intro s c pr fr rest hm he hp hgood
    exact exec_transferOp (y := ⟨4, pr, .ret⟩) rfl hm he hp (illegal_one rfl rfl) rfl fun hguard =>
      issueOp_return hm hp hguard rfl (illegal_one rfl rfl) (cJump_head (hgood hguard).1 _).1 (hgood hguard).2 rfl (hgood hguard).1
  · intro s c pr fr rest hm he hp hgood
    exact exec_transferOp (y := ⟨4, pr, .reti⟩) rfl hm he hp (illegal_one rfl rfl) rfl fun hguard =>
      issueOp_return hm hp hguard rfl (illegal_one rfl rfl) (cJump_head (hgood hguard).1 _).2 (hgood hguard).2 rfl (hgood hguard).1
  · intro s c pr k hm he hp hbody
    rw [exec_controlOp (y := ⟨4, pr, .rep k.toNat⟩) rfl hm he hp (illegal_one rfl rfl) (fun _ => hbody) fun hguard =>
      issueOp_rep hm hp hguard rfl (illegal_one rfl rfl) rfl hbody, grouped_guarded]
  · intro s c pr rs1 hm he hp hbody
    rw [exec_controlOp (y := ⟨4, pr, .repr rs1⟩) rfl hm he hp (illegal_one rfl rfl) (fun _ => hbody) fun hguard =>
      issueOp_rep hm hp hguard rfl (illegal_one rfl rfl) rfl hbody, grouped_guarded]
  · intro s c pr hm he hp
    exact exec_controlOp (y := ⟨4, pr, .wait⟩) rfl hm he hp (illegal_one rfl rfl) nofun fun hguard =>
      issueOp_wait c.isLt hm hp hguard (illegal_one rfl rfl)
  · intro s c pr code hm he hp
    exact exec_controlOp (y := ⟨4, pr, .trap code⟩) rfl hm he hp (illegal_one rfl rfl) nofun fun hguard =>
      issueOp_control_traps hm hp hguard rfl rfl (illegal_one rfl rfl) rfl (by decide)
  · intro s c pr hm he hp
    exact exec_controlOp (y := ⟨4, pr, .brk⟩) rfl hm he hp (illegal_one rfl rfl) nofun fun hguard =>
      issueOp_control_traps hm hp hguard rfl rfl (illegal_one rfl rfl) rfl (by decide)

/-! ## The return stack (R377) -/

section
variable {i : Instr} {s : State} {c : Fin 6} {y : Syl} {sub : Nat}

/-- A row that takes a trap of the return stack. -/
theorem exec_rstack (hrow : exec i s = onRun (onState fun t => issueOp c y t) s) (hm : s.m.mainOff = false)
    (hentering : s.m.entering = false) (hp : s.m.plain c = true) (hguard : (s.m.core c).pred y.pr = true) (hop : y.op.control = true)
    (hnorep : y.op.isRep = false) (hlegal : illegal [.ok y] = none)
    (hfault : cFault s.m s.mem c (s.m.core c) (s.m.core c).pc y.op = some (3, sub)) :
    exec i s = .next (s.afterState { s with m := s.m.coreTrap c ⟨3, sub, 0, y.unit, none⟩ (s.m.core c).pc (s.m.core c).status }) :=
  exec_issueOp hrow hm hentering (issueOp_control_traps hm hp hguard hop hnorep hlegal hfault (by decide))

end

/-- Settles O53: a call without room, a return without a frame, and an interrupt without room. -/
theorem returnStack : Obligations.ReturnStack := by
  refine ⟨fun s c pr off hm he hp hguard hfull => ?_, fun s c pr rs1 hm he hp hguard hfull => ?_,
    fun s c pr hm he hp hguard hempty => ⟨?_, ?_⟩, fun m c hfull => ?_⟩
  · exact exec_rstack (y := ⟨4, pr, .call off.toInt⟩) rfl hm he hp hguard rfl rfl (illegal_one rfl rfl) (by rw [cFault, if_pos hfull]; rfl)
  · exact exec_rstack (y := ⟨4, pr, .callr rs1⟩) rfl hm he hp hguard rfl rfl (illegal_one rfl rfl) (by rw [cFault, if_pos hfull]; rfl)
  · exact exec_rstack (y := ⟨4, pr, .ret⟩) rfl hm he hp hguard rfl rfl (illegal_one rfl rfl) (by rw [cFault, hempty]; rfl)
  · exact exec_rstack (y := ⟨4, pr, .reti⟩) rfl hm he hp hguard rfl rfl (illegal_one rfl rfl) (by rw [cFault, hempty]; rfl)
  · have hroom : (m.core c).acceptable = false := by simp [Core.acceptable, Nat.not_lt.2 hfull]
    have htaken : m.irqTaken c = false := by simp [Mach.irqTaken, hroom]
    rw [Mach.interruptAccept, htaken]
    rfl

end Sys2Proof.Machine
end

section
/-! PROOFS. O36: without power a row of the main domain changes nothing (19_power_states_and_network_sleep.md R470, R471). -/

namespace Sys2Proof.Machine

/-- Every row of the main domain stands in a wrapper that asks for power. -/
theorem exec_unpowered {i : Instr} {s : State} (hmain : mainDomain i = true) (hoff : s.m.mainOff = true) : exec i s = .next s := by
  unfold exec
  cases i with
  | haltNInput | clkDegraded | crystalReturn | reckonCalibration | canWup | canPn | canFec | linWakePulse | wakeN | watchStep | supply |
  staticComparator | tamper | lockoutEnd | failedAttemptExpiry | commitComplete | wake | logicFeedStart | logicFeedStop | watchdog |
  update | recoveryImage => exact absurd hmain Bool.false_ne_true
  | ledgerStore | policyRead | policyWrite | store | storeComplete | entryRead | faultEntry | tlogRead | append | topStore | canObjRead |
  linFrameRead | linFrameWrite | telRead | telWrite | hitchRead | fidPeerRead | fidProxyRead | guardRead | slotRead | writeAttr | drbgReseed
  | tokenRead | tokenWrite => exact onPage_off hoff
  | intent | edge | edgeApply => exact onLink_off hoff
  | ledgerSample | deratingRecompute | rungTurnStart | easeStep | rungRetest | messengerFrame | refresh | syncHeave | poll | inWindow | long
  | cleaningPulse | touchScan | shedTriggerBegin | shedStageRaise | shedStageLower | automaticResumption | interruptAccept | dozeExit |
  linSlot | trdpPublish | hitchLookup | gapExpire | fidResend | helloTimer | epochEnd | reportSend | proxyGatherFlush | proxyCacheRefresh |
  intentSend | ackSend | spliceHealth | hfRcTrim | spliceHelloTimer => exact onRun_off (onUnits_off hoff)
  | offsetRecalibration | arcBaselineUpdate | plug | prpSupervision => exact onRun_off (onPage_off hoff)
  | snapshotComplete | spliceHello | ckptReceived | restoreComplete | lockerRequestDone => exact onState_off hoff
  | add | sub | adc | sbc | adds | subs | andOp | orOp | xorOp | andn | shl | shr | sar | ror | minOp | maxOp | minu | maxu | clz | perm |
  bfx | bfxs | bfi | sel | cmpeq | cmpne | cmplt | cmpltu | cmple | cmpleu | plog | mvtx | mvfx | mvts | mvfs | addi | andi | ori | xori |
  shli | shri | sari | bfxi | bfii | cmpeqi | cmplti | cmpltui | movi | movh | mul | mulh | mulhu | mulq | mac | mach | macz | macd | mvfacc
  | mvtacc | ldoB | ldoBu | ldoH | ldoHu | ldoW | stoB | stoH | stoW | ldp | stp | ldx | stx | push | pop | swap | sync | nop | br | call |
  brdec | brr | callr | ret | reti | rep | repr | wait | trap | breakOp | narrowAccess | issueGroup | accessComplete | writeBufferDrain |
  loadComplete | ckpt => exact onRun_off (onState_off hoff)
  | _ => exact onUnits_off hoff

/-- Settles O36. Which rows belong to the main domain is the reading of notes/assumptions/123.md and 124.md. -/
theorem unpowered : Obligations.Unpowered := fun _ _ => exec_unpowered

end Sys2Proof.Machine
end

section
/-! PROOFS. O60: no read looks into the Locker's slots (20_locker_security.md R492, R508). Only the tree of Bights is walked by recursion;
every other reading names the registers and tables it stands in. -/

namespace Sys2Proof.Machine

/-- The machine with other key slots. -/
def Mach.withKeys (m : Mach) (slots : Table KeySlot) : Mach := { m with locker := { m.locker with slots := slots } }

section
variable (m : Mach) (slots : Table KeySlot)

theorem leavesBelow_withKeys (fuel b : Nat) : (m.withKeys slots).leavesBelow fuel b = m.leavesBelow fuel b := by
  induction fuel generalizing b with
  | zero => rfl
  | succ fuel ih =>
    simp only [Mach.leavesBelow, ih]
    rfl

theorem leaves_withKeys (b : Nat) : (m.withKeys slots).leaves b = m.leaves b :=
  congrArg (List.foldr insertUp []) (leavesBelow_withKeys m slots m.depth b)

theorem aggregate_withKeys (fuel n : Nat) : (m.withKeys slots).aggregate fuel n = m.aggregate fuel n := by
  induction fuel generalizing n with
  | zero => rfl
  | succ fuel ih =>
    simp only [Mach.aggregate, funext ih]
    rfl

theorem peekUnit_withKeys (n off : Nat) : (m.withKeys slots).peekUnit n off = m.peekUnit n off := rfl

theorem firstLeaf_withKeys (b : Nat) : (m.withKeys slots).firstLeaf b = m.firstLeaf b := by
  simp only [Mach.firstLeaf, Mach.presentLeaves, leaves_withKeys]
  rfl

theorem bightState_withKeys (b : Nat) : (m.withKeys slots).bightState b = m.bightState b := by
  simp only [Mach.bightState, leaves_withKeys, aggregate_withKeys]
  rfl

theorem bightCaps_withKeys (b : Nat) : (m.withKeys slots).bightCaps b = m.bightCaps b := by
  simp only [Mach.bightCaps, leaves_withKeys]
  rfl

theorem leafCode_withKeys (b : Nat) : (m.withKeys slots).leafCode b = m.leafCode b := by
  simp only [Mach.leafCode, leaves_withKeys]
  rfl

theorem peek_withKeys (n off : Nat) : (m.withKeys slots).peek n off = m.peek n off := by
  simp only [Mach.peek, bightCaps_withKeys, bightState_withKeys, firstLeaf_withKeys, leafCode_withKeys, leaves_withKeys, peekUnit_withKeys]
  rfl

end

/-- Settles O60: a read at one moment does not look into the slots. -/
theorem keysUnread : Obligations.KeysUnread := fun m slots => peek_withKeys m slots

end Sys2Proof.Machine
end

section
/-! PROOFS. O31: issue, accesses and stores that end, interrupts, and what a core's page commands (14_strand_architecture.md R369 to R388, R546;
19_power_states_and_network_sleep.md R473). -/

namespace Sys2Proof.Machine

/-! ## A core's own steps -/

section
variable {s : State} {c : Nat}

/-- A fetched group at a plain boundary, without an ECC error, that does not trap and waits for nothing takes effect. -/
theorem issueFetched_runs {ecc : Nat} (hm : s.m.mainOff = false) (hp : s.m.plain c = true) (hecc : ecc ≠ 1)
    (hfault : groupFault c (fetchAt s.m s.mem c (s.m.core c).pc) ecc s = none)
    (hready : (s.m.core c).waits (sylsOf (fetchAt s.m s.mem c (s.m.core c).pc).decs) = .ready) :
    issueFetched c ecc s = runGroup c ⟨(fetchAt s.m s.mem c (s.m.core c).pc).addr, (fetchAt s.m s.mem c (s.m.core c).pc).next,
      sylsOf (fetchAt s.m s.mem c (s.m.core c).pc).decs⟩ s := by
  obtain ⟨hrun, hstall, hopen, hlive, hjumps, -⟩ := (plain_iff _ _).1 hp
  have hholds : s.m.replayHolds c = false := by rw [Mach.replayHolds, hlive, Bool.false_and]
  unfold issueFetched issue
  simp [hm, hrun, hstall, hopen, hholds, hjumps, hecc, hfault, issueReady, hready]

/-- An access with more to come goes on. -/
theorem accessComplete_more {g : Group} {n : Nat} (hstall : (s.m.core c).stall = some (g, n + 2)) :
    accessComplete c s = { s with m := s.m.modCore c fun k => { k with stall := some (g, n + 1) } } := by
  simp [accessComplete, hstall]

/-- The last access lets the group take effect, once the buffered stores are out. -/
theorem accessComplete_last {g : Group} (hstall : (s.m.core c).stall = some (g, 1))
    (hrun : (drainAll c { s with m := s.m.modCore c fun k => { k with stall := none } }).m.coreSt c = 2)
    (hopen : ((drainAll c { s with m := s.m.modCore c fun k => { k with stall := none } }).m.core c).closing = false) :
    accessComplete c s = runGroup c g (drainAll c { s with m := s.m.modCore c fun k => { k with stall := none } }) := by
  simp [accessComplete, hstall, hrun, hopen]

/-- The oldest buffered store reaches its region. -/
theorem bufferDrain_stores {x : WStore} {l : List WStore} (hbuf : (s.m.core c).wbuf = x :: l)
    (hopen : ((storeNow c x { s with m := s.m.modCore c fun k => { k with wbuf := l } }).m.core c).closing = false)
    (hstall : ((storeNow c x { s with m := s.m.modCore c fun k => { k with wbuf := l } }).m.core c).stall = none) :
    bufferDrain c s = storeNow c x { s with m := s.m.modCore c fun k => { k with wbuf := l } } := by
  simp [bufferDrain, drainOne, hbuf, hopen, hstall]

/-- An interrupt within its bound is accepted without LATE_IRQ. -/
theorem irqRow_accepts {m : Mach} (hlive : (m.core c).replay = false) (hlead : m.leadPair = false) (htaken : m.irqTaken c = true)
    (hdefer : (m.core c).defer ≤ 5) :
    m.irqRow c = (m.setFld pgStrand (Strandctl.C_DEFER_MAX c) (max (m.fld pgStrand (Strandctl.C_DEFER_MAX c)) (m.core c).defer)).acceptVec c
      (lowestBit (m.irqDue c)) := by
  have hlog (v : Word) : m.logInput c true v = m := by simp [Mach.logInput, hlead]
  have hlow : min (m.core c).defer 65535 = (m.core c).defer := by omega
  have hdue (q : Mach) (v : Nat) : (q.setFld pgStrand (Strandctl.C_DEFER_MAX c) v).irqDue c = q.irqDue c := by
    simp only [Mach.irqDue]
    rw [Mach.fld_setFld_off, Mach.fld_setFld_off] <;>
      simp only [Strandctl.C_IRQ_EN, Strandctl.C_IRQ_PEND, Strandctl.C_DEFER_MAX] <;> omega
  have hearly (b : Bool) : ¬ 5 + (if b then 1 else 0) < (m.core c).defer := by split <;> omega
  simp only [Mach.irqRow, hlive, Bool.false_eq_true, if_false, htaken, if_true, hlog, Mach.interruptAccept, hlow, hearly, hdue]

theorem dozeExit_runs {m : Mach} (hdozes : m.coreSt c = 4) (hdue : m.irqDue c ≠ 0) : m.dozeExit c = m.setCoreSt c 2 := by
  simp [Mach.dozeExit, hdozes, hdue]

end

/-! ## The end of a load (R386, R387) -/

/-- A check of the image that finds nothing draws nothing. -/
theorem loadErr_good {m : Mach} {mem : Memory} {c : Nat} (hgood : (loadErr m mem c).1 = 0) : (loadErr m mem c).2 = m := by
  unfold loadErr at hgood ⊢
  split
  · next hbad => simp [hbad] at hgood
  · split
    · rfl
    · split <;> rfl

section
variable {s : State} {c : Nat}

theorem loadComplete_good (hc : appCore c = true) (hloading : s.m.coreSt c = 1) (hgood : (loadErr s.m s.mem c).1 = 0) :
    loadComplete c s = loadDone c s := by
  simp [loadComplete, hc, hloading, hgood, loadErr_good hgood]

theorem loadComplete_bad (hc : appCore c = true) (hloading : s.m.coreSt c = 1) (hbad : (loadErr s.m s.mem c).1 ≠ 0) :
    loadComplete c s = { s with
      m := (loadErr s.m s.mem c).2.loadFailed c (loadErr s.m s.mem c).1, mem := eraseRange (memKey c 0) 0x20000 s.mem } := by
  simp [loadComplete, hc, hloading, hbad]

end

/-! ## Writes of STRANDCTL and PWR -/

section
variable {m : Mach} {src : Src}

/-- The word of IRQ_SET names its core and its vector. -/
theorem irqSet_word (core : Fin 8) (vec : Fin 32) :
    Strandctl.CORE.of (Strandctl.VECTOR.put (Strandctl.CORE.put 0 core) vec) = core ∧
      Strandctl.VECTOR.of (Strandctl.VECTOR.put (Strandctl.CORE.put 0 core) vec) = vec := by
  constructor
  · rw [Fld.of_put_ne _ _ _ _ (by decide) (by decide) (by decide), Fld.of_put _ _ _ (by decide) (by decide)]
    exact Nat.mod_eq_of_lt core.isLt
  · rw [Fld.of_put _ _ _ (by decide) (by decide)]
    exact Nat.mod_eq_of_lt vec.isLt

theorem Mach.pageWrite_irqSet {core : Fin 8} {vec : Fin 32} (hcore : core.val < 6)
    (h : m.takes src pgStrand 0x048 (Strandctl.VECTOR.put (Strandctl.CORE.put 0 core) vec) = true) :
    m.pageWrite src pgStrand 0x048 (Strandctl.VECTOR.put (Strandctl.CORE.put 0 core) vec) =
      m.ran src pgStrand 0x048 fun m => m.irq core vec :=
  Mach.pageWrite_special (by decide) h fun m => by
    obtain ⟨hc, hv⟩ := irqSet_word core vec
    have hspecial (w : Word) : m.special src pgStrand 0x048 w = some (m.irqSet (Strandctl.CORE.of w) (Strandctl.VECTOR.of w)) := rfl
    rw [hspecial, hc, hv, Mach.irqSet, if_pos hcore]

/-- A write of a core's OP. -/
theorem Mach.pageWrite_coreOp {c : Fin 6} {w : Word} (h : m.takes src pgStrand (0x100 + 0x40 * c) w = true) :
    m.pageWrite src pgStrand (0x100 + 0x40 * c) w = m.ran src pgStrand (0x100 + 0x40 * c) fun m => m.coreOp c (w.toNat % 2 ^ 3) :=
  Mach.pageWrite_special (by omega) h fun m => by fin_cases c <;> rfl

theorem Mach.pageWrite_dozeReq {mask : BitVec 4} (h : m.takes src pgPwr 0x048 (Pwr.DOZE_REQ.put 0 mask.toNat) = true) :
    m.pageWrite src pgPwr 0x048 (Pwr.DOZE_REQ.put 0 mask.toNat) = m.ran src pgPwr 0x048 fun m => m.dozeRequest mask.toNat :=
  Mach.pageWrite_special (by decide) h fun m => by
    have hspecial (w : Word) : m.special src pgPwr 0x048 w = some (m.dozeRequest (Pwr.DOZE_REQ.of w)) := rfl
    rw [hspecial, Fld.of_put _ _ _ (by decide) (by decide)]
    exact congrArg (fun v => some (m.dozeRequest v)) (Nat.mod_eq_of_lt mask.isLt)

end

/-! ## The rows -/

theorem exec_issueGroup_row (s : State) (c : Fin 6) (ecc : Fin 4) :
    exec (.issueGroup c ecc) s = onRun (onState fun t => issueFetched c ecc t) s := rfl
theorem exec_accessComplete_row (s : State) (c : Fin 6) : exec (.accessComplete c) s = onRun (onState fun t => accessComplete c t) s := rfl
theorem exec_writeBufferDrain_row (s : State) (c : Fin 6) : exec (.writeBufferDrain c) s = onRun (onState fun t => bufferDrain c t) s := rfl
theorem exec_interruptAccept_row (s : State) (c : Fin 6) : exec (.interruptAccept c) s = onRun (onUnits fun m => m.irqRow c) s := rfl
theorem exec_irqSet_row (s : State) (src : Src) (core : Fin 8) (vec : Fin 32) : exec (.irqSet src core vec) s =
    onUnits (fun m => m.pageWrite src pgStrand 0x048 (Strandctl.VECTOR.put (Strandctl.CORE.put 0 core) vec)) s := rfl
theorem exec_coreStart_row (s : State) (src : Src) (c : Fin 6) :
    exec (.coreStart src c) s = onUnits (fun m => m.pageWrite src pgStrand (0x100 + 0x40 * c) 1) s := rfl
theorem exec_coreStop_row (s : State) (src : Src) (c : Fin 6) :
    exec (.coreStop src c) s = onUnits (fun m => m.pageWrite src pgStrand (0x100 + 0x40 * c) 2) s := rfl
theorem exec_load_row (s : State) (src : Src) (c : Fin 6) :
    exec (.load src c) s = onUnits (fun m => m.pageWrite src pgStrand (0x100 + 0x40 * c) 3) s := rfl
theorem exec_coreReset_row (s : State) (src : Src) (c : Fin 6) :
    exec (.coreReset src c) s = onUnits (fun m => m.pageWrite src pgStrand (0x100 + 0x40 * c) 4) s := rfl
theorem exec_loadComplete_row (s : State) (c : Fin 6) : exec (.loadComplete c) s = onRun (onState fun t => loadComplete c t) s := rfl
theorem exec_dozeReq_row (s : State) (src : Src) (mask : BitVec 4) :
    exec (.dozeReq src mask) s = onUnits (fun m => m.pageWrite src pgPwr 0x048 (Pwr.DOZE_REQ.put 0 mask.toNat)) s := rfl
theorem exec_dozeExit_row (s : State) (c : Fin 6) :
    exec (.dozeExit c) s = onRun (onUnits fun m => if m.coreMirrors c then m else m.dozeExit c) s := rfl

/-- Settles O31: one bullet for each clause, in the order of the statement. That the buffered stores of a core leave before a group whose
access has ended takes effect is a choice of the model (notes/assumptions/47.md). -/
theorem coreEventsComplete : Obligations.CoreEventsComplete := by
  refine ⟨?_, ?_, ?_, ?_, ?_, ?_, ?_, ?_, ?_, ?_, ?_, ?_, ?_, ?_⟩
  · intro s c ecc hm hentering hp hecc hfault hready
    rw [exec_issueGroup_row, onRun_row hentering]
    exact onState_next hm (issueFetched_runs hm hp (fun h => hecc (Fin.ext h)) (Option.isNone_iff_eq_none.1 hfault) hready)
  · intro s c g n hm hentering hstall
    rw [exec_accessComplete_row, onRun_row hentering]
    exact onState_next hm (accessComplete_more hstall)
  · intro s c g hm hentering hstall hrun hopen
    rw [exec_accessComplete_row, onRun_row hentering]
    exact onState_next hm (accessComplete_last hstall hrun hopen)
  · intro s c x l hm hentering hbuf hopen hstall
    rw [exec_writeBufferDrain_row, onRun_row hentering]
    exact onState_next hm (bufferDrain_stores hbuf hopen hstall)
  · intro s c hm hentering hlive hlead htaken hdefer
    rw [exec_interruptAccept_row, onRun_row hentering]
    exact onUnits_next hm (irqRow_accepts hlive hlead htaken hdefer)
  · intro s src core vec hm hcore h
    rw [exec_irqSet_row]
    exact onUnits_next hm (Mach.pageWrite_irqSet hcore h)
  · intro s src c hm _ _ h
    rw [exec_coreStart_row]
    exact onUnits_next hm (Mach.pageWrite_coreOp h)
  · intro s src c hm _ h
    rw [exec_coreStop_row]
    exact onUnits_next hm (Mach.pageWrite_coreOp h)
  · intro s src c hm _ _ h
    rw [exec_load_row]
    exact onUnits_next hm (Mach.pageWrite_coreOp h)
  · intro s src c hm _ _ h
    rw [exec_coreReset_row]
    exact onUnits_next hm (Mach.pageWrite_coreOp h)
  · intro s c hm hentering hc hloading hgood
    rw [exec_loadComplete_row, onRun_row hentering]
    exact onState_next hm (loadComplete_good hc hloading hgood)
  · intro s c hm hentering hc hloading hbad
    rw [exec_loadComplete_row, onRun_row hentering]
    exact onState_next hm (loadComplete_bad hc hloading hbad)
  · intro s src mask hm h
    rw [exec_dozeReq_row]
    exact onUnits_next hm (Mach.pageWrite_dozeReq h)
  · intro s c hm hentering hmirrors hdozes hdue
    rw [exec_dozeExit_row, onRun_row hentering]
    exact onUnits_next hm ((if_neg (by rw [hmirrors]; decide)).trans (dozeExit_runs hdozes hdue))

end Sys2Proof.Machine
end

section
/-! PROOFS. O14: the logs, UTC and the Reckoner's clock (13_trouble_log_and_logline.md R344 to R358). -/

namespace Sys2Proof.Machine

/-! ## The logs and the clock -/

section
variable {m : Mach} {ms cycles : Nat} {units : Word}

theorem topStore_stores (hdue : m.log.topStored + 10000 ≤ m.log.topMs) :
    m.topStore = { m with log := { m.log with topStored := m.log.topMs } } :=
  if_neg (Nat.not_lt.2 hdue)

theorem clkDegraded_degrades (hcycles : 4 ≤ cycles) (hgood : m.flag pgReckon Reckon.DEGRADED = false) :
    m.clkDegraded cycles = ((m.setFlag pgReckon Reckon.XTAL_OK false).setFlag pgReckon Reckon.DEGRADED true).raise pgReckon 0 := by
  simp [Mach.clkDegraded, Nat.not_lt.2 hcycles, hgood]

theorem crystalReturn_returns (hms : 1000 ≤ ms) :
    m.crystalReturn ms = (m.setFlag pgReckon Reckon.XTAL_OK true).setFlag pgReckon Reckon.DEGRADED false :=
  if_neg (Nat.not_lt.2 hms)

theorem reckonCal_stores (hxtal : m.flag pgReckon Reckon.XTAL_OK = true) : m.reckonCal units = m.setReg pgReckon Reckon.CAL.off units :=
  if_pos hxtal

end

/-! ## Writes of TLOG's and RECKON's operations

Each register has a behaviour of its own: `Mach.special` at its page and offset computes to it. -/

section
variable {m : Mach} {src : Src}

theorem Mach.pageWrite_tlogRead (h : m.takes src pgTlog 0x064 1 = true) :
    m.pageWrite src pgTlog 0x064 1 = m.ran src pgTlog 0x064 fun m => m.tlogRead :=
  Mach.pageWrite_special (by decide) h fun _ => rfl

theorem Mach.pageWrite_tlogAppend (h : m.takes src pgTlog 0x064 2 = true) :
    m.pageWrite src pgTlog 0x064 2 = m.ran src pgTlog 0x064 fun m => m.tlogAppend src :=
  Mach.pageWrite_special (by decide) h fun _ => rfl

theorem Mach.pageWrite_utcSet (h : m.takes src pgReckon 0x068 1 = true) :
    m.pageWrite src pgReckon 0x068 1 = m.ran src pgReckon 0x068 fun m => m.utcSet :=
  Mach.pageWrite_special (by decide) h fun _ => rfl

theorem Mach.pageWrite_utcSrc {w : Word} (h : m.takes src pgReckon 0x05C w = true) :
    m.pageWrite src pgReckon 0x05C w = m.ran src pgReckon 0x05C fun m => m.srcWrite (w.toNat % 2) :=
  Mach.pageWrite_special (by decide) h fun _ => rfl

end

/-! ## The rows -/

theorem exec_faultEntry_row (s : State) : exec .faultEntry s = onPage (fun m => m.faultEntry) s := rfl
theorem exec_tlogRead_row (s : State) (src : Src) : exec (.tlogRead src) s = onPage (fun m => m.pageWrite src pgTlog 0x064 1) s := rfl
theorem exec_append_row (s : State) (src : Src) : exec (.append src) s = onPage (fun m => m.pageWrite src pgTlog 0x064 2) s := rfl
theorem exec_loglineRecordWrite_row (s : State) (good : Bool) :
    exec (.loglineRecordWrite good) s = onUnits (fun m => m.loglineWrite good) s := rfl
theorem exec_topStore_row (s : State) : exec .topStore s = onPage (fun m => m.topStore) s := rfl
theorem exec_clkDegraded_row (s : State) (cycles : Nat) : exec (.clkDegraded cycles) s = onKept (fun m => m.clkDegraded cycles) s := rfl
theorem exec_crystalReturn_row (s : State) (ms : Nat) : exec (.crystalReturn ms) s = onKept (fun m => m.crystalReturn ms) s := rfl
theorem exec_reckonCalibration_row (s : State) (units : Word) :
    exec (.reckonCalibration units) s = onKept (fun m => m.reckonCal units) s := rfl
theorem exec_utcSet_row (s : State) (src : Src) : exec (.utcSet src) s = onUnits (fun m => m.pageWrite src pgReckon 0x068 1) s := rfl
theorem exec_srcWrite_row (s : State) (src : Src) (v : Word) :
    exec (.srcWrite src v) s = onUnits (fun m => m.pageWrite src pgReckon 0x05C v) s := rfl

/-- Settles O14: one bullet for each clause, in the order of the statement. -/
theorem logsComplete : Obligations.LogsComplete := by
  refine ⟨?_, ?_, ?_, ?_, ?_, ?_, ?_, ?_, ?_, ?_⟩
  · intro s hm _
    rw [exec_faultEntry_row]
    exact onPage_next hm rfl
  · intro s src hm h
    rw [exec_tlogRead_row]
    exact onPage_next hm (Mach.pageWrite_tlogRead h)
  · intro s src hm h
    rw [exec_append_row]
    exact onPage_next hm (Mach.pageWrite_tlogAppend h)
  · intro s good hm hgood _ _
    subst hgood
    rw [exec_loglineRecordWrite_row]
    exact onUnits_next hm rfl
  · intro s hm hdue
    rw [exec_topStore_row]
    exact onPage_next hm (topStore_stores hdue)
  · intro s cycles hawake hm hcycles hgood
    rw [exec_clkDegraded_row]
    exact onKept_next hawake hm (clkDegraded_degrades hcycles hgood)
  · intro s ms hawake hm hms
    rw [exec_crystalReturn_row]
    exact onKept_next hawake hm (crystalReturn_returns hms)
  · intro s units hawake hm hxtal
    rw [exec_reckonCalibration_row]
    exact onKept_next hawake hm (reckonCal_stores hxtal)
  · intro s src hm h
    rw [exec_utcSet_row]
    exact onUnits_next hm (Mach.pageWrite_utcSet h)
  · intro s src v hm h
    rw [exec_srcWrite_row]
    exact onUnits_next hm (Mach.pageWrite_utcSrc h)

end Sys2Proof.Machine
end

section
/-! PROOFS. O15: CAN controllers (16_can_and_lin.md R411 to R424). -/

namespace Sys2Proof.Machine

/-! ## Frames, errors and recovery -/

section
variable {m : Mach} {c : Nat} {f : CanFrame}

/-- A frame that was not asked for again is sent, and the controller goes on. -/
theorem canSent_sends {o : Nat} (hbus : (m.can c).onBus = some o) (hruns : m.st (pgCan c) ≠ 0) (hagain : (m.canObj c o).again = false) :
    m.canSent c =
      (let m1 := m.setCanObj c o { m.canObj c o with status := 2, ts := (m.can c).startTs, again := false, aborting := false }
       let m2 := (m1.incWrap (pgCan c) Can.FRAMES_TX).setFld (pgCan c) Can.TEC (m1.fld (pgCan c) Can.TEC - 1)
       ((((m2.canNotAlone c).setFlag (pgCan c) Can.TX false).modCan c fun a => { a with onBus := none }).canCounters c).canIrq
         (m.canObj c o)).canKick c := by
  have hon : (m.st (pgCan c) == 0) = false := beq_eq_false_iff_ne.2 hruns
  simp only [Mach.canSent, hbus, hon, hagain, Bool.false_and, Bool.false_eq_true, if_false]

/-- A frame from the bus while none of the controller's own is on it: the filters say which object takes it. -/
theorem canReceived_filters (hoperates : m.canOperates c = true) (hsync : m.flag (pgCan c) Can.SYNC = true)
    (hon : m.flag (pgCan c) Can.BUS_OFF = false) (hidle : (m.can c).onBus = none)
    (hform : (f.fdf && !m.flag (pgCan c) Can.FD_EN) = false) {u : Mach}
    (hu : (match (m.canCounted c).canFilter c f with
      | none => m.canCounted c
      | some o => (m.canCounted c).canStore c o f) = u) : m.canReceived c f = u.canKick c := by
  subst hu
  have hlost : m.canLost c = m := by simp [Mach.canLost, hidle]
  simp only [Mach.canReceived, hlost, hoperates, hsync, hon, hform, Bool.not_true, Bool.or_false, Bool.false_eq_true, if_false]
    <;> rfl

/-- An error of a receiver below the passive limit raises its counter. -/
theorem canError_receives {kind : Nat} {major : Bool} (hlow : 0 < kind) (hhigh : kind ≤ 6) (hoperates : m.canOperates c = true)
    (hsync : m.flag (pgCan c) Can.SYNC = true) (hopen : (m.setFld (pgCan c) Can.LEC kind).flag (pgCan c) Can.RESTRICTED = false)
    (hactive : (m.setFld (pgCan c) Can.LEC kind).fld (pgCan c) Can.REC + (if major then 8 else 1) < 128) :
    m.canError c false kind major = ((m.setFld (pgCan c) Can.LEC kind).setFld (pgCan c) Can.REC
      ((m.setFld (pgCan c) Can.LEC kind).fld (pgCan c) Can.REC + (if major then 8 else 1))).canCounters c := by
  have hkind : (decide (kind = 0) || decide (6 < kind)) = false := by simp; omega
  simp only [Mach.canError, hkind, hoperates, hsync, hopen, Nat.not_le.2 hactive, Bool.not_true, Bool.or_false, Bool.false_eq_true, if_false]

theorem canRecovered_integrates {sequences : Nat} (hrecovers : m.flag (pgCan c) Can.RECOVERING = true) (hseen : 128 ≤ sequences)
    (hoperates : m.canOperates c = true) :
    m.canRecovered c sequences = ((((((m.setFlag (pgCan c) Can.RECOVERING false).setFlag (pgCan c) Can.BUS_OFF false).setFld (pgCan c) Can.TEC
      0).setFld (pgCan c) Can.REC 0).setFlag (pgCan c) Can.RP false).canCounters c).canIntegrate c := by
  simp [Mach.canRecovered, hrecovers, Nat.not_lt.2 hseen, hoperates]

theorem canTxdDom_stops {ms : Nat} (hms : 4 ≤ ms) (hoperates : m.canOperates c = true) :
    m.canTxdDom c ms = (m.raise (pgCan c) 5).canOff c := by
  simp [Mach.canTxdDom, Nat.not_lt.2 hms, hoperates]

theorem canIntegrate_joins (hoperates : m.canOperates c = true) (hlocked : m.flag pgClk Clk.LOCKED = true)
    (hon : m.flag (pgCan c) Can.BUS_OFF = false) :
    m.canIntegrate c = ((m.setFlag (pgCan c) Can.SYNC true).canSettle c).canKick c := by
  simp [Mach.canIntegrate, hoperates, hlocked, hon]

/-! ## Wake-up (R422 to R424) -/

theorem canWup_wakes (hasleep : (m.can c).asleep = true) (hany : m.canSelective c = false) (hen : m.flag (pgCan c) Can.WAKE_EN = true) :
    m.canWup c = m.wakeEvent 4 (pgCan c) := by
  simp [Mach.canWup, hasleep, hany, hen]

/-- A classic frame on a selectively sleeping bus lowers FEC; one that matches wakes. -/
theorem canPn_counts (hasleep : (m.can c).asleep = true) (hselective : m.canSelective c = true) (hclassic : f.fdf = false) {u : Mach}
    (hu : m.setFld (pgCan c) Can.FEC (m.fld (pgCan c) Can.FEC - 1) = u) :
    m.canPn c f = if u.canPnMatch (pgCan c) f then u.wakeEvent 5 (pgCan c) else u := by
  subst hu
  simp [Mach.canPn, hasleep, hselective, hclassic]

/-- A bad frame on a selectively sleeping bus raises FEC; at 32 the bus wakes. -/
theorem canFec_counts (hasleep : (m.can c).asleep = true) (hselective : m.canSelective c = true) {u : Mach}
    (hu : m.setFld (pgCan c) Can.FEC (min 32 (m.fld (pgCan c) Can.FEC + 1)) = u) :
    m.canFec c = if u.fld (pgCan c) Can.FEC = 32 then u.wakeEvent 11 (pgCan c) else u := by
  subst hu
  simp [Mach.canFec, hasleep, hselective]

end

/-! ## Writes of a controller's operations -/

section
variable {m : Mach} {src : Src} {c : Fin 6}

/-- The object operations. -/
theorem special_canWindow (m : Mach) (src : Src) (c : Fin 6) (w : Word) : m.special src (pgCan c) 0x07C w =
    some (match w.toNat % 2 ^ 3 with
      | 1 => m.canObjRead c
      | 2 => m.canObjWrite c
      | 3 => m.canTxReq c
      | 4 => m.canAbort c
      | _ => m) := by
  fin_cases c <;> rfl

theorem Mach.pageWrite_canObjRead (h : m.takes src (pgCan c) 0x07C 1 = true) :
    m.pageWrite src (pgCan c) 0x07C 1 = m.ran src (pgCan c) 0x07C fun m => m.canObjRead c :=
  Mach.pageWrite_special (by decide) h fun m => special_canWindow m src c 1

theorem Mach.pageWrite_canObjWrite (h : m.takes src (pgCan c) 0x07C 2 = true) :
    m.pageWrite src (pgCan c) 0x07C 2 = m.ran src (pgCan c) 0x07C fun m => m.canObjWrite c :=
  Mach.pageWrite_special (by decide) h fun m => special_canWindow m src c 2

theorem Mach.pageWrite_canTxReq (h : m.takes src (pgCan c) 0x07C 3 = true) :
    m.pageWrite src (pgCan c) 0x07C 3 = m.ran src (pgCan c) 0x07C fun m => m.canTxReq c :=
  Mach.pageWrite_special (by decide) h fun m => special_canWindow m src c 3

theorem Mach.pageWrite_canAbort (h : m.takes src (pgCan c) 0x07C 4 = true) :
    m.pageWrite src (pgCan c) 0x07C 4 = m.ran src (pgCan c) 0x07C fun m => m.canAbort c :=
  Mach.pageWrite_special (by decide) h fun m => special_canWindow m src c 4

theorem Mach.pageWrite_canRecover (h : m.takes src (pgCan c) 0x054 1 = true) :
    m.pageWrite src (pgCan c) 0x054 1 = m.ran src (pgCan c) 0x054 fun m => m.canRecover c :=
  Mach.pageWrite_special (by decide) h fun m => by fin_cases c <;> rfl

end

/-! ## The rows -/

theorem exec_txReq_row (s : State) (src : Src) (c : Fin 6) :
    exec (.txReq src c) s = onUnits (fun m => m.pageWrite src (pgCan c) 0x07C 3) s := rfl
theorem exec_canObjRead_row (s : State) (src : Src) (c : Fin 6) :
    exec (.canObjRead src c) s = onPage (fun m => m.pageWrite src (pgCan c) 0x07C 1) s := rfl
theorem exec_canObjWrite_row (s : State) (src : Src) (c : Fin 6) :
    exec (.canObjWrite src c) s = onUnits (fun m => m.pageWrite src (pgCan c) 0x07C 2) s := rfl
theorem exec_abort_row (s : State) (src : Src) (c : Fin 6) :
    exec (.abort src c) s = onUnits (fun m => m.pageWrite src (pgCan c) 0x07C 4) s := rfl
theorem exec_recover_row (s : State) (src : Src) (c : Fin 6) :
    exec (.recover src c) s = onUnits (fun m => m.pageWrite src (pgCan c) 0x054 1) s := rfl
theorem exec_canFrameSent_row (s : State) (c : Fin 6) : exec (.canFrameSent c) s = onUnits (fun m => m.canSent c) s := rfl
theorem exec_canFrameReceived_row (s : State) (c : Fin 6) (f : CanFrame) :
    exec (.canFrameReceived c f) s = onUnits (fun m => (m.canReceived c f).frameSeen (pgCan c)) s := rfl
theorem exec_canError_row (s : State) (c : Fin 6) (tx : Bool) (kind : Fin 8) (major : Bool) :
    exec (.canError c tx kind major) s = onUnits (fun m => m.canError c tx kind major) s := rfl
theorem exec_busOffRecovery_row (s : State) (c : Fin 6) (sequences : Nat) :
    exec (.busOffRecovery c sequences) s = onUnits (fun m => m.canRecovered c sequences) s := rfl
theorem exec_txdDom_row (s : State) (c : Fin 6) (ms : Nat) : exec (.txdDom c ms) s = onUnits (fun m => m.canTxdDom c ms) s := rfl
theorem exec_canWup_row (s : State) (c : Fin 6) : exec (.canWup c) s = onKept (fun m => m.canWup c) s := rfl
theorem exec_canPn_row (s : State) (c : Fin 6) (f : CanFrame) : exec (.canPn c f) s = onKept (fun m => m.canPn c f) s := rfl
theorem exec_canFec_row (s : State) (c : Fin 6) : exec (.canFec c) s = onKept (fun m => m.canFec c) s := rfl
theorem exec_busIntegration_row (s : State) (c : Fin 6) : exec (.busIntegration c) s = onUnits (fun m => m.canIntegrate c) s := rfl

/-- Settles O15: one bullet for each clause, in the order of the statement. -/
theorem canComplete : Obligations.CanComplete := by
  refine ⟨?_, ?_, ?_, ?_, ?_, ?_, ?_, ?_, ?_, ?_, ?_, ?_, ?_, ?_, ?_, ?_, ?_⟩
  · intro s src c hm h
    rw [exec_txReq_row]
    exact onUnits_next hm (Mach.pageWrite_canTxReq h)
  · intro s src c hm h
    rw [exec_canObjRead_row]
    exact onPage_next hm (Mach.pageWrite_canObjRead h)
  · intro s src c hm h
    rw [exec_canObjWrite_row]
    exact onUnits_next hm (Mach.pageWrite_canObjWrite h)
  · intro s src c hm h
    rw [exec_abort_row]
    exact onUnits_next hm (Mach.pageWrite_canAbort h)
  · intro s src c hm h
    rw [exec_recover_row]
    exact onUnits_next hm (Mach.pageWrite_canRecover h)
  · intro s c o hm hbus hruns hagain
    rw [exec_canFrameSent_row]
    exact onUnits_next hm (canSent_sends hbus hruns hagain)
  · intro s c f o hm hoperates hsync hon hidle hform hobj
    rw [exec_canFrameReceived_row]
    exact onUnits_next hm (congrArg (Mach.frameSeen (pgCan c)) (canReceived_filters hoperates hsync hon hidle hform (by rw [hobj])))
  · intro s c f hm hoperates hsync hon hidle hform hobj
    rw [exec_canFrameReceived_row]
    exact onUnits_next hm (congrArg (Mach.frameSeen (pgCan c)) (canReceived_filters hoperates hsync hon hidle hform (by rw [hobj])))
  · intro s c tx kind major hm hlow hhigh htx hoperates hsync hopen hactive
    subst htx
    rw [exec_canError_row]
    exact onUnits_next hm (canError_receives hlow hhigh hoperates hsync hopen hactive)
  · intro s c sequences hm hrecovers hseen hoperates
    rw [exec_busOffRecovery_row]
    exact onUnits_next hm (canRecovered_integrates hrecovers hseen hoperates)
  · intro s c ms hm hms hoperates
    rw [exec_txdDom_row]
    exact onUnits_next hm (canTxdDom_stops hms hoperates)
  · intro s c hawake hoff hasleep hany hen
    rw [exec_canWup_row]
    exact onKept_main hawake hoff (canWup_wakes hasleep hany hen)
  · intro s c f hawake hoff hasleep hselective hclassic hother
    rw [exec_canPn_row]
    exact onKept_main hawake hoff ((canPn_counts hasleep hselective hclassic rfl).trans (if_neg (by rw [hother]; decide)))
  · intro s c f hawake hoff hasleep hselective hclassic hmatch
    rw [exec_canPn_row]
    exact onKept_main hawake hoff ((canPn_counts hasleep hselective hclassic rfl).trans (if_pos hmatch))
  · intro s c hawake hoff hasleep hselective _ hbelow
    rw [exec_canFec_row]
    exact onKept_main hawake hoff ((canFec_counts hasleep hselective rfl).trans (if_neg (Nat.ne_of_lt hbelow)))
  · intro s c hawake hoff hasleep hselective hlast hfull
    have htop : min 32 (s.m.fld (pgCan c) Can.FEC + 1) = 32 := by omega
    rw [exec_canFec_row]
    exact onKept_main hawake hoff ((canFec_counts hasleep hselective (by rw [htop])).trans (if_pos hfull))
  · intro s c hm hoperates hlocked hon
    rw [exec_busIntegration_row]
    exact onUnits_next hm (canIntegrate_joins hoperates hlocked hon)

end Sys2Proof.Machine
end

section
/-! PROOFS. O16: LIN channels (16_can_and_lin.md R425 to R428). -/

namespace Sys2Proof.Machine

/-! ## Slots, headers and the bus -/

section
variable {m : Mach} {c ms : Nat} {data : List Byte} {sum : Byte}

/-- The slot of an enabled unconditional frame runs it. -/
theorem linSlot_runs {i : Nat} (hrun : m.running (pgLin c) = true) (hslot : (m.lin c).slot ≤ ms) (hawake : (m.lin c).sleepDue = false)
    (hschedule : m.flag (pgLin c) Lin.RUNNING = true) (hpolls : (m.lin c).polls = []) (hnext : m.linUpcoming c = some i)
    (hen : (m.linFrame c i).en = true) (htype : (m.linFrame c i).type = 0) :
    m.linSlot c ms 1 data sum =
      (m.modLin c fun a => { a with
        slot := Lin.SLOT_T.of (m.linFrame c i).ctl, polls := a.polls.drop 1, next := i + 1 }).linFrameRuns c i 1 data sum := by
  simp [Mach.linSlot, hrun, Nat.not_lt.2 hslot, hawake, hschedule, hpolls, hnext, hen, htype]

/-- A slot on which go-to-sleep waits. -/
theorem linSlot_sleeps {result : Nat} (hrun : m.running (pgLin c) = true) (hslot : (m.lin c).slot ≤ ms)
    (hsleep : (m.lin c).sleepDue = true) : m.linSlot c ms result data sum = (m.linStop c).linAsleep c := by
  simp [Mach.linSlot, hrun, Nat.not_lt.2 hslot, hsleep]

/-- A header that is no diagnostic request runs the frame that holds its identifier, where there is one. -/
theorem linHeader_runs {ident result : Nat} (hrole : m.flag (pgLin c) Lin.ROLE = true) (hrun : m.running (pgLin c) = true)
    (hlow : 0 < result) (hhigh : result ≤ 6) (hsleep : ident = 0x3C → result ≠ 1) {u : Mach}
    (hu : (match (m.linAwake c).linFrames.find? (fun p => p.1 / 64 == c && p.2.en && p.2.ident == ident) with
      | some p => (m.linAwake c).linFrameRuns c (p.1 % 64) result data sum
      | none => m.linAwake c) = u) : m.linHeader c ident result data sum = u := by
  subst hu
  have hresult : (decide (result = 0) || decide (6 < result)) = false := by simp; omega
  have hnosleep : (decide (ident = 0x3C) && decide (result = 1)) = false := by simpa using hsleep
  simp only [Mach.linHeader, hrole, hrun, hresult, hnosleep, Bool.not_true, Bool.false_or, Bool.false_and, Bool.false_eq_true, if_false]
    <;> rfl

theorem linWakePulse_wakes {us : Nat} (hoff : m.mainOff = true) (hus : 150 ≤ us) (hen : m.flag (pgLin c) Lin.WAKE_EN = true) :
    m.linWakePulse c us = m.wakeEvent 6 (pgLin c) := by
  simp [Mach.linWakePulse, Nat.not_lt.2 hus, hoff, hen]

theorem linShort_stops (hms : 20 ≤ ms) :
    m.linShort c ms = ((m.modLin c fun _ => linReset).setFlag (pgLin c) Lin.RUNNING false).raise (pgLin c) 2 :=
  if_neg (Nat.not_lt.2 hms)

end

/-! ## Writes of a channel's operations -/

section
variable {m : Mach} {src : Src} {c : Fin 4}

/-- The schedule operations. -/
theorem Mach.pageWrite_linOp {w : Word} (h : m.takes src (pgLin c) 0x060 w = true) :
    m.pageWrite src (pgLin c) 0x060 w = m.ran src (pgLin c) 0x060 fun m => m.linOp c (w.toNat % 2 ^ 3) :=
  Mach.pageWrite_special (by decide) h fun m => by fin_cases c <;> rfl

theorem Mach.pageWrite_linFrmRead (h : m.takes src (pgLin c) 0x05C 1 = true) :
    m.pageWrite src (pgLin c) 0x05C 1 = m.ran src (pgLin c) 0x05C fun m => m.linFrmRead c :=
  Mach.pageWrite_special (by decide) h fun m => by fin_cases c <;> rfl

theorem Mach.pageWrite_linFrmWrite (h : m.takes src (pgLin c) 0x05C 2 = true) :
    m.pageWrite src (pgLin c) 0x05C 2 = m.ran src (pgLin c) 0x05C fun m => m.linFrmWrite c :=
  Mach.pageWrite_special (by decide) h fun m => by fin_cases c <;> rfl

end

/-! ## The rows -/

theorem exec_linStart_row (s : State) (src : Src) (c : Fin 4) :
    exec (.linStart src c) s = onUnits (fun m => m.pageWrite src (pgLin c) 0x060 1) s := rfl
theorem exec_linStop_row (s : State) (src : Src) (c : Fin 4) :
    exec (.linStop src c) s = onUnits (fun m => m.pageWrite src (pgLin c) 0x060 2) s := rfl
theorem exec_goToSleep_row (s : State) (src : Src) (c : Fin 4) :
    exec (.goToSleep src c) s = onUnits (fun m => m.pageWrite src (pgLin c) 0x060 3) s := rfl
theorem exec_linWake_row (s : State) (src : Src) (c : Fin 4) :
    exec (.linWake src c) s = onUnits (fun m => m.pageWrite src (pgLin c) 0x060 4) s := rfl
theorem exec_linFrameRead_row (s : State) (src : Src) (c : Fin 4) :
    exec (.linFrameRead src c) s = onPage (fun m => m.pageWrite src (pgLin c) 0x05C 1) s := rfl
theorem exec_linFrameWrite_row (s : State) (src : Src) (c : Fin 4) :
    exec (.linFrameWrite src c) s = onPage (fun m => m.pageWrite src (pgLin c) 0x05C 2) s := rfl
theorem exec_linSlot_row (s : State) (c : Fin 4) (ms : Nat) (result : Fin 8) (data : List Byte) (sum : Byte) :
    exec (.linSlot c ms result data sum) s =
      onRun (onUnits (fun m => (m.linSlot c ms result data sum).frameSeenIf (result == 1) (pgLin c))) s := rfl
theorem exec_linHeader_row (s : State) (c : Fin 4) (ident : Fin 64) (result : Fin 8) (data : List Byte) (sum : Byte) :
    exec (.linHeader c ident result data sum) s =
      onUnits (fun m => (m.linHeader c ident result data sum).frameSeenIf (result == 1) (pgLin c)) s := rfl
theorem exec_linWakePulse_row (s : State) (c : Fin 4) (us : Nat) : exec (.linWakePulse c us) s = onKept (fun m => m.linWakePulse c us) s := rfl
theorem exec_busShort_row (s : State) (c : Fin 4) (ms : Nat) : exec (.busShort c ms) s = onUnits (fun m => m.linShort c ms) s := rfl

/-- Settles O16: one bullet for each clause, in the order of the statement. -/
theorem linComplete : Obligations.LinComplete := by
  refine ⟨?_, ?_, ?_, ?_, ?_, ?_, ?_, ?_, ?_, ?_, ?_, ?_⟩
  · intro s src c hm h
    rw [exec_linStart_row]
    exact onUnits_next hm (Mach.pageWrite_linOp h)
  · intro s src c hm h
    rw [exec_linStop_row]
    exact onUnits_next hm (Mach.pageWrite_linOp h)
  · intro s src c hm h
    rw [exec_goToSleep_row]
    exact onUnits_next hm (Mach.pageWrite_linOp h)
  · intro s src c hm h
    rw [exec_linWake_row]
    exact onUnits_next hm (Mach.pageWrite_linOp h)
  · intro s src c hm h
    rw [exec_linFrameRead_row]
    exact onPage_next hm (Mach.pageWrite_linFrmRead h)
  · intro s src c hm h
    rw [exec_linFrameWrite_row]
    exact onPage_next hm (Mach.pageWrite_linFrmWrite h)
  · intro s c ms result data sum i hm hentering hrun hslot hawake hschedule hpolls hnext hen htype hresult
    subst hresult
    rw [exec_linSlot_row, onRun_row hentering]
    exact onUnits_next hm (congrArg (Mach.frameSeen (pgLin c)) (linSlot_runs hrun hslot hawake hschedule hpolls hnext hen htype))
  · intro s c ms result data sum hm hentering hsleep hrun hslot hresult
    have hunseen : (result == 1) = false := beq_eq_false_iff_ne.2 fun h => hresult (by rw [h]; rfl)
    rw [exec_linSlot_row, onRun_row hentering, hunseen]
    exact onUnits_next hm (linSlot_sleeps hrun hslot hsleep)
  · intro s c ident result data sum k g hm hrole hrun hident hresult hframe
    subst hresult
    rw [exec_linHeader_row]
    exact onUnits_next hm (congrArg (Mach.frameSeen (pgLin c))
      (linHeader_runs hrole hrun (by decide) (by decide) (fun h => absurd h hident) (by rw [hframe]; rfl)))
  · intro s c ident result data sum hm hrole hrun hlow hhigh hframe
    have hunseen : (result == 1) = false := beq_eq_false_iff_ne.2 fun h => absurd (h ▸ hlow) (by decide)
    rw [exec_linHeader_row, hunseen]
    exact onUnits_next hm (linHeader_runs hrole hrun (Nat.lt_of_succ_lt hlow) hhigh (fun _ => Nat.ne_of_gt hlow) (by rw [hframe]))
  · intro s c us hawake hoff hus hen
    rw [exec_linWakePulse_row]
    exact onKept_main hawake hoff (linWakePulse_wakes hoff hus hen)
  · intro s c ms hm hms
    rw [exec_busShort_row]
    exact onUnits_next hm (linShort_stops hms)

end Sys2Proof.Machine
end

section
/-! PROOFS. O17 and O18: PTP, TRDP, PRP, links and Hitch (17_backbone_hitch_and_fid.md R432 to R441, R449, R450). -/

namespace Sys2Proof.Machine

/-- A row of the units that run once the module has started. -/
theorem whenReady_ready {m u : Mach} {f : Mach → Mach} (hready : m.ready = true) (hf : f m = u) : m.whenReady f = u :=
  (if_pos hready).trans hf

/-! ## PTP (R432) -/

section
variable {m : Mach} {port domain master hops : Nat} {utcOff : Int}

/-- A Sync of a synchronised module that is neither slewing nor far off sets the time and compares UTC. -/
theorem ptpSyncIn_follows (hon : m.ethOn = true) (hport : m.ptpPort port = true) (hdomain : domain = m.fld pgEth Eth.DOMAIN)
    (hsync : (m.ptpRead ((m.ptp / 64 : Int) - master) hops).ptpSync = true)
    (hslew : (m.ptpRead ((m.ptp / 64 : Int) - master) hops).eth.slew = 0) (hnear : ((m.ptp / 64 : Int) - master).natAbs ≤ 10000) :
    m.ptpSyncIn port domain master hops utcOff false =
      ((m.ptpRead ((m.ptp / 64 : Int) - master) hops).ptpSet master false).utcCompare utcOff := by
  subst hdomain
  simp only [Mach.ptpSyncIn, hon, hport, bne_self_eq_false, Bool.not_true, Bool.or_false, hsync, hslew, ne_eq, not_true, decide_false,
    Bool.false_and, Bool.false_eq_true, if_false, if_true, Nat.not_lt.2 hnear]

/-- A Sync of a module that is not synchronised and 1 µs or more off sets the time and starts the count again. -/
theorem ptpSyncIn_sets {gmChange : Bool} (hon : m.ethOn = true) (hport : m.ptpPort port = true) (hdomain : domain = m.fld pgEth Eth.DOMAIN)
    (hsync : (m.ptpRead ((m.ptp / 64 : Int) - master) hops).ptpSync = false) (hfar : 1000 ≤ ((m.ptp / 64 : Int) - master).natAbs) :
    m.ptpSyncIn port domain master hops utcOff gmChange =
      (let m1 := m.ptpRead ((m.ptp / 64 : Int) - master) hops
       ({ m1 with eth := { m1.eth with good := 0 } } : Mach).ptpSet master (decide (1000000 < ((m.ptp / 64 : Int) - master).natAbs))) := by
  subst hdomain
  simp only [Mach.ptpSyncIn, hon, hport, bne_self_eq_false, Bool.not_true, Bool.or_false, hsync, Bool.false_eq_true, if_false,
    Nat.not_lt.2 hfar, Nat.ofNat_pos, if_true]

theorem ptpLost_drops {intervals : Nat} {offset : Int} (hsync : m.ptpSync = true) (hnear : offset.natAbs ≤ 10000) (hlong : 3 ≤ intervals) :
    m.ptpLost intervals offset = m.ptpDrop := by
  simp [Mach.ptpLost, hsync, Nat.not_lt.2 hnear, hlong]

end

/-! ## Telegrams (R433, R434), supervision and links -/

section
variable {m : Mach} {i ms : Nat}

/-- A telegram of an enabled entry that is no repeat is stored and looked up. -/
theorem pdReceived_takes {f : PdFrame} {t : Telegram} (hgo : (m.ingress f.eth).1 = true) (hon : (m.ingress f.eth).2.trdpOn = true)
    (hready : (m.ingress f.eth).2.ready = true) (hfcs : f.fcsOk = true) (hetb : (m.ingress f.eth).2.reg pgEth 0x060 = 0)
    (hoptrn : (m.ingress f.eth).2.reg pgEth 0x064 = 0)
    (hfind : (m.ingress f.eth).2.eth.tels.find? (fun p => p.2.en && !p.2.publish && p.2.comid == f.comid) = some (i, t))
    (hnew : t.rxSeq ≠ some f.seq) :
    m.pdReceived [] f = ((m.ingress f.eth).2.setTel i { t with
      rxSeq := some f.seq, ctl := Eth.TIMEOUT.put (Eth.LAN_B.put t.ctl (decide (f.eth.port = 3)).toNat) 0 }).hitchQueue
        ⟨2, f.comid, 0, f.data⟩ := by
  have hseq : (t.rxSeq == some f.seq) = false := beq_eq_false_iff_ne.2 hnew
  simp only [Mach.pdReceived, List.foldl_nil, hgo, hon, hready, hfcs, hetb, hoptrn, beq_self_eq_true, Bool.true_or, Bool.not_true,
    Bool.or_false, Bool.false_eq_true, if_false, hfind, hseq]

/-- A publish entry that mirrors no unit sends at its grid point. -/
theorem trdpPublish_sends (hon : m.trdpOn = true) (hen : (m.tel i).en = true) (hpublish : (m.tel i).publish = true)
    (hgrid : (m.tel i).grid < (m.tel i).gridNow m.ptp) (hstepped : (m.tel i).stepped = false) (hmirror : m.mirror 2 i = none) :
    m.trdpPublish i = (m.setTel i { m.tel i with grid := (m.tel i).gridNow m.ptp, stepped := false }).telSend i := by
  have hmirror' (t : Telegram) : (m.setTel i t).mirror 2 i = none := hmirror
  have hdue : ¬ (m.tel i).gridNow m.ptp ≤ (m.tel i).grid := Nat.not_le.2 hgrid
  simp only [Mach.trdpPublish, hon, hen, hpublish, hstepped, decide_eq_false hdue, Bool.not_true, Bool.or_false, Bool.false_and,
    Bool.false_eq_true, if_false, hmirror']

theorem prReceived_sends {comid : Word} {t : Telegram} (hon : m.trdpOn = true)
    (hfind : m.eth.tels.find? (fun p => p.2.en && p.2.publish && p.2.comid == comid) = some (i, t)) :
    m.prReceived comid = m.telSend i := by
  simp only [Mach.prReceived, hon, Bool.not_true, Bool.false_eq_true, if_false, hfind]

/-- A telegram that has not come in time shows TIMEOUT. -/
theorem pdTmo_times_out (hon : m.trdpOn = true) (hen : (m.tel i).en = true) (hreceives : (m.tel i).publish = false)
    (hset : (m.tel i).tmo.toNat % 65536 ≠ 0) (hms : (m.tel i).tmo.toNat % 65536 ≤ ms) (hfirst : (m.tel i).ctl.getLsbD 27 = false)
    (hkeep : (m.tel i).ctl.getLsbD 29 = false) :
    m.pdTmo i ms = (m.setTel i { m.tel i with ctl := Eth.TIMEOUT.put (m.tel i).ctl 1 }).raise pgEth 1 := by
  simp only [Mach.pdTmo, hon, hen, hreceives, decide_eq_false hset, decide_eq_false (Nat.not_lt.2 hms), hfirst, hkeep, Bool.not_true,
    Bool.or_false, Bool.false_eq_true, if_false]

theorem prpSupervise_counts (hon : m.ethOn = true) (hms : 2000 ≤ ms) :
    m.prpSupervise ms = { m with eth := { m.eth with supervised := m.eth.supervised + 1 } } := by
  simp [Mach.prpSupervise, hon, hms]

theorem linkChange_up (port : Nat) :
    m.linkChange port true = (m.setFld pgEth Eth.LINK (m.fld pgEth Eth.LINK ||| 2 ^ port)).ethSettle := by
  simp only [Mach.linkChange, Bool.not_true, Bool.and_false, Bool.false_and, Bool.false_eq_true, if_false, if_true]

end

/-! ## Hitch (R439 to R441) -/

section
variable {m : Mach}

/-- The walk of a lookup reads the table alone. -/
theorem walk_congr {m' : Mach} (htable : m'.hitch.table = m.hitch.table) (k h : Nat) : m'.walk k h = m.walk k h := by
  induction k generalizing h with
  | zero => rfl
  | succ k ih =>
    have hentry (i : Nat) : m'.hentry i = m.hentry i := by rw [Mach.hentry, htable, Mach.hentry]
    simp only [Mach.walk, hentry, ih]

/-- The first request leaves the queue, and the entries its walk finds are evaluated. -/
theorem hitchLookup_walks {sk : Nat} {key : Word} (hready : m.ready = true) (hruns : m.st pgHitch ≠ 4)
    (hfifo : m.hitch.fifo = [⟨sk, key, 0, []⟩]) (hends : (m.walk 32 (homeSlot sk key 0)).2 = false) :
    m.hitchLookup = (m.walk 32 (homeSlot sk key 0)).1.foldl
      (fun (m : Mach) ix => if (m.hentry ix).fits sk key 0 then m.hitchEval ix ⟨sk, key, 0, []⟩ else m)
      (({ m with hitch := { m.hitch with fifo := [] } } : Mach).incWrap pgHitch Hitch.LOOKUPS) := by
  have hwalk : (({ m with hitch := { m.hitch with fifo := [] } } : Mach).incWrap pgHitch Hitch.LOOKUPS).walk 32 (homeSlot sk key 0) =
      m.walk 32 (homeSlot sk key 0) := walk_congr (by rw [Mach.incWrap, Mach.hitch_setFld]) _ _
  have hup : (m.st pgHitch == 4) = false := beq_eq_false_iff_ne.2 hruns
  simp only [Mach.hitchLookup, hfifo, hready, hup, Bool.not_true, Bool.or_false, Bool.false_eq_true, if_false, hwalk, hends]

theorem gapExpire_requests {i : Nat} (hready : m.ready = true) (hwaits : (m.hentry i).waiting = true) : m.gapExpire i = m.trigRequest i := by
  simp [Mach.gapExpire, hready, hwaits]

end

/-! ## Writes of ETH's and HITCH's windows -/

section
variable {m : Mach} {src : Src}

theorem Mach.pageWrite_telRead (h : m.takes src pgEth 0x07C 1 = true) :
    m.pageWrite src pgEth 0x07C 1 = m.ran src pgEth 0x07C fun m => m.telRead :=
  Mach.pageWrite_special (by decide) h fun _ => rfl

theorem Mach.pageWrite_telWrite (h : m.takes src pgEth 0x07C 2 = true) :
    m.pageWrite src pgEth 0x07C 2 = m.ran src pgEth 0x07C fun m => m.telWrite :=
  Mach.pageWrite_special (by decide) h fun _ => rfl

theorem Mach.pageWrite_hitchRead (h : m.takes src pgHitch 0x064 1 = true) :
    m.pageWrite src pgHitch 0x064 1 = m.ran src pgHitch 0x064 fun m => m.hitchRead :=
  Mach.pageWrite_special (by decide) h fun _ => rfl

theorem Mach.pageWrite_hitchWrite (h : m.takes src pgHitch 0x064 2 = true) :
    m.pageWrite src pgHitch 0x064 2 = m.ran src pgHitch 0x064 fun m => m.hitchWrite :=
  Mach.pageWrite_special (by decide) h fun _ => rfl

end

/-! ## The rows -/

theorem exec_ptpSync_row (s : State) (port domain : Nat) (masterNs hops : Nat) (utcOff : Int) (gmChange : Bool) :
    exec (.ptpSync port domain masterNs hops utcOff gmChange) s =
      onUnits (fun m => m.ptpSyncIn port domain masterNs hops utcOff gmChange) s := rfl
theorem exec_ptpLost_row (s : State) (intervals : Nat) (offset : Int) :
    exec (.ptpLost intervals offset) s = onUnits (fun m => m.ptpLost intervals offset) s := rfl
theorem exec_pdFrameReceived_row (s : State) (passing : List EthFrame) (f : PdFrame) :
    exec (.pdFrameReceived passing f) s = onUnits (fun m => m.pdReceived passing f) s := rfl
theorem exec_trdpPublish_row (s : State) (ix : Fin 256) :
    exec (.trdpPublish ix) s = onRun (onUnits (fun m => m.whenReady (fun m => m.trdpPublish ix))) s := rfl
theorem exec_prReceived_row (s : State) (comid : Word) :
    exec (.prReceived comid) s = onUnits (fun m => m.whenReady (fun m => m.prReceived comid)) s := rfl
theorem exec_pdTmo_row (s : State) (ix : Fin 256) (ms : Nat) :
    exec (.pdTmo ix ms) s = onUnits (fun m => m.whenReady (fun m => m.pdTmo ix ms)) s := rfl
theorem exec_prpSupervision_row (s : State) (ms : Nat) : exec (.prpSupervision ms) s = onRun (onPage (fun m => m.prpSupervise ms)) s := rfl
theorem exec_linkChange_row (s : State) (port : Fin 6) (up : Bool) :
    exec (.linkChange port up) s = onUnits (fun m => m.linkChange port up) s := rfl
theorem exec_telRead_row (s : State) (src : Src) : exec (.telRead src) s = onPage (fun m => m.pageWrite src pgEth 0x07C 1) s := rfl
theorem exec_telWrite_row (s : State) (src : Src) : exec (.telWrite src) s = onPage (fun m => m.pageWrite src pgEth 0x07C 2) s := rfl
theorem exec_hitchLookup_row (s : State) : exec .hitchLookup s = onRun (onUnits (fun m => m.whenReady (fun m => m.hitchLookup))) s := rfl
theorem exec_gapExpire_row (s : State) (ix : Fin 16384) :
    exec (.gapExpire ix) s = onRun (onUnits (fun m => m.whenReady (fun m => m.gapExpire ix))) s := rfl
theorem exec_hitchRead_row (s : State) (src : Src) : exec (.hitchRead src) s = onPage (fun m => m.pageWrite src pgHitch 0x064 1) s := rfl
theorem exec_hitchWrite_row (s : State) (src : Src) : exec (.hitchWrite src) s = onUnits (fun m => m.pageWrite src pgHitch 0x064 2) s := rfl

/-- Settles O17: one bullet for each clause, in the order of the statement. -/
theorem backboneComplete : Obligations.BackboneComplete := by
  refine ⟨?_, ?_, ?_, ?_, ?_, ?_, ?_, ?_, ?_, ?_, ?_⟩
  · intro s port domain master hops utcOff gmChange hm hon hport hdomain hsync hsame hslew hnear
    subst hsame
    rw [exec_ptpSync_row]
    exact onUnits_next hm (ptpSyncIn_follows hon hport hdomain hsync hslew hnear)
  · intro s port domain master hops utcOff gmChange hm hon hport hdomain hsync hfar
    rw [exec_ptpSync_row]
    exact onUnits_next hm (ptpSyncIn_sets hon hport hdomain hsync hfar)
  · intro s intervals offset hm hsync hnear hlong
    rw [exec_ptpLost_row]
    exact onUnits_next hm (ptpLost_drops hsync hnear hlong)
  · intro s passing f ix t hm hpassing hgo hon hready hfcs hetb hoptrn hfind hnew
    subst hpassing
    rw [exec_pdFrameReceived_row]
    exact onUnits_next hm (pdReceived_takes hgo hon hready hfcs hetb hoptrn hfind hnew)
  · intro s ix hm hentering hready hon hen hpublish hgrid hstepped hmirror
    rw [exec_trdpPublish_row, onRun_row hentering]
    exact onUnits_next hm (whenReady_ready hready (trdpPublish_sends hon hen hpublish hgrid hstepped hmirror))
  · intro s comid ix hm hready hon hfind
    rw [exec_prReceived_row]
    exact onUnits_next hm (whenReady_ready hready (prReceived_sends hon hfind))
  · intro s ix ms hm hready hon hen hreceives hset hms hfirst hkeep
    rw [exec_pdTmo_row]
    exact onUnits_next hm (whenReady_ready hready (pdTmo_times_out hon hen hreceives hset hms hfirst hkeep))
  · intro s ms hm hentering hon hms
    rw [exec_prpSupervision_row, onRun_row hentering]
    exact onPage_next hm (prpSupervise_counts hon hms)
  · intro s port up hm _ _ hup
    subst hup
    rw [exec_linkChange_row]
    exact onUnits_next hm (linkChange_up port)
  · intro s src hm h
    rw [exec_telRead_row]
    exact onPage_next hm (Mach.pageWrite_telRead h)
  · intro s src hm h
    rw [exec_telWrite_row]
    exact onPage_next hm (Mach.pageWrite_telWrite h)

/-- Settles O18: one bullet for each clause, in the order of the statement. -/
theorem hitchComplete : Obligations.HitchComplete := by
  refine ⟨?_, ?_, ?_, ?_⟩
  · intro s sk key hm hentering hready hruns hfifo hends
    rw [exec_hitchLookup_row, onRun_row hentering]
    exact onUnits_next hm (whenReady_ready hready (hitchLookup_walks hready hruns hfifo hends))
  · intro s ix hm hentering hready hwaits
    rw [exec_gapExpire_row, onRun_row hentering]
    exact onUnits_next hm (whenReady_ready hready (gapExpire_requests hready hwaits))
  · intro s src hm h
    rw [exec_hitchRead_row]
    exact onPage_next hm (Mach.pageWrite_hitchRead h)
  · intro s src hm h
    rw [exec_hitchWrite_row]
    exact onUnits_next hm (Mach.pageWrite_hitchWrite h)

end Sys2Proof.Machine
end

section
/-! PROOFS. O19: Fid sessions and proxies (17_backbone_hitch_and_fid.md R443 to R448, R451). -/

namespace Sys2Proof.Machine

/-! ## Messages of a peer (R443 to R447) -/

section
variable {m : Mach} {k : Nat} {h : FidHead}

theorem fidRequest_acts {items : List FItem} (hjoined : (m.fidIn k h).1 = 2) :
    m.fidRequest k h items = (m.fidIn k h).2.fidActed k h.seq.toNat items := by
  unfold Mach.fidRequest
  generalize m.fidIn k h = q at hjoined ⊢
  simp only [hjoined]

/-- The answer to an outstanding request ends it. -/
theorem fidResp_answers {ack : Nat} {items : List FResp} {o : FOut} (hjoined : (m.fidIn k h).1 = 2)
    (hout : ((m.fidIn k h).2.peer k).out.find? (fun q => q.seq == ack) = some o) :
    m.fidResp k h ack items =
      ((m.fidIn k h).2.modPeer k fun p => { p with out := p.out.filter fun x => x.seq != ack }).proxyAnswers o.items items := by
  simp only [Mach.fidResp, hjoined, ne_eq, not_true, if_false, hout]

theorem fidReport_stores {unit : Nat} {caps state fset ffirst : Word} (hjoined : (m.fidIn k h).1 = 2) :
    m.fidReport k h unit caps state fset ffirst =
      (((m.fidIn k h).2.proxiesOf k).filter fun n => ((m.fidIn k h).2.proxy n).remote == unit).foldl (fun (m : Mach) n =>
        (((m.proxyFetched n 0x004 caps).proxyFetched n 0x014 ffirst).proxyFetched n 0x018 fset).proxyFetched n 0x00C state)
        (m.fidIn k h).2 :=
  if_neg (not_not_intro hjoined)

/-- A HELLO of a joined peer in its epoch, which echoes the module's own. -/
theorem fidHello_joined {echo : Word} (harrives : (m.fidArrives k h).1 = true) (hepoch : h.epoch ≠ 0)
    (hjoined : ((m.fidArrives k h).2.peer k).pstate = 2) (hsame : ((m.fidArrives k h).2.peer k).epoch = h.epoch)
    (hnew : ((m.fidArrives k h).2.peer k).replayed h.seq.toNat = false) (hecho : echo = (m.fidArrives k h).2.fid.epoch) (hne : echo ≠ 0) :
    m.fidHello k h echo =
      (let m1 := (m.fidArrives k h).2
       ((m1.setPeer k { (m1.peer k).take h.seq.toNat with pstate := 2 }).incWrap pgFid Fid.RX_MSGS).peerShow k) := by
  subst hecho
  have hold : (decide (((m.fidArrives k h).2.peer k).pstate = 0) || decide (((m.fidArrives k h).2.peer k).epoch ≠ h.epoch)) = false := by
    simp [hjoined, hsame]
  simp only [Mach.fidHello, harrives, decide_eq_false hepoch, hold, hnew, decide_true, decide_eq_true hne, Bool.not_true, Bool.not_false,
    Bool.or_false, Bool.and_true, Bool.and_false, Bool.false_eq_true, if_false, if_true]

end

/-! ## Timed steps -/

section
variable {m : Mach} {k ms : Nat}

/-- A request without an answer is sent again while tries are left. -/
theorem fidResend_resends {seq : Nat} {o : FOut} (hruns : m.fidRuns = true) (hms : m.fld pgFid Fid.TMO ≤ ms)
    (hout : (m.peer k).out.find? (fun q => q.seq == seq) = some o) (hleft : o.resent < m.fld pgFid Fid.RETRY) :
    m.fidResend k seq ms =
      (m.modPeer k fun p => { p with out := p.out.map fun x => if x.seq == seq then { x with resent := x.resent + 1 } else x }).incWrap
        pgFid Fid.TX_MSGS := by
  simp only [Mach.fidResend, hruns, decide_eq_false (Nat.not_lt.2 hms), Bool.not_true, Bool.or_false, Bool.false_eq_true, if_false, hout,
    hleft, if_true]

theorem helloDue_sends (hms : m.fld pgFid Fid.HELLO_T ≤ ms) (hepoch : m.fid.epoch ≠ 0) (hruns : m.fidRuns = true) :
    m.helloDue ms = (m.fid.peers.filter fun p => p.2.en).foldl (fun (m : Mach) p => m.fidTx p.1) m := by
  simp only [Mach.helloDue, Mach.fidHelloAll, Nat.not_lt.2 hms, decide_eq_false hepoch, hruns, Bool.not_true, Bool.false_and,
    Bool.false_eq_true, if_false]

theorem peerLost_loses (hruns : m.fidRuns = true) (hen : (m.peer k).en = true) (hjoined : (m.peer k).pstate = 2)
    (hms : 3 * m.fld pgFid Fid.HELLO_T ≤ ms) :
    m.peerLost k ms = ((m.modPeer k fun p => { p with pstate := 3 }).raise pgFid 2).peerShow k := by
  simp [Mach.peerLost, hruns, hen, hjoined, hms]

theorem epochEnd_renews (hruns : m.fidRuns = true) (hdrbg : m.drbgOk = true) (hending : m.fid.ending = true)
    (hidle : m.fid.peers.all (fun p => p.2.out.isEmpty) = true) : m.epochEnd = m.fidRenew.fidHelloAll := by
  simp only [Mach.epochEnd, hruns, hdrbg, hending, hidle, Bool.and_self, if_true]

/-- A subscription that has not reported yet reports. -/
theorem reportSend_first {n : Nat} (hruns : m.fidRuns = true) (hopen : m.fid.ending = false) (hjoined : (m.peer k).pstate = 2)
    (hfirst : (m.peer k).subs.find? (fun q => q.1 == n) = some (n, none)) :
    m.reportSend k n ms = (m.modPeer k fun p => { p with
      subs := p.subs.map fun x => if x.1 == n then (n, some (m.peek n 0x00C, m.peek n 0x018)) else x }).fidTx k := by
  simp [Mach.reportSend, hruns, hopen, hjoined, hfirst]

/-- What has gathered for 200 µs goes out, 64 items at most. -/
theorem gatherFlush_sends {us : Nat} (hruns : m.fidRuns = true) (hopen : m.fid.ending = false) (hjoined : (m.peer k).pstate = 2)
    (hus : 200 ≤ us) :
    m.gatherFlush k us = (itemRuns ((m.peer k).gather.take 64)).foldl
      (fun (m : Mach) r => (m.fidTx k).modPeer k fun p => { p with out := p.out ++ [⟨p.tx, r, 0⟩] })
      (m.setPeer k { m.peer k with gather := (m.peer k).gather.drop 64 }) := by
  simp [Mach.gatherFlush, hruns, hopen, hjoined, Nat.not_lt.2 hus]

theorem cacheRefresh_reads {n : Nat} (hproxy : clsOf n = .proxy) (hms : m.fld pgFid Fid.REPORT_T ≤ ms) (hbound : (m.proxy n).bind = true)
    (hruns : m.fidRuns = true) (hjoined : (m.peer (m.proxy n).peer).pstate = 2) :
    m.cacheRefresh n ms = (List.range (m.proxy n).len).foldl
      (fun (m' : Mach) j => m'.gather n (.read (m.proxy n).remote ((m.proxy n).ofs + 4 * j))) m := by
  simp [Mach.cacheRefresh, hproxy, hms, hbound, hruns, hjoined]

end

/-! ## Writes of FID's window -/

theorem Mach.pageWrite_fidOp {m : Mach} {src : Src} {w : Word} (h : m.takes src pgFid 0x064 w = true) :
    m.pageWrite src pgFid 0x064 w = m.ran src pgFid 0x064 fun m => m.fidOp (w.toNat % 2 ^ 3) :=
  Mach.pageWrite_special (by decide) h fun _ => rfl

/-! ## The rows -/

theorem exec_fidRead_row (s : State) (k : Fin 256) (h : FidHead) (items : List (BitVec 16 × BitVec 16)) :
    exec (.fidRead k h items) s =
      onUnits (fun m => m.whenReady (fun m => m.fidRequest k h (items.map (fun (i : BitVec 16 × BitVec 16) => FItem.read i.1.toNat i.2.toNat)))) s := rfl
theorem exec_fidWrite_row (s : State) (k : Fin 256) (h : FidHead) (items : List (BitVec 16 × BitVec 16 × Word × Word)) :
    exec (.fidWrite k h items) s =
      onUnits (fun m => m.whenReady (fun m => m.fidRequest k h (items.map (fun (i : BitVec 16 × BitVec 16 × Word × Word) => FItem.write i.1.toNat i.2.1.toNat i.2.2.1 i.2.2.2)))) s := rfl
theorem exec_fidCmd_row (s : State) (k : Fin 256) (h : FidHead) (items : List (BitVec 16 × Word × Word)) :
    exec (.fidCmd k h items) s =
      onUnits (fun m => m.whenReady (fun m => m.fidRequest k h (items.map (fun (i : BitVec 16 × Word × Word) => FItem.cmd i.1.toNat i.2.1 i.2.2)))) s := rfl
theorem exec_subscribe_row (s : State) (k : Fin 256) (h : FidHead) (items : List (BitVec 16)) :
    exec (.subscribe k h items) s =
      onUnits (fun m => m.whenReady (fun m => m.fidRequest k h (items.map (fun (i : BitVec 16) => FItem.subscribe i.toNat)))) s := rfl
theorem exec_resp_row (s : State) (k : Fin 256) (h : FidHead) (ack : Word) (items : List FResp) :
    exec (.resp k h ack items) s = onUnits (fun m => m.whenReady (fun m => m.fidResp k h ack.toNat items)) s := rfl
theorem exec_report_row (s : State) (k : Fin 256) (h : FidHead) (unit : BitVec 16) (caps state fset ffirst : Word) :
    exec (.report k h unit caps state fset ffirst) s =
      onUnits (fun m => m.whenReady (fun m => m.fidReport k h unit.toNat caps state fset ffirst)) s := rfl
theorem exec_hello_row (s : State) (k : Fin 256) (h : FidHead) (echo : Word) :
    exec (.hello k h echo) s = onUnits (fun m => m.whenReady (fun m => m.fidHello k h echo)) s := rfl
theorem exec_fidResend_row (s : State) (k : Fin 256) (seq : Word) (ms : Nat) :
    exec (.fidResend k seq ms) s = onRun (onUnits (fun m => m.whenReady (fun m => m.fidResend k seq.toNat ms))) s := rfl
theorem exec_helloTimer_row (s : State) (ms : Nat) :
    exec (.helloTimer ms) s = onRun (onUnits (fun m => m.whenReady (fun m => m.helloDue ms))) s := rfl
theorem exec_peerLost_row (s : State) (k : Fin 256) (ms : Nat) :
    exec (.peerLost k ms) s = onUnits (fun m => m.whenReady (fun m => m.peerLost k ms)) s := rfl
theorem exec_epochEnd_row (s : State) : exec .epochEnd s = onRun (onUnits (fun m => m.whenReady (fun m => m.epochEnd))) s := rfl
theorem exec_reportSend_row (s : State) (k : Fin 256) (n : Fin 32768) (ms : Nat) :
    exec (.reportSend k n ms) s = onRun (onUnits (fun m => m.whenReady (fun m => m.reportSend k n ms))) s := rfl
theorem exec_proxyGatherFlush_row (s : State) (k : Fin 256) (us : Nat) :
    exec (.proxyGatherFlush k us) s = onRun (onUnits (fun m => m.whenReady (fun m => m.gatherFlush k us))) s := rfl
theorem exec_proxyCacheRefresh_row (s : State) (p : Fin 8192) (ms : Nat) :
    exec (.proxyCacheRefresh p ms) s = onRun (onUnits (fun m => m.whenReady (fun m => m.cacheRefresh (pgProxy p) ms))) s := rfl
theorem exec_fidPeerRead_row (s : State) (src : Src) : exec (.fidPeerRead src) s = onPage (fun m => m.pageWrite src pgFid 0x064 1) s := rfl
theorem exec_fidPeerWrite_row (s : State) (src : Src) : exec (.fidPeerWrite src) s = onUnits (fun m => m.pageWrite src pgFid 0x064 2) s := rfl
theorem exec_fidProxyRead_row (s : State) (src : Src) : exec (.fidProxyRead src) s = onPage (fun m => m.pageWrite src pgFid 0x064 3) s := rfl
theorem exec_fidProxyWrite_row (s : State) (src : Src) : exec (.fidProxyWrite src) s = onUnits (fun m => m.pageWrite src pgFid 0x064 4) s := rfl

/-- Settles O19: one bullet for each clause, in the order of the statement. -/
theorem fidComplete : Obligations.FidComplete := by
  refine ⟨?_, ?_, ?_, ?_, ?_, ?_, ?_, ?_, ?_, ?_, ?_, ?_, ?_, ?_, ?_, ?_, ?_, ?_⟩
  · intro s k h items hm hready hjoined
    rw [exec_fidRead_row]
    exact onUnits_next hm (whenReady_ready hready (fidRequest_acts hjoined))
  · intro s k h items hm hready hjoined
    rw [exec_fidWrite_row]
    exact onUnits_next hm (whenReady_ready hready (fidRequest_acts hjoined))
  · intro s k h items hm hready hjoined
    rw [exec_fidCmd_row]
    exact onUnits_next hm (whenReady_ready hready (fidRequest_acts hjoined))
  · intro s k h items hm hready hjoined
    rw [exec_subscribe_row]
    exact onUnits_next hm (whenReady_ready hready (fidRequest_acts hjoined))
  · intro s k h ack items o hm hready hjoined hout
    rw [exec_resp_row]
    exact onUnits_next hm (whenReady_ready hready (fidResp_answers hjoined hout))
  · intro s k h unit caps state fset ffirst hm hready hjoined
    rw [exec_report_row]
    exact onUnits_next hm (whenReady_ready hready (fidReport_stores hjoined))
  · intro s k h echo hm hready harrives hepoch hjoined hsame hnew hecho hne
    rw [exec_hello_row]
    exact onUnits_next hm (whenReady_ready hready (fidHello_joined harrives hepoch hjoined hsame hnew hecho hne))
  · intro s k seq ms o hm hentering hready hruns hms hout hleft
    rw [exec_fidResend_row, onRun_row hentering]
    exact onUnits_next hm (whenReady_ready hready (fidResend_resends hruns hms hout hleft))
  · intro s ms hm hentering hready hms hepoch hruns
    rw [exec_helloTimer_row, onRun_row hentering]
    exact onUnits_next hm (whenReady_ready hready (helloDue_sends hms hepoch hruns))
  · intro s k ms hm hready hruns hen hjoined hms
    rw [exec_peerLost_row]
    exact onUnits_next hm (whenReady_ready hready (peerLost_loses hruns hen hjoined hms))
  · intro s hm hentering hready hruns hdrbg hending hidle
    rw [exec_epochEnd_row, onRun_row hentering]
    exact onUnits_next hm (whenReady_ready hready (epochEnd_renews hruns hdrbg hending hidle))
  · intro s k n ms hm hentering hready hruns hopen hjoined hfirst
    rw [exec_reportSend_row, onRun_row hentering]
    exact onUnits_next hm (whenReady_ready hready (reportSend_first hruns hopen hjoined hfirst))
  · intro s k us hm hentering hready hruns hopen hjoined hus
    rw [exec_proxyGatherFlush_row, onRun_row hentering]
    exact onUnits_next hm (whenReady_ready hready (gatherFlush_sends hruns hopen hjoined hus))
  · intro s p ms hm hentering hready hms hbound hruns hjoined
    rw [exec_proxyCacheRefresh_row, onRun_row hentering]
    exact onUnits_next hm (whenReady_ready hready (cacheRefresh_reads (clsOf_pgProxy p.isLt) hms hbound hruns hjoined))
  · intro s src hm h
    rw [exec_fidPeerRead_row]
    exact onPage_next hm (Mach.pageWrite_fidOp h)
  · intro s src hm h
    rw [exec_fidPeerWrite_row]
    exact onUnits_next hm (Mach.pageWrite_fidOp h)
  · intro s src hm h
    rw [exec_fidProxyRead_row]
    exact onPage_next hm (Mach.pageWrite_fidOp h)
  · intro s src hm h
    rw [exec_fidProxyWrite_row]
    exact onUnits_next hm (Mach.pageWrite_fidOp h)

end Sys2Proof.Machine
end

section
/-! PROOFS. O21: power states, clocks and the coordinated network sleep (19_power_states_and_network_sleep.md R471 to R483). -/

namespace Sys2Proof.Machine

/-! ## Sleep entries and wake-up (R471 to R476) -/

section
variable {m : Mach} {n ms us : Nat}

theorem rollbackRefused_rolls (hprepares : m.pstate = 2) (hrefuser : m.refuser = some n) : m.rollbackRefused = m.rollback false false n := by
  simp only [Mach.rollbackRefused, hprepares, if_true, hrefuser]

theorem prepareTimeout_rolls (hprepares : m.pstate = 2) (hus : 200 ≤ us) : m.prepareTimeout us n = m.rollback true false n := by
  simp [Mach.prepareTimeout, hprepares, hus]

theorem commitComplete_switches {s : State} (hm : s.m.mainOff = false) (hcommits : s.m.pstate = 3) :
    commitComplete s = { s with m := s.m.commitDone, mem := keepMem keptAsleep s.mem } := by
  simp [commitComplete, hm, hcommits]

theorem wakeN_wakes {mv : Nat} (hmv : mv ≤ 2000) (hus : 1000 ≤ us) : m.wakeN mv us = m.wakeEvent 1 pgPwr := by
  simp [Mach.wakeN, hmv, hus]

theorem falseWake_counts (hsuspect : m.pwr.suspect = some n) (hms : m.fld pgPwr Pwr.FW_T ≤ ms) :
    m.falseWake ms = (({ m with pwr := { m.pwr with suspect := none } } : Mach).incSat pgPwr Pwr.FALSE_WAKES).raise pgPwr 1 := by
  simp [Mach.falseWake, hsuspect, hms]

theorem supplyTrip_wakes {c : Nat} (hwatch : m.pwr.asleep = 1) (hsupplies : m.pwr.supplies.contains (pgOut c) = true) :
    m.supplyTrip c = ({ m with pwr := { m.pwr with supplies := m.pwr.supplies.filter fun a => a != pgOut c } } : Mach).wakeEvent 10
      (pgOut c) := by
  simp only [Mach.supplyTrip, hwatch, hsupplies, decide_true, Bool.and_self, if_true]

/-- A rising level of an input of class 0 whose rising edge wakes. -/
theorem staticComparator_wakes {i v : Nat} (hi : i < 16) (hstatic : m.flag (pgIn i) Inp.STATIC = true)
    (hlocal : m.flag (pgIn i) Inp.NETWORK = false) (hus : 1000 ≤ us) (hen : (m.unit (pgIn i)).enabled = true)
    (hclass : m.fld (pgIn i) Inp.CLASS = 0) (hv : 1200 ≤ v) (hplain : m.flag (pgIn i) Inp.INVERT = false)
    (hlow : m.flag (pgIn i) Inp.ACTIVE = false) (hrising : (m.fld (pgIn i) Inp.WAKE).testBit 0 = true) :
    m.staticComparator i v us = m.wakeEvent 2 (pgIn i) := by
  simp [Mach.staticComparator, Nat.not_le.2 hi, hstatic, hlocal, Nat.not_lt.2 hus, hen, hclass, hv, hplain, hlow, hrising]

end

/-! ## Clocks (R477 to R479) -/

section
variable {m : Mach} {us : Nat} {trim err : Int}

theorem pllLock_locks (hen : m.flag pgClk Clk.PLL_EN = true) :
    m.pllLock us = ((m.setFlag pgClk Clk.LOCKED true).setFld pgClk Clk.LOCK_T (min us 65535)).settleUnit pgClk := if_pos hen

theorem pllUnlock_unlocks (hlocked : m.flag pgClk Clk.LOCKED = true) :
    m.pllUnlock = ((((m.setFlag pgClk Clk.LOCKED false).onPll false).incSat pgClk Clk.UNLOCKS).raise pgClk 0).settleUnit pgClk :=
  if_pos hlocked

theorem hfTrim_trims (hxtal : m.flag pgReckon Reckon.XTAL_OK = true) (hen : m.flag pgClk Clk.TRIM_EN = true) :
    m.hfTrim trim err = (m.setSFld pgClk Clk.HF_TRIM (max (-32768) (min trim 32767))).setFlag pgClk Clk.TRIMMED (decide (err.natAbs ≤ 10)) := by
  simp only [Mach.hfTrim, hxtal, hen, Bool.not_true, Bool.false_eq_true, if_false, if_true]

theorem hfTrim_without_crystal (hxtal : m.flag pgReckon Reckon.XTAL_OK = false) :
    m.hfTrim trim err = ((m.setFlag pgClk Clk.TRIMMED false).setFld pgClk Clk.HF_TRIM 0).raise pgClk 1 := by
  simp only [Mach.hfTrim, hxtal, Bool.not_false, if_true]

end

/-! ## The ring (R482, R483) -/

section
variable {m : Mach} {ms : Nat} {q : NmMsg}

/-- A wake message while the ring listens updates SEEN and nothing else. -/
theorem nmMessage_listening (hlistens : m.nmState = 1) (hwake : q.wake = true) (hother : q.src ≠ (m.setSeen q.consent).fld pgPwr Pwr.SUCC) :
    m.nmMessage q = m.setSeen q.consent := by
  simp only [Mach.nmMessage, hlistens, Nat.one_ne_zero, if_false, hother, hwake, if_true]

/-- A ring message for this node is forwarded, with the rounds of consent it carries on. -/
theorem nmMessage_forwards (hruns : m.nmState = 2) (hring : q.wake = false) (hopen : q.confirm = false)
    (hdest : q.dest = (m.setSeen q.consent).nmNode) (hother : q.src ≠ (m.setSeen q.consent).fld pgPwr Pwr.SUCC) :
    m.nmMessage q =
      (let m1 := m.setSeen q.consent
       let anchor := decide (m1.nmNode < q.src) || nmAlone m1.nmMembers m1.nmNode
       let r := if !m1.consent then 0 else if !anchor then q.rounds else if nmAll m1.nmMembers q.consent then min (q.rounds + 1) 2 else 0
       let m2 := (m1.setFlag pgPwr Pwr.ANCHOR anchor).setNm 2
       { m2 with pwr := { m2.pwr with fwd := some ⟨m2.nmNode, nmNext m1.nmMembers m1.nmNode, false, anchor && r == 2, r, 0⟩ } }) := by
  have hmine : (decide (q.dest ≠ (m.setSeen q.consent).nmNode) || decide (2 = 3)) = false := by simp [hdest]
  simp only [Mach.nmMessage, hruns, OfNat.ofNat_ne_zero, if_false, hother, hring, hopen, hmine, Bool.false_eq_true]

/-- A message without a standing confirmation goes on after T_HOP. -/
theorem nmForward_sends (hwaits : m.pwr.fwd = some q) (hruns : m.nmState = 2) (hms : m.fld pgPwr Pwr.T_HOP ≤ ms)
    (hopen : (q.confirm && m.consent) = false) :
    m.nmForward ms = m.nmSend { q with rounds := if m.consent then q.rounds else 0, confirm := false, consent := m.nmBits } := by
  simp only [Mach.nmForward, hwaits, hruns, hms, decide_true, Bool.and_self, if_true, hopen, Bool.false_eq_true, if_false]

/-- A successor that has not answered is skipped. -/
theorem ringSkip_skips {u : Mach} (hruns : m.nmState = 2) (hawait : m.pwr.await = true) (hms : m.fld pgPwr Pwr.SKIP_T ≤ ms)
    (hu : ((m.setSeen (nmBit m.nmSeen (m.fld pgPwr Pwr.SUCC) true)).incSat pgPwr Pwr.SKIPS).raise pgPwr 2 = u) :
    m.ringSkip ms = u.nmSend { u.pwr.last with dest := nmNext u.nmMembers (m.fld pgPwr Pwr.SUCC), consent := u.nmBits } := by
  subst hu
  have hskips : (decide (m.nmState = 2) && m.pwr.await && decide (m.fld pgPwr Pwr.SKIP_T ≤ ms)) = true := by
    simp [hruns, hawait, hms]
  unfold Mach.ringSkip
  rw [if_pos hskips]

theorem ringListen_starts (hlistens : m.nmState = 1) (hms : m.fld pgPwr Pwr.LOST_T + m.nmNode * m.fld pgPwr Pwr.T_HOP ≤ ms) :
    m.ringListen ms = (m.setNm 2).nmSend ⟨m.nmNode, nmNext m.nmMembers m.nmNode, false, false, 0, m.nmBits⟩ := by
  simp only [Mach.ringListen, hlistens, hms, decide_true, Bool.and_self, if_true]

theorem ringLost_listens (hruns : m.nmState = 2) (hms : m.fld pgPwr Pwr.LOST_T ≤ ms) :
    m.ringLost ms = ({ m with pwr := { m.pwr with fwd := none, await := false } } : Mach).setNm 1 := by
  simp only [Mach.ringLost, hruns, hms, decide_true, Bool.and_self, if_true]

theorem graceEnd_prepares (hgrace : m.nmState = 3) (hawake : m.pstate ≤ 1) (hms : m.fld pgPwr Pwr.T_GRACE ≤ ms) : m.graceEnd ms = m.prepare := by
  simp only [Mach.graceEnd, hgrace, hawake, hms, decide_true, Bool.and_self, if_true]

theorem localWake_races (hgrace : m.nmState = 3) (hawake : m.fld pgPwr Pwr.PSTATE ≤ 1) : m.localWake = m.nmRace := by
  simp only [Mach.localWake, hgrace, hawake, decide_true, Bool.and_self, if_true]

end

/-! ## Writes of PWR -/

section
variable {m : Mach} {src : Src}

theorem Mach.pageWrite_sleep (h : m.takes src pgPwr 0x044 1 = true) :
    m.pageWrite src pgPwr 0x044 1 = m.ran src pgPwr 0x044 fun m => m.sleepOp src :=
  Mach.pageWrite_special (by decide) h fun _ => congrArg some (if_pos rfl)

theorem Mach.pageWrite_consent {w : Word} (h : m.takes src pgPwr 0x078 w = true) :
    m.pageWrite src pgPwr 0x078 w = m.ran src pgPwr 0x078 fun m => m.consentWrite (w.getLsbD 0) :=
  Mach.pageWrite_special (by decide) h fun _ => rfl

end

/-! ## The rows -/

theorem exec_sleep_row (s : State) (src : Src) : exec (.sleep src) s = onUnits (fun m => m.pageWrite src pgPwr 0x044 1) s := rfl
theorem exec_rollback_row (s : State) : exec .rollback s = onUnits (fun m => m.rollbackRefused) s := rfl
theorem exec_prepareTimeout_row (s : State) (us : Nat) (n : Fin 32768) :
    exec (.prepareTimeout us n) s = onUnits (fun m => m.prepareTimeout us n) s := rfl
theorem exec_commit_row (s : State) : exec .commit s = onUnits (fun m => m.commit) s := rfl
theorem exec_commitComplete_row (s : State) : exec .commitComplete s = onFeed (fun t => commitComplete t) s := rfl
theorem exec_wake_row (s : State) (us : Nat) (table : List (Fin 16384 × List Word)) :
    exec (.wake us table) s = onFeed (fun t => wakeRow us table t) s := rfl
theorem exec_wakeN_row (s : State) (mv us : Nat) : exec (.wakeN mv us) s = onKept (fun m => m.wakeN mv us) s := rfl
theorem exec_falseWake_row (s : State) (ms : Nat) : exec (.falseWake ms) s = onUnits (fun m => m.falseWake ms) s := rfl
theorem exec_pllEnWrite_row (s : State) (src : Src) (v : Word) :
    exec (.pllEnWrite src v) s = onUnits (fun m => m.pageWrite src pgClk 0x040 v) s := rfl
theorem exec_coreSrcWrite_row (s : State) (src : Src) (v : Word) :
    exec (.coreSrcWrite src v) s = onUnits (fun m => m.pageWrite src pgClk 0x040 v) s := rfl
theorem exec_pllLock_row (s : State) (us : Nat) : exec (.pllLock us) s = onUnits (fun m => m.pllLock us) s := rfl
theorem exec_pllUnlock_row (s : State) : exec .pllUnlock s = onUnits (fun m => m.pllUnlock) s := rfl
theorem exec_hfRcTrim_row (s : State) (trim err : Int) : exec (.hfRcTrim trim err) s = onRun (onUnits (fun m => m.hfTrim trim err)) s := rfl
theorem exec_watchStep_row (s : State) (ins : List (BitVec 16 × Bool)) (touches : List (BitVec 16 × BitVec 16)) :
    exec (.watchStep ins touches) s = onKept (fun m => m.watchStep ins touches) s := rfl
theorem exec_supply_row (s : State) (c : Fin 128) : exec (.supply c) s = onKept (fun m => m.supplyTrip c) s := rfl
theorem exec_staticComparator_row (s : State) (ix : Fin 96) (v us : Nat) :
    exec (.staticComparator ix v us) s = onKept (fun m => m.staticComparator ix v us) s := rfl
theorem exec_nmMessage_row (s : State) (q : NmMsg) : exec (.nmMessage q) s = onUnits (fun m => m.nmMessage q) s := rfl
theorem exec_nmForward_row (s : State) (ms : Nat) : exec (.nmForward ms) s = onUnits (fun m => m.nmForward ms) s := rfl
theorem exec_ringSkip_row (s : State) (ms : Nat) : exec (.ringSkip ms) s = onUnits (fun m => m.ringSkip ms) s := rfl
theorem exec_ringListenTimeout_row (s : State) (ms : Nat) : exec (.ringListenTimeout ms) s = onUnits (fun m => m.ringListen ms) s := rfl
theorem exec_ringLost_row (s : State) (ms : Nat) : exec (.ringLost ms) s = onUnits (fun m => m.ringLost ms) s := rfl
theorem exec_graceEnd_row (s : State) (ms : Nat) : exec (.graceEnd ms) s = onUnits (fun m => m.graceEnd ms) s := rfl
theorem exec_networkRace_row (s : State) : exec .networkRace s = onUnits (fun m => m.localWake) s := rfl
theorem exec_consentWrite_row (s : State) (src : Src) (v : Word) :
    exec (.consentWrite src v) s = onUnits (fun m => m.pageWrite src pgPwr 0x078 v) s := rfl
theorem exec_nmEnWrite_row (s : State) (src : Src) (v : Word) :
    exec (.nmEnWrite src v) s = onUnits (fun m => m.pageWrite src pgPwr 0x064 v) s := rfl

/-- Settles O21: one bullet for each clause, in the order of the statement. Choices of the model that clauses rest on: which unit a rollback
names where several refuse (notes/assumptions/51.md), and how a node takes a ring message (notes/assumptions/67.md). -/
theorem powerComplete : Obligations.PowerComplete := by
  refine ⟨?_, ?_, ?_, ?_, ?_, ?_, ?_, ?_, ?_, ?_, ?_, ?_, ?_, ?_, ?_, ?_, ?_, ?_, ?_, ?_, ?_, ?_, ?_, ?_, ?_, ?_, ?_⟩
  · intro s src hm h
    rw [exec_sleep_row]
    exact onUnits_next hm (Mach.pageWrite_sleep h)
  · intro s n hm hprepares hrefuser
    rw [exec_rollback_row]
    exact onUnits_next hm (rollbackRefused_rolls hprepares hrefuser)
  · intro s us n hm hprepares hus
    rw [exec_prepareTimeout_row]
    exact onUnits_next hm (prepareTimeout_rolls hprepares hus)
  · intro s hm _ _
    rw [exec_commit_row]
    exact onUnits_next hm rfl
  · intro s hm hcommits
    rw [exec_commitComplete_row]
    exact onFeed_next (commitComplete_switches hm hcommits)
  · intro s us table _ _ _
    rw [exec_wake_row]
    exact onFeed_next rfl
  · intro s mv us hawake hoff hmv hus
    rw [exec_wakeN_row]
    exact onKept_main hawake hoff (wakeN_wakes hmv hus)
  · intro s ms n hm hsuspect hms
    rw [exec_falseWake_row]
    exact onUnits_next hm (falseWake_counts hsuspect hms)
  · intro s src v hm h
    rw [exec_pllEnWrite_row]
    exact onUnits_next hm (Mach.pageWrite_class (by decide) h)
  · intro s src v hm h
    rw [exec_coreSrcWrite_row]
    exact onUnits_next hm (Mach.pageWrite_class (by decide) h)
  · intro s us hm hen
    rw [exec_pllLock_row]
    exact onUnits_next hm (pllLock_locks hen)
  · intro s hm hlocked
    rw [exec_pllUnlock_row]
    exact onUnits_next hm (pllUnlock_unlocks hlocked)
  · intro s trim err hm hentering hxtal hen
    rw [exec_hfRcTrim_row, onRun_row hentering]
    exact onUnits_next hm (hfTrim_trims hxtal hen)
  · intro s trim err hm hentering hxtal
    rw [exec_hfRcTrim_row, onRun_row hentering]
    exact onUnits_next hm (hfTrim_without_crystal hxtal)
  · intro s ins touches hawake hoff _ _
    rw [exec_watchStep_row]
    exact onKept_main hawake hoff rfl
  · intro s c hawake hoff hwatch hsupplies
    rw [exec_supply_row]
    exact onKept_main hawake hoff (supplyTrip_wakes hwatch hsupplies)
  · intro s ix v us hawake hoff hi hstatic hlocal hus hen hclass hv hplain hlow hrising
    rw [exec_staticComparator_row]
    exact onKept_main hawake hoff (staticComparator_wakes hi hstatic hlocal hus hen hclass hv hplain hlow hrising)
  · intro s q hm hlistens hwake hother
    rw [exec_nmMessage_row]
    exact onUnits_next hm (nmMessage_listening hlistens hwake hother)
  · intro s q hm hruns hring hopen hdest hother
    rw [exec_nmMessage_row]
    exact onUnits_next hm (nmMessage_forwards hruns hring hopen hdest hother)
  · intro s ms q hm hwaits hruns hms hopen
    rw [exec_nmForward_row]
    exact onUnits_next hm (nmForward_sends hwaits hruns hms hopen)
  · intro s ms hm hruns hawait hms
    rw [exec_ringSkip_row]
    exact onUnits_next hm (ringSkip_skips hruns hawait hms rfl)
  · intro s ms hm hlistens hms
    rw [exec_ringListenTimeout_row]
    exact onUnits_next hm (ringListen_starts hlistens hms)
  · intro s ms hm hruns hms
    rw [exec_ringLost_row]
    exact onUnits_next hm (ringLost_listens hruns hms)
  · intro s ms hm hgrace hawake hms
    rw [exec_graceEnd_row]
    exact onUnits_next hm (graceEnd_prepares hgrace hawake hms)
  · intro s hm hgrace hawake
    rw [exec_networkRace_row]
    exact onUnits_next hm (localWake_races hgrace hawake)
  · intro s src v hm h
    rw [exec_consentWrite_row]
    exact onUnits_next hm (Mach.pageWrite_consent h)
  · intro s src v hm h
    rw [exec_nmEnWrite_row]
    exact onUnits_next hm (Mach.pageWrite_class (by decide) h)

end Sys2Proof.Machine
end

section
/-! PROOFS. O22: starts and the loss of supply (22_startup_and_electrical.md R528 to R536). -/

namespace Sys2Proof.Machine

/-! ## The steps of the feed and of a start -/

section
variable {s : State} {b us mV : Nat} {fuses : Fuses} {fail : Option Nat} {config : Option (List (Nat × Nat × Word))}

theorem feedStart_boots (hv : 13000 ≤ mV) (hus : 1000 ≤ us) (hA : s.m.pwr.upA = false) (hB : s.m.pwr.upB = false) :
    feedStart b mV us fuses fail config s =
      bootFrom config 0 { s with m := (s.m.fed fuses fail (tamperCode config)).setLogicFeed b true, mem := keepMem keptOff s.mem } := by
  simp [feedStart, show ¬ mV < 13000 by omega, show ¬ us < 1000 by omega, hA, hB]

theorem feedStart_joins (hv : 13000 ≤ mV) (hus : 1000 ≤ us) (hup : (s.m.pwr.upA || s.m.pwr.upB) = true) :
    feedStart b mV us fuses fail config s = { s with m := s.m.setLogicFeed b true } := by
  simp only [feedStart, show ¬ mV < 13000 by omega, show ¬ us < 1000 by omega, decide_false, Bool.or_self, Bool.false_eq_true, if_false, hup,
    if_true]

/-- What keeps a falling feed up: its voltage, the time, or a feed that was not there. -/
theorem feedStop_acts (hv : mV < 12000) (hus : 10000 ≤ us) (hfed : s.m.feedAbove b = true) :
    (decide (12000 ≤ mV) || decide (us < 10000) || !s.m.feedAbove b) = false := by
  simp [hfed]; omega

theorem feedStop_ends (hv : mV < 12000) (hus : 10000 ≤ us) (hfed : s.m.feedAbove b = true)
    (hup : ((s.m.setLogicFeed b false).pwr.upA || (s.m.setLogicFeed b false).pwr.upB) = false) :
    feedStop b mV us s = { s with m := (s.m.setLogicFeed b false).unfed, mem := keepMem keptOff s.mem } := by
  simp only [feedStop, feedStop_acts hv hus hfed, Bool.false_eq_true, if_false, hup]

theorem feedStop_leaves_other (hv : mV < 12000) (hus : 10000 ≤ us) (hfed : s.m.feedAbove b = true)
    (hup : ((s.m.setLogicFeed b false).pwr.upA || (s.m.setLogicFeed b false).pwr.upB) = true) :
    feedStop b mV us s = { s with m := s.m.setLogicFeed b false } := by
  simp only [feedStop, feedStop_acts hv hus hfed, Bool.false_eq_true, if_false, hup, if_true]

theorem restart_boots {cause : Nat} (hm : s.m.mainOff = false) :
    restart cause config s = bootFrom config cause { s with m := s.m.domainLost.bootChannels, mem := keepMem keptAsleep s.mem } := by
  simp only [restart, hm, Bool.false_eq_true, if_false]

theorem watchdog_restarts {ms : Nat} (hms : 100 < ms) : watchdog ms config s = restart 1 config s :=
  if_neg (by omega)

theorem recoveryImage_programs {image : List Byte} (hm : s.m.mainOff = false) (hready : s.m.flag pgPwr Pwr.READY = false)
    (hversion : s.m.fld pgDev Dev.FWVER = 0) (hlength : image.length ≤ 0x400000) :
    recoveryImage image config s =
      (if firmwareOk s.m (writeBytes (bankAt 0) image (eraseRange (bankAt 0) 0x400000 s.mem)) 0 then
        bootFrom config 0 { s with mem := writeBytes (bankAt 0) image (eraseRange (bankAt 0) 0x400000 s.mem) }
      else s) := by
  have haccepts : ¬ (s.m.mainOff || s.m.flag pgPwr Pwr.READY || decide (s.m.fld pgDev Dev.FWVER ≠ 0)
      || decide (0x400000 < image.length)) = true := by
    simp [hm, hready, hversion]; omega
  unfold recoveryImage
  rw [if_neg haccepts]

end

theorem floorRaise_raises {m : Mach} {h : Nat} (hh : 1 ≤ h) :
    m.floorRaise h = { m with floors := tput m.floors 0 0 (max (tget m.floors 0 0) (m.fld pgDev Dev.FWVER)) } :=
  if_pos hh

/-! ## The rows -/

theorem exec_logicFeedStart_row (s : State) (b : Fin 2) (mV us : Nat) (fuses : Fuses) (fail : Option (Fin 16))
    (config : Option (List (Nat × Nat × Word))) :
    exec (.logicFeedStart b mV us fuses fail config) s =
      onFeed (fun t => feedStart b mV us fuses (fail.map (fun (k : Fin 16) => k.val)) config t) s := rfl
theorem exec_logicFeedStop_row (s : State) (b : Fin 2) (mV us : Nat) :
    exec (.logicFeedStop b mV us) s = onFeed (fun t => feedStop b mV us t) s := rfl
theorem exec_watchdog_row (s : State) (ms : Nat) (config : Option (List (Nat × Nat × Word))) :
    exec (.watchdog ms config) s = onFeed (fun t => watchdog ms config t) s := rfl
theorem exec_update_row (s : State) (config : Option (List (Nat × Nat × Word))) :
    exec (.update config) s = onFeed (fun t => restart 2 config t) s := rfl
theorem exec_recoveryImage_row (s : State) (image : List Byte) (config : Option (List (Nat × Nat × Word))) :
    exec (.recoveryImage image config) s = onFeed (fun t => recoveryImage image config t) s := rfl
theorem exec_rollbackFloorRaise_row (s : State) (h : Nat) : exec (.rollbackFloorRaise h) s = onUnits (fun m => m.floorRaise h) s := rfl

/-- Settles O22: one bullet for each clause, in the order of the statement. That a start is one step from its cause to READY is a choice of the
model (notes/assumptions/116.md, notes/assumptions/211.md). -/
theorem startsComplete : Obligations.StartsComplete := by
  refine ⟨?_, ?_, ?_, ?_, ?_, ?_, ?_, ?_⟩
  · intro s b mV us fuses fail config hv hus hA hB
    rw [exec_logicFeedStart_row]
    exact onFeed_next (feedStart_boots hv hus hA hB)
  · intro s b mV us fuses fail config hv hus hup
    rw [exec_logicFeedStart_row]
    exact onFeed_next (feedStart_joins hv hus (by simpa using hup))
  · intro s b mV us hv hus hfed hA hB
    rw [exec_logicFeedStop_row]
    exact onFeed_next (feedStop_ends hv hus hfed (by simp [hA, hB]))
  · intro s b mV us hv hus hfed hup
    rw [exec_logicFeedStop_row]
    exact onFeed_next (feedStop_leaves_other hv hus hfed (by simpa using hup))
  · intro s ms config hm hms
    rw [exec_watchdog_row]
    exact onFeed_next ((watchdog_restarts hms).trans (restart_boots hm))
  · intro s config hm
    rw [exec_update_row]
    exact onFeed_next (restart_boots hm)
  · intro s image config hm hready hversion hlength
    rw [exec_recoveryImage_row]
    exact onFeed_next (recoveryImage_programs hm hready hversion hlength)
  · intro s h hm hh
    rw [exec_rollbackFloorRaise_row]
    exact onUnits_next hm (floorRaise_raises hh)

end Sys2Proof.Machine
end

section
/-! PROOFS. O23: the Locker's mailboxes, requests and slots (20_locker_security.md R492 to R508). -/

namespace Sys2Proof.Machine

/-! ## Writes of LOCKER -/

section
variable {m : Mach} {src : Src} {w : Word}

/-- Every mailbox's command register starts a request of that mailbox (R494). -/
theorem Mach.pageWrite_mbCmd {c : Fin 6} (h : m.takes src pgLocker (0x100 + 0x20 * c) w = true) :
    m.pageWrite src pgLocker (0x100 + 0x20 * c) w = m.ran src pgLocker (0x100 + 0x20 * c) fun m => m.mbCmd c w :=
  Mach.pageWrite_special (by omega) h fun _ => by fin_cases c <;> rfl

theorem Mach.pageWrite_slotRead (h : m.takes src pgLocker 0x060 1 = true) :
    m.pageWrite src pgLocker 0x060 1 = m.ran src pgLocker 0x060 fun m => m.slotRead :=
  Mach.pageWrite_special (by decide) h fun _ => rfl

theorem Mach.pageWrite_writeAttr (h : m.takes src pgLocker 0x060 2 = true) :
    m.pageWrite src pgLocker 0x060 2 = m.ran src pgLocker 0x060 fun m => m.writeAttr :=
  Mach.pageWrite_special (by decide) h fun _ => rfl

theorem Mach.pageWrite_tamperCfg (h : m.takes src pgLocker 0x040 w = true) :
    m.pageWrite src pgLocker 0x040 w = m.ran src pgLocker 0x040 fun m => m.tamperCfg (w.toNat % 2 ^ 14) :=
  Mach.pageWrite_special (by decide) h fun _ => rfl

end

/-- A row that writes the command of one service into a mailbox. -/
def WritesService (row : Src → Fin 6 → Fin 64 → Fin 64 → Instr) (svc : Nat) : Prop :=
  ∀ (s : State) (src : Src) (c : Fin 6) (slot slot2 : Fin 64),
    exec (row src c slot slot2) s = onUnits (fun m => m.pageWrite src pgLocker (0x100 + 0x20 * c) (svcWord svc slot slot2)) s

/-- Such a row, where the write is taken, starts the service's request. -/
theorem WritesService.starts {row : Src → Fin 6 → Fin 64 → Fin 64 → Instr} {svc : Nat} (hrow : WritesService row svc)
    (s : State) (src : Src) (c : Fin 6) (slot slot2 : Fin 64) (hm : s.m.mainOff = false)
    (h : s.m.takes src pgLocker (0x100 + 0x20 * c) (svcWord svc slot slot2) = true) :
    exec (row src c slot slot2) s =
      .next (s.after (s.m.ran src pgLocker (0x100 + 0x20 * c) fun m => m.mbCmd c (svcWord svc slot slot2))) := by
  rw [hrow]
  exact onUnits_next hm (Mach.pageWrite_mbCmd h)

/-! ## Tamper events, health tests and the reseed (R498 to R504) -/

section
variable {m : Mach} {n k : Nat} {v : Int} {bits : List Bool}

theorem tamper_ends (hright : tamperWrong n v = false) : m.tamper n v k = m.tamperEnd n := by
  simp only [Mach.tamper, hright, Bool.not_false, if_true]

theorem tamper_decides (hwrong : tamperWrong n v = true) (hk : tamperFilter n ≤ k) : m.tamper n v k = m.tamperOn n := by
  simp only [Mach.tamper, hwrong, hk, Bool.not_true, Bool.false_eq_true, if_false, if_true]

theorem rngFail_repeats (hok : m.drbgOk = true) (hrepeats : repetitionFails bits = true) : m.rngFail bits = m.rngStop 0 := by
  simp only [Mach.rngFail, hok, hrepeats, Bool.not_true, Bool.false_eq_true, if_false, if_true]

theorem rngFail_unbalanced (hok : m.drbgOk = true) (hvaried : repetitionFails bits = false) (hfails : proportionFails bits = true) :
    m.rngFail bits = m.rngStop 1 := by
  simp only [Mach.rngFail, hok, hvaried, hfails, Bool.not_true, Bool.false_eq_true, if_false, if_true]

theorem rngFail_passes (hok : m.drbgOk = true) (hvaried : repetitionFails bits = false) (hfails : proportionFails bits = false) :
    m.rngFail bits = m := by
  simp only [Mach.rngFail, hok, hvaried, hfails, Bool.not_true, Bool.false_eq_true, if_false]

theorem drbgReseed_reseeds (hok : m.drbgOk = true) (hdrawn : 65536 ≤ m.locker.drbg) :
    m.drbgReseed = { m with locker := { m.locker with drbg := 0 } } := by
  simp only [Mach.drbgReseed, hok, hdrawn, decide_true, Bool.and_self, if_true]

end

/-! ## The other rows -/

theorem exec_lockerRequestDone_row (s : State) : exec .lockerRequestDone s = onState (fun t => lockerDone t) s := rfl
theorem exec_slotRead_row (s : State) (src : Src) : exec (.slotRead src) s = onPage (fun m => m.pageWrite src pgLocker 0x060 1) s := rfl
theorem exec_writeAttr_row (s : State) (src : Src) : exec (.writeAttr src) s = onPage (fun m => m.pageWrite src pgLocker 0x060 2) s := rfl
theorem exec_tamper_row (s : State) (sensor : Fin 7) (v : Int) (k : Nat) :
    exec (.tamper sensor v k) s = onKept (fun m => m.tamper sensor v k) s := rfl
theorem exec_tamperCfgWrite_row (s : State) (src : Src) (v : Word) :
    exec (.tamperCfgWrite src v) s = onUnits (fun m => m.pageWrite src pgLocker 0x040 v) s := rfl
theorem exec_rngFail_row (s : State) (bits : List Bool) : exec (.rngFail bits) s = onUnits (fun m => m.rngFail bits) s := rfl
theorem exec_drbgReseed_row (s : State) : exec .drbgReseed s = onPage (fun m => m.drbgReseed) s := rfl

/-- Settles O23: the sixteen services, then one bullet for each further clause, in the order of the statement. The order of the checks of a
mailbox write is the model's own (notes/assumptions/55.md). -/
theorem lockerComplete : Obligations.LockerComplete := by
  have hservice {row} {svc} (hrow : WritesService row svc) := hrow.starts
  refine ⟨hservice fun _ _ _ _ _ => rfl, hservice fun _ _ _ _ _ => rfl, hservice fun _ _ _ _ _ => rfl, hservice fun _ _ _ _ _ => rfl,
    hservice fun _ _ _ _ _ => rfl, hservice fun _ _ _ _ _ => rfl, hservice fun _ _ _ _ _ => rfl, hservice fun _ _ _ _ _ => rfl,
    hservice fun _ _ _ _ _ => rfl, hservice fun _ _ _ _ _ => rfl, hservice fun _ _ _ _ _ => rfl, hservice fun _ _ _ _ _ => rfl,
    hservice fun _ _ _ _ _ => rfl, hservice fun _ _ _ _ _ => rfl, hservice fun _ _ _ _ _ => rfl, hservice fun _ _ _ _ _ => rfl,
    ?_, ?_, ?_, ?_, ?_, ?_, ?_, ?_, ?_, ?_⟩
  · intro s hm _ _
    rw [exec_lockerRequestDone_row]
    exact onState_next hm rfl
  · intro s src hm h
    rw [exec_slotRead_row]
    exact onPage_next hm (Mach.pageWrite_slotRead h)
  · intro s src hm h
    rw [exec_writeAttr_row]
    exact onPage_next hm (Mach.pageWrite_writeAttr h)
  · intro s sensor v k hawake hoff hright
    rw [exec_tamper_row]
    exact onKept_next hawake hoff (tamper_ends hright)
  · intro s sensor v k hawake hoff hwrong hk
    rw [exec_tamper_row]
    exact onKept_next hawake hoff (tamper_decides hwrong hk)
  · intro s src v hm h
    rw [exec_tamperCfgWrite_row]
    exact onUnits_next hm (Mach.pageWrite_tamperCfg h)
  · intro s bits hm hok hrepeats
    rw [exec_rngFail_row]
    exact onUnits_next hm (rngFail_repeats hok hrepeats)
  · intro s bits hm hok hvaried hfails
    rw [exec_rngFail_row]
    exact onUnits_next hm (rngFail_unbalanced hok hvaried hfails)
  · intro s bits hm hok hvaried hfails
    rw [exec_rngFail_row]
    exact onUnits_next hm (rngFail_passes hok hvaried hfails)
  · intro s hm hok hdrawn
    rw [exec_drbgReseed_row]
    exact onPage_next hm (drbgReseed_reseeds hok hdrawn)

end Sys2Proof.Machine
end

section
/-! PROOFS. O24: Tether access (21_tether_access.md R510 to R524). -/

namespace Sys2Proof.Machine

/-! ## Writes of TETHER -/

section
variable {m : Mach} {src : Src}

theorem Mach.pageWrite_tetherRequest (h : m.takes src pgTether 0x070 1 = true) :
    m.pageWrite src pgTether 0x070 1 = m.ran src pgTether 0x070 fun m => m.tetherRequest :=
  Mach.pageWrite_special (by decide) h fun _ => rfl

theorem Mach.pageWrite_tetherWithdraw (h : m.takes src pgTether 0x070 2 = true) :
    m.pageWrite src pgTether 0x070 2 = m.ran src pgTether 0x070 fun m => m.tetherWithdraw :=
  Mach.pageWrite_special (by decide) h fun _ => rfl

theorem Mach.pageWrite_tokenRead (h : m.takes src pgTether 0x084 1 = true) :
    m.pageWrite src pgTether 0x084 1 = m.ran src pgTether 0x084 fun m => m.tokenRead :=
  Mach.pageWrite_special (by decide) h fun _ => rfl

theorem Mach.pageWrite_tokenWrite (h : m.takes src pgTether 0x084 2 = true) :
    m.pageWrite src pgTether 0x084 2 = m.ran src pgTether 0x084 fun m => m.tokenWrite :=
  Mach.pageWrite_special (by decide) h fun _ => rfl

end

/-! ## Rounds and their answers (R512 to R516) -/

section
variable {m : Mach} {k : Nat} {dbm : Int} {id cnt : Word} {stat : Nat} {tag : List Nat} {crc : Nat}

/-- A round with an antenna left is under way; one without is over at once. -/
theorem tetherRound_starts (hreq : m.flag pgTether Tether.REQ = true) (hmask : (m.roundStart 1).roundMask ≠ 0) :
    m.tetherRound = m.roundStart 1 := by
  simp only [Mach.tetherRound, hreq, if_true, hmask, decide_false, Bool.and_false, Bool.false_eq_true, if_false]

theorem presenceRound_starts {ms : Nat} (hreleased : m.released = true) (hms : m.fld pgTether Tether.PRES_T ≤ ms)
    (hmask : (m.roundStart 2).roundMask ≠ 0) : m.presenceRound ms = m.roundStart 2 := by
  simp only [Mach.presenceRound, hreleased, hms, decide_true, Bool.and_self, if_true, hmask, decide_false, Bool.and_false, Bool.false_eq_true,
    if_false]

/-- What a heard slot records: 1 for a right answer, 2 for one that fails a check of its token, 3 for one whose CRC is wrong. -/
theorem tokenAnswer_heard (hround : m.tether.round ≠ 0) (hmask : m.roundMask ≠ 0) (hfirst : m.tether.slots = [])
    (hheard : answerCrc id cnt stat tag crc = true ∨ -100 < dbm) :
    m.tokenAnswer k dbm id cnt stat tag crc =
      (let valid := answerCrc id cnt stat tag crc && (m.token k).en && (m.token k).id == id && decide ((m.token k).last < cnt.toNat)
        && m.tagRight id cnt stat tag
       let m1 := if valid then m.setToken k { m.token k with last := cnt.toNat } else m
       { m1 with tether := { m1.tether with
          slots := m1.tether.slots ++ [(k, if valid then 1 else if answerCrc id cnt stat tag crc then 2 else 3, id)] } }) := by
  have hturns : ¬ (decide (m.tether.round = 0) || decide (m.roundMask = 0) || m.tether.slots.any (fun q => q.1 == k)
      || (!answerCrc id cnt stat tag crc && decide (dbm ≤ -100))) = true := by
    simp [hround, hmask, hfirst]
    intro hcrc
    exact hheard.resolve_left (by simp [hcrc])
  exact if_neg hturns

theorem tokenAnswer_noise (hround : m.tether.round ≠ 0) (hmask : m.roundMask ≠ 0) (hfirst : m.tether.slots = [])
    (hcrc : answerCrc id cnt stat tag crc = false) (hloud : -100 < dbm) :
    m.tokenAnswer k dbm id cnt stat tag crc = { m with tether := { m.tether with slots := [(k, 3, id)] } } := by
  rw [tokenAnswer_heard hround hmask hfirst (.inr hloud)]
  simp only [hcrc, Bool.false_and, Bool.false_eq_true, if_false, hfirst, List.nil_append]

theorem tokenAnswer_invalid (hround : m.tether.round ≠ 0) (hmask : m.roundMask ≠ 0) (hfirst : m.tether.slots = [])
    (hcrc : answerCrc id cnt stat tag crc = true) (hempty : (m.token k).en = false) :
    m.tokenAnswer k dbm id cnt stat tag crc = { m with tether := { m.tether with slots := [(k, 2, id)] } } := by
  rw [tokenAnswer_heard hround hmask hfirst (.inl hcrc)]
  simp only [hcrc, hempty, Bool.and_false, Bool.false_and, Bool.false_eq_true, if_false, if_true, hfirst, List.nil_append]

theorem tokenAnswer_valid (hround : m.tether.round ≠ 0) (hmask : m.roundMask ≠ 0) (hfirst : m.tether.slots = [])
    (hcrc : answerCrc id cnt stat tag crc = true) (hen : (m.token k).en = true) (hid : (m.token k).id = id)
    (hfresh : (m.token k).last < cnt.toNat) (htag : m.tagRight id cnt stat tag = true) :
    m.tokenAnswer k dbm id cnt stat tag crc =
      (let m1 := m.setToken k { m.token k with last := cnt.toNat }
       { m1 with tether := { m1.tether with slots := m1.tether.slots ++ [(k, 1, id)] } }) := by
  rw [tokenAnswer_heard hround hmask hfirst (.inl hcrc)]
  have hvalid : (answerCrc id cnt stat tag crc && (m.token k).en && (m.token k).id == id && decide ((m.token k).last < cnt.toNat)
      && m.tagRight id cnt stat tag) = true := by simp [hcrc, hen, hid, hfresh, htag]
  simp only [hvalid, if_true]

/-- A request's round that no token answered goes on, or ends with the outcome 2. -/
theorem roundOutcome_unheard (hround : m.tether.round = 1)
    (hkey : (m.roundOver.engineKey (m.roundOver.fld pgTether Tether.TOKSLOT) 2 [2]).isSome = true) (hslots : m.tether.slots = []) :
    m.roundOutcome = m.roundOver.requestRound 2 := by
  have hkeyed : ((m.roundOver.engineKey (m.roundOver.fld pgTether Tether.TOKSLOT) 2 [2]).isNone) = false := by
    rw [← Option.not_isSome, hkey, Bool.not_true]
  have hnone : ((List.range 16).find? fun _ => false) = none := by decide
  simp only [Mach.roundOutcome, hround, hslots, hkeyed, one_ne_zero, if_false, Bool.false_eq_true, List.any_nil,
    List.filter_nil, hnone, List.isEmpty_nil, if_true]

/-- The slot that a find over the slots' numbers names where one slot alone answered. -/
theorem find_range_eq {n k : Nat} (hk : k < n) : ((List.range n).find? fun i => k == i) = some k := by
  rw [List.find?_range_eq_some]
  exact ⟨by simp, by simpa using hk, fun j hj => by simp; omega⟩

/-- A request that its token answers ends with the outcome 1 and the release. -/
theorem roundOutcome_releases (hround : m.tether.round = 1)
    (hkey : (m.roundOver.engineKey (m.roundOver.fld pgTether Tether.TOKSLOT) 2 [2]).isSome = true) (hslots : m.tether.slots = [(k, 1, id)])
    (hk : k < 16) (hreq : ({ m.roundOver with tether := { m.roundOver.tether with collides := 0 } } : Mach).flag pgTether Tether.REQ = true) :
    m.roundOutcome = (({ m.roundOver with tether := { m.roundOver.tether with collides := 0 } } : Mach).requestEnd 1).release k := by
  have hkeyed : ((m.roundOver.engineKey (m.roundOver.fld pgTether Tether.TOKSLOT) 2 [2]).isNone) = false := by
    rw [← Option.not_isSome, hkey, Bool.not_true]
  have hvalid : ((List.range 16).find? fun i => [(k, 1, id)].any fun q => q.1 == i && q.2.1 == 1) = some k := by
    simpa using find_range_eq hk
  have hinvalid : [(k, 1, id)].filter (fun q => q.2.1 == 2) = [] := by simp
  simp only [Mach.roundOutcome, hround, hslots, hkeyed, one_ne_zero, if_false, Bool.false_eq_true, hvalid, hinvalid, List.foldl_nil, hreq,
    if_true]

end

/-! ## Lock-outs, releases and antenna checks (R517 to R524) -/

section
variable {m : Mach} {a ms : Nat}

theorem lockoutEnd_unlocks (hlocked : m.flag pgTether Tether.LOCKOUT = true)
    (hover : m.fld pgTether Tether.LOCK_T * 60 * 32768 ≤ (m.rk + 2 ^ 48 - m.tether.lockAt) % 2 ^ 48) :
    m.lockoutEnd = ((({ m with tether := { m.tether with fails := [] } } : Mach).setFlag pgTether Tether.LOCKOUT false).setFld pgTether
      Tether.LOCK_LEFT 0).setFld pgTether Tether.FAILS 0 := by
  have hends : (m.flag pgTether Tether.LOCKOUT
      && decide (m.fld pgTether Tether.LOCK_T * 60 * 32768 ≤ (m.rk + 2 ^ 48 - m.tether.lockAt) % 2 ^ 48)) = true := by
    rw [hlocked, decide_eq_true hover, Bool.and_self]
  unfold Mach.lockoutEnd
  rw [if_pos hends]

theorem absence_ends {sec : Nat} (hreleased : m.released = true) (hsec : m.fld pgTether Tether.ABSENT_T ≤ sec)
    (htype : m.capType ((m.reg pgTether 0x028).toNat % 8) ≠ 2) : m.absence sec = m.endRelease := by
  have hends : (m.released && decide (m.fld pgTether Tether.ABSENT_T ≤ sec) && (m.capType ((m.reg pgTether 0x028).toNat % 8) != 2
      || m.flag (pgCap ((m.reg pgTether 0x028).toNat % 8)) Cap.STANDSTILL)) = true := by
    simp [hreleased, hsec, htype]
  exact if_pos hends

theorem releaseMessage_repeats (hms : 100 ≤ ms) (hreleased : m.released = true) : m.releaseMessage ms = m.sendRelease 1 := by
  simp only [Mach.releaseMessage, show ¬ ms < 100 by omega, if_false, hreleased, if_true]

theorem antShort_sets (hms : 1 ≤ ms) (hpresent : m.absent pgTether = false) :
    m.antShort a ms = (m.setFld pgTether Tether.ANT_SHORT (m.fld pgTether Tether.ANT_SHORT ||| 2 ^ a)).raise pgTether 1 := by
  simp only [Mach.antShort, hms, hpresent, decide_true, Bool.not_false, Bool.and_self, if_true]

theorem antOpen_sets {mA : Nat} (hpresent : m.absent pgTether = false) (hlow : mA * 100 < 30 * m.antDrive a) :
    m.antOpen a mA = (m.setFld pgTether Tether.ANT_OPEN (m.fld pgTether Tether.ANT_OPEN ||| 2 ^ a)).raise pgTether 0 := by
  simp only [Mach.antOpen, hpresent, Bool.false_eq_true, if_false, hlow, if_true]

theorem antOpen_clears {mA : Nat} (hpresent : m.absent pgTether = false) (hdriven : 30 * m.antDrive a ≤ mA * 100) :
    m.antOpen a mA = m.setFld pgTether Tether.ANT_OPEN (m.fld pgTether Tether.ANT_OPEN &&& (63 - 2 ^ a)) := by
  simp only [Mach.antOpen, hpresent, Bool.false_eq_true, if_false, show ¬ mA * 100 < 30 * m.antDrive a by omega]

end

/-! ## The rows -/

theorem exec_request_row (s : State) (src : Src) : exec (.request src) s = onUnits (fun m => m.pageWrite src pgTether 0x070 1) s := rfl
theorem exec_withdraw_row (s : State) (src : Src) : exec (.withdraw src) s = onUnits (fun m => m.pageWrite src pgTether 0x070 2) s := rfl
theorem exec_tokenRead_row (s : State) (src : Src) : exec (.tokenRead src) s = onPage (fun m => m.pageWrite src pgTether 0x084 1) s := rfl
theorem exec_tokenWrite_row (s : State) (src : Src) : exec (.tokenWrite src) s = onPage (fun m => m.pageWrite src pgTether 0x084 2) s := rfl
theorem exec_round_row (s : State) : exec .round s = onUnits (fun m => m.tetherRound) s := rfl
theorem exec_tokenAnswer_row (s : State) (slot : Fin 16) (dbm : Int) (id cnt : Word) (stat : Nat) (tag : List Nat) (crc : Nat) :
    exec (.tokenAnswer slot dbm id cnt stat tag crc) s = onUnits (fun m => m.tokenAnswer slot dbm id cnt stat tag crc) s := rfl
theorem exec_roundOutcome_row (s : State) : exec .roundOutcome s = onUnits (fun m => m.roundOutcome) s := rfl
theorem exec_lockoutEnd_row (s : State) : exec .lockoutEnd s = onKept (fun m => m.lockoutEnd) s := rfl
theorem exec_presenceRound_row (s : State) (ms : Nat) : exec (.presenceRound ms) s = onUnits (fun m => m.presenceRound ms) s := rfl
theorem exec_absence_row (s : State) (sec : Nat) : exec (.absence sec) s = onUnits (fun m => m.absence sec) s := rfl
theorem exec_releaseMessage_row (s : State) (ms : Nat) : exec (.releaseMessage ms) s = onUnits (fun m => m.releaseMessage ms) s := rfl
theorem exec_antShort_row (s : State) (a : Fin 6) (ms : Nat) : exec (.antShort a ms) s = onUnits (fun m => m.antShort a ms) s := rfl
theorem exec_antOpen_row (s : State) (a : Fin 6) (mA : Nat) : exec (.antOpen a mA) s = onUnits (fun m => m.antOpen a mA) s := rfl
theorem exec_failedAttemptExpiry_row (s : State) : exec .failedAttemptExpiry s = onKept (fun m => m.failExpiry) s := rfl

/-- Settles O24: one bullet for each clause, in the order of the statement. -/
theorem tetherComplete : Obligations.TetherComplete := by
  refine ⟨?_, ?_, ?_, ?_, ?_, ?_, ?_, ?_, ?_, ?_, ?_, ?_, ?_, ?_, ?_, ?_, ?_, ?_⟩
  · intro s src hm h
    rw [exec_request_row]
    exact onUnits_next hm (Mach.pageWrite_tetherRequest h)
  · intro s src hm h
    rw [exec_withdraw_row]
    exact onUnits_next hm (Mach.pageWrite_tetherWithdraw h)
  · intro s src hm h
    rw [exec_tokenRead_row]
    exact onPage_next hm (Mach.pageWrite_tokenRead h)
  · intro s src hm h
    rw [exec_tokenWrite_row]
    exact onPage_next hm (Mach.pageWrite_tokenWrite h)
  · intro s hm hreq hmask
    rw [exec_round_row]
    exact onUnits_next hm (tetherRound_starts hreq hmask)
  · intro s slot dbm id cnt stat tag crc hm hround hmask hfirst hcrc hloud
    rw [exec_tokenAnswer_row]
    exact onUnits_next hm (tokenAnswer_noise hround hmask hfirst hcrc hloud)
  · intro s slot dbm id cnt stat tag crc hm hround hmask hfirst hcrc hempty
    rw [exec_tokenAnswer_row]
    exact onUnits_next hm (tokenAnswer_invalid hround hmask hfirst hcrc hempty)
  · intro s slot dbm id cnt stat tag crc hm hround hmask hfirst hcrc hen hid hfresh htag
    rw [exec_tokenAnswer_row]
    exact onUnits_next hm (tokenAnswer_valid hround hmask hfirst hcrc hen hid hfresh htag)
  · intro s hm hround hkey hslots
    rw [exec_roundOutcome_row]
    exact onUnits_next hm (roundOutcome_unheard hround hkey hslots)
  · intro s k id hm hround hkey hslots hk hreq
    rw [exec_roundOutcome_row]
    exact onUnits_next hm (roundOutcome_releases hround hkey hslots hk hreq)
  · intro s hawake hm hlocked hover
    rw [exec_lockoutEnd_row]
    exact onKept_next hawake hm (lockoutEnd_unlocks hlocked hover)
  · intro s ms hm hreleased hms hmask
    rw [exec_presenceRound_row]
    exact onUnits_next hm (presenceRound_starts hreleased hms hmask)
  · intro s sec hm hreleased hsec htype
    rw [exec_absence_row]
    exact onUnits_next hm (absence_ends hreleased hsec htype)
  · intro s ms hm hms hreleased
    rw [exec_releaseMessage_row]
    exact onUnits_next hm (releaseMessage_repeats hms hreleased)
  · intro s a ms hm hms hpresent
    rw [exec_antShort_row]
    exact onUnits_next hm (antShort_sets hms hpresent)
  · intro s a mA hm hpresent hlow
    rw [exec_antOpen_row]
    exact onUnits_next hm (antOpen_sets hpresent hlow)
  · intro s a mA hm hpresent hdriven
    rw [exec_antOpen_row]
    exact onUnits_next hm (antOpen_clears hpresent hdriven)
  · intro s hawake hm
    rw [exec_failedAttemptExpiry_row]
    exact onKept_next hawake hm rfl

end Sys2Proof.Machine
end

section
/-! PROOFS. O20: Splice pairs (18_splice_pairs.md R453 to R468). -/

namespace Sys2Proof.Machine

/-! ## Frames of the pair (R454 to R459) -/

section
variable {m u : Mach} {ok : Bool} {fseq us ms : Nat}

/-- A HELLO of the partner forms the pair where the digests agree and every held unit can be held, and raises MISMATCH where not. -/
theorem helloIn_forms {mem : Memory} {dev pref role : Nat} {digest : List Byte} (hforming : m.fld pgSplice Splice.PSTATE = 1)
    (hframe : (m.frameIn (ok && dev == m.fld pgSplice Splice.PEER_DEV) fseq).1 = true)
    (hu : (m.frameIn (ok && dev == m.fld pgSplice Splice.PEER_DEV) fseq).2.setFlag pgSplice Splice.KEYED true = u)
    (hfirst : u.splice.mismatchAt = none) :
    m.helloIn mem ok fseq dev pref role digest =
      if u.digestEq mem digest && u.guarded.all (fun n => u.heldOk n) then u.pairFormed (u.becomesLead dev pref role)
      else (u.modSplice fun x => { x with mismatchAt := some u.rk }).raise pgSplice 1 := by
  simp only [Mach.helloIn, hforming, ne_eq, not_true_eq_false, decide_false, Bool.false_and, Bool.false_eq_true, if_false, hframe,
    Bool.not_true, hu, hfirst, if_true, Mach.modSplice]

theorem intentIn_takes {units : List IntentUnit} {log : List LogItem} {dly off : BitVec 16} (hpair : m.fld pgSplice Splice.PSTATE = 2)
    (hsecond : m.isSecond = true) (hframe : (m.frameIn ok fseq).1 = true) :
    m.intentIn ok fseq units log dly off = (m.frameIn ok fseq).2.intentTake units log dly off := by
  simp only [Mach.intentIn, hpair, hsecond, hframe, decide_true, Bool.and_self, Bool.not_true, Bool.false_eq_true, if_false, if_true]

/-- An INTENT empties the log; one whose log has grown past 64 KiB is followed by a checkpoint. -/
theorem intentSend_sends (hlead : m.leadPair = true) (hus : 1000 ≤ us) (hshort : logBytes m.splice.log ≤ 65536) :
    m.intentSend us = m.frameOut.modSplice fun x => { x with log := [] } := by
  simp only [Mach.intentSend, hlead, hus, decide_true, Bool.and_self, if_true, show ¬ 65536 < logBytes m.splice.log by omega, if_false]

theorem intentSend_checkpoints (hlead : m.leadPair = true) (hus : 1000 ≤ us) (hlong : 65536 < logBytes m.splice.log) :
    m.intentSend us = (m.frameOut.modSplice fun x => { x with log := [] }).ckptTake false := by
  simp only [Mach.intentSend, hlead, hus, decide_true, Bool.and_self, if_true, hlong]

/-- A timed EDGE that is not late waits for its time. -/
theorem edgeIn_waits {e : Edge} (hpair : m.secondPair = true) (hframe : (m.frameIn ok fseq).1 = true) (hsnub : e.cause ≠ 1)
    (htrip : e.cause ≠ 2) (hsecond : (m.frameIn ok fseq).2.isLead = false) (hearly : (m.frameIn ok fseq).2.linkNs ≤ e.at_) :
    m.edgeIn ok fseq e = (m.frameIn ok fseq).2.modSplice fun x => { x with edges := x.edges ++ [e] } := by
  have htimed : ¬ (decide (e.cause = 1) || decide (e.cause = 2)) = true := by simp [hsnub, htrip]
  have hlate : ¬ decide (e.at_ < (m.frameIn ok fseq).2.linkNs) = true := by simpa using hearly
  simp only [Mach.edgeIn, hpair, hframe, Bool.or_true, Bool.not_true, Bool.false_eq_true, if_false, htimed, hsecond, hlate, Mach.modSplice]

theorem edgeApply_applies {e : Edge} (hdue : m.splice.edges.find? (fun e => decide (e.at_ ≤ m.linkNs)) = some e) :
    m.edgeApply = (m.modSplice fun x => { x with edges := x.edges.erase e }).applyEdge e := by
  simp only [Mach.edgeApply, hdue]

theorem ackIn_records {acked : Nat} {legs : List (Nat × Nat × Bool)} {dly : BitVec 16} (hlead : m.leadPair = true)
    (hframe : (m.frameIn ok fseq).1 = true) :
    m.ackIn ok fseq acked legs dly =
      { (m.frameIn ok fseq).2.setFld pgSplice Splice.DLY dly.toNat with
        splice := { (m.frameIn ok fseq).2.splice with acked := acked, legs := legs, heardAt := (m.frameIn ok fseq).2.rk } } := by
  simp only [Mach.ackIn, hlead, hframe, Bool.not_true, Bool.false_eq_true, if_false]

theorem ackSend_sends (hpair : m.fld pgSplice Splice.PSTATE = 2) (hsecond : m.isSecond = true) (hus : 1000 ≤ us) :
    m.ackSend us = m.frameOut := by
  simp only [Mach.ackSend, hpair, hsecond, hus, decide_true, Bool.and_self, if_true]

theorem ckptRow_takes {s : State} {sent : Bool} (hlead : s.m.leadPair = true) (hms : s.m.fld pgSplice Splice.CKPT_T ≤ ms) :
    ckptRow ms sent s = { s with m := s.m.ckptTake sent } := by
  simp only [ckptRow, show ¬ ms < s.m.fld pgSplice Splice.CKPT_T by omega, if_false, hlead, if_true]

theorem ckptReceived_joins {s : State} {c : Nat} {img : CkptImg} {crcOk : Bool} (hpair : s.m.fld pgSplice Splice.PSTATE = 2)
    (hsecond : s.m.isSecond = true) (happ : appCore c = true) (hframe : (s.m.frameIn ok fseq).1 = true) (hcrc : crcOk = true)
    (hsound : ckptSound img = true) :
    ckptReceived ok fseq crcOk c img s = ckptGood c img { s with m := (s.m.frameIn ok fseq).2.ckptJoin c } := by
  simp only [ckptReceived, hpair, hsecond, happ, hframe, hcrc, hsound, decide_true, Bool.and_self, Bool.not_true, Bool.false_eq_true, if_false,
    if_true]

theorem spliceHealth_sends {coreOk memOk : Bool} (hpaired : m.paired = true) :
    m.spliceHealth coreOk memOk none =
      m.frameOut.modSplice fun x => { x with healthTx := x.healthTx + 1, healthOut := (m.healthBits coreOk memOk, m.feedStates) } := by
  simp only [Mach.spliceHealth, hpaired, Bool.not_true, Bool.false_eq_true, if_false]

theorem spliceHealth_hears {coreOk memOk : Bool} {bits : BitVec 4} {banks : List Nat} (hpaired : m.paired = true)
    (hframe : (m.frameIn ok fseq).1 = true)
    (hu : ((m.frameIn ok fseq).2.setFld pgSplice Splice.PEER_HFLAGS bits.toNat).modSplice (fun x => { x with peerBanks := banks }) = u)
    (hlead : u.isLead = true) :
    m.spliceHealth coreOk memOk (some (ok, fseq, bits, banks)) = u.setFlag pgSplice Splice.PARTNER_FIT (bits == 15#4) := by
  simp only [Mach.spliceHealth, hpaired, hframe, hu, hlead, Bool.not_true, Bool.false_eq_true, if_false, if_true]

theorem helloTimer_sends (hms : 10 ≤ ms) (hforming : m.fld pgSplice Splice.PSTATE = 1) : m.helloTimer ms = m.frameOut := by
  simp only [Mach.helloTimer, hms, hforming, decide_true, Bool.true_or, Bool.and_self, if_true]

end

/-! ## Confirmation and take-over (R463 to R468) -/

section
variable {m : Mach} {us ms : Nat}

theorem partnerUnfit_clears (hlead : m.leadPair = true) (hms : 3000 ≤ ms) : m.partnerUnfit ms = m.setFlag pgSplice Splice.PARTNER_FIT false := by
  simp only [Mach.partnerUnfit, hlead, hms, decide_true, Bool.and_self, if_true]

/-- A silent Lead: the Second confirms, and no stepping core replays yet. -/
theorem leadLost_confirms {u : Mach} (hpair : m.fld pgSplice Splice.PSTATE = 2) (hsecond : m.isSecond = true) (hms : 3 ≤ ms)
    (hu : (m.setPstate 3).raise pgSplice 2 = u) :
    m.leadLost ms = u.stepCores.foldl (fun (m : Mach) (c : Nat) => m.modCore c fun k => { k with replay := false }) u := by
  simp only [Mach.leadLost, hpair, hsecond, hms, decide_true, Bool.and_self, if_true, hu]

theorem spliceProbe_counts (hconfirms : m.fld pgSplice Splice.PSTATE = 3) :
    m.spliceProbe false = m.modSplice fun x => { x with probes := x.probes + 1 } := by
  simp only [Mach.spliceProbe, hconfirms, decide_true, Bool.not_true, Bool.false_eq_true, if_false]

theorem confirmEnd_takes_over (hconfirms : m.fld pgSplice Splice.PSTATE = 3) (hms : 20 ≤ ms) (hhealthy : m.ownHealth ≤ 1)
    (hsighted : m.backboneUp = true ∨ m.flag pgSplice Splice.BLIND = false) :
    m.confirmEnd ms = (m.setPstate 4).setFld pgSplice Splice.ROLE 1 := by
  have hsees : (m.backboneUp || !m.flag pgSplice Splice.BLIND) = true := by simpa using hsighted
  simp only [Mach.confirmEnd, hconfirms, hms, hhealthy, hsees, decide_true, Bool.and_self, Bool.not_true, Bool.false_eq_true, if_false, if_true]

theorem restoreComplete_restores {s : State} (hrestores : s.m.fld pgSplice Splice.PSTATE = 4) :
    restoreComplete s = s.m.coldCores.foldl (fun (s : State) (c : Nat) => restoreCore c s) s :=
  if_pos hrestores

theorem replayComplete_ends {u : Mach} (hrestores : m.fld pgSplice Splice.PSTATE = 4)
    (hreplayed : m.splice.log.any (fun x => (m.core x.core).replay) = false)
    (hu : ((((m.setFld pgSplice Splice.LAST_GAP (min ((us + 999) / 1000) 65535)).incSat pgSplice Splice.TAKEOVERS).setPstate 5).setFld pgSplice
      Splice.STEP_CORES 0).setFld pgSplice Splice.COLD_CORES 0 = u) :
    m.replayComplete us = (List.range 6).foldl (fun (m : Mach) (c : Nat) => m.modCore c fun k => { k with replay := false }) u := by
  simp only [Mach.replayComplete, hrestores, hreplayed, decide_true, Bool.not_false, Bool.and_self, if_true, hu]

theorem partnerLost_ends (hlead : m.leadPair = true) (hms : 3 ≤ ms) : m.partnerLost ms = (m.raise pgSplice 3).setPstate 5 := by
  simp only [Mach.partnerLost, hlead, hms, decide_true, Bool.and_self, if_true]

theorem legMismatch_raises {n : Nat} {on : Bool} (hheld : m.pairHeld n = true) (hdiffers : on ≠ m.legIntent n) (hus : 2000 < us) :
    m.legMismatch n on us = (m.modSplice fun x => { x with misUnit := n }).raise pgSplice 5 := by
  have hdrives : (m.pairHeld n && on != m.legIntent n && decide (2000 < us)) = true := by simp [hheld, hdiffers, hus]
  exact if_pos hdrives

/-- Without a leg of the partner, a duplex pair trips at the own leg's current. -/
theorem pairTrip_trips {c cur tenths : Nat} (hlead : m.leadPair = true) (hduplex : m.flag (pgOut c) Out.DUPLEX = true)
    (hlegs : m.splice.legs = []) (hover : m.fld (pgOut c) Out.ILIM < cur) (hlong : max (m.fld (pgOut c) Out.TRIP) 20 ≤ tenths) :
    m.pairTrip c cur tenths = m.outTrip c 2 := by
  simp only [Mach.pairTrip, hlead, hduplex, hlegs, List.find?_nil, Nat.add_zero, hover, hlong, decide_true, Bool.and_self, if_true]

end

/-! ## The link of the pair (R453)

On an order code without SPLICE the link does not change (R6), while the statement names the change whatever the order code. Both are followed
alike: neither brings a valve out of DECAY. -/

theorem spliceLink_falls {m : Mach} (hpresent : m.absent pgSplice = false) :
    m.spliceLink false = (m.setFlag pgSplice Splice.LINK false).raise pgSplice 0 := by
  simp only [Mach.spliceLink, hpresent, Bool.false_eq_true, if_false]

theorem vPhase_linkFall (m : Mach) (v : Nat) : ((m.setFlag pgSplice Splice.LINK false).raise pgSplice 0).vPhase v = m.vPhase v := by
  rw [Mach.vPhase_raise, Mach.vPhase_setFlag _ _ (by decide)]

theorem State.after_spliceLink (s : State) :
    s.after (s.m.spliceLink false) = s.after ((s.m.setFlag pgSplice Splice.LINK false).raise pgSplice 0) := by
  cases hpresent : s.m.absent pgSplice with
  | false => rw [spliceLink_falls hpresent]
  | true =>
    have hstays : s.m.spliceLink false = s.m := if_pos hpresent
    rw [hstays]
    exact State.after_congr (fun _ _ hphase => hphase) fun v _ hphase => (vPhase_linkFall s.m v).trans hphase

/-! ## Writes of the guard window -/

section
variable {m : Mach} {src : Src}

theorem Mach.pageWrite_guardRead (h : m.takes src pgSplice 0x05C 1 = true) :
    m.pageWrite src pgSplice 0x05C 1 = m.ran src pgSplice 0x05C fun m => m.guardRead :=
  Mach.pageWrite_special (by decide) h fun _ => rfl

theorem Mach.pageWrite_guardWrite (h : m.takes src pgSplice 0x05C 2 = true) :
    m.pageWrite src pgSplice 0x05C 2 = m.ran src pgSplice 0x05C fun m => m.guardWrite :=
  Mach.pageWrite_special (by decide) h fun _ => rfl

end

/-! ## The rows -/

theorem exec_spliceHello_row (s : State) (ok : Bool) (fseq dev pref role : Nat) (digest : List Byte) :
    exec (.spliceHello ok fseq dev pref role digest) s =
      onState (fun t => { t with m := t.m.helloIn t.mem ok fseq dev pref role digest }) s := rfl
theorem exec_intent_row (s : State) (ok : Bool) (fseq : Nat) (units : List IntentUnit) (log : List (Nat × Bool × Word × Nat))
    (dly off : BitVec 16) :
    exec (.intent ok fseq units log dly off) s =
      onLink (fun m => m.intentIn ok fseq units (log.map (fun (i : Nat × Bool × Word × Nat) => LogItem.mk i.1 i.2.1 i.2.2.1 i.2.2.2)) dly off)
        s := rfl
theorem exec_intentSend_row (s : State) (us : Nat) : exec (.intentSend us) s = onRun (onUnits (fun m => m.intentSend us)) s := rfl
theorem exec_edge_row (s : State) (ok : Bool) (fseq : Nat) (e : Edge) : exec (.edge ok fseq e) s = onLink (fun m => m.edgeIn ok fseq e) s := rfl
theorem exec_edgeApply_row (s : State) : exec .edgeApply s = onLink (fun m => m.edgeApply) s := rfl
theorem exec_ack_row (s : State) (ok : Bool) (fseq acked : Nat) (legs : List (Nat × Nat × Bool)) (dly : BitVec 16) :
    exec (.ack ok fseq acked legs dly) s = onUnits (fun m => m.ackIn ok fseq acked legs dly) s := rfl
theorem exec_ackSend_row (s : State) (us : Nat) : exec (.ackSend us) s = onRun (onUnits (fun m => m.ackSend us)) s := rfl
theorem exec_ckpt_row (s : State) (ms : Nat) (sent : Bool) : exec (.ckpt ms sent) s = onRun (onState (fun t => ckptRow ms sent t)) s := rfl
theorem exec_ckptReceived_row (s : State) (ok : Bool) (fseq : Nat) (crcOk : Bool) (c : Fin 6) (img : CkptImg) :
    exec (.ckptReceived ok fseq crcOk c img) s = onState (fun t => ckptReceived ok fseq crcOk c img t) s := rfl
theorem exec_spliceHealth_row (s : State) (coreOk memOk : Bool) (rx : Option (Bool × Nat × BitVec 4 × List Nat)) :
    exec (.spliceHealth coreOk memOk rx) s = onRun (onUnits (fun m => m.spliceHealth coreOk memOk rx)) s := rfl
theorem exec_partnerUnfit_row (s : State) (ms : Nat) : exec (.partnerUnfit ms) s = onUnits (fun m => m.partnerUnfit ms) s := rfl
theorem exec_leadLost_row (s : State) (ms : Nat) : exec (.leadLost ms) s = onUnits (fun m => m.leadLost ms) s := rfl
theorem exec_spliceProbe_row (s : State) (answered : Bool) : exec (.spliceProbe answered) s = onUnits (fun m => m.spliceProbe answered) s := rfl
theorem exec_confirmEnd_row (s : State) (ms : Nat) : exec (.confirmEnd ms) s = onUnits (fun m => m.confirmEnd ms) s := rfl
theorem exec_restoreComplete_row (s : State) : exec .restoreComplete s = onState (fun t => restoreComplete t) s := rfl
theorem exec_replayComplete_row (s : State) (us : Nat) : exec (.replayComplete us) s = onUnits (fun m => m.replayComplete us) s := rfl
theorem exec_partnerLost_row (s : State) (ms : Nat) : exec (.partnerLost ms) s = onUnits (fun m => m.partnerLost ms) s := rfl
theorem exec_legMismatch_row (s : State) (n : Fin 32768) (on : Bool) (us : Nat) :
    exec (.legMismatch n on us) s = onUnits (fun m => m.legMismatch n on us) s := rfl
theorem exec_pairTrip_row (s : State) (c : Fin 128) (cur tenths : Nat) :
    exec (.pairTrip c cur tenths) s = onUnits (fun m => m.pairTrip c cur tenths) s := rfl
theorem exec_guardRead_row (s : State) (src : Src) : exec (.guardRead src) s = onPage (fun m => m.pageWrite src pgSplice 0x05C 1) s := rfl
theorem exec_guardWrite_row (s : State) (src : Src) : exec (.guardWrite src) s = onUnits (fun m => m.pageWrite src pgSplice 0x05C 2) s := rfl
theorem exec_spliceLinkChange_row (s : State) (up : Bool) : exec (.spliceLinkChange up) s = onUnits (fun m => m.spliceLink up) s := rfl
theorem exec_spliceHelloTimer_row (s : State) (ms : Nat) : exec (.spliceHelloTimer ms) s = onRun (onUnits (fun m => m.helloTimer ms)) s := rfl

/-- Settles O20: one bullet for each clause, in the order of the statement. -/
theorem spliceComplete : Obligations.SpliceComplete := by
  refine ⟨?_, ?_, ?_, ?_, ?_, ?_, ?_, ?_, ?_, ?_, ?_, ?_, ?_, ?_, ?_, ?_, ?_, ?_, ?_, ?_, ?_, ?_, ?_, ?_, ?_⟩
  · intro s ok fseq dev pref role digest hm hforming hframe hfirst
    rw [exec_spliceHello_row]
    exact onState_next hm (congrArg (fun u => { s with m := u }) (helloIn_forms hforming hframe rfl hfirst))
  · intro s ok fseq units log dly off hm hpair hsecond hframe
    rw [exec_intent_row]
    exact onLink_next hm (intentIn_takes hpair hsecond hframe)
  · intro s us hm hentering hlead hus hshort
    rw [exec_intentSend_row, onRun_row hentering]
    exact onUnits_next hm (intentSend_sends hlead hus hshort)
  · intro s us hm hentering hlead hus hlong
    rw [exec_intentSend_row, onRun_row hentering]
    exact onUnits_next hm (intentSend_checkpoints hlead hus hlong)
  · intro s ok fseq e hm hpair hframe hsnub htrip hsecond hearly
    rw [exec_edge_row]
    exact onLink_next hm (edgeIn_waits hpair hframe hsnub htrip hsecond hearly)
  · intro s e hm hdue
    rw [exec_edgeApply_row]
    exact onLink_next hm (edgeApply_applies hdue)
  · intro s ok fseq acked legs dly hm hlead hframe
    rw [exec_ack_row]
    exact onUnits_next hm (ackIn_records hlead hframe)
  · intro s us hm hentering hpair hsecond hus
    rw [exec_ackSend_row, onRun_row hentering]
    exact onUnits_next hm (ackSend_sends hpair hsecond hus)
  · intro s ms sent hm hentering hlead hms
    rw [exec_ckpt_row, onRun_row hentering]
    exact onState_next hm (ckptRow_takes hlead hms)
  · intro s ok fseq crcOk c img hm hpair hsecond happ hframe hcrc hsound
    rw [exec_ckptReceived_row]
    exact onState_next hm (ckptReceived_joins hpair hsecond happ hframe hcrc hsound)
  · rintro s coreOk memOk _ hm hentering hpaired rfl
    rw [exec_spliceHealth_row, onRun_row hentering]
    exact onUnits_next hm (spliceHealth_sends hpaired)
  · rintro s coreOk memOk _ ok fseq bits banks hm hentering hpaired rfl hframe hlead
    rw [exec_spliceHealth_row, onRun_row hentering]
    exact onUnits_next hm (spliceHealth_hears hpaired hframe rfl hlead)
  · intro s ms hm hlead hms
    rw [exec_partnerUnfit_row]
    exact onUnits_next hm (partnerUnfit_clears hlead hms)
  · intro s ms hm hpair hsecond hms
    rw [exec_leadLost_row]
    exact onUnits_next hm (leadLost_confirms hpair hsecond hms rfl)
  · rintro s _ hm hconfirms rfl
    rw [exec_spliceProbe_row]
    exact onUnits_next hm (spliceProbe_counts hconfirms)
  · intro s ms hm hconfirms hms hhealthy hsighted
    rw [exec_confirmEnd_row]
    exact onUnits_next hm (confirmEnd_takes_over hconfirms hms hhealthy hsighted)
  · intro s hm hrestores
    rw [exec_restoreComplete_row]
    exact onState_next hm (restoreComplete_restores hrestores)
  · intro s us hm hrestores hreplayed
    rw [exec_replayComplete_row]
    exact onUnits_next hm (replayComplete_ends hrestores hreplayed rfl)
  · intro s ms hm hlead hms
    rw [exec_partnerLost_row]
    exact onUnits_next hm (partnerLost_ends hlead hms)
  · intro s n on us hm hheld hdiffers hus
    rw [exec_legMismatch_row]
    exact onUnits_next hm (legMismatch_raises hheld hdiffers hus)
  · intro s c cur tenths hm hlead hduplex hlegs hover hlong
    rw [exec_pairTrip_row]
    exact onUnits_next hm (pairTrip_trips hlead hduplex hlegs hover hlong)
  · intro s src hm h
    rw [exec_guardRead_row]
    exact onPage_next hm (Mach.pageWrite_guardRead h)
  · intro s src hm h
    rw [exec_guardWrite_row]
    exact onUnits_next hm (Mach.pageWrite_guardWrite h)
  · rintro s _ hm rfl
    rw [exec_spliceLinkChange_row, onUnits_next hm rfl, State.after_spliceLink]
  · intro s ms hm hentering hms hforming
    rw [exec_spliceHelloTimer_row, onRun_row hentering]
    exact onUnits_next hm (helloTimer_sends hms hforming)

end Sys2Proof.Machine
end
